-- ==== Sys2Proof/Word.lean ====
section
/-!
DEFINITION. The words of the TBH-6432: bytes, 16-bit Gleluris-16 words, 32-bit registers, and the
one sparse map from which every addressed memory of the model is built.
-/

namespace Sys2Proof

/-- A byte (spec/00 "Numbers, units and bit ranges"). -/
abbrev Byte := BitVec 8

/-- A Gleluris-16 word, "word" without qualification in the manual. -/
abbrev Word := BitVec 16

/-- A device register (32 bits) or an NVMe dword. -/
abbrev DWord := BitVec 32

/-- A sparse memory: (key, value) pairs with keys strictly rising; a key that is not listed reads as
the default the accessor is given. -/
abbrev Sparse (V : Type) := List (Nat × V)

/-- What key `k` holds; `d k` where nothing is listed. -/
def Sparse.get {V : Type} (d : Nat → V) : Sparse V → Nat → V
  | [], k => d k
  | (j, v) :: t, k => if j = k then v else Sparse.get d t k

/-- List `(k, v)` in place, keys rising. -/
def Sparse.put {V : Type} (k : Nat) (v : V) : Sparse V → Sparse V
  | [] => [(k, v)]
  | (j, w) :: t => if k < j then (k, v) :: (j, w) :: t
                   else if k = j then (k, v) :: t else (j, w) :: Sparse.put k v t

/-- Drop the entry of `k`. -/
def Sparse.del {V : Type} (k : Nat) : Sparse V → Sparse V
  | [] => []
  | (j, w) :: t => if j = k then t else (j, w) :: Sparse.del k t

/-- Write `v` at `k`, keeping the canonical form: an entry equal to what an unlisted key reads as is
not listed. -/
def Sparse.set {V : Type} [DecidableEq V] (d : Nat → V) (m : Sparse V) (k : Nat) (v : V) : Sparse V :=
  if v = d k then Sparse.del k m else Sparse.put k v m

/-- Replace every listed value, keeping the canonical form. -/
def Sparse.mapVal {V : Type} [DecidableEq V] (d : Nat → V) (f : Nat → V → V) (m : Sparse V) : Sparse V :=
  (m.map (fun e => (e.1, f e.1 e.2))).filter (fun e => decide (e.2 ≠ d e.1))

/-- All keys are above `n` and rise strictly. -/
def Sparse.above {V : Type} : Nat → Sparse V → Bool
  | _, [] => true
  | n, (j, _) :: t => decide (n < j) && Sparse.above j t

/-- Keys rise strictly. -/
def Sparse.sorted {V : Type} : Sparse V → Bool
  | [] => true
  | (j, _) :: t => Sparse.above j t

/-- The canonical form: keys strictly rising, no entry equal to the default. -/
def Sparse.wf {V : Type} [DecidableEq V] (d : Nat → V) (m : Sparse V) : Bool :=
  Sparse.sorted m && m.all (fun p => decide (p.2 ≠ d p.1))

/-- Bits `[hi:lo]` of `n`, as a number. -/
def bits (n hi lo : Nat) : Nat := n / 2 ^ lo % 2 ^ (hi + 1 - lo)

/-- `n` with bits `[hi:lo]` replaced by `v` (taken modulo the field's size). -/
def setBits (n hi lo v : Nat) : Nat :=
  n - bits n hi lo * 2 ^ lo + v % 2 ^ (hi + 1 - lo) * 2 ^ lo

/-- Bit `i` of `n`. -/
def bitOf (n i : Nat) : Bool := n.testBit i

/-- 1 or 0. -/
def b2n (b : Bool) : Nat := if b then 1 else 0

/-- Ceiling division. -/
def cdiv (n d : Nat) : Nat := (n + d - 1) / d

end Sys2Proof
end

