-- ==== Sys2Proof/Syntax.lean ====
section
/-!
DEFINITION. The commands and events the block takes, as data: one constructor for each row of the
table of operations and events, and the operand types they use.
-/

namespace Sys2Proof

/-- Who performs a register access: the host through the manager view of a port's BAR0, the host
through an instance page of a port, or a control core through a DEVICE window (R42, R312). `false`
is port A. -/
inductive Src where
  | host (port : Bool)
  | page (port : Bool) (inst : Nat)
  | cc (c : Nat)
deriving DecidableEq, Repr

/-- What the correction logic reports of a memory word or line (R381 to R383). -/
inductive MemSite where
  /-- a DRAM line: channel, channel-local line -/
  | dram (ch line : Nat)
  /-- an SRAM word: class and instance of Table 16-8, 32-bit word -/
  | sram (cls inst word : Nat)
deriving DecidableEq, Repr

/-- What lies in an uncorrectable DRAM line (R386, Table 16-10). -/
inductive Region where
  /-- span map or grain pool: the segment -/
  | map (seg : Nat)
  /-- key index: the partition -/
  | index (part : Nat)
  /-- write buffer: NSID, span, the grains in the line -/
  | buffer (nsid span : Nat) (grains : List Nat)
  /-- SLM: NSID and 64-byte line of the namespace -/
  | slm (nsid line : Nat)
  /-- firmware region: a table with a copy in the Chest or on NAND -/
  | fwCopied
  /-- Drawer directory records: the segments in the line -/
  | drawerDir (segs : List Nat)
  | fwOther
deriving DecidableEq, Repr

/-- Who meets an uncorrectable SRAM word (Table 16-9). -/
inductive SramReq where
  /-- a core, whose load or fetch traps by itself, or no one -/
  | core
  /-- a host read of the register at that offset -/
  | host (off : Nat)
  /-- an engine at work for the command of that tag -/
  | engine (tag : Nat)
deriving DecidableEq, Repr

/-- What the scrubber finds in the line it reads (R384). -/
inductive ScrubFind where
  | clean
  | correctable (device bits syms : Nat)
  /-- uncorrectable, in that region -/
  | uncorrectable (region : Region)
deriving DecidableEq, Repr


/-- What a LUN answers at bring-up (R109, R111, R112): its READ ID bytes, the highest NV-LPDDR4 rate it offers (0: none) and
the bytes of its parameter page. -/
structure LunBoot where
  ch : Nat
  lun : Nat
  id : List Byte
  rate : Nat
  page : List Byte
deriving DecidableEq, Repr

/-- A DRAM channel at bring-up (R365, R373): density code (1 8 Gb, 2 16 Gb), two ranks, and the outcome of its read-back
check. -/
structure DramBoot where
  density : Nat
  ranks2 : Bool
  check : Bool
deriving DecidableEq, Repr

/-- What the factory puts into a new part, taken by the first boot only: the fuses (R399, R320, R432) and the words of the
Code Array. -/
structure Factory where
  keyHash : List (List Byte)
  deviceKey : List Byte
  debugHash : Option (List Byte)
  serial : List Byte
  words : List (Nat × Word)
deriving DecidableEq, Repr

/-- What a run of the ROM and of the firmware finds outside the device's own state: the parts on the board, the records of
Code Array bank 2 that firmware loads, and what is left of the Chest. -/
structure Boot where
  factory : Option Factory
  /-- GPIO[3:0] at the latch (R419) -/
  straps : BitVec 4
  /-- PWR_FAIL_N is low as PWR_GOOD rises (R424) -/
  failLow : Bool
  /-- board record: DRAM rate in MT/s, density code, two ranks (R365) -/
  board : Nat × Nat × Bool
  /-- timing of DRC_TIM0 to DRC_TIM5 -/
  timing : List DWord
  /-- channels 0 to 5; `none`: not populated -/
  dram : List (Option DramBoot)
  /-- characterization record (R372) and media profiles (R114), as stored -/
  record : List Byte
  profiles : List (List Byte)
  luns : List LunBoot
  /-- calibrations in their order: channel, smallest margin, outcome (R113) -/
  cal : List (Nat × Nat × Bool)
  /-- factory bad block rows (R159): channel, LUN, block -/
  bad : List (Nat × Nat × Nat)
  /-- the Chest die answers its interface check (R197) -/
  chest : Bool
  /-- map partitions whose checkpoint image is unreadable (R196) -/
  ckptBad : List Nat
  /-- without the Chest and after an UNSEALED loss: entries whose latest image is lost, with the entry found in its place
  (NSID, span, grain, entry) (R198) -/
  lostMap : List (Nat × Nat × Option Nat × BitVec 64)
  /-- Subsystem ID and Subsystem Vendor ID of the board record, 0 if absent (Table 2-3) -/
  subsys : DWord := 0
  /-- the CRC of each root copy holds (R183) -/
  rootA : Bool := true
  rootB : Bool := true
  /-- words of the Chest that recovery corrects, and byte addresses of those it finds uncorrectable (R182) -/
  chestEcc : Nat := 0
  chestBad : List Nat := []
  /-- the map can be neither loaded nor rebuilt (R176) -/
  mapLost : Bool := false
  /-- retired rows that the scan does not find failed, where PERSIST is lost (Table 8-8) -/
  unretired : List (Nat × Nat × Nat) := []
  /-- AVS_VID code chosen by firmware (R420) -/
  avs : Nat
deriving DecidableEq, Repr

/-- A flush of Table 8-4: pending Chest records that are still acknowledged, and its duration in µs. -/
structure FlushRun where
  recs : Nat
  us : Nat
deriving DecidableEq, Repr

/-- The doorbell written: a local queue of an instance page, or the admin queue of a port (R50, R39). -/
inductive Doorbell where
  | page (port : Bool) (inst n : Nat)
  | admin (port : Bool)
deriving DecidableEq, Repr

/-- What became of one codeword of a page read (Table 5-11): decoded at default levels with that many bits corrected,
at a retry entry, or sent to the soft decoders. -/
inductive CwOut where
  | hard (bits : Nat)
  | retry (entry bits : Nat)
  | soft
deriving DecidableEq, Repr

/-- Why a DMA request faults (R58). -/
inductive DmaCause where
  | unsupported | abort | poisoned | timeout | denied
deriving DecidableEq, Repr

/-- The request that faults (Table 2-12). -/
inductive DmaKind where
  /-- a data read or write of a command; `digest` for a DIGADDR write of PIPE_WRITE (R90), `sink` for a
  peer write of a pipeline sink -/
  | data (tag : Nat)
  | digest (tag : Nat)
  | sink (tag entry : Nat)
  /-- a fetch from an SQ row, a completion entry write of a CQ row, whose entry is lost -/
  | fetch (row : Nat)
  | entry (row : Nat)
  /-- a peer write's confirmation read: the command, the peer entry -/
  | confirm (tag entry : Nat)
  | message (port : Bool)
  /-- an access to the Drawer in the HMB: the segment (R154) -/
  | drawer (seg : Nat)
  /-- a bitmap access of an instance's dirty-page log (R79) -/
  | bitmap (inst : Nat)
  /-- a transfer of the running Press direct job of a Strand; a write of the running shard job, or its read of the
  source, whose shard it names -/
  | press (strand : Nat)
  | shard (index : Nat) (peer : Bool)
deriving DecidableEq, Repr

/-- A register of a function's configuration space, by its name in the PCIe base specification (R35, Table 2-3): the
identity and header dwords, the BARs 0 to 5 and the Expansion ROM BAR as number 6, and the registers of the PCIe, MSI-X,
PASID, ATS, AER and L1 PM Substates capabilities. -/
inductive CfgReg where
  | ids | command | classRev | bar (n : Nat) | subsystem
  | devCap | devCtl | devCap2 | devCtl2 | linkCap | linkCtl
  | msixCtl | pasidCap | pasidCtl | atsCap | atsCtl
  | aerUncStat | aerUncMask | aerUncSev | aerCorStat | aerCorMask | aerCap
  | l1ssCap | l1ssCtl
  /-- any other register: a capability that is not there, or a reserved one -/
  | other (off : Nat)
deriving DecidableEq, Repr

/-- A spot on the media: channel, LUN, block and unit of its row, and the row's mode (R134). -/
structure Spot where
  ch : Nat
  lun : Nat
  block : Nat
  unit : Nat
  slc : Bool
deriving DecidableEq, Repr

/-- Where the map engine places an image: the spot of its first unit, and the stripes that its pages join, one for each page
(R129, R134). -/
structure Place extends Spot where
  stripes : List Nat
deriving DecidableEq, Repr

/-- One copy that an engine makes: the source image by channel and media address, and where the copy goes. -/
structure Move where
  ch : Nat
  maddr : Nat
  place : Place
deriving DecidableEq, Repr

/-- A Gleluris-16 core: a Bead of a Strand, or a control core (Table 12-1). -/
inductive CoreId where
  | bead (strand b : Nat)
  | cc (c : Nat)
deriving DecidableEq, Repr

/-- Short addressing modes (Table 12-10). -/
inductive SMode where
  | imm | direct | x | y
deriving DecidableEq, Repr

/-- Long addressing modes (Table 12-10). -/
inductive LMode where
  | imm | abs | x | y | ind | indX | reg | stream
deriving DecidableEq, Repr

/-- The operand fields of a long instruction: MODE3, AUX and W2 (Table 12-9). -/
structure LongOpnd where
  mode : LMode
  aux : BitVec 6
  w2 : Word
deriving DecidableEq, Repr

/-- The operand fields of an instruction that exists in both forms (Tables 12-8, 12-9). -/
inductive Opnd where
  | short (mode : SMode) (d8 : Byte)
  | long (l : LongOpnd)
deriving DecidableEq, Repr


/-- The commands and events of the TBH-6432, one constructor for each row of the table of operations and
events. Operands are what comes from outside: values written, bytes a DMA read returned, outcomes of
the media. -/
inductive Instr where
  /-- BEAT_BOUNDARY (R22): At each beat boundary GLB_BEAT increments and the ordered boundary actions of Table 1-5 run. -/
  | beatBoundary (temps : List (Option Int)) (plan : List (Nat × Nat × Nat))
  /-- COMMAND_DEADLINE_EXPIRY (R104): A command past its deadline has its writes suppressed and jobs cancelled and completes with DEADLINE_EXCEEDED. -/
  | commandDeadlineExpiry (tag : Nat)
  /-- BEAT_OVERRUN (R218): A job that has not executed HALT or WAIT by its reference boundary plus budget ends with BEAT_OVERRUN. -/
  | beatOverrun (strand bead : Nat)
  /-- REBUILD_WAIT_EXPIRY (R28): A command waiting on a partition under rebuild completes with REBUILD_PENDING. -/
  | rebuildWaitExpiry (tag : Nat)
  /-- KS_IDLE_TIMEOUT (R317): Lock idle expiry forces a release and wipes the keyed-services context. -/
  | ksIdleTimeout
  /-- WATCHDOG_PREWARN (R413): Half the watchdog period without a kick sets PREWARN and asserts interrupt source 2. -/
  | watchdogPrewarn
  /-- WATCHDOG_RESET (R413): Watchdog expiry causes a watchdog reset, flushing first in SERVICE. -/
  | watchdogReset (f : FlushRun) (b : Boot)
  /-- MED_OP_TIMEOUT (R123): An array operation exceeding MED_OP_TIMEOUT is failed and handled per Table 5-8. -/
  | medOpTimeout (ch lun : Nat)
  /-- SPLINTER_WINDOW_EXPIRY (R140): All rewrite counts halve and low-count splintered spans join the coalesce queue. -/
  | splinterWindowExpiry
  /-- WEAR_LEVELLING_PERIOD (R173): Each channel checks its wear spread, selects cold rows to move, and runs its patrol reads. -/
  | wearLevellingPeriod (moves : List Move)
  /-- CHECKPOINT_PERIOD_EXPIRY (R185): Expiry of CHS_CKPT_PERIOD starts a map checkpoint. -/
  | checkpointPeriodExpiry
  /-- CHECKPOINT_COMPLETE (R185): The last changed segment is committed by CKPT records and journal space is freed. -/
  | checkpointComplete (images : List (Nat × Nat × Place))
  /-- SCRUB_PASS_START (R384): Expiry of MEP_SCRUB_PERIOD starts the next full patrol pass over DRAM. -/
  | scrubPassStart
  /-- PATROL_SCRUB_READ (R384): The scrubber reads the next paced line, rewriting it if corrected. -/
  | patrolScrubRead (find : ScrubFind)
  /-- POWER_STATE_ENTRY (R407): An idle counter reaching its hysteresis lets the device enter the deepest allowed power state. -/
  | powerStateEntry
  /-- POWER_STATE_WAKE (R408): A wake event returns the device to PS0 within the exit latency. -/
  | powerStateWake
  /-- CODE_ARRAY_LOCKOUT_EXPIRY (R357): The password lockout ends and unlock attempts are accepted again. -/
  | codeArrayLockoutExpiry
  /-- COMPLETION_TIMEOUT (R36): A non-posted request without completion fails, sets CPL_TIMEOUT and is handled as a DMA fault. -/
  | completionTimeout (kind : DmaKind)
  /-- SHARD_JOB_TIMEOUT (R268): A shard job not finished 2 ms after start issues nothing more and ends with PEER_WRITE_FAILED. -/
  | shardJobTimeout
  /-- CIPHER_JOB_TIMEOUT (R339): A cipher job not ended 2 ms after start ends with DMA_FAULT and CI_ERR.TIMEOUT. -/
  | cipherJobTimeout (data : List Byte)
  /-- LIST_SEQUENCE_END (R257): 2^20 beats without a further List end the sequence and allow displacements again. -/
  | listSequenceEnd (kvns : Nat)
  /-- THROTTLE_STEP (R410): After TMP_STEP beats at one level the throttle level rises or falls by one. -/
  | throttleStep
  /-- THERMAL_SHUTDOWN (R411): A second consecutive boundary at 110 °C runs the flush and enters HALTED. -/
  | thermalShutdown (f : FlushRun)
  /-- POR (R392): PWR_GOOD rising resets the device and reruns the ROM boot. -/
  | por (b : Boot)
  /-- CC0_START_WAIT_END (R424): After POR with PWR_FAIL_N low, CC0 starts once PWR_FAIL_N has been high for 10 ms. -/
  | cc0StartWaitEnd
  /-- POWER_LOSS (R424): PWR_GOOD low for 1 µs resets the device at once without a flush. -/
  | powerLoss
  /-- POWER_FAIL (R189): PWR_FAIL_N recognised runs the power-fail flush of Table 8-4 in SERVICE. -/
  | powerFail (f : FlushRun) (cut : Option (List Nat))
  /-- PERST_N_ASSERT (R425): PERST_N low for 1 µs triggers a device reset with flush. -/
  | perstNAssert (f : FlushRun)
  /-- PERST_N_RELEASE (R425): PERST_N rising lets the ROM rerun and link training start after the flush. -/
  | perstNRelease (b : Boot)
  /-- HOT_RESET (R395): A PCIe hot reset acts as a controller reset plus configuration-space reset and retrain. -/
  | hotReset (port : Bool)
  /-- SOFT_CHIP_RESET (R393): RST_CTL.SOFT with key 0x5A flushes and reruns the ROM. -/
  | softChipReset (src : Src) (v : DWord) (f : FlushRun) (b : Boot)
  /-- CONTROLLER_ENABLE (R40): CC.EN 0 to 1 enables the controller, or sets CFS if the admin queue sizes are 0. -/
  | controllerEnable (port : Bool) (cc aqa : DWord) (asq acq : BitVec 64)
  /-- CONTROLLER_RESET (R394): CC.EN 1 to 0 fences every instance of the port and deletes its I/O queues. -/
  | controllerReset (port : Bool)
  /-- CONTROLLER_RESET_DRAINED (R394): Once the port's fences drain, CSTS.RDY falls to 0. -/
  | controllerResetDrained (port : Bool)
  /-- SHUTDOWN_NOTIFICATION (R192): CC.SHN stops I/O fetching and starts programming slots and a checkpoint. -/
  | shutdownNotification (port : Bool)
  /-- SHUTDOWN_COMPLETE (R192): With all work drained, the CLEAN SEAL is written and CSTS.SHST becomes 10b. -/
  | shutdownComplete (port : Bool)
  /-- LINK_RETRAIN (R37): HIF_LINK_CTL.RETRAIN starts link retraining, stalling DMA and fetch. -/
  | linkRetrain (src : Src) (port : Bool)
  /-- LINK_TRAINED (R37): Training ends; degraded speed or width is flagged. -/
  | linkTrained (port flit : Bool) (speed width : Nat)
  /-- SQ_TAIL_DOORBELL (R50): An SQ tail doorbell write sets the tail or is ignored and flagged. -/
  | sqTailDoorbell (db : Doorbell) (v : DWord)
  /-- CQ_HEAD_DOORBELL (R50): A CQ head doorbell write frees consumed entries or is ignored and flagged. -/
  | cqHeadDoorbell (db : Doorbell) (v : DWord)
  /-- COMMAND_FETCH (R51): QMG visits an eligible I/O SQ and fetches a burst of commands. -/
  | commandFetch (row : Nat) (sqes : List (List DWord))
  /-- ADMIN_COMMAND_FETCH (R437): QMG fetches from the admin SQ while its CQ has room and fewer than 64 are outstanding. -/
  | adminCommandFetch (port : Bool) (sqes : List (List DWord))
  /-- WRITE_CLASS_ADMIT (R54): A held write-class command is admitted once dirty space or journal space allows. -/
  | writeClassAdmit (tag : Nat)
  /-- JOURNAL_HOLD_RELEASE (R186): Journal occupancy below 14/16 ends the journal hold. -/
  | journalHoldRelease
  /-- WRITE_COMMAND_ACK (R15): A write completes once its data is in the buffer, its descriptors are in the Chest and its index and shard work has ended. -/
  | writeCommandAck (tag : Nat)
  /-- INTERRUPT_MESSAGE (R56): A CQ is signalled by one message at its coalescing threshold or after a beat boundary. -/
  | interruptMessage (row : Nat)
  /-- MSIX_UNMASK (R57): Unmasking an entry with PEND set sends one message and clears PEND. -/
  | msixUnmask (port : Bool) (vector : Nat)
  /-- DMA_FAULT (R58): A faulting DMA request is handled by requester kind per Table 2-12. -/
  | dmaFault (kind : DmaKind) (cause : DmaCause)
  /-- REGISTER_WRITE (R5): A write to a register without a row of its own acts by its access code. -/
  | registerWrite (src : Src) (off : Nat) (full : Bool) (vals : List DWord)
  /-- RC_REGISTER_READ (R7): A read of an RC register returns and clears it. -/
  | rcRegisterRead (src : Src) (off : Nat × Nat)
  /-- QMG_QCMD_READ (R61): QMG_QCMD.READ loads the selected queue row into QMG_QDATA0-5. -/
  | qmgQcmdRead (src : Src)
  /-- QMG_IMT_LOAD (R61): QMG_IMTCMD 1 loads the selected interrupt message table entry. -/
  | qmgImtLoad (src : Src)
  /-- QMG_IMT_STORE (R61): QMG_IMTCMD 2 replaces the selected interrupt message table entry in one cycle. -/
  | qmgImtStore (src : Src)
  /-- CREATE_IO_CQ (R48): Create I/O Completion Queue allocates a CQ row after the checks of Table 2-10. -/
  | createIoCq (tag : Nat)
  /-- CREATE_IO_SQ (R48): Create I/O Submission Queue allocates an SQ row after the checks of Table 2-10. -/
  | createIoSq (tag : Nat)
  /-- DELETE_IO_SQ (R49): Delete I/O Submission Queue stops fetching and aborts unstarted commands. -/
  | deleteIoSq (tag : Nat)
  /-- DELETE_IO_SQ_DRAINED (R49): The SQ deletion completes once every fetched command has completed. -/
  | deleteIoSqDrained (row : Nat)
  /-- DELETE_IO_CQ (R49): Delete I/O Completion Queue frees the row unless an SQ is bound to it. -/
  | deleteIoCq (tag : Nat)
  /-- IDENTIFY (R151): Identify returns controller and namespace data structures. -/
  | identify (tag : Nat) (segs : List (Nat × Nat))
  /-- GET_LOG_PAGE (R180): Get Log Page returns a log page such as SMART or Media Care. -/
  | getLogPage (tag : Nat) (segs : List (Nat × Nat))
  /-- SET_FEATURES (R439): Set Features stores a feature, refusing SV = 1. -/
  | setFeatures (tag : Nat)
  /-- SET_FEATURES_NUMBER_OF_QUEUES (R440): Number of Queues stores nothing and reports the port's row counts. -/
  | setFeaturesNumberOfQueues (tag : Nat)
  /-- SET_FEATURES_POWER_MANAGEMENT (R407): Power Management writes the port's PWR_PS_LIMIT. -/
  | setFeaturesPowerManagement (tag : Nat)
  /-- SET_FEATURES_HMB (R155): Host Memory Buffer enable or disable starts or stops Drawer use. -/
  | setFeaturesHmb (tag : Nat) (desc : List (Nat × Nat))
  /-- GET_FEATURES (R439): Get Features returns current, default or saved feature values. -/
  | getFeatures (tag : Nat) (segs : List (Nat × Nat))
  /-- ASYNC_EVENT_REQUEST (R438): An Asynchronous Event Request is held outstanding, up to 8. -/
  | asyncEventRequest (tag : Nat)
  /-- NAMESPACE_MANAGEMENT (R85): Namespace Management creates or deletes a namespace of a supported command set. -/
  | namespaceManagement (tag : Nat) (data : List Byte)
  /-- FORMAT_NVM (R177): Format NVM formats a namespace, or cryptographically erases it in READ_ONLY and FAILED. -/
  | formatNvm (tag : Nat)
  /-- SANITIZE (R177): Sanitize is refused in READ_ONLY and FAILED. -/
  | sanitize (tag : Nat)
  /-- FIRMWARE_IMAGE_DOWNLOAD (R400): A firmware piece is placed in the staging area. -/
  | firmwareImageDownload (tag : Nat) (data : List Byte)
  /-- FIRMWARE_COMMIT (R401): Firmware Commit checks and writes the staged package and may swap the boot selection. -/
  | firmwareCommit (tag : Nat) (written : Bool)
  /-- INSTANCE_CREATE (R66): Instance Create activates a FREE row, optionally restoring attachments and queue positions. -/
  | instanceCreate (tag : Nat) (rec : List Byte)
  /-- INSTANCE_DELETE (R77): Instance Delete fences the instance and moves it to DELETING. -/
  | instanceDelete (tag : Nat)
  /-- INSTANCE_DELETE_COMPLETE (R77): After the fence drains the instance is torn down and becomes FREE. -/
  | instanceDeleteComplete (inst : Nat)
  /-- INSTANCE_SET_SHARE (R68): Instance Set Share sets a new share effective at the next boundary. -/
  | instanceSetShare (tag : Nat)
  /-- INSTANCE_RESET (R73): Instance Reset fences the instance's work, increments its generation and enters RESETTING. -/
  | instanceReset (tag : Nat)
  /-- INSTANCE_RESET_COMPLETE (R75): 4 beats after the last engine job ends the queues are deleted and the instance returns to ACTIVE. -/
  | instanceResetComplete (inst : Nat)
  /-- INSTANCE_ATTACH_NAMESPACE (R67): Attach or detach a namespace for an instance. -/
  | instanceAttachNamespace (tag : Nat)
  /-- INSTANCE_QUERY (R66): Instance Query writes the 2,048-byte instance record. -/
  | instanceQuery (tag : Nat)
  /-- DIRTY_LOG_START (R78): Dirty Log Start begins logging into buffer A. -/
  | dirtyLogStart (tag : Nat)
  /-- DIRTY_LOG_STOP (R81): Dirty Log Stop flushes pending bits and stops logging. -/
  | dirtyLogStop (tag : Nat)
  /-- DIRTY_LOG_HARVEST (R80): Dirty Log Harvest switches buffers and hands back the old one once flushed. -/
  | dirtyLogHarvest (tag : Nat)
  /-- PEER_TABLE_SET (R82): Peer Table Set replaces peer entries effective at the next boundary. -/
  | peerTableSet (tag : Nat) (data : List Byte)
  /-- SET_LATENCY_TOLERANCE (R83): Set Latency Tolerance stores the port's tolerance. -/
  | setLatencyTolerance (tag : Nat)
  /-- NVM_READ (R86): Read returns LBA data, zeros for deallocated blocks. -/
  | nvmRead (tag : Nat) (segs mseg : List (Nat × Nat))
  /-- NVM_WRITE (R145): Write stores LBA data through the write buffer. -/
  | nvmWrite (tag : Nat) (data mdata : List Byte)
  /-- NVM_COMPARE (R86): Compare checks LBA data against host data. -/
  | nvmCompare (tag : Nat) (data mdata : List Byte)
  /-- NVM_VERIFY (R86): Verify reads LBAs without transferring data. -/
  | nvmVerify (tag : Nat)
  /-- WRITE_ZEROES (R143): Write Zeroes stores zeros or deallocates with DEAC. -/
  | writeZeroes (tag : Nat)
  /-- DATASET_MANAGEMENT (R143): Dataset Management with Deallocate trims spans or grains. -/
  | datasetManagement (tag : Nat) (ranges : List (Nat × Nat))
  /-- FLUSH (R145): Flush completes when every earlier completed write is MAPPED. -/
  | flush_ (tag : Nat)
  /-- KV_STORE (R87): Store writes a key's value atomically. -/
  | kvStore (tag : Nat) (data : List Byte)
  /-- KV_RETRIEVE (R256): Retrieve returns a key's value. -/
  | kvRetrieve (tag : Nat) (segs : List (Nat × Nat))
  /-- KV_DELETE (R256): Delete removes a key and trims its spans. -/
  | kvDelete (tag : Nat)
  /-- KV_EXIST (R256): Exist reports whether a key is present. -/
  | kvExist (tag : Nat)
  /-- KV_LIST (R257): List walks the index partitions and returns keys of the namespace. -/
  | kvList (tag : Nat) (segs : List (Nat × Nat))
  /-- KV_COMMIT_POINT (R255): The KEY or BATCH record commits, installing the new entry after the value reaches HELD. -/
  | kvCommitPoint (tag : Nat)
  /-- PIPE_WRITE (R90): PIPE_WRITE stores an object with optional directory, digest and shards. -/
  | pipeWrite (tag : Nat) (idesc shdesc data : List Byte)
  /-- PIPE_READ (R92): PIPE_READ runs a pipeline over an LBA range or one KV object. -/
  | pipeRead (tag : Nat) (desc table : List Byte) (segs : List (Nat × Nat))
  /-- PIPE_SCAN (R93): PIPE_SCAN runs a pipeline over a key range or whole namespace. -/
  | pipeScan (tag : Nat) (desc table : List Byte) (segs : List (Nat × Nat))
  /-- SHARD_ENCODE (R99): SHARD_ENCODE writes Reed-Solomon shards of host or SLM data. -/
  | shardEncode (tag : Nat) (desc data : List Byte)
  /-- SHARD_REBUILD (R269): SHARD_REBUILD reconstructs missing shards from K present ones. -/
  | shardRebuild (tag : Nat) (desc : List Byte) (srcs : List (List Byte))
  /-- KV_BATCH_COMMIT (R100): KV_BATCH_COMMIT stores or deletes up to 64 keys atomically. -/
  | kvBatchCommit (tag : Nat) (list data : List Byte)
  /-- LOAD_PROGRAM (R435): Load Program delivers or unloads a piece of a Skovzit image in a slot. -/
  | loadProgram (tag : Nat) (data : List Byte)
  /-- PROGRAM_ACTIVATION_MANAGEMENT (R102): Program Activation Management activates or deactivates a slot's program. -/
  | programActivationManagement (tag : Nat)
  /-- MEMORY_READ (R103): Memory Read moves SLM bytes to the host. -/
  | memoryRead (tag : Nat) (segs : List (Nat × Nat))
  /-- MEMORY_WRITE (R103): Memory Write moves host bytes into SLM. -/
  | memoryWrite (tag : Nat) (data : List Byte)
  /-- CLASP_CONTEXT_GRANT (R223): The earliest waiting pipeline command takes a Clasp context and memory and dispatches. -/
  | claspContextGrant (desc table : List Byte) (segs : List (Nat × Nat))
  /-- SPAN_DECODE (R235): The Press checks and decodes a stored image into leaves while the predicate unit marks records. -/
  | spanDecode (tag span : Nat)
  /-- IMAGE_ENCODE (R239): The Press encodes a span or grain image from the write buffer, falling back to RAW. -/
  | imageEncode (slot : Nat) (grain : Option Nat) (body : List Byte) (parts : List (Nat × List Byte)) (spot : Spot) (stripes : List Nat)
  /-- SINK_FRAME (R97): The Press compresses one leaf output as a sink frame under EXPAND. -/
  | sinkFrame (strand : Nat) (body : List Byte)
  /-- MOVER_FORWARD (R222): The mover forwards a finished output slot to the Clasp or sink. -/
  | moverForward (strand : Nat)
  /-- CLASP_STREAM_END (R228): When all streams have ended the Clasp writes remaining results and the result header. -/
  | claspStreamEnd (tag : Nat)
  /-- PRESS_JOB_SUBMIT (R244): A PRS_JOB_HI write queues a direct Press job or drops it. -/
  | pressJobSubmit (src : Src) (strand : Nat) (hi : DWord)
  /-- PRESS_JOB_START (R245): A queued direct job reads its descriptor and chains and starts. -/
  | pressJobStart (strand : Nat) (desc src dst : List Byte)
  /-- PRESS_JOB_SLICE (R248): The Press runs one slice of up to 64 KiB of a direct job. -/
  | pressJobSlice (strand : Nat) (data body : List Byte) (recordFault : Bool)
  /-- SHARD_JOB_START (R268): The shard engine starts the next job once its data is available. -/
  | shardJobStart (stall : Option Nat)
  /-- NAND_READ_COMPLETE (R128): A page read ends and each codeword goes through the retry flow. -/
  | nandReadComplete (ch lun : Nat) (cws : List CwOut)
  /-- NAND_PROGRAM_COMPLETE (R123): A program ends with pass or fail status. -/
  | nandProgramComplete (ch lun : Nat) (pass : Bool) (done : Nat)
  /-- NAND_ERASE_COMPLETE (R131): An erase ends; its erase-start record is cleared or the block retired. -/
  | nandEraseComplete (ch lun : Nat) (pass : Bool)
  /-- NAND_SUSPEND_COMPLETE (R122): A suspended LUN serves waiting reads up to RD_BURST. -/
  | nandSuspendComplete (ch lun : Nat)
  /-- LUN_RESET_COMPLETE (R123): A LUN reset ends and the LUN is recalibrated or failed. -/
  | lunResetComplete (ch lun : Nat) (pass : Bool)
  /-- NAND_RB_FALL (R110): A falling ready/busy line wakes the sequencer to poll LUN status. -/
  | nandRbFall (ch line : Nat)
  /-- MED_RECAL (R113): MED_CH_CTL.RECAL starts channel calibration. -/
  | medRecal (ch : Nat)
  /-- CALIBRATION_COMPLETE (R113): Calibration ends, falling back or failing the channel's LUNs on failure. -/
  | calibrationComplete (ch margin : Nat) (pass : Bool)
  /-- SOFT_DECODE_COMPLETE (R127): The soft-decode pool finishes a codeword. -/
  | softDecodeComplete (pass : Bool)
  /-- STRIPE_RECONSTRUCTION (R130): The die-parity unit rebuilds a page from its stripe and delivers it to the owning Strand. -/
  | stripeReconstruction (ch n : Nat)
  /-- FOLD_IMAGE (R148): The fold engine copies a Shelf image into QLC on the same channel. -/
  | foldImage (m : Move)
  /-- GC_PASS (R166): Garbage collection selects and copies out the highest-scoring superblock. -/
  | gcPass (moves : List Move)
  /-- REFRESH_ROW (R170): A refresh candidate's referenced images are copied within the channel. -/
  | refreshRow (ch lun block : Nat) (moves : List Move)
  /-- COALESCE_SPAN (R140): A queued splintered span is rewritten as one whole image. -/
  | coalesceSpan (nsid span : Nat) (body : List Byte) (spot : Spot) (stripes : List Nat)
  /-- LUN_RELOCATION (R171): A FAILED LUN's images are rebuilt, relocated and re-paritied. -/
  | lunRelocation (ch lun : Nat) (moves : List Move) (stripes : List Nat)
  /-- ERASE_GATE_REQUEST (R161): Firmware asks to erase a block row; a non-zero count is refused. -/
  | eraseGateRequest (ch lun block : Nat)
  /-- ERASE_GATE_ISSUE (R161): Once all conditions hold the gate writes the erase-start record and issues the erase. -/
  | eraseGateIssue (ch lun block : Nat)
  /-- CHEST_RECORD_COMMIT (R184): A journal record is acknowledged by the Chest and its change becomes visible. -/
  | chestRecordCommit
  /-- CHEST_WRITE_FAIL (R200): A failed Chest write makes the Chest FAILED and writes records to NAND. -/
  | chestWriteFail (addr : Nat)
  /-- CHS_CKPT_START (R185): CHS_CKPT_CTL.START starts a checkpoint. -/
  | chsCkptStart (src : Src)
  /-- DRAWER_WRITE_OUT (R153): A sealed segment is written to its Drawer slot and marked HOMED after the confirming read. -/
  | drawerWriteOut (seg slot : Nat)
  /-- DRAWER_SEGMENT_READ (R154): A segment read from the Drawer is checked against its seal. -/
  | drawerSegmentRead (seg : Nat) (data : List Byte)
  /-- MAP_SEGMENT_REBUILD (R154): A segment is rebuilt from checkpoint and journal within 4 ms. -/
  | mapSegmentRebuild (seg : Nat)
  /-- REBUILD_SCAN_COMPLETE (R199): The rebuild scan ends and partition rebuild begins. -/
  | rebuildScanComplete
  /-- REBUILD_PARTITION_COMPLETE (R199): A map or index partition is rebuilt and its waiting commands proceed. -/
  | rebuildPartitionComplete (kind part : Nat)
  /-- INDEX_PARTITION_REBUILD (R258): An index partition with an uncorrectable word is rebuilt within 4 ms. -/
  | indexPartitionRebuild (part : Nat)
  /-- KS_LOCK_READ (R314): A read of KS_LOCK acquires the lock or returns HELD or BUSY. -/
  | ksLockRead (src : Src)
  /-- KS_RELEASE (R315): The owner frees the lock and wipes the digest context. -/
  | ksRelease (src : Src) (v : DWord)
  /-- KS_ACT_WRITE (R312): A KS_ACT write sets the requester ID of later host accesses. -/
  | ksActWrite (src : Src) (v : DWord)
  /-- KEY_SLOT_WRITE (R321): KS_SLOT_CMD WRITE loads staged key bytes into a slot. -/
  | keySlotWrite (src : Src) (slot keylen : Nat)
  /-- KEY_SLOT_ZEROIZE (R324): ZEROIZE empties a slot and ends its users. -/
  | keySlotZeroize (src : Src) (slot : Nat)
  /-- KEY_SLOT_SHARE (R322): SHARE sets a slot's SHARED flag. -/
  | keySlotShare (src : Src) (slot : Nat)
  /-- KEY_SLOT_UNSHARE (R322): UNSHARE clears a slot's SHARED flag. -/
  | keySlotUnshare (src : Src) (slot : Nat)
  /-- DIGEST_START (R326): DG_CTL.START opens a digest or HMAC message. -/
  | digestStart (src : Src) (ctl : DWord)
  /-- DIGEST_DATA_WRITE (R328): A DG_DATA word is accepted, or dropped with OVERRUN while BUSY. -/
  | digestDataWrite (src : Src) (w : DWord)
  /-- DIGEST_LAST_COMMIT (R329): A DG_LAST_HI write adds final bytes and pads the message. -/
  | digestLastCommit (src : Src) (v : DWord)
  /-- DIGEST_BLOCK_DONE (R328): A block absorption ends; after the last block the result or verify outcome is set. -/
  | digestBlockDone
  /-- CIPHER_DESC_COMMIT (R334): A CI_DESC_HI write starts or queues a cipher job, or is dropped. -/
  | cipherDescCommit (src : Src) (hi : DWord) (slot : Nat)
  /-- CIPHER_JOB_START (R335): The engine reads the descriptor and makes the start checks. -/
  | cipherJobStart (desc : Option (List Byte)) (tag : List Byte)
  /-- CIPHER_JOB_END (R339): A cipher job writes its status record and optional interrupt. -/
  | cipherJobEnd (data aad : List Byte) (writeFault recordFault : Bool)
  /-- WORD_PROGRAM (R351): Code Array word program command. -/
  | wordProgram (req addr : Nat) (data : Word)
  /-- BUFFER_LOAD (R351): Code Array buffer load of up to 32 words. -/
  | bufferLoad (req addr : Nat) (count : Word) (writes : List (Nat × Word))
  /-- BUFFER_CONFIRM (R347): The confirm cycle starts the buffer program. -/
  | bufferConfirm (req addr : Nat)
  /-- SECTOR_ERASE (R352): Code Array sector erase. -/
  | sectorErase (req addr : Nat)
  /-- BANK_ERASE (R352): Code Array bank erase. -/
  | bankErase (req addr : Nat)
  /-- STATUS_READ (R347): Status read puts the bank in STATUS. -/
  | statusRead (req bank : Nat)
  /-- ERASE_SUSPEND (R352): The suspend command requests suspension of a sector erase. -/
  | eraseSuspend (req bank : Nat)
  /-- ERASE_SUSPEND_EFFECT (R352): After the minimum run the erase becomes SUSPENDED. -/
  | eraseSuspendEffect (bank : Nat)
  /-- ERASE_RESUME (R352): The resume command returns the bank to BUSY. -/
  | eraseResume (req bank : Nat)
  /-- PASSWORD_UNLOCK (R357): Password unlock opens protection changes or starts a lockout. -/
  | passwordUnlock (req bank : Nat) (w0 w1 w2 w3 : Word)
  /-- PROTECTION_PROGRAM (R356): Protection program sets or clears a sector bit or a password word. -/
  | protectionProgram (req addr : Nat) (v : Word)
  /-- PROTECTION_FREEZE (R358): Protection freeze refuses later protection changes until POR. -/
  | protectionFreeze (req bank : Nat)
  /-- BOOT_SWAP (R359): Boot swap programs the next SELW bit, changing the selection. -/
  | bootSwap (req bank : Nat)
  /-- EXIT_OR_RESET (R348): The exit command returns the bank to READ or abandons a sequence. -/
  | exitOrReset (req addr : Nat)
  /-- CODE_ARRAY_BANK_READ (R346): A data read of a bank returns array words or the status word, toggling while BUSY. -/
  | codeArrayBankRead (req : Nat) (addr : Nat × Bool)
  /-- CODE_ARRAY_OPERATION_DONE (R351): A program or erase ends and the bank enters STATUS. -/
  | codeArrayOperationDone (bank : Nat) (pass : Bool)
  /-- REFRESH_TICK (R370): Each tREFI raises a rank's refresh debt, refreshing at once if idle or bursting at 8. -/
  | refreshTick (ch sub rank : Nat) (queued window : Bool)
  /-- REFRESH_MAKEUP (R370): An idle rank with debt issues REFab until the debt is 0. -/
  | refreshMakeup (ch sub rank : Nat)
  /-- REFRESH_RATE_POLL (R371): Every 1,024 beats MR4 is read and the refresh rate adjusted. -/
  | refreshRatePoll (ch sub rank : Nat) (doubled : Bool)
  /-- DELAY_SET_SWITCH (R374): A sub-channel loads the new band's delay set during a rank-0 REFab. -/
  | delaySetSwitch (ch sub : Nat)
  /-- CHECK_AREA_READBACK (R374): After a switch the check area is read back in the background. -/
  | checkAreaReadback (ch : Nat) (pass : Bool)
  /-- DRAM_LINE_ACCESS (R369): A sub-channel serves one line access with ACT and auto-precharge. -/
  | dramLineAccess (ch line : Nat) (write whole : Bool) (draw : Nat)
  /-- SELF_REFRESH_ENTRY (R379): A PWR request puts a DRAM channel into self-refresh. -/
  | selfRefreshEntry (ch : Nat)
  /-- SELF_REFRESH_EXIT (R380): An access to a channel in self-refresh aborts entry or wakes it. -/
  | selfRefreshExit (ch : Nat) (early : Bool)
  /-- DRAM_CORRECTABLE_ERROR (R383): A corrected DRAM or SRAM read is counted, logged and may trigger remap. -/
  | dramCorrectableError (site : MemSite) (device bits syms : Nat)
  /-- DRAM_UNCORRECTABLE_ERROR (R386): An uncorrectable line affects its requester and triggers the region action. -/
  | dramUncorrectableError (ch line req id : Nat) (region : Region)
  /-- SRAM_UNCORRECTABLE_ERROR (R388): An uncorrectable SRAM word is logged and remapped to a poisoned spare. -/
  | sramUncorrectableError (cls inst word synd : Nat) (req : SramReq)
  /-- TMR_WDT_KICK (R413): A control-core kick restarts the watchdog count. -/
  | tmrWdtKick (src : Src) (v : DWord)
  /-- INTERRUPT_ENTRY (R293): A pending enabled interrupt is taken between instructions. -/
  | interruptEntry (c source : Nat)
  /-- SLEEP_WAKE (R294): A sleeping control core wakes when an enabled source is pending. -/
  | sleepWake (c source : Nat)
  /-- LDA (R299): Load A. -/
  | lda (k : CoreId) (o : Opnd)
  /-- LDX (R299): Load X. -/
  | ldx (k : CoreId) (o : Opnd)
  /-- LDY (R299): Load Y. -/
  | ldy (k : CoreId) (o : Opnd)
  /-- LDE (R299): Load E. -/
  | lde (k : CoreId) (o : LongOpnd)
  /-- STA (R299): Store A. -/
  | sta (k : CoreId) (o : Opnd)
  /-- STX (R299): Store X. -/
  | stx (k : CoreId) (o : Opnd)
  /-- STY (R299): Store Y. -/
  | sty (k : CoreId) (o : Opnd)
  /-- STE (R299): Store E. -/
  | ste (k : CoreId) (o : LongOpnd)
  /-- ADX (R299): Add operand to X. -/
  | adx (k : CoreId) (o : Opnd)
  /-- ADY (R299): Add operand to Y. -/
  | ady (k : CoreId) (o : LongOpnd)
  /-- ADD (R300): Add with carry out to E. -/
  | add (k : CoreId) (o : Opnd)
  /-- ADC (R300): Add with carry in from E. -/
  | adc (k : CoreId) (o : LongOpnd)
  /-- SUB (R300): Subtract with borrow out to E. -/
  | sub (k : CoreId) (o : Opnd)
  /-- SBC (R300): Subtract with borrow in from E. -/
  | sbc (k : CoreId) (o : LongOpnd)
  /-- NEG (R300): Negate operand into A. -/
  | neg (k : CoreId) (o : LongOpnd)
  /-- AND (R300): Bitwise AND into A. -/
  | and_ (k : CoreId) (o : Opnd)
  /-- OR (R300): Bitwise OR into A. -/
  | or_ (k : CoreId) (o : Opnd)
  /-- XOR (R300): Bitwise XOR into A. -/
  | xor (k : CoreId) (o : Opnd)
  /-- MUL (R301): Signed 16x16 multiply into E:A. -/
  | mul (k : CoreId) (o : LongOpnd)
  /-- MULU (R301): Unsigned 16x16 multiply into E:A. -/
  | mulu (k : CoreId) (o : LongOpnd)
  /-- DIV (R302): Signed divide, quotient in A, remainder in E. -/
  | div (k : CoreId) (o : LongOpnd)
  /-- DIVU (R302): Unsigned divide, quotient in A, remainder in E. -/
  | divu (k : CoreId) (o : LongOpnd)
  /-- SHL (R304): Shift A left. -/
  | shl (k : CoreId) (o : Opnd)
  /-- SHR (R304): Shift A right logically. -/
  | shr (k : CoreId) (o : Opnd)
  /-- SAR (R304): Shift A right arithmetically. -/
  | sar (k : CoreId) (o : Opnd)
  /-- ROL (R304): Rotate A left. -/
  | rol (k : CoreId) (o : LongOpnd)
  /-- ROR (R304): Rotate A right. -/
  | ror (k : CoreId) (o : LongOpnd)
  /-- DSHL (R304): Shift E:A left. -/
  | dshl (k : CoreId) (o : LongOpnd)
  /-- DSHR (R304): Shift E:A right logically. -/
  | dshr (k : CoreId) (o : LongOpnd)
  /-- DSAR (R304): Shift E:A right arithmetically. -/
  | dsar (k : CoreId) (o : LongOpnd)
  /-- CEQ (R305): A := 1 if A equals operand. -/
  | ceq (k : CoreId) (o : Opnd)
  /-- CNE (R305): A := 1 if A differs from operand. -/
  | cne (k : CoreId) (o : Opnd)
  /-- CLT (R305): A := 1 if A is signed less than operand. -/
  | clt (k : CoreId) (o : Opnd)
  /-- CLE (R305): A := 1 if A is signed less or equal. -/
  | cle (k : CoreId) (o : Opnd)
  /-- CLTU (R305): A := 1 if A is unsigned less than operand. -/
  | cltu (k : CoreId) (o : Opnd)
  /-- CLEU (R305): A := 1 if A is unsigned less or equal. -/
  | cleu (k : CoreId) (o : Opnd)
  /-- JMP (R306): Jump to the target. -/
  | jmp (k : CoreId) (o : Opnd)
  /-- CALL (R306): Push the return entry and jump. -/
  | call (k : CoreId) (o : Opnd)
  /-- RET (R275): Pop the return stack and resume in the current CS. -/
  | ret (k : CoreId)
  /-- BZ_A (R306): Branch if A is zero. -/
  | bzA (k : CoreId) (o : Opnd)
  /-- BNZ_A (R306): Branch if A is not zero. -/
  | bnzA (k : CoreId) (o : Opnd)
  /-- BZ_X (R306): Branch if X is zero. -/
  | bzX (k : CoreId) (o : Opnd)
  /-- BNZ_X (R306): Branch if X is not zero. -/
  | bnzX (k : CoreId) (o : Opnd)
  /-- BZ_Y (R306): Branch if Y is zero. -/
  | bzY (k : CoreId) (o : Opnd)
  /-- BNZ_Y (R306): Branch if Y is not zero. -/
  | bnzY (k : CoreId) (o : Opnd)
  /-- DBNZX (R288): Decrement X and branch if not zero. -/
  | dbnzx (k : CoreId) (o : Opnd)
  /-- DBNZY (R288): Decrement Y and branch if not zero. -/
  | dbnzy (k : CoreId) (o : Opnd)
  /-- BIT (R307): Read one bitmap bit indexed by A. -/
  | bit (k : CoreId) (o : LongOpnd)
  /-- LDB (R307): Read one byte indexed by A. -/
  | ldb (k : CoreId) (o : LongOpnd)
  /-- LZC (R307): Count leading zeros of the operand. -/
  | lzc (k : CoreId) (o : LongOpnd)
  /-- POPC (R307): Count one bits of the operand. -/
  | popc (k : CoreId) (o : LongOpnd)
  /-- SWAB (R307): Swap the operand's bytes into A. -/
  | swab (k : CoreId) (o : LongOpnd)
  /-- MAPW (R308): Load a window descriptor from four words. -/
  | mapw (k : CoreId) (o : LongOpnd)
  /-- SAVW (R308): Store a window descriptor to four words. -/
  | savw (k : CoreId) (o : LongOpnd)
  /-- NOP (R309): Do nothing. -/
  | nop (k : CoreId)
  /-- HALT (R309): End a Bead job and hand its output to the mover. -/
  | halt (k : CoreId)
  /-- WAIT (R309): Yield a Bead job for redispatch with its remaining budget. -/
  | wait (k : CoreId)
  /-- BREAK (R309): Raise trap BREAK. -/
  | break_ (k : CoreId)
  /-- FCALL (R310): Far call through a far pointer. -/
  | fcall (k : CoreId) (o : LongOpnd)
  /-- FJMP (R310): Far jump through a far pointer. -/
  | fjmp (k : CoreId) (o : LongOpnd)
  /-- FRET (R310): Far return restoring CS and PC. -/
  | fret (k : CoreId)
  /-- RETI (R310): Return from trap or interrupt restoring ST, CS and PC. -/
  | reti (k : CoreId)
  /-- SLEEP (R294): Stop a control core until an enabled source is pending. -/
  | sleep (k : CoreId)
  /-- MFSR (R292): Move a system register into A. -/
  | mfsr (k : CoreId) (o : LongOpnd)
  /-- MTSR (R292): Move A into a system register. -/
  | mtsr (k : CoreId) (o : LongOpnd)
  /-- CINV (R311): Invalidate instruction-cache lines of the pair. -/
  | cinv (k : CoreId) (o : LongOpnd)
  /-- EXTEST (R431): JTAG EXTEST, active only while PWR_GOOD is low. -/
  | extest (cells : List Bool)
  /-- IDCODE (R431): JTAG IDCODE reads the device identification. -/
  | idcode
  /-- SAMPLE_PRELOAD (R431): JTAG SAMPLE/PRELOAD. -/
  | samplePreload (cells : List Bool)
  /-- CLAMP (R431): JTAG CLAMP, as EXTEST. -/
  | clamp
  /-- HIGHZ (R431): JTAG HIGHZ, as EXTEST. -/
  | highz
  /-- BYPASS (R431): JTAG BYPASS. -/
  | bypass (bits : List Bool)
  /-- ADH_DEBUG (R432): Challenge-response that, if signed, lets the ROM enter TEST. -/
  | adhDebug (response : Option (List Byte))
  /-- NVME_MI_REQUEST (R433): An NVMe-MI request over SMBus is served in SERVICE and HALTED. -/
  | nvmeMiRequest
  /-- LINK_DOWN (R60): The host link leaves the up state, setting HIF_ERR.LINK_DOWN and clearing LINK_UP, WIDTH and SPEED. -/
  | linkDown (port : Bool)
  /-- LINK_PARTNER_RETRAIN (R37): The link partner starts a retraining, during which DMA stalls and QMG fetches nothing. -/
  | linkPartnerRetrain (port : Bool)
  /-- ECRC_ERROR (R60): A received TLP fails its ECRC check and sets HIF_ERR.ECRC. -/
  | ecrcError (port : Bool)
  /-- RECEIVER_ERROR (R60): A receiver or FLIT error, or a link replay, is counted in HIF_ERR_CNT. -/
  | receiverError (port replay : Bool)
  /-- ATS_INVALIDATE_REQUEST (R35): An ATS Invalidate Request from the host removes entries from the 2,048-entry translation cache. -/
  | atsInvalidateRequest (port : Bool) (pasid first count : Nat)
  /-- CONFIGURATION_REQUEST (R425): A PCIe configuration request is served, or completes with Configuration Request Retry Status until firmware has loaded the Subsystem IDs. -/
  | configurationRequest (port : Bool) (write : CfgReg × Option DWord)
  /-- ILLEGAL_OP (R296): The fetch of an undefined opcode or reserved encoding, or of a code address outside the program, raises ILLEGAL_OP. -/
  | illegalOp (k : CoreId) (w1 : Word)
deriving DecidableEq, Repr

end Sys2Proof
end

