-- ==== Sys2Proof/Config.lean ====
section
/-!
DEFINITION. What the spec leaves open, as constants with no body: free values, drawn keys,
and codes the manual does not publish (R125, R127). No proof can see what they are.
-/

namespace Sys2Proof.Config

/-- A fresh open value: the n-th one the model takes (State.free counts them). -/
opaque freeNat : Nat → Nat

/-- The public key that a debug response is checked under (R432): its SHA-384 hash must equal the fused one. -/
opaque debugKey : List Byte

/-- Word of the boot ROM (Table 12-4), whose contents the spec does not give. -/
opaque bootRom : Nat → Word

/-- Word of a SUSPECT Code Array sector: word address, erases of the sector so far (R355). -/
opaque suspectWord : Nat → Nat → Word

/-- The Drawer's seal key of a boot, drawn at random (R152). -/
opaque sealKey : Nat → List Byte

/-- The XTS-AES-256 key pair of a namespace, drawn at random when it is created or cryptographically erased (R325): creation
number, key generation; the data key's 32 bytes, then the tweak key's. -/
opaque mediaKey : Nat → Nat → List Byte

/-- The 512 parity bytes of a codeword's 4,096 data bytes: the matrix is not published (R127). -/
opaque ldpc : List Byte → List Byte

/-- The 16 bytes of BCH code over a page header (R125): the manual does not give its polynomial. -/
opaque bch : List Byte → List Byte

end Sys2Proof.Config
end

