-- ==== Sys2Proof/Machine/Crypto.lean ====
section
/-!
DEFINITION. The algorithms that the manual uses by the names of their standards: AES (FIPS 197) with CMAC (RFC 4493), GCM
(SP 800-38D) and XTS (IEEE 1619), SHA-2 (FIPS 180-4), SHA3-256 (FIPS 202), ECDSA on P-384 (FIPS 186-4). The manual gives their
names, not their text: the definitions are those of the standards (PRESUMED, log 178).
-/

namespace Sys2Proof.Machine

/-! ### Bytes -/

/-- Number that bytes spell, most significant first. -/
def beNum (l : List Byte) : Nat := l.foldl (fun n b => n * 256 + b.toNat) 0

/-- `k` bytes of a number, most significant first. -/
def beList : Nat → Nat → List Byte
  | 0, _ => []
  | k + 1, n => BitVec.ofNat 8 (n / 256 ^ k) :: beList k n

/-- Number that bytes spell, least significant first, and its bytes. -/
def leNum (l : List Byte) : Nat := beNum l.reverse
def leList (k n : Nat) : List Byte := (beList k n).reverse

/-- Two byte lists combined, as long as the shorter. -/
def xorBytes (a b : List Byte) : List Byte := List.zipWith (· ^^^ ·) a b

/-- Cut a list into pieces of `n`; the last may be shorter. `k` bounds the number of pieces. -/
def cutList {α : Type} (n : Nat) : Nat → List α → List (List α)
  | 0, _ => []
  | k + 1, l => if l.isEmpty then [] else l.take n :: cutList n k (l.drop n)

/-! ### AES (FIPS 197) -/

/-- Multiplication by x in GF(2^8). -/
def xtime (a : Byte) : Byte := (a <<< 1) ^^^ (if a.getLsbD 7 then 0x1B else 0)

/-- Product in GF(2^8): `k` bits of `b` are still to be used. -/
def gmulFuel : Nat → Byte → Byte → Byte
  | 0, _, _ => 0
  | k + 1, a, b => (if b.getLsbD 0 then a else 0) ^^^ gmulFuel k (xtime a) (b >>> 1)

def gmul (a b : Byte) : Byte := gmulFuel 8 a b

/-- The inverse in GF(2^8), 0 for 0: the 254th power. -/
def ginv (a : Byte) : Byte :=
  let a2 := gmul a a
  let a4 := gmul a2 a2
  let a8 := gmul a4 a4
  let a16 := gmul a8 a8
  let a32 := gmul a16 a16
  let a64 := gmul a32 a32
  let a128 := gmul a64 a64
  gmul (gmul (gmul a2 a4) (gmul a8 a16)) (gmul (gmul a32 a64) a128)

/-- The S-box: inverse and affine map; and its inverse. -/
def sboxOf (a : Byte) : Byte :=
  let b := ginv a
  b ^^^ b.rotateLeft 1 ^^^ b.rotateLeft 2 ^^^ b.rotateLeft 3 ^^^ b.rotateLeft 4 ^^^ 0x63

def isboxOf (a : Byte) : Byte := ginv (a.rotateLeft 1 ^^^ a.rotateLeft 3 ^^^ a.rotateLeft 6 ^^^ 0x05)

/-- The key schedule, words of 4 bytes; `nk` words of key; the newest word first. `n` words are still to be made, `i` is the next
index, `rc` the next round constant. -/
def keyWords (nk : Nat) : Nat → Nat → Byte → List (List Byte) → List (List Byte)
  | 0, _, _, w => w
  | n + 1, i, rc, w =>
    let t := w.headD []
    let u := if i % nk = 0 then
        let r := (t.drop 1 ++ t.take 1).map sboxOf
        (r.headD 0 ^^^ rc) :: r.drop 1
      else if 6 < nk ∧ i % nk = 4 then t.map sboxOf else t
    let v := xorBytes ((w.drop (nk - 1)).headD []) u
    keyWords nk n (i + 1) (if i % nk = 0 then xtime rc else rc) (v :: w)

/-- Rounds of a key, and its round keys, 16 bytes each. -/
def aesRounds (key : List Byte) : Nat := key.length / 4 + 6

def roundKeys (key : List Byte) : List (List Byte) :=
  let nk := key.length / 4
  let w := keyWords nk (4 * (aesRounds key + 1) - nk) nk 0x01 (cutList 4 nk key).reverse
  (cutList 4 (aesRounds key + 1) w.reverse).map List.flatten

/-- Byte `i` of a state, column by column. -/
def stByte (l : List Byte) (i : Nat) : Byte := (l.drop i).headD 0

/-- ShiftRows and its inverse. -/
def shiftRows (l : List Byte) : List Byte := (List.range 16).map (fun i => stByte l ((i + 4 * (i % 4)) % 16))
def unshiftRows (l : List Byte) : List Byte := (List.range 16).map (fun i => stByte l ((i + 12 * (i % 4)) % 16))

/-- MixColumns with a row of coefficients. -/
def mixWith (k : List Byte) (l : List Byte) : List Byte :=
  (List.range 16).map (fun i =>
    (List.range 4).foldl (fun s j => s ^^^ gmul (stByte k ((j + 4 - i % 4) % 4)) (stByte l (i / 4 * 4 + j))) 0)

def mixColumns (l : List Byte) : List Byte := mixWith [2, 3, 1, 1] l
def unmixColumns (l : List Byte) : List Byte := mixWith [14, 11, 13, 9] l

/-- The rounds after the first key: the last one without MixColumns. -/
def encRounds : List (List Byte) → List Byte → List Byte
  | [], s => s
  | [k], s => xorBytes (shiftRows (s.map sboxOf)) k
  | k :: t, s => encRounds t (xorBytes (mixColumns (shiftRows (s.map sboxOf))) k)

def decRounds : List (List Byte) → List Byte → List Byte
  | [], s => s
  | [k], s => xorBytes ((unshiftRows s).map isboxOf) k
  | k :: t, s => decRounds t (unmixColumns (xorBytes ((unshiftRows s).map isboxOf) k))

/-- One block under a 16-, 24- or 32-byte key. -/
def aesBlock (key b : List Byte) : List Byte :=
  match roundKeys key with
  | [] => b
  | k :: t => encRounds t (xorBytes b k)

def aesUnblock (key b : List Byte) : List Byte :=
  match (roundKeys key).reverse with
  | [] => b
  | k :: t => decRounds t (xorBytes b k)

/-- The block cipher on blocks as numbers, the first byte most significant. -/
def aesEnc (key : List Byte) (x : BitVec 128) : BitVec 128 := BitVec.ofNat 128 (beNum (aesBlock key (beList 16 x.toNat)))
def aesDec (key : List Byte) (x : BitVec 128) : BitVec 128 := BitVec.ofNat 128 (beNum (aesUnblock key (beList 16 x.toNat)))

/-! ### CMAC (RFC 4493) -/

/-- Doubling in GF(2^128), the first byte most significant. -/
def cmacDouble (x : BitVec 128) : BitVec 128 := (x <<< 1) ^^^ (if x.getLsbD 127 then 0x87 else 0)

/-- AES-CMAC of a message. -/
def aesCmac (key m : List Byte) : BitVec 128 :=
  let k1 := cmacDouble (aesEnc key 0)
  let n := max 1 ((m.length + 15) / 16)
  let last := m.drop (16 * (n - 1))
  let fin : BitVec 128 :=
    if last.length = 16 then BitVec.ofNat 128 (beNum last) ^^^ k1
    else BitVec.ofNat 128 (beNum ((last ++ 0x80 :: List.replicate 16 0).take 16)) ^^^ cmacDouble k1
  let x := (cutList 16 (n - 1) (m.take (16 * (n - 1)))).foldl (fun c b => aesEnc key (c ^^^ BitVec.ofNat 128 (beNum b))) 0
  aesEnc key (x ^^^ fin)

/-! ### XTS (IEEE 1619) -/

/-- The tweak of the next block of a data unit, least significant byte first. -/
def xtsNext (t : BitVec 128) : BitVec 128 := cmacDouble t

/-- Blocks of one data unit under the first key; tweaks are numbers with the first byte least significant. -/
def xtsBlocks (enc : Bool) (key : List Byte) : List (List Byte) → BitVec 128 → List Byte
  | [], _ => []
  | b :: rest, t =>
    let k := leList 16 t.toNat
    xorBytes (if enc then aesBlock key (xorBytes b k) else aesUnblock key (xorBytes b k)) k ++ xtsBlocks enc key rest (xtsNext t)

/-- One data unit of whole blocks: the data key, the tweak key, the tweak value. -/
def xtsUnit (enc : Bool) (key tkey : List Byte) (tweak : BitVec 128) (data : List Byte) : List Byte :=
  xtsBlocks enc key (cutList 16 (data.length / 16) data)
    (BitVec.ofNat 128 (leNum (aesBlock tkey (leList 16 tweak.toNat))))

/-! ### GCM (SP 800-38D) -/

/-- Product in GF(2^128), the first bit most significant: `k` bits of `x` are still to be used. -/
def ghashMulFuel : Nat → BitVec 128 → BitVec 128 → BitVec 128 → BitVec 128
  | 0, _, _, z => z
  | k + 1, x, v, z =>
    ghashMulFuel k (x <<< 1) ((v >>> 1) ^^^ (if v.getLsbD 0 then BitVec.ofNat 128 (0xE1 * 2 ^ 120) else 0))
      (if x.getLsbD 127 then z ^^^ v else z)

def ghashMul (x y : BitVec 128) : BitVec 128 := ghashMulFuel 128 x y 0

/-- A list filled with zeros to whole blocks, as numbers. -/
def ghashBlocks (l : List Byte) : List (BitVec 128) :=
  (cutList 16 ((l.length + 15) / 16) l).map (fun b => BitVec.ofNat 128 (beNum ((b ++ List.replicate 16 0).take 16)))

def ghash (h : BitVec 128) (aad text : List Byte) : BitVec 128 :=
  (ghashBlocks aad ++ ghashBlocks text ++ [BitVec.ofNat 128 (aad.length * 8 * 2 ^ 64 + text.length * 8)]).foldl
    (fun y b => ghashMul (y ^^^ b) h) 0

/-- The first counter block: of a 12-byte IV, or of one of another length. -/
def gcmJ0 (key iv : List Byte) : BitVec 128 :=
  if iv.length = 12 then BitVec.ofNat 128 (beNum iv * 2 ^ 32 + 1) else ghash (aesEnc key 0) [] iv

/-- The key stream: the low 32 bits of the counter count and wrap. -/
def gcmStream (key : List Byte) (j0 : BitVec 128) : Nat → Nat → List Byte
  | 0, _ => []
  | n + 1, i =>
    beList 16 (aesEnc key (BitVec.ofNat 128 (j0.toNat / 2 ^ 32 * 2 ^ 32 + (j0.toNat + i) % 2 ^ 32))).toNat ++
      gcmStream key j0 n (i + 1)

/-- AES-GCM output bytes, the same in both directions: key, IV, data. -/
def gcmData (key iv data : List Byte) : List Byte :=
  xorBytes data (gcmStream key (gcmJ0 key iv) ((data.length + 15) / 16) 1)

/-- AES-GCM tag over the additional data and the ciphertext. -/
def gcmTag (key iv aad text : List Byte) : List Byte :=
  beList 16 (ghash (aesEnc key 0) aad text ^^^ aesEnc key (gcmJ0 key iv)).toNat

/-! ### SHA-2 (FIPS 180-4) -/

/-- The round constants of SHA-256: the first 32 bits of the fractions of the cube roots of the first 64 primes. -/
def sha256K : List Nat :=
  [0x428A2F98, 0x71374491, 0xB5C0FBCF, 0xE9B5DBA5, 0x3956C25B, 0x59F111F1, 0x923F82A4, 0xAB1C5ED5] ++
  [0xD807AA98, 0x12835B01, 0x243185BE, 0x550C7DC3, 0x72BE5D74, 0x80DEB1FE, 0x9BDC06A7, 0xC19BF174] ++
  [0xE49B69C1, 0xEFBE4786, 0x0FC19DC6, 0x240CA1CC, 0x2DE92C6F, 0x4A7484AA, 0x5CB0A9DC, 0x76F988DA] ++
  [0x983E5152, 0xA831C66D, 0xB00327C8, 0xBF597FC7, 0xC6E00BF3, 0xD5A79147, 0x06CA6351, 0x14292967] ++
  [0x27B70A85, 0x2E1B2138, 0x4D2C6DFC, 0x53380D13, 0x650A7354, 0x766A0ABB, 0x81C2C92E, 0x92722C85] ++
  [0xA2BFE8A1, 0xA81A664B, 0xC24B8B70, 0xC76C51A3, 0xD192E819, 0xD6990624, 0xF40E3585, 0x106AA070] ++
  [0x19A4C116, 0x1E376C08, 0x2748774C, 0x34B0BCB5, 0x391C0CB3, 0x4ED8AA4A, 0x5B9CCA4F, 0x682E6FF3] ++
  [0x748F82EE, 0x78A5636F, 0x84C87814, 0x8CC70208, 0x90BEFFFA, 0xA4506CEB, 0xBEF9A3F7, 0xC67178F2]

/-- The round constants of SHA-384 and SHA-512: the first 64 bits of the fractions of the cube roots of the first 80 primes. -/
def sha512K : List Nat :=
  [0x428A2F98D728AE22, 0x7137449123EF65CD, 0xB5C0FBCFEC4D3B2F, 0xE9B5DBA58189DBBC] ++
  [0x3956C25BF348B538, 0x59F111F1B605D019, 0x923F82A4AF194F9B, 0xAB1C5ED5DA6D8118] ++
  [0xD807AA98A3030242, 0x12835B0145706FBE, 0x243185BE4EE4B28C, 0x550C7DC3D5FFB4E2] ++
  [0x72BE5D74F27B896F, 0x80DEB1FE3B1696B1, 0x9BDC06A725C71235, 0xC19BF174CF692694] ++
  [0xE49B69C19EF14AD2, 0xEFBE4786384F25E3, 0x0FC19DC68B8CD5B5, 0x240CA1CC77AC9C65] ++
  [0x2DE92C6F592B0275, 0x4A7484AA6EA6E483, 0x5CB0A9DCBD41FBD4, 0x76F988DA831153B5] ++
  [0x983E5152EE66DFAB, 0xA831C66D2DB43210, 0xB00327C898FB213F, 0xBF597FC7BEEF0EE4] ++
  [0xC6E00BF33DA88FC2, 0xD5A79147930AA725, 0x06CA6351E003826F, 0x142929670A0E6E70] ++
  [0x27B70A8546D22FFC, 0x2E1B21385C26C926, 0x4D2C6DFC5AC42AED, 0x53380D139D95B3DF] ++
  [0x650A73548BAF63DE, 0x766A0ABB3C77B2A8, 0x81C2C92E47EDAEE6, 0x92722C851482353B] ++
  [0xA2BFE8A14CF10364, 0xA81A664BBC423001, 0xC24B8B70D0F89791, 0xC76C51A30654BE30] ++
  [0xD192E819D6EF5218, 0xD69906245565A910, 0xF40E35855771202A, 0x106AA07032BBD1B8] ++
  [0x19A4C116B8D2D0C8, 0x1E376C085141AB53, 0x2748774CDF8EEB99, 0x34B0BCB5E19B48A8] ++
  [0x391C0CB3C5C95A63, 0x4ED8AA4AE3418ACB, 0x5B9CCA4F7763E373, 0x682E6FF3D6B2B8A3] ++
  [0x748F82EE5DEFB2FC, 0x78A5636F43172F60, 0x84C87814A1F0AB72, 0x8CC702081A6439EC] ++
  [0x90BEFFFA23631E28, 0xA4506CEBDE82BDE9, 0xBEF9A3F7B2C67915, 0xC67178F2E372532B] ++
  [0xCA273ECEEA26619C, 0xD186B8C721C0C207, 0xEADA7DD6CDE0EB1E, 0xF57D4F7FEE6ED178] ++
  [0x06F067AA72176FBA, 0x0A637DC5A2C898A6, 0x113F9804BEF90DAE, 0x1B710B35131C471B] ++
  [0x28DB77F523047D84, 0x32CAAB7B40C72493, 0x3C9EBE0A15C9BEBC, 0x431D67C49C100D4C] ++
  [0x4CC5D4BECB3E42B6, 0x597F299CFC657E2A, 0x5FCB6FAB3AD6FAEC, 0x6C44198C4A475817]

/-- Initial hash values. -/
def sha256H : List Nat :=
  [0x6A09E667, 0xBB67AE85, 0x3C6EF372, 0xA54FF53A, 0x510E527F, 0x9B05688C, 0x1F83D9AB, 0x5BE0CD19]

/-- Initial hash value of SHA-512. -/
def sha512H : List Nat :=
  [0x6A09E667F3BCC908, 0xBB67AE8584CAA73B, 0x3C6EF372FE94F82B, 0xA54FF53A5F1D36F1] ++
  [0x510E527FADE682D1, 0x9B05688C2B3E6C1F, 0x1F83D9ABFB41BD6B, 0x5BE0CD19137E2179]

/-- Initial hash value of SHA-384. -/
def sha384H : List Nat :=
  [0xCBBB9D5DC1059ED8, 0x629A292A367CD507, 0x9159015A3070DD17, 0x152FECD8F70E5939] ++
  [0x67332667FFC00B31, 0x8EB44A8768581511, 0xDB0C2E0D64F98FA7, 0x47B5481DBEFA4FA4]

/-- The round constants of Keccak-f[1600]. -/
def keccakRC : List Nat :=
  [0x0000000000000001, 0x0000000000008082, 0x800000000000808A, 0x8000000080008000] ++
  [0x000000000000808B, 0x0000000080000001, 0x8000000080008081, 0x8000000000008009] ++
  [0x000000000000008A, 0x0000000000000088, 0x0000000080008009, 0x000000008000000A] ++
  [0x000000008000808B, 0x800000000000008B, 0x8000000000008089, 0x8000000000008003] ++
  [0x8000000000008002, 0x8000000000000080, 0x000000000000800A, 0x800000008000000A] ++
  [0x8000000080008081, 0x8000000000008080, 0x0000000080000001, 0x8000000080008008]

/-- The functions of a word size: rotations of the four sums; the third of each small sum is a shift. -/
structure ShaWords where
  w : Nat
  rounds : Nat
  s0 : Nat × Nat × Nat
  s1 : Nat × Nat × Nat
  b0 : Nat × Nat × Nat
  b1 : Nat × Nat × Nat
  k : List Nat
deriving DecidableEq, Repr

def sha32 : ShaWords := ⟨32, 64, (7, 18, 3), (17, 19, 10), (2, 13, 22), (6, 11, 25), sha256K⟩
def sha64 : ShaWords := ⟨64, 80, (1, 8, 7), (19, 61, 6), (28, 34, 39), (14, 18, 41), sha512K⟩

def shaSmall {w : Nat} (x : BitVec w) (r : Nat × Nat × Nat) : BitVec w :=
  x.rotateRight r.1 ^^^ x.rotateRight r.2.1 ^^^ (x >>> r.2.2)

def shaBig {w : Nat} (x : BitVec w) (r : Nat × Nat × Nat) : BitVec w :=
  x.rotateRight r.1 ^^^ x.rotateRight r.2.1 ^^^ x.rotateRight r.2.2

/-- The message schedule, newest word first: `n` words still to be made. -/
def shaSchedule (c : ShaWords) : Nat → List (BitVec c.w) → List (BitVec c.w)
  | 0, l => l
  | n + 1, l =>
    let at_ (i : Nat) : BitVec c.w := (l.drop (i - 1)).headD 0
    shaSchedule c n ((shaSmall (at_ 2) c.s1 + at_ 7 + shaSmall (at_ 15) c.s0 + at_ 16) :: l)

/-- One round on the eight working variables. -/
def shaRound (c : ShaWords) (v : List (BitVec c.w)) (kw : BitVec c.w × BitVec c.w) : List (BitVec c.w) :=
  match v with
  | [a, b, c', d, e, f, g, h] =>
    let t1 := h + shaBig e c.b1 + ((e &&& f) ^^^ (~~~e &&& g)) + kw.1 + kw.2
    let t2 := shaBig a c.b0 + ((a &&& b) ^^^ (a &&& c') ^^^ (b &&& c'))
    [t1 + t2, a, b, c', d + t1, e, f, g]
  | x => x

/-- Absorb one block. -/
def shaAbsorb (c : ShaWords) (h : List (BitVec c.w)) (block : List Byte) : List (BitVec c.w) :=
  let w := (cutList (c.w / 8) 16 block).map (fun b => BitVec.ofNat c.w (beNum b))
  let ws := (shaSchedule c (c.rounds - 16) w.reverse).reverse
  List.zipWith (· + ·) h (((c.k.map (BitVec.ofNat c.w)).zip ws).foldl (shaRound c) h)

/-- The padded message: a 1 bit, zeros, and the length in bits. -/
def shaPad (block lenBytes : Nat) (m : List Byte) : List Byte :=
  let z := (2 * block - (m.length + 1 + lenBytes) % block) % block
  m ++ 0x80 :: List.replicate z 0 ++ beList lenBytes (8 * m.length)

def sha2 (c : ShaWords) (iv : List Nat) (m : List Byte) : List Byte :=
  let p := shaPad (2 * c.w) (c.w / 4) m
  (((cutList (2 * c.w) (p.length / (2 * c.w)) p).foldl (shaAbsorb c) (iv.map (BitVec.ofNat c.w))).map
    (fun x => beList (c.w / 8) x.toNat)).flatten

/-! ### SHA3-256 (FIPS 202) -/

/-- Lane (x, y) of a state of 25 lanes. -/
def lane (a : List (BitVec 64)) (x y : Nat) : BitVec 64 := (a.drop (x % 5 + 5 * (y % 5))).headD 0

/-- Rotation offsets of the lanes, x fastest. -/
def keccakRho : List Nat := [0, 1, 62, 28, 27, 36, 44, 6, 55, 20, 3, 10, 43, 25, 39, 41, 45, 15, 21, 8, 18, 2, 61, 56, 14]

/-- One round: theta, rho and pi, chi, iota. -/
def keccakRound (a : List (BitVec 64)) (rc : Nat) : List (BitVec 64) :=
  let col (x : Nat) : BitVec 64 := lane a x 0 ^^^ lane a x 1 ^^^ lane a x 2 ^^^ lane a x 3 ^^^ lane a x 4
  let cols := (List.range 5).map col
  let d (x : Nat) : BitVec 64 := (cols.drop ((x + 4) % 5)).headD 0 ^^^ ((cols.drop ((x + 1) % 5)).headD 0).rotateLeft 1
  let ds := (List.range 5).map d
  let t := (List.range 25).map (fun i => (lane a (i % 5) (i / 5) ^^^ (ds.drop (i % 5)).headD 0).rotateLeft
    ((keccakRho.drop i).headD 0))
  let b := (List.range 25).map (fun i => lane t (i % 5 + 3 * (i / 5)) (i % 5))
  let c := (List.range 25).map (fun i =>
    lane b (i % 5) (i / 5) ^^^ (~~~lane b (i % 5 + 1) (i / 5) &&& lane b (i % 5 + 2) (i / 5)))
  (c.headD 0 ^^^ BitVec.ofNat 64 rc) :: c.drop 1

def keccakF (a : List (BitVec 64)) : List (BitVec 64) := keccakRC.foldl keccakRound a

def sha3Absorb (a : List (BitVec 64)) (block : List Byte) : List (BitVec 64) :=
  let w := (cutList 8 17 block).map (fun b => BitVec.ofNat 64 (leNum b))
  keccakF (List.zipWith (· ^^^ ·) a (w ++ List.replicate 8 0))

def sha3 (m : List Byte) : List Byte :=
  let z := 136 - m.length % 136
  let pad : List Byte := if z = 1 then [0x86] else 0x06 :: List.replicate (z - 2) 0 ++ [0x80]
  let p := m ++ pad
  ((((cutList 136 (p.length / 136) p).foldl sha3Absorb (List.replicate 25 0)).take 4).map (fun x => leList 8 x.toNat)).flatten

/-- SHA-256, SHA-384, SHA-512, SHA3-256 by ALG code 0 to 3 (Table 14-4). -/
def digest (alg : Nat) (m : List Byte) : List Byte :=
  match alg with
  | 0 => sha2 sha32 sha256H m
  | 1 => (sha2 sha64 sha384H m).take 48
  | 2 => sha2 sha64 sha512H m
  | _ => sha3 m

/-! ### ECDSA on P-384 (FIPS 186-4) -/

def p384P : Nat := 2 ^ 384 - 2 ^ 128 - 2 ^ 96 + 2 ^ 32 - 1
def p384N : Nat :=
  0xFFFFFFFFFFFFFFFFFFFFFFFFFFFFFFFFFFFFFFFFFFFFFFFFC7634D81F4372DDF581A0DB248B0A77AECEC196ACCC52973
def p384B : Nat :=
  0xB3312FA7E23EE7E4988E056BE3F82D19181D9C6EFE8141120314088F5013875AC656398D8A2ED19D2A85C8EDD3EC2AEF
def p384G : Nat × Nat :=
  (0xAA87CA22BE8B05378EB1C71EF320AD746E1D3B628BA79B9859F741E082542A385502F25DBF55296C3A545E3872760AB7,
    0x3617DE4A96262C6F5D9E98BF9292DC29F8F41DBD289A147CE9DA3113B5F0B8C00A60B1CE1D7E819D7A431D7C90EA0E5F)

/-- Power modulo `m`; the exponent has `k` bits. -/
def powMod (m : Nat) : Nat → Nat → Nat → Nat
  | 0, _, _ => 1 % m
  | k + 1, b, e => (if e % 2 = 1 then b else 1) * powMod m k (b * b % m) (e / 2) % m

/-- The inverse modulo a prime of 384 bits. -/
def invMod (m a : Nat) : Nat := powMod m 384 (a % m) (m - 2)

/-- The sum of two points; `none` is the point at infinity. -/
def ecAdd : Option (Nat × Nat) → Option (Nat × Nat) → Option (Nat × Nat)
  | none, q => q
  | p, none => p
  | some (x1, y1), some (x2, y2) =>
    let m := p384P
    let go (s : Nat) : Option (Nat × Nat) :=
      let x3 := (s * s + 2 * m - x1 - x2) % m
      some (x3, (s * (x1 + m - x3) + m - y1) % m)
    if x1 = x2 then
      if (y1 + y2) % m = 0 then none else go ((3 * x1 * x1 + m - 3) * invMod m (2 * y1) % m)
    else go ((y2 + m - y1) * invMod m (x2 + m - x1) % m)

/-- A multiple of a point; the factor has `k` bits. -/
def ecMul : Nat → Nat → Option (Nat × Nat) → Option (Nat × Nat)
  | 0, _, _ => none
  | k + 1, n, p => ecAdd (if n % 2 = 1 then p else none) (ecMul k (n / 2) (ecAdd p p))

/-- The public key is a point of the curve, uncompressed. -/
def ecValid (key : List Byte) (x y : Nat) : Bool :=
  decide (key.length = 97) && decide (key.headD 0 = 4) && decide (x < p384P) && decide (y < p384P) &&
    decide (y * y % p384P = (x * x * x + (p384P - 3) * x + p384B) % p384P)

/-- Verification: public key, digest, signature r and s of 48 bytes each. -/
def ecdsa (key dig sig : List Byte) : Bool :=
  let x := beNum ((key.drop 1).take 48)
  let y := beNum (key.drop 49)
  let r := beNum (sig.take 48)
  let s := beNum (sig.drop 48)
  let ok := ecValid key x y && decide (sig.length = 96) && decide (0 < r) && decide (r < p384N) && decide (0 < s) && decide (s < p384N)
  let w := invMod p384N s
  let e := beNum (dig.take 48)
  match ecAdd (ecMul 384 (e * w % p384N) (some p384G)) (ecMul 384 (r * w % p384N) (some (x, y))) with
  | none => false
  | some q => ok && decide (q.1 % p384N = r)


/-! ### Checksums (XXH64, CRC-64/NVME) -/

def xxP1 : BitVec 64 := 0x9E3779B185EBCA87
def xxP2 : BitVec 64 := 0xC2B2AE3D27D4EB4F
def xxP3 : BitVec 64 := 0x165667B19E3779F9
def xxP4 : BitVec 64 := 0x85EBCA77C2B2AE63
def xxP5 : BitVec 64 := 0x27D4EB2F165667C5

def xxRound (acc inp : BitVec 64) : BitVec 64 := (acc + inp * xxP2).rotateLeft 31 * xxP1
def xxMerge (h v : BitVec 64) : BitVec 64 := (h ^^^ xxRound 0 v) * xxP1 + xxP4

/-- The four lanes take one stripe of 32 bytes. -/
def xxStripe (v : List (BitVec 64)) (b : List Byte) : List (BitVec 64) :=
  List.zipWith xxRound v ((cutList 8 4 b).map (fun x => BitVec.ofNat 64 (leNum x)))

/-- The bytes behind the last stripe: eight, then four, then one at a time. -/
def xxTail : Nat → BitVec 64 → List Byte → BitVec 64
  | 0, h, _ => h
  | k + 1, h, l =>
    if 8 ≤ l.length then
      xxTail k ((h ^^^ xxRound 0 (BitVec.ofNat 64 (leNum (l.take 8)))).rotateLeft 27 * xxP1 + xxP4) (l.drop 8)
    else if 4 ≤ l.length then
      xxTail k ((h ^^^ (BitVec.ofNat 64 (leNum (l.take 4)) * xxP1)).rotateLeft 23 * xxP2 + xxP3) (l.drop 4)
    else match l with
      | [] => h
      | b :: t => xxTail k ((h ^^^ (b.setWidth 64 * xxP5)).rotateLeft 11 * xxP1) t

/-- XXH64 with seed 0; the content checksum of a Zstandard frame is its low 32 bits. -/
def xxh64 (m : List Byte) : BitVec 64 :=
  let n := m.length / 32
  let v := (cutList 32 n m).foldl xxStripe [xxP1 + xxP2, xxP2, 0, 0 - xxP1]
  let rots := List.zipWith (fun (x : BitVec 64) r => x.rotateLeft r) v [1, 7, 12, 18]
  let h0 := if m.length < 32 then xxP5 else v.foldl xxMerge (rots.foldl (· + ·) 0)
  let h := xxTail 40 (h0 + BitVec.ofNat 64 m.length) (m.drop (32 * n))
  let h1 := (h ^^^ (h >>> 33)) * xxP2
  let h2 := (h1 ^^^ (h1 >>> 29)) * xxP3
  h2 ^^^ (h2 >>> 32)

/-- Eight steps of the reflected CRC-64. -/
def crc64Bits : Nat → BitVec 64 → BitVec 64
  | 0, c => c
  | k + 1, c => crc64Bits k ((c >>> 1) ^^^ (if c.getLsbD 0 then 0x9A6C9329AC4BC9B5 else 0))

/-- CRC-64/NVME, the 64-bit guard of protection information. -/
def crc64 (m : List Byte) : BitVec 64 :=
  ~~~(m.foldl (fun c b => crc64Bits 8 (c ^^^ b.setWidth 64)) (~~~(0 : BitVec 64)))

end Sys2Proof.Machine
end

