-- ==== Sys2Proof/Machine/Codes.lean ====
section
/-!
DEFINITION. Checksums, hashes and formats that the spec gives bit by bit: CRC-32C, the TBLZ frame and the
RAW image (R233 to R235), the stored and empty forms of the other formats (R238, R240).
-/

namespace Sys2Proof.Machine

/-! ### Checksums -/

/-- One bit of a reflected 32-bit CRC. -/
def crcBit (poly c : BitVec 32) : BitVec 32 := if c.getLsbD 0 then (c >>> 1) ^^^ poly else c >>> 1

/-- One byte of a reflected 32-bit CRC. -/
def crcByte (poly c : BitVec 32) (b : Byte) : BitVec 32 :=
  let x := c ^^^ b.setWidth 32
  let f := crcBit poly
  f (f (f (f (f (f (f (f x)))))))

/-- CRC-32C (polynomial 0x1EDC6F41, reflected) of bytes, in order. -/
def crc32c (l : List Byte) : BitVec 32 := (l.foldl (crcByte 0x82F63B78#32) 0xFFFFFFFF#32) ^^^ 0xFFFFFFFF#32

/-- CRC-32 of gzip, as RFC 1952 defines it. -/
def crc32 (l : List Byte) : BitVec 32 := (l.foldl (crcByte 0xEDB88320#32) 0xFFFFFFFF#32) ^^^ 0xFFFFFFFF#32

/-- Adler-32 of zlib, as RFC 1950 defines it. -/
def adler32 (l : List Byte) : Nat :=
  let p := l.foldl (fun (ab : Nat × Nat) b => let a := (ab.1 + b.toNat) % 65521; (a, (ab.2 + a) % 65521)) (1, 0)
  p.2 * 65536 + p.1

/-! ### Byte strings -/

/-- `n` as `k` bytes, low byte first. -/
def lowFirst : Nat → Nat → List Byte
  | 0, _ => []
  | k + 1, n => BitVec.ofNat 8 n :: lowFirst k (n / 256)

/-- `n` as `k` bytes, high byte first. -/
def highFirst (k n : Nat) : List Byte := (lowFirst k n).reverse

/-- The number that bytes spell, high byte first. -/
def readHigh (l : List Byte) : Nat := l.foldl (fun n b => n * 256 + b.toNat) 0

/-- Bytes `i` to `i + n - 1`, as a number with the high byte first. -/
def highField (l : List Byte) (i n : Nat) : Nat := readHigh ((l.drop i).take n)

/-! ### Decoding faults (Table 10-5) -/

/-- Faults of a decompression (R241). -/
inductive Dcmp where
  | illegal | distance | overrun | checksum | truncated | length
deriving DecidableEq, Repr

/-- The code of Table 4-22. -/
def Dcmp.code : Dcmp → Nat
  | .illegal => 2
  | .distance => 3
  | .overrun => 4
  | .checksum => 5
  | .truncated => 6
  | .length => 8

/-- A fault with its input and output offsets (R242). -/
structure Bad where
  why : Dcmp
  inp : Nat
  out : Nat
  /-- the bytes produced before the element at fault -/
  made : List Byte := []
deriving DecidableEq, Repr

/-! ### TBLZ (R233, R234) -/

/-- One element of a TBLZ body (Table 10-4): header bytes, length, distance (0: literals). -/
def tblzElement (c : Nat) (rest : List Byte) : Nat × Nat × Nat :=
  let b (i : Nat) : Nat := highField rest i 1
  if c < 0x40 then (1, c + 1, 0)
  else if c < 0x80 then (2, 65 + (c % 0x40) * 256 + b 0, 0)
  else if c < 0xC0 then (3, c % 0x40 + 3, highField rest 0 2 + 1)
  else (5, 67 + (c % 0x40) * 256 + b 0, highField rest 1 3 + 1)

/-- Copy `len` bytes from `dist` behind the end of the reversed output, one at a time. -/
def copyBack (dist : Nat) : Nat → List Byte → List Byte
  | 0, out => out
  | n + 1, out =>
    match out[dist - 1]? with
    | some b => copyBack dist n (b :: out)
    | none => out

/-- The decoder of R234 over a body of `clen` bytes, of which `body` is what is left from position `i`; `out`
is the output in reverse order, `o` its length. Answers the reversed output and the position after 0xFF. -/
def tblzRun (clen plen : Nat) : Nat → List Byte → Nat → List Byte → Nat → Except Bad (List Byte × Nat)
  | 0, _, i, out, o => .error ⟨.truncated, 16 + i, o, out.reverse⟩
  | fuel + 1, body, i, out, o =>
    match body with
    | [] => .error ⟨.truncated, 16 + clen, o, out.reverse⟩
    | b :: rest =>
      let c := b.toNat
      if c = 0xFF then .ok (out, i + 1)
      else if 0xF0 ≤ c then .error ⟨.illegal, 16 + i, o, out.reverse⟩
      else
        let e := tblzElement c rest
        let hdr := e.1
        let len := e.2.1
        let dist := e.2.2
        if clen < i + hdr then .error ⟨.truncated, 16 + clen, o, out.reverse⟩
        else if dist = 0 ∧ clen < i + hdr + len then .error ⟨.truncated, 16 + clen, o, out.reverse⟩
        else if o < dist then .error ⟨.distance, 16 + i, o, out.reverse⟩
        else if plen < o + len then .error ⟨.overrun, 16 + i, o, out.reverse⟩
        else if dist = 0 then
          tblzRun clen plen fuel (body.drop (hdr + len)) (i + hdr + len)
            ((((rest.drop (hdr - 1)).take len).reverse) ++ out) (o + len)
        else tblzRun clen plen fuel (body.drop hdr) (i + hdr) (copyBack dist len out) (o + len)

/-- Decode a TBLZ frame whose header has been read. A frame given in part is read as far as it goes. -/
def tblzDecode (l : List Byte) : Except Bad (List Byte) :=
  let plen := highField l 4 4
  let clen := highField l 8 4
  let body := (l.drop 16).take clen
  match tblzRun body.length plen (body.length + 1) body 0 [] 0 with
  | .error e => .error (if e.why = .truncated then { e with inp := min (16 + clen) l.length } else e)
  | .ok (out, i) =>
    if i ≠ clen then .error ⟨.length, 8, out.length, out.reverse⟩
    else if out.length ≠ plen then .error ⟨.length, 4, out.length, out.reverse⟩
    else
      let p := out.reverse
      if (crc32c p).toNat ≠ highField l 12 4 then .error ⟨.checksum, 12, out.length, p⟩ else .ok p

/-- Decode a RAW image. -/
def rawDecode (l : List Byte) : Except Bad (List Byte) :=
  let plen := highField l 4 4
  let p := (l.drop 16).take plen
  if p.length < plen then .error ⟨.truncated, l.length, 0, []⟩
  else if (crc32c p).toNat ≠ highField l 12 4 then .error ⟨.checksum, 12, plen, p⟩
  else .ok p

/-- MAGIC of a TBLZ frame and of a RAW image (Table 10-3). -/
def magicTblz : Nat := 0x7B1A
def magicRaw : Nat := 0x7B1B

/-- Decode a frame or image by its MAGIC and VERSION (R233), which are checked before a truncation (R242); an
empty input is truncated (R240). -/
def imageDecode (l : List Byte) : Except Bad (List Byte) :=
  let magic := highField l 0 2
  if 2 ≤ l.length ∧ magic ≠ magicTblz ∧ magic ≠ magicRaw then .error ⟨.illegal, 0, 0, []⟩
  else if 3 ≤ l.length ∧ highField l 2 1 ≠ 1 then .error ⟨.illegal, 0, 0, []⟩
  else if l.length < 16 then .error ⟨.truncated, l.length, 0, []⟩
  else if magic = magicTblz then tblzDecode l
  else rawDecode l

/-- A MAGIC and VERSION of Table 10-3. -/
def magicKnown (l : List Byte) : Bool :=
  (decide (highField l 0 2 = magicTblz) || decide (highField l 0 2 = magicRaw)) && decide (highField l 2 1 = 1)

/-- Stored length that a header declares. -/
def declaredLen (l : List Byte) : Nat :=
  if highField l 0 2 = magicRaw then 16 + highField l 4 4 else 16 + highField l 8 4

/-- The checks of R235 on a stored image, then its decode: the entry's RAW bit, the plaintext length it must
hold, its length in units. -/
def spanDecode (raw : Bool) (plen units : Nat) (l : List Byte) : Except Bad (List Byte) :=
  let isRaw := decide (highField l 0 2 = magicRaw)
  if raw ≠ isRaw then .error ⟨.illegal, 0, 0, []⟩
  else if highField l 2 1 ≠ 1 then .error ⟨.illegal, 0, 0, []⟩
  else if highField l 4 4 ≠ plen then .error ⟨.length, 4, 0, []⟩
  else if declaredLen l ≤ (units - 1) * 512 ∨ units * 512 < declaredLen l then
    .error ⟨.length, if isRaw then 4 else 8, 0, []⟩
  else imageDecode l

/-- A header of Table 10-3. -/
def imageHeader (magic plen clen : Nat) (crc : BitVec 32) : List Byte :=
  highFirst 2 magic ++ [1, 0] ++ highFirst 4 plen ++ highFirst 4 clen ++ highFirst 4 crc.toNat

/-- The RAW image of a plaintext. -/
def rawImage (p : List Byte) : List Byte := imageHeader magicRaw p.length 0 (crc32c p) ++ p

/-- The TBLZ frame of a plaintext with a body. -/
def tblzFrame (p body : List Byte) : List Byte := imageHeader magicTblz p.length body.length (crc32c p) ++ body

/-- The keep limit of R238 for `n` bytes of plaintext. -/
def keepLimit (n save : Nat) : Nat := n * (256 - save) / 256

/-- A frame that decodes to its plaintext. -/
def decodesTo (frame p : List Byte) : Bool :=
  match imageDecode frame with
  | .ok q => decide (q = p)
  | .error _ => false

/-- What the Press stores of a plaintext: the frame of the encoder's body where R238 keeps it, else the RAW
image (R239); an empty plaintext is the empty frame (R240). -/
def encodeImage (save : Nat) (body p : List Byte) : Bool × List Byte :=
  let f := tblzFrame p body
  if p.isEmpty then (false, tblzFrame [] [0xFF])
  else if f.length ≤ keepLimit p.length save ∧ decodesTo f p then (false, f)
  else (true, rawImage p)

/-! ### Stored and empty forms of the other formats (R237, R238, R240) -/

/-- Cut into pieces of `n` bytes; an empty input is one empty piece. -/
def chop (n : Nat) : Nat → List Byte → List (List Byte)
  | 0, l => [l]
  | k + 1, l => if l.length ≤ n then [l] else l.take n :: chop n k (l.drop n)

/-- Raw blocks of Zstandard, the last one marked. -/
def zstdBlocks : List (List Byte) → List Byte
  | [] => []
  | [b] => lowFirst 3 (b.length * 8 + 1) ++ b
  | b :: t => lowFirst 3 (b.length * 8) ++ b ++ zstdBlocks t

/-- Stored blocks of DEFLATE, the last one final. -/
def deflateBlocks : List (List Byte) → List Byte
  | [] => []
  | [b] => [1] ++ lowFirst 2 b.length ++ lowFirst 2 (65535 - b.length) ++ b
  | b :: t => [0] ++ lowFirst 2 b.length ++ lowFirst 2 (65535 - b.length) ++ b ++ deflateBlocks t

/-- Header and trailer around a body: Zstandard 1, raw DEFLATE 2, zlib 3, gzip 4 (R236, R237). -/
def wrapFormat (fmt : Nat) (p body : List Byte) : List Byte :=
  if fmt = 1 then [0x28, 0xB5, 0x2F, 0xFD, 0x84, 0x38] ++ lowFirst 4 p.length ++ body ++ lowFirst 4 ((xxh64 p).toNat % 2 ^ 32)
  else if fmt = 3 then [0x78, 0x01] ++ body ++ highFirst 4 (adler32 p)
  else if fmt = 4 then
    [0x1F, 0x8B, 8, 0, 0, 0, 0, 0, 4, 0xFF] ++ body ++ lowFirst 4 (crc32 p).toNat ++ lowFirst 4 p.length
  else body

/-- The stored form of an input (R238). -/
def storedForm (fmt : Nat) (p : List Byte) : List Byte :=
  if fmt = 0 then rawImage p
  else if fmt = 1 then wrapFormat 1 p (zstdBlocks (chop 131072 p.length p))
  else wrapFormat fmt p (deflateBlocks (chop 65535 p.length p))

/-- The empty frame of a format (R240). -/
def emptyForm (fmt : Nat) : List Byte :=
  if fmt = 0 then tblzFrame [] [0xFF]
  else if fmt = 1 then wrapFormat 1 [] (lowFirst 3 1)
  else wrapFormat fmt [] [0x03, 0x00]

/-! ### SipHash-2-4 (R251, R261) -/

/-- The four words of the SipHash state. -/
structure Sip where
  v0 : BitVec 64
  v1 : BitVec 64
  v2 : BitVec 64
  v3 : BitVec 64
deriving DecidableEq, Repr

/-- SIPROUND. -/
def Sip.round (s : Sip) : Sip :=
  let a0 := s.v0 + s.v1
  let a1 := (s.v1.rotateLeft 13) ^^^ a0
  let b0 := a0.rotateLeft 32
  let b2 := s.v2 + s.v3
  let b3 := (s.v3.rotateLeft 16) ^^^ b2
  let c0 := b0 + b3
  let c3 := (b3.rotateLeft 21) ^^^ c0
  let c2 := b2 + a1
  let c1 := (a1.rotateLeft 17) ^^^ c2
  ⟨c0, c1, c2.rotateLeft 32, c3⟩

/-- Absorb one 64-bit word with two rounds. -/
def Sip.word (s : Sip) (m : BitVec 64) : Sip :=
  let t := (Sip.round (Sip.round { s with v3 := s.v3 ^^^ m }))
  { t with v0 := t.v0 ^^^ m }

/-- Absorb the whole words of a message; the bytes that are left. -/
def Sip.absorb : Nat → Sip → List Byte → Sip × List Byte
  | 0, s, l => (s, l)
  | k + 1, s, l =>
    if l.length < 8 then (s, l)
    else Sip.absorb k (s.word (BitVec.ofNat 64 (readHigh (l.take 8).reverse))) (l.drop 8)

/-- SipHash-2-4 with a 64-bit output under key words k0, k1. -/
def siphash24 (k0 k1 : BitVec 64) (l : List Byte) : BitVec 64 :=
  let s : Sip := ⟨k0 ^^^ 0x736f6d6570736575#64, k1 ^^^ 0x646f72616e646f6d#64, k0 ^^^ 0x6c7967656e657261#64,
    k1 ^^^ 0x7465646279746573#64⟩
  let p := Sip.absorb (l.length / 8 + 1) s l
  let last := BitVec.ofNat 64 (readHigh p.2.reverse + (l.length % 256) * 2 ^ 56)
  let t := p.1.word last
  let u := Sip.round (Sip.round (Sip.round (Sip.round { t with v2 := t.v2 ^^^ 0xff#64 })))
  u.v0 ^^^ u.v1 ^^^ u.v2 ^^^ u.v3

/-! ### GF(2^8) with polynomial 0x11D (R263) -/

/-- Multiplication by x. -/
def gfX (a : Byte) : Byte := if a.getLsbD 7 then (a <<< 1) ^^^ 0x1D#8 else a <<< 1

/-- Product, from the lowest `n` bits of `b` up. -/
def gfMulFrom (a b : Byte) : Nat → Nat → Byte
  | 0, _ => 0
  | n + 1, i => (if b.getLsbD i then a else 0) ^^^ gfMulFrom (gfX a) b n (i + 1)

def gfMul (a b : Byte) : Byte := gfMulFrom a b 8 0

/-- The inverse of a non-zero element; 0 for 0. -/
def gfInv (a : Byte) : Byte :=
  match (List.range 256).find? (fun i => decide (gfMul a (BitVec.ofNat 8 i) = 1)) with
  | some i => BitVec.ofNat 8 i
  | none => 0

/-- Cauchy coefficient c_ij for k data shards (R263). -/
def cauchy (k i j : Nat) : Byte := gfInv (BitVec.ofNat 8 (k + i) ^^^ BitVec.ofNat 8 j)

end Sys2Proof.Machine
end

