-- ==== Sys2Proof/Machine/RegMap.lean ====
section
/-!
DEFINITION. The register map of BAR0 (Tables 1-12 to 17-10): where each register lies, its reset value,
its writable fields with their access code (R5), range and reserved encodings (R11), and whether a
write takes effect at the next beat boundary (R12). A register that is not in `regRows` is read only
with reset value 0, or reserved (R10). Block by block the maps are those of R32, R84, R132, R181, R230, R231,
R249, R270, R271, R342 and R390.
-/

namespace Sys2Proof.Machine

/-- Access codes of a field (Table 0-4); RO fields are not listed. -/
inductive Access where
  | rw | w1c | wo | rc | rwl
deriving DecidableEq, Repr

/-- A writable field: bits `[hi:lo]`, code, range, reserved encodings. -/
structure Field where
  hi : Nat
  lo : Nat
  acc : Access
  min : Nat
  max : Nat
  reserved : List Nat
deriving DecidableEq, Repr

/-- A register or an array of them: `base + i·s1 + j·s2` for `i < c1`, `j < c2`. -/
structure RegRow where
  base : Nat
  s1 : Nat
  c1 : Nat
  s2 : Nat
  c2 : Nat
  reset : Nat
  /-- a write takes effect at the next beat boundary -/
  atBoundary : Bool
  fields : List Field
deriving DecidableEq, Repr

/-- `off` is an element of the row. -/
def RegRow.holds (r : RegRow) (off : Nat) : Bool :=
  if off < r.base then false
  else
    let d := off - r.base
    let i := if r.s1 = 0 then 0 else d / r.s1
    let e := d - i * r.s1
    let j := if r.s2 = 0 then 0 else e / r.s2
    decide (e = j * r.s2) && decide (i < r.c1) && decide (j < r.c2)

/-! Register offsets. -/

def Reg.GLB_IDENT : Nat := 0x000000
def Reg.GLB_FWREV : Nat := 0x000004
def Reg.GLB_DEV_STATE : Nat := 0x000008
def Reg.GLB_CH_PRESENT : Nat := 0x00000C
def Reg.GLB_BEAT_LO : Nat := 0x000010
def Reg.GLB_BEAT_HI : Nat := 0x000014
def Reg.GLB_DRAM_PRESENT : Nat := 0x000018
def Reg.GLB_STICKY : Nat := 0x000020
def Reg.HIF_LINK_STAT (i : Nat) : Nat := 0x010000 + 0x100 * i
def Reg.HIF_LINK_CTL (i : Nat) : Nat := 0x010004 + 0x100 * i
def Reg.HIF_TAG_LIMIT (i : Nat) : Nat := 0x010008 + 0x100 * i
def Reg.HIF_ERR (i : Nat) : Nat := 0x01000C + 0x100 * i
def Reg.HIF_ERR_CNT (i : Nat) : Nat := 0x010010 + 0x100 * i
def Reg.HIF_PORT_CFG : Nat := 0x010200
def Reg.HIF_ATC_STAT : Nat := 0x010204
def Reg.QMG_CAP : Nat := 0x020000
def Reg.QMG_ARB : Nat := 0x020004
def Reg.QMG_INFLIGHT : Nat := 0x020008
def Reg.QMG_RESERVE : Nat := 0x02000C
def Reg.QMG_ERR : Nat := 0x020010
def Reg.QMG_ERR_QID : Nat := 0x020014
def Reg.QMG_QSEL : Nat := 0x020020
def Reg.QMG_QCMD : Nat := 0x020024
def Reg.QMG_QDATA (i : Nat) : Nat := 0x020030 + 0x4 * i
def Reg.QMG_IMTSEL : Nat := 0x020050
def Reg.QMG_IMTCMD : Nat := 0x020054
def Reg.QMG_IMTDATA (i : Nat) : Nat := 0x020060 + 0x4 * i
def Reg.INS_CTL : Nat := 0x040000
def Reg.INS_FETCH_BEAT : Nat := 0x040004
def Reg.INS_MTOK_BEAT : Nat := 0x040008
def Reg.INS_BUCKET_DEPTH : Nat := 0x04000C
def Reg.INS_SHARE_SUM : Nat := 0x040010
def Reg.INS_RESET_PEND : Nat := 0x040014
def Reg.INS_STAT (n : Nat) : Nat := 0x050000 + 0x40 * n
def Reg.INS_SHARE (n : Nat) : Nat := 0x050004 + 0x40 * n
def Reg.INS_INFLIGHT (n : Nat) : Nat := 0x050008 + 0x40 * n
def Reg.INS_ERR (n : Nat) : Nat := 0x05000C + 0x40 * n
def Reg.INS_DLOG_STAT (n : Nat) : Nat := 0x050010 + 0x40 * n
def Reg.INS_PASID (n : Nat) : Nat := 0x050014 + 0x40 * n
def Reg.INS_CMD_DEADLINE (n : Nat) : Nat := 0x050018 + 0x40 * n
def Reg.INS_CARRY (n : Nat) : Nat := 0x05001C + 0x40 * n
def Reg.INS_CARRY_CNT (n : Nat) : Nat := 0x050020 + 0x40 * n
def Reg.INS_FTOK (n : Nat) : Nat := 0x050024 + 0x40 * n
def Reg.INS_MTOK (n : Nat) : Nat := 0x050028 + 0x40 * n
def Reg.MED_CH_STAT (n : Nat) : Nat := 0x080000 + 0x4000 * n
def Reg.MED_CH_CTL (n : Nat) : Nat := 0x080004 + 0x4000 * n
def Reg.MED_RD_TARGET (n : Nat) : Nat := 0x080008 + 0x4000 * n
def Reg.MED_OP_TIMEOUT (n : Nat) : Nat := 0x08000C + 0x4000 * n
def Reg.MED_SCHED (n : Nat) : Nat := 0x080010 + 0x4000 * n
def Reg.MED_ERR (n : Nat) : Nat := 0x080014 + 0x4000 * n
def Reg.MED_ERR_LOC (n : Nat) : Nat := 0x080018 + 0x4000 * n
def Reg.MED_CW_READ_LO (n : Nat) : Nat := 0x080020 + 0x4000 * n
def Reg.MED_CW_READ_HI (n : Nat) : Nat := 0x080024 + 0x4000 * n
def Reg.MED_CW_PROG_LO (n : Nat) : Nat := 0x080028 + 0x4000 * n
def Reg.MED_CW_PROG_HI (n : Nat) : Nat := 0x08002C + 0x4000 * n
def Reg.MED_RETRY_CNT (n : Nat) : Nat := 0x080030 + 0x4000 * n
def Reg.MED_SOFT_CNT (n : Nat) : Nat := 0x080034 + 0x4000 * n
def Reg.MED_PARITY_CNT (n : Nat) : Nat := 0x080038 + 0x4000 * n
def Reg.MED_UNCORR_CNT (n : Nat) : Nat := 0x08003C + 0x4000 * n
def Reg.MED_SUSP_CNT (n : Nat) : Nat := 0x080040 + 0x4000 * n
def Reg.MED_BP_CNT (n : Nat) : Nat := 0x080044 + 0x4000 * n
def Reg.MED_LUN_STAT (n : Nat) (i : Nat) : Nat := 0x080100 + 0x4000 * n + 0x4 * i
def Reg.MED_POOL_STAT (n : Nat) : Nat := 0x083F00 + 0x4000 * n
def Reg.MED_DP_STAT (n : Nat) : Nat := 0x083F08 + 0x4000 * n
def Reg.FTL_MAP_STAT : Nat := 0x100000
def Reg.FTL_SPLINTER_THR : Nat := 0x100004
def Reg.FTL_SPLINTER_WIN : Nat := 0x100008
def Reg.FTL_COALESCE_THR : Nat := 0x10000C
def Reg.FTL_GRAIN_CFG : Nat := 0x100010
def Reg.FTL_GRAIN_CAP : Nat := 0x100014
def Reg.FTL_GRAIN_USED : Nat := 0x100018
def Reg.FTL_GRAIN_HIGH : Nat := 0x10001C
def Reg.FTL_SPLINTERED : Nat := 0x100020
def Reg.FTL_WB_CFG : Nat := 0x100024
def Reg.FTL_WB_STAT : Nat := 0x100028
def Reg.FTL_MAP_ERR : Nat := 0x10002C
def Reg.FTL_MAP_ERR_LOC : Nat := 0x100030
def Reg.FTL_RMW_CNT : Nat := 0x100034
def Reg.FTL_SPLINTER_CNT : Nat := 0x100038
def Reg.FTL_COALESCE_CNT : Nat := 0x10003C
def Reg.FTL_SHELF_CFG : Nat := 0x100100
def Reg.FTL_SHELF_STAT : Nat := 0x100104
def Reg.FTL_SHELF_DIRECT : Nat := 0x100108
def Reg.FTL_FOLD_CTL : Nat := 0x10010C
def Reg.FTL_FOLD_CNT : Nat := 0x100110
def Reg.FTL_DRW_STAT : Nat := 0x100200
def Reg.FTL_DRW_NEED : Nat := 0x100204
def Reg.FTL_DRW_HOMED : Nat := 0x100208
def Reg.FTL_DRW_READS : Nat := 0x10020C
def Reg.FTL_DRW_SEALFAIL : Nat := 0x100210
def Reg.FTL_DRW_BAD : Nat := 0x100214
def Reg.FTL_GC_CTL : Nat := 0x100400
def Reg.FTL_GC_AGE : Nat := 0x100404
def Reg.FTL_GC_STAT : Nat := 0x100408
def Reg.FTL_GC_CNT : Nat := 0x10040C
def Reg.FTL_HOST_PROG_LO : Nat := 0x100410
def Reg.FTL_HOST_PROG_HI : Nat := 0x100414
def Reg.FTL_INT_PROG_LO : Nat := 0x100418
def Reg.FTL_INT_PROG_HI : Nat := 0x10041C
def Reg.FTL_GATE_REFUSED : Nat := 0x100420
def Reg.FTL_PINNED : Nat := 0x100424
def Reg.FTL_WL_SPREAD : Nat := 0x100500
def Reg.FTL_WL_PERIOD : Nat := 0x100504
def Reg.FTL_WL_BATCH : Nat := 0x100508
def Reg.FTL_WL_STAT : Nat := 0x10050C
def Reg.FTL_WL_CNT : Nat := 0x100510
def Reg.FTL_RD_SCALE : Nat := 0x100600
def Reg.FTL_PATROL_ROWS : Nat := 0x100604
def Reg.FTL_REFRESH_PEND : Nat := 0x100608
def Reg.FTL_REFRESH_CNT : Nat := 0x10060C
def Reg.FTL_SPARE_CFG : Nat := 0x100700
def Reg.FTL_SPARE_STAT : Nat := 0x100704
def Reg.FTL_GOOD_ROWS : Nat := 0x100708
def Reg.FTL_REQ_ROWS : Nat := 0x10070C
def Reg.FTL_FMT_ROWS : Nat := 0x100710
def Reg.FTL_RETIRED : Nat := 0x100714
def Reg.FTL_CARE_ERR : Nat := 0x100718
def Reg.FTL_CARE_ERR_LOC : Nat := 0x10071C
def Reg.FTL_RELOC_STAT : Nat := 0x100720
def Reg.CHS_STAT : Nat := 0x120000
def Reg.CHS_ERR : Nat := 0x120004
def Reg.CHS_ERR_LOC : Nat := 0x120008
def Reg.CHS_ECC_CNT : Nat := 0x12000C
def Reg.CHS_CKPT_PERIOD : Nat := 0x120010
def Reg.CHS_CKPT_CTL : Nat := 0x120014
def Reg.CHS_CKPT_BEAT_LO : Nat := 0x120018
def Reg.CHS_CKPT_BEAT_HI : Nat := 0x12001C
def Reg.CHS_REBUILD_WAIT : Nat := 0x120020
def Reg.CHS_REBUILD_STAT : Nat := 0x120024
def Reg.CHS_REBUILD_PROMO : Nat := 0x120028
def Reg.CHS_REBUILD_PEND : Nat := 0x12002C
def Reg.CHS_PLP_CFG : Nat := 0x120030
def Reg.CHS_PLP_STAT : Nat := 0x120034
def Reg.CHS_FLUSH_TIME : Nat := 0x120038
def Reg.CHS_LOST_SLOTS : Nat := 0x12003C
def Reg.STR_STAT (n : Nat) : Nat := 0x140000 + 0x2000 * n
def Reg.STR_CTL (n : Nat) : Nat := 0x140004 + 0x2000 * n
def Reg.STR_BUDGET_DFLT (n : Nat) : Nat := 0x140008 + 0x2000 * n
def Reg.STR_ERR (n : Nat) : Nat := 0x14000C + 0x2000 * n
def Reg.STR_ERR_LOC (n : Nat) : Nat := 0x140010 + 0x2000 * n
def Reg.STR_LEAF_CNT (n : Nat) : Nat := 0x140014 + 0x2000 * n
def Reg.STR_SKIP_CNT (n : Nat) : Nat := 0x140018 + 0x2000 * n
def Reg.STR_OVERRUN_CNT (n : Nat) : Nat := 0x14001C + 0x2000 * n
def Reg.STR_TRAP_CNT (n : Nat) : Nat := 0x140020 + 0x2000 * n
def Reg.STR_CYC_LO (n : Nat) : Nat := 0x140028 + 0x2000 * n
def Reg.STR_CYC_HI (n : Nat) : Nat := 0x14002C + 0x2000 * n
def Reg.STR_BEAD_STAT (n : Nat) (i : Nat) : Nat := 0x140100 + 0x2000 * n + 0x10 * i
def Reg.STR_BEAD_CMD (n : Nat) (i : Nat) : Nat := 0x140104 + 0x2000 * n + 0x10 * i
def Reg.STR_BEAD_TRAP (n : Nat) (i : Nat) : Nat := 0x140108 + 0x2000 * n + 0x10 * i
def Reg.STR_PRED_REC (n : Nat) : Nat := 0x140200 + 0x2000 * n
def Reg.STR_PRED_SEL (n : Nat) : Nat := 0x140204 + 0x2000 * n
def Reg.STR_MOV_LO (n : Nat) : Nat := 0x140300 + 0x2000 * n
def Reg.STR_MOV_HI (n : Nat) : Nat := 0x140304 + 0x2000 * n
def Reg.CLP_STAT : Nat := 0x180000
def Reg.CLP_ERR : Nat := 0x180004
def Reg.CLP_ERR_LOC : Nat := 0x180008
def Reg.CLP_WAIT_CNT : Nat := 0x18000C
def Reg.CLP_REC_LO : Nat := 0x180010
def Reg.CLP_REC_HI : Nat := 0x180014
def Reg.PRS_STAT (n : Nat) : Nat := 0x140400 + 0x2000 * n
def Reg.PRS_CTL (n : Nat) : Nat := 0x140404 + 0x2000 * n
def Reg.PRS_MIN_SAVING (n : Nat) : Nat := 0x140408 + 0x2000 * n
def Reg.PRS_ERR (n : Nat) : Nat := 0x14040C + 0x2000 * n
def Reg.PRS_ERR_LOC (n : Nat) : Nat := 0x140410 + 0x2000 * n
def Reg.PRS_JOB_LO (n : Nat) : Nat := 0x140414 + 0x2000 * n
def Reg.PRS_JOB_HI (n : Nat) : Nat := 0x140418 + 0x2000 * n
def Reg.PRS_IN_LO (n : Nat) : Nat := 0x140420 + 0x2000 * n
def Reg.PRS_IN_HI (n : Nat) : Nat := 0x140424 + 0x2000 * n
def Reg.PRS_OUT_LO (n : Nat) : Nat := 0x140428 + 0x2000 * n
def Reg.PRS_OUT_HI (n : Nat) : Nat := 0x14042C + 0x2000 * n
def Reg.PRS_DCMP_CNT (n : Nat) : Nat := 0x140430 + 0x2000 * n
def Reg.PRS_RAW_CNT (n : Nat) : Nat := 0x140434 + 0x2000 * n
def Reg.PRS_NC_CNT (n : Nat) : Nat := 0x140438 + 0x2000 * n
def Reg.PRS_DIRECT_CNT (n : Nat) : Nat := 0x14043C + 0x2000 * n
def Reg.IDX_STAT : Nat := 0x190000
def Reg.IDX_CFG : Nat := 0x190004
def Reg.IDX_CAP : Nat := 0x190008
def Reg.IDX_USED : Nat := 0x19000C
def Reg.IDX_DIR_USED : Nat := 0x190010
def Reg.IDX_ERR : Nat := 0x190014
def Reg.IDX_ERR_LOC : Nat := 0x190018
def Reg.IDX_FULL_CNT : Nat := 0x19001C
def Reg.IDX_LOOKUP_CNT : Nat := 0x190020
def Reg.IDX_BLOOM_SKIP : Nat := 0x190024
def Reg.IDX_DIR_SKIP : Nat := 0x190028
def Reg.IDX_KVNS (i : Nat) : Nat := 0x190100 + 0x4 * i
def Reg.SHD_STAT : Nat := 0x1A0000
def Reg.SHD_ERR : Nat := 0x1A0004
def Reg.SHD_ERR_LOC : Nat := 0x1A0008
def Reg.SHD_JOB_CNT : Nat := 0x1A000C
def Reg.SHD_FAIL_CNT : Nat := 0x1A0010
def Reg.SHD_IN_LO : Nat := 0x1A0018
def Reg.SHD_IN_HI : Nat := 0x1A001C
def Reg.SHD_OUT_LO : Nat := 0x1A0020
def Reg.SHD_OUT_HI : Nat := 0x1A0024
def Reg.KS_LOCK : Nat := 0x1B0000
def Reg.KS_RELEASE : Nat := 0x1B0004
def Reg.KS_STAT : Nat := 0x1B0008
def Reg.KS_ERR : Nat := 0x1B000C
def Reg.KS_ERR_LOC : Nat := 0x1B0010
def Reg.KS_IDLE_TO : Nat := 0x1B0014
def Reg.KS_ACT : Nat := 0x1B0018
def Reg.KS_KEY (i : Nat) : Nat := 0x1B0020 + 0x4 * i
def Reg.KS_SLOT_CMD : Nat := 0x1B0040
def Reg.KS_SLOT (i : Nat) : Nat := 0x1B0100 + 0x4 * i
def Reg.KS_GCM_CNT (i : Nat) : Nat := 0x1B0200 + 0x4 * i
def Reg.DG_CTL : Nat := 0x1B0400
def Reg.DG_STAT : Nat := 0x1B0404
def Reg.DG_ERR : Nat := 0x1B0408
def Reg.DG_DATA : Nat := 0x1B040C
def Reg.DG_LAST_LO : Nat := 0x1B0410
def Reg.DG_LAST_HI : Nat := 0x1B0414
def Reg.DG_LEN_LO : Nat := 0x1B0418
def Reg.DG_LEN_HI : Nat := 0x1B041C
def Reg.DG_COUNT_LO : Nat := 0x1B0420
def Reg.DG_COUNT_HI : Nat := 0x1B0424
def Reg.DG_EXP (i : Nat) : Nat := 0x1B0440 + 0x4 * i
def Reg.DG_RES (i : Nat) : Nat := 0x1B0480 + 0x4 * i
def Reg.CI_DESC_LO : Nat := 0x1B0600
def Reg.CI_DESC_HI : Nat := 0x1B0604
def Reg.CI_STAT : Nat := 0x1B0608
def Reg.CI_ERR : Nat := 0x1B060C
def Reg.CI_BYTES_LO : Nat := 0x1B0610
def Reg.CI_BYTES_HI : Nat := 0x1B0614
def Reg.CI_JOB_CNT : Nat := 0x1B0618
def Reg.CAR_STAT : Nat := 0x1C0000
def Reg.CAR_ERR : Nat := 0x1C0004
def Reg.CAR_ERR_LOC : Nat := 0x1C0008
def Reg.CAR_PW_LOCKOUT : Nat := 0x1C000C
def Reg.CAR_PW_FAILS : Nat := 0x1C0010
def Reg.CAR_BOOT : Nat := 0x1C0014
def Reg.CAR_SEL_SEQ : Nat := 0x1C0018
def Reg.CAR_ECC_CNT : Nat := 0x1C001C
def Reg.CAR_OP_CNT : Nat := 0x1C0020
def Reg.CAR_ECNT_SEL : Nat := 0x1C0024
def Reg.CAR_ECNT : Nat := 0x1C0028
def Reg.CAR_PROT (i : Nat) : Nat := 0x1C0080 + 0x4 * i
def Reg.CAR_SUSPECT (i : Nat) : Nat := 0x1C0100 + 0x4 * i
def Reg.DRC_STAT (n : Nat) : Nat := 0x1D0000 + 0x2000 * n
def Reg.DRC_CFG (n : Nat) : Nat := 0x1D0004 + 0x2000 * n
def Reg.DRC_RH_THR (n : Nat) : Nat := 0x1D0008 + 0x2000 * n
def Reg.DRC_RH_PROB (n : Nat) : Nat := 0x1D000C + 0x2000 * n
def Reg.DRC_SR_CTL (n : Nat) : Nat := 0x1D0010 + 0x2000 * n
def Reg.DRC_ERR (n : Nat) : Nat := 0x1D0014 + 0x2000 * n
def Reg.DRC_ERR_LOC (n : Nat) : Nat := 0x1D0018 + 0x2000 * n
def Reg.DRC_RH_TRR_CNT (n : Nat) : Nat := 0x1D001C + 0x2000 * n
def Reg.DRC_RH_RFM_CNT (n : Nat) : Nat := 0x1D0020 + 0x2000 * n
def Reg.DRC_DSET_CNT (n : Nat) : Nat := 0x1D0024 + 0x2000 * n
def Reg.DRC_SR_CNT (n : Nat) : Nat := 0x1D0028 + 0x2000 * n
def Reg.DRC_RD_LO (n : Nat) : Nat := 0x1D0030 + 0x2000 * n
def Reg.DRC_RD_HI (n : Nat) : Nat := 0x1D0034 + 0x2000 * n
def Reg.DRC_WR_LO (n : Nat) : Nat := 0x1D0038 + 0x2000 * n
def Reg.DRC_WR_HI (n : Nat) : Nat := 0x1D003C + 0x2000 * n
def Reg.DRC_TIM (n : Nat) (i : Nat) : Nat := 0x1D0100 + 0x2000 * n + 0x4 * i
def Reg.MEP_CTL : Nat := 0x1F0000
def Reg.MEP_SCRUB_PERIOD : Nat := 0x1F0004
def Reg.MEP_SCRUB_STAT : Nat := 0x1F0008
def Reg.MEP_SEALED_CFG : Nat := 0x1F000C
def Reg.MEP_ERR : Nat := 0x1F0010
def Reg.MEP_ERR_LOC : Nat := 0x1F0014
def Reg.MEP_REMAP_THR : Nat := 0x1F0018
def Reg.MEP_CE_LINE (i : Nat) : Nat := 0x1F0100 + 0x20 * i
def Reg.MEP_CE_SYND (i : Nat) : Nat := 0x1F0104 + 0x20 * i
def Reg.MEP_UE_LINE (i : Nat) : Nat := 0x1F0108 + 0x20 * i
def Reg.MEP_UE_INFO (i : Nat) : Nat := 0x1F010C + 0x20 * i
def Reg.MEP_CE_CNT (i : Nat) : Nat := 0x1F0110 + 0x20 * i
def Reg.MEP_UE_CNT (i : Nat) : Nat := 0x1F0114 + 0x20 * i
def Reg.MEP_REMAP (i : Nat) : Nat := 0x1F0118 + 0x20 * i
def Reg.MEP_SRAM_MACRO : Nat := 0x1F0200
def Reg.MEP_SRAM_WORD : Nat := 0x1F0204
def Reg.MEP_SRAM_CE_CNT : Nat := 0x1F0208
def Reg.MEP_SRAM_UE_CNT : Nat := 0x1F020C
def Reg.MEP_SRAM_REMAP : Nat := 0x1F0210
def Reg.RST_CAUSE : Nat := 0x210000
def Reg.RST_CTL : Nat := 0x210004
def Reg.RST_BOOT_STAT : Nat := 0x210008
def Reg.RST_ERR : Nat := 0x21000C
def Reg.RST_CNT : Nat := 0x210010
def Reg.PWR_STAT : Nat := 0x200000
def Reg.PWR_LAT_TOL (i : Nat) : Nat := 0x200004 + 0x100 * i
def Reg.PWR_PS_LIMIT (i : Nat) : Nat := 0x200008 + 0x100 * i
def Reg.PWR_HYST1 : Nat := 0x200010
def Reg.PWR_HYST2 : Nat := 0x200014
def Reg.PWR_HYST3 : Nat := 0x200018
def Reg.PWR_HYST4 : Nat := 0x20001C
def Reg.PWR_RES (i : Nat) : Nat := 0x200020 + 0x4 * i
def Reg.PWR_TRANS_CNT : Nat := 0x200040
def Reg.TMR_WDT_PERIOD : Nat := 0x220000
def Reg.TMR_WDT_CTL : Nat := 0x220004
def Reg.TMR_WDT_STAT : Nat := 0x220008
def Reg.TMP_STAT : Nat := 0x230000
def Reg.TMP_THR : Nat := 0x230004
def Reg.TMP_STEP : Nat := 0x230008
def Reg.TMP_MED_BAND : Nat := 0x23000C
def Reg.TMP_ERR : Nat := 0x230010
def Reg.TMP_THROT_TIME : Nat := 0x230014
def Reg.TMP_SENSOR (i : Nat) : Nat := 0x230100 + 0x4 * i

/-- GLB_IDENT to INS_CMD_DEADLINE. -/
def regRows0 : List RegRow := [
  ⟨0x000000, 0x0, 1, 0x0, 1, 0x64321100, false, []⟩,
  ⟨0x010004, 0x0, 1, 0x100, 2, 0x00000006, false, [⟨8, 8, .wo, 0, 1, []⟩, ⟨3, 0, .rw, 0, 15, [0, 7, 8, 9, 10, 11, 12, 13, 14, 15]⟩]⟩,
  ⟨0x010008, 0x0, 1, 0x100, 2, 0x00000400, false, [⟨10, 0, .rw, 32, 1024, []⟩]⟩,
  ⟨0x01000C, 0x0, 1, 0x100, 2, 0x00000000, false, [⟨11, 11, .w1c, 0, 1, []⟩, ⟨10, 10, .w1c, 0, 1, []⟩, ⟨9, 9, .w1c, 0, 1, []⟩, ⟨8, 8, .w1c, 0, 1, []⟩, ⟨7, 7, .w1c, 0, 1, []⟩, ⟨6, 6, .w1c, 0, 1, []⟩, ⟨5, 5, .w1c, 0, 1, []⟩, ⟨4, 4, .w1c, 0, 1, []⟩, ⟨3, 3, .w1c, 0, 1, []⟩, ⟨2, 2, .w1c, 0, 1, []⟩, ⟨0, 0, .w1c, 0, 1, []⟩]⟩,
  ⟨0x010010, 0x0, 1, 0x100, 2, 0x00000000, false, [⟨31, 16, .rc, 0, 65535, []⟩, ⟨15, 0, .rc, 0, 65535, []⟩]⟩,
  ⟨0x010200, 0x0, 1, 0x0, 1, 0x00000000, true, [⟨0, 0, .rw, 0, 1, []⟩]⟩,
  ⟨0x020000, 0x0, 1, 0x0, 1, 0x40000040, false, []⟩,
  ⟨0x020004, 0x0, 1, 0x0, 1, 0x00000008, true, [⟨6, 0, .rw, 1, 64, []⟩]⟩,
  ⟨0x02000C, 0x0, 1, 0x0, 1, 0x00000100, true, [⟨12, 0, .rw, 0, 4096, []⟩]⟩,
  ⟨0x020010, 0x0, 1, 0x0, 1, 0x00000000, false, [⟨4, 4, .w1c, 0, 1, []⟩, ⟨3, 3, .w1c, 0, 1, []⟩, ⟨2, 2, .w1c, 0, 1, []⟩, ⟨1, 1, .w1c, 0, 1, []⟩, ⟨0, 0, .w1c, 0, 1, []⟩]⟩,
  ⟨0x020020, 0x0, 1, 0x0, 1, 0x00000000, false, [⟨31, 31, .rw, 0, 1, []⟩, ⟨13, 0, .rw, 0, 16383, []⟩]⟩,
  ⟨0x020024, 0x0, 1, 0x0, 1, 0x00000000, false, [⟨0, 0, .wo, 0, 1, []⟩]⟩,
  ⟨0x020050, 0x0, 1, 0x0, 1, 0x00000000, false, [⟨13, 0, .rw, 0, 16383, []⟩]⟩,
  ⟨0x020054, 0x0, 1, 0x0, 1, 0x00000000, false, [⟨1, 0, .wo, 0, 3, []⟩]⟩,
  ⟨0x020060, 0x0, 1, 0x0, 1, 0x00000000, false, [⟨31, 2, .rw, 0, 1073741823, []⟩]⟩,
  ⟨0x020064, 0x0, 1, 0x0, 1, 0x00000000, false, [⟨31, 0, .rw, 0, 4294967295, []⟩]⟩,
  ⟨0x020068, 0x0, 1, 0x0, 1, 0x00000000, false, [⟨31, 0, .rw, 0, 4294967295, []⟩]⟩,
  ⟨0x02006C, 0x0, 1, 0x0, 1, 0x00000000, false, [⟨31, 31, .rw, 0, 1, []⟩, ⟨29, 29, .rw, 0, 1, []⟩, ⟨25, 16, .rw, 0, 1023, []⟩]⟩,
  ⟨0x040000, 0x0, 1, 0x0, 1, 0x00000001, true, [⟨0, 0, .rw, 0, 1, []⟩]⟩,
  ⟨0x040004, 0x0, 1, 0x0, 1, 0x00000040, true, [⟨12, 0, .rw, 1, 4096, []⟩]⟩,
  ⟨0x040008, 0x0, 1, 0x0, 1, 0x0000005B, true, [⟨15, 0, .rw, 1, 65535, []⟩]⟩,
  ⟨0x04000C, 0x0, 1, 0x0, 1, 0x00000040, true, [⟨12, 0, .rw, 1, 4096, []⟩]⟩,
  ⟨0x05000C, 0x40, 1024, 0x0, 1, 0x00000000, false, [⟨15, 8, .w1c, 0, 255, []⟩, ⟨5, 5, .w1c, 0, 1, []⟩, ⟨4, 4, .w1c, 0, 1, []⟩, ⟨3, 3, .w1c, 0, 1, []⟩, ⟨2, 2, .w1c, 0, 1, []⟩, ⟨1, 1, .w1c, 0, 1, []⟩, ⟨0, 0, .w1c, 0, 1, []⟩]⟩,
  ⟨0x050018, 0x40, 1024, 0x0, 1, 0x000001F4, true, [⟨15, 0, .rw, 1, 60000, []⟩]⟩]

/-- MED_CH_STAT to FTL_FOLD_CTL. -/
def regRows1 : List RegRow := [
  ⟨0x080000, 0x4000, 32, 0x0, 1, 0x0000FF00, false, []⟩,
  ⟨0x080004, 0x4000, 32, 0x0, 1, 0x00000002, false, [⟨8, 8, .wo, 0, 1, []⟩, ⟨1, 1, .rw, 0, 1, []⟩]⟩,
  ⟨0x080008, 0x4000, 32, 0x0, 1, 0x000003E8, true, [⟨16, 0, .rw, 100, 100000, []⟩]⟩,
  ⟨0x08000C, 0x4000, 32, 0x0, 1, 0x00000032, true, [⟨9, 0, .rw, 1, 1000, []⟩]⟩,
  ⟨0x080010, 0x4000, 32, 0x0, 1, 0x00000022, true, [⟨7, 4, .rw, 0, 8, []⟩, ⟨3, 0, .rw, 0, 8, []⟩]⟩,
  ⟨0x080014, 0x4000, 32, 0x0, 1, 0x00000000, false, [⟨9, 9, .w1c, 0, 1, []⟩, ⟨8, 8, .w1c, 0, 1, []⟩, ⟨7, 7, .w1c, 0, 1, []⟩, ⟨6, 6, .w1c, 0, 1, []⟩, ⟨5, 5, .w1c, 0, 1, []⟩, ⟨4, 4, .w1c, 0, 1, []⟩, ⟨3, 3, .w1c, 0, 1, []⟩, ⟨2, 2, .w1c, 0, 1, []⟩, ⟨1, 1, .w1c, 0, 1, []⟩, ⟨0, 0, .w1c, 0, 1, []⟩]⟩,
  ⟨0x080030, 0x4000, 32, 0x0, 1, 0x00000000, false, [⟨31, 0, .rc, 0, 4294967295, []⟩]⟩,
  ⟨0x080034, 0x4000, 32, 0x0, 1, 0x00000000, false, [⟨31, 0, .rc, 0, 4294967295, []⟩]⟩,
  ⟨0x080038, 0x4000, 32, 0x0, 1, 0x00000000, false, [⟨31, 0, .rc, 0, 4294967295, []⟩]⟩,
  ⟨0x08003C, 0x4000, 32, 0x0, 1, 0x00000000, false, [⟨31, 0, .rc, 0, 4294967295, []⟩]⟩,
  ⟨0x080040, 0x4000, 32, 0x0, 1, 0x00000000, false, [⟨31, 16, .rc, 0, 65535, []⟩, ⟨15, 0, .rc, 0, 65535, []⟩]⟩,
  ⟨0x080044, 0x4000, 32, 0x0, 1, 0x00000000, false, [⟨31, 0, .rc, 0, 4294967295, []⟩]⟩,
  ⟨0x100004, 0x0, 1, 0x0, 1, 0x00000008, true, [⟨7, 0, .rw, 1, 255, []⟩]⟩,
  ⟨0x100008, 0x0, 1, 0x0, 1, 0x00100000, false, [⟨24, 0, .rw, 65536, 16777216, []⟩]⟩,
  ⟨0x10000C, 0x0, 1, 0x0, 1, 0x00000001, true, [⟨7, 0, .rw, 0, 254, []⟩]⟩,
  ⟨0x100010, 0x0, 1, 0x0, 1, 0x00000010, false, [⟨4, 0, .rw, 1, 16, []⟩]⟩,
  ⟨0x10001C, 0x0, 1, 0x0, 1, 0x0000000F, true, [⟨3, 0, .rw, 8, 15, []⟩]⟩,
  ⟨0x100024, 0x0, 1, 0x0, 1, 0x00000008, false, [⟨5, 0, .rw, 2, 32, []⟩]⟩,
  ⟨0x10002C, 0x0, 1, 0x0, 1, 0x00000000, false, [⟨5, 5, .w1c, 0, 1, []⟩, ⟨4, 4, .w1c, 0, 1, []⟩, ⟨3, 3, .w1c, 0, 1, []⟩, ⟨2, 2, .w1c, 0, 1, []⟩, ⟨1, 1, .w1c, 0, 1, []⟩, ⟨0, 0, .w1c, 0, 1, []⟩]⟩,
  ⟨0x100034, 0x0, 1, 0x0, 1, 0x00000000, false, [⟨31, 0, .rc, 0, 4294967295, []⟩]⟩,
  ⟨0x100038, 0x0, 1, 0x0, 1, 0x00000000, false, [⟨31, 0, .rc, 0, 4294967295, []⟩]⟩,
  ⟨0x10003C, 0x0, 1, 0x0, 1, 0x00000000, false, [⟨31, 0, .rc, 0, 4294967295, []⟩]⟩,
  ⟨0x100100, 0x0, 1, 0x0, 1, 0x0000001E, true, [⟨6, 0, .rw, 10, 100, []⟩]⟩,
  ⟨0x10010C, 0x0, 1, 0x0, 1, 0x00000084, true, [⟨7, 4, .rw, 1, 15, []⟩, ⟨3, 0, .rw, 0, 14, []⟩]⟩]

/-- FTL_FOLD_CNT to CHS_PLP_CFG. -/
def regRows2 : List RegRow := [
  ⟨0x100110, 0x0, 1, 0x0, 1, 0x00000000, false, [⟨31, 0, .rc, 0, 4294967295, []⟩]⟩,
  ⟨0x10020C, 0x0, 1, 0x0, 1, 0x00000000, false, [⟨31, 0, .rc, 0, 4294967295, []⟩]⟩,
  ⟨0x100210, 0x0, 1, 0x0, 1, 0x00000000, false, [⟨31, 0, .rc, 0, 4294967295, []⟩]⟩,
  ⟨0x100400, 0x0, 1, 0x0, 1, 0x04008020, true, [⟨31, 24, .rw, 2, 255, []⟩, ⟨23, 12, .rw, 4, 512, []⟩, ⟨11, 0, .rw, 8, 1024, []⟩]⟩,
  ⟨0x100404, 0x0, 1, 0x0, 1, 0x10000004, true, [⟨31, 16, .rw, 1, 65535, []⟩, ⟨3, 0, .rw, 0, 15, []⟩]⟩,
  ⟨0x10040C, 0x0, 1, 0x0, 1, 0x00000000, false, [⟨31, 0, .rc, 0, 4294967295, []⟩]⟩,
  ⟨0x100420, 0x0, 1, 0x0, 1, 0x00000000, false, [⟨31, 0, .rc, 0, 4294967295, []⟩]⟩,
  ⟨0x100500, 0x0, 1, 0x0, 1, 0x00000100, true, [⟨15, 0, .rw, 16, 65535, []⟩]⟩,
  ⟨0x100504, 0x0, 1, 0x0, 1, 0x000000F0, true, [⟨13, 0, .rw, 10, 10080, []⟩]⟩,
  ⟨0x100508, 0x0, 1, 0x0, 1, 0x00000040, true, [⟨12, 0, .rw, 1, 4096, []⟩]⟩,
  ⟨0x100510, 0x0, 1, 0x0, 1, 0x00000000, false, [⟨31, 0, .rc, 0, 4294967295, []⟩]⟩,
  ⟨0x100600, 0x0, 1, 0x0, 1, 0x00000010, true, [⟨4, 0, .rw, 4, 16, []⟩]⟩,
  ⟨0x100604, 0x0, 1, 0x0, 1, 0x00000400, true, [⟨15, 0, .rw, 0, 65535, []⟩]⟩,
  ⟨0x10060C, 0x0, 1, 0x0, 1, 0x00000000, false, [⟨31, 0, .rc, 0, 4294967295, []⟩]⟩,
  ⟨0x100700, 0x0, 1, 0x0, 1, 0x00000A02, true, [⟨15, 8, .rw, 1, 50, []⟩, ⟨7, 0, .rw, 0, 25, []⟩]⟩,
  ⟨0x100718, 0x0, 1, 0x0, 1, 0x00000000, false, [⟨5, 5, .w1c, 0, 1, []⟩, ⟨4, 4, .w1c, 0, 1, []⟩, ⟨3, 3, .w1c, 0, 1, []⟩, ⟨2, 2, .w1c, 0, 1, []⟩, ⟨1, 1, .w1c, 0, 1, []⟩, ⟨0, 0, .w1c, 0, 1, []⟩]⟩,
  ⟨0x120004, 0x0, 1, 0x0, 1, 0x00000000, false, [⟨6, 6, .w1c, 0, 1, []⟩, ⟨5, 5, .w1c, 0, 1, []⟩, ⟨4, 4, .w1c, 0, 1, []⟩, ⟨3, 3, .w1c, 0, 1, []⟩, ⟨2, 2, .w1c, 0, 1, []⟩, ⟨1, 1, .w1c, 0, 1, []⟩, ⟨0, 0, .w1c, 0, 1, []⟩]⟩,
  ⟨0x12000C, 0x0, 1, 0x0, 1, 0x00000000, false, [⟨31, 0, .rc, 0, 4294967295, []⟩]⟩,
  ⟨0x120010, 0x0, 1, 0x0, 1, 0x00400000, true, [⟨26, 0, .rw, 262144, 67108864, []⟩]⟩,
  ⟨0x120014, 0x0, 1, 0x0, 1, 0x00000008, true, [⟨8, 8, .wo, 0, 1, []⟩, ⟨3, 0, .rw, 4, 12, []⟩]⟩,
  ⟨0x120020, 0x0, 1, 0x0, 1, 0x000000C8, true, [⟨13, 0, .rw, 1, 10000, []⟩]⟩,
  ⟨0x120028, 0x0, 1, 0x0, 1, 0x00000000, false, [⟨31, 0, .rc, 0, 4294967295, []⟩]⟩,
  ⟨0x12002C, 0x0, 1, 0x0, 1, 0x00000000, false, [⟨31, 0, .rc, 0, 4294967295, []⟩]⟩,
  ⟨0x120030, 0x0, 1, 0x0, 1, 0x00000010, true, [⟨9, 0, .rw, 2, 512, []⟩]⟩]

/-- STR_STAT to IDX_ERR. -/
def regRows3 : List RegRow := [
  ⟨0x140000, 0x2000, 32, 0x0, 1, 0x10100000, false, []⟩,
  ⟨0x140004, 0x2000, 32, 0x0, 1, 0x00000040, true, [⟨7, 0, .rw, 16, 160, []⟩]⟩,
  ⟨0x140008, 0x2000, 32, 0x0, 1, 0x00000010, true, [⟨7, 0, .rw, 1, 255, []⟩]⟩,
  ⟨0x14000C, 0x2000, 32, 0x0, 1, 0x00000000, false, [⟨5, 5, .w1c, 0, 1, []⟩, ⟨4, 4, .w1c, 0, 1, []⟩, ⟨3, 3, .w1c, 0, 1, []⟩, ⟨1, 1, .w1c, 0, 1, []⟩, ⟨0, 0, .w1c, 0, 1, []⟩]⟩,
  ⟨0x140014, 0x2000, 32, 0x0, 1, 0x00000000, false, [⟨31, 0, .rc, 0, 4294967295, []⟩]⟩,
  ⟨0x140018, 0x2000, 32, 0x0, 1, 0x00000000, false, [⟨31, 0, .rc, 0, 4294967295, []⟩]⟩,
  ⟨0x14001C, 0x2000, 32, 0x0, 1, 0x00000000, false, [⟨31, 0, .rc, 0, 4294967295, []⟩]⟩,
  ⟨0x140020, 0x2000, 32, 0x0, 1, 0x00000000, false, [⟨31, 0, .rc, 0, 4294967295, []⟩]⟩,
  ⟨0x140200, 0x2000, 32, 0x0, 1, 0x00000000, false, [⟨31, 0, .rc, 0, 4294967295, []⟩]⟩,
  ⟨0x140204, 0x2000, 32, 0x0, 1, 0x00000000, false, [⟨31, 0, .rc, 0, 4294967295, []⟩]⟩,
  ⟨0x180000, 0x0, 1, 0x0, 1, 0x00002000, false, []⟩,
  ⟨0x180004, 0x0, 1, 0x0, 1, 0x00000000, false, [⟨3, 3, .w1c, 0, 1, []⟩, ⟨2, 2, .w1c, 0, 1, []⟩, ⟨1, 1, .w1c, 0, 1, []⟩, ⟨0, 0, .w1c, 0, 1, []⟩]⟩,
  ⟨0x18000C, 0x0, 1, 0x0, 1, 0x00000000, false, [⟨31, 0, .rc, 0, 4294967295, []⟩]⟩,
  ⟨0x140404, 0x2000, 32, 0x0, 1, 0x00000101, true, [⟨11, 8, .rw, 0, 8, []⟩, ⟨0, 0, .rw, 0, 1, []⟩]⟩,
  ⟨0x140408, 0x2000, 32, 0x0, 1, 0x00000010, true, [⟨7, 0, .rw, 4, 128, []⟩]⟩,
  ⟨0x14040C, 0x2000, 32, 0x0, 1, 0x00000000, false, [⟨4, 4, .w1c, 0, 1, []⟩, ⟨3, 3, .w1c, 0, 1, []⟩, ⟨2, 2, .w1c, 0, 1, []⟩, ⟨1, 1, .w1c, 0, 1, []⟩, ⟨0, 0, .w1c, 0, 1, []⟩]⟩,
  ⟨0x140414, 0x2000, 32, 0x0, 1, 0x00000000, false, [⟨31, 6, .wo, 0, 67108863, []⟩, ⟨5, 0, .wo, 0, 63, []⟩]⟩,
  ⟨0x140418, 0x2000, 32, 0x0, 1, 0x00000000, false, [⟨31, 0, .wo, 0, 4294967295, []⟩]⟩,
  ⟨0x140430, 0x2000, 32, 0x0, 1, 0x00000000, false, [⟨31, 0, .rc, 0, 4294967295, []⟩]⟩,
  ⟨0x140434, 0x2000, 32, 0x0, 1, 0x00000000, false, [⟨31, 0, .rc, 0, 4294967295, []⟩]⟩,
  ⟨0x140438, 0x2000, 32, 0x0, 1, 0x00000000, false, [⟨31, 0, .rc, 0, 4294967295, []⟩]⟩,
  ⟨0x14043C, 0x2000, 32, 0x0, 1, 0x00000000, false, [⟨31, 0, .rc, 0, 4294967295, []⟩]⟩,
  ⟨0x190004, 0x0, 1, 0x0, 1, 0x00000008, false, [⟨5, 0, .rw, 0, 48, []⟩]⟩,
  ⟨0x190014, 0x0, 1, 0x0, 1, 0x00000000, false, [⟨4, 4, .w1c, 0, 1, []⟩, ⟨3, 3, .w1c, 0, 1, []⟩, ⟨2, 2, .w1c, 0, 1, []⟩, ⟨1, 1, .w1c, 0, 1, []⟩, ⟨0, 0, .w1c, 0, 1, []⟩]⟩]

/-- IDX_FULL_CNT to CI_DESC_HI. -/
def regRows4 : List RegRow := [
  ⟨0x19001C, 0x0, 1, 0x0, 1, 0x00000000, false, [⟨31, 0, .rc, 0, 4294967295, []⟩]⟩,
  ⟨0x190020, 0x0, 1, 0x0, 1, 0x00000000, false, [⟨31, 0, .rc, 0, 4294967295, []⟩]⟩,
  ⟨0x190024, 0x0, 1, 0x0, 1, 0x00000000, false, [⟨31, 0, .rc, 0, 4294967295, []⟩]⟩,
  ⟨0x190028, 0x0, 1, 0x0, 1, 0x00000000, false, [⟨31, 0, .rc, 0, 4294967295, []⟩]⟩,
  ⟨0x1A0004, 0x0, 1, 0x0, 1, 0x00000000, false, [⟨4, 4, .w1c, 0, 1, []⟩, ⟨3, 3, .w1c, 0, 1, []⟩, ⟨2, 2, .w1c, 0, 1, []⟩, ⟨1, 1, .w1c, 0, 1, []⟩, ⟨0, 0, .w1c, 0, 1, []⟩]⟩,
  ⟨0x1A000C, 0x0, 1, 0x0, 1, 0x00000000, false, [⟨31, 0, .rc, 0, 4294967295, []⟩]⟩,
  ⟨0x1A0010, 0x0, 1, 0x0, 1, 0x00000000, false, [⟨31, 0, .rc, 0, 4294967295, []⟩]⟩,
  ⟨0x1B0004, 0x0, 1, 0x0, 1, 0x00000000, false, [⟨0, 0, .wo, 0, 1, []⟩]⟩,
  ⟨0x1B0008, 0x0, 1, 0x0, 1, 0x80000000, false, []⟩,
  ⟨0x1B000C, 0x0, 1, 0x0, 1, 0x00000000, false, [⟨2, 2, .w1c, 0, 1, []⟩, ⟨1, 1, .w1c, 0, 1, []⟩, ⟨0, 0, .w1c, 0, 1, []⟩]⟩,
  ⟨0x1B0014, 0x0, 1, 0x0, 1, 0x0000000A, true, [⟨9, 0, .rw, 1, 1000, []⟩]⟩,
  ⟨0x1B0018, 0x0, 1, 0x0, 1, 0x00000000, false, [⟨9, 0, .rw, 0, 1023, []⟩]⟩,
  ⟨0x1B0020, 0x0, 1, 0x4, 8, 0x00000000, false, [⟨31, 0, .wo, 0, 4294967295, []⟩]⟩,
  ⟨0x1B0040, 0x0, 1, 0x0, 1, 0x00000000, false, [⟨26, 24, .wo, 0, 7, []⟩, ⟨17, 16, .wo, 0, 3, []⟩, ⟨5, 0, .wo, 0, 63, []⟩]⟩,
  ⟨0x1B0400, 0x0, 1, 0x0, 1, 0x00000000, false, [⟨31, 31, .wo, 0, 1, []⟩, ⟨13, 8, .rwl, 0, 63, []⟩, ⟨5, 5, .rwl, 0, 1, []⟩, ⟨4, 4, .rwl, 0, 1, []⟩, ⟨3, 3, .rwl, 0, 1, []⟩, ⟨2, 0, .rwl, 0, 7, [4, 5, 6, 7]⟩]⟩,
  ⟨0x1B0408, 0x0, 1, 0x0, 1, 0x00000000, false, [⟨3, 3, .w1c, 0, 1, []⟩, ⟨2, 2, .w1c, 0, 1, []⟩, ⟨1, 1, .w1c, 0, 1, []⟩, ⟨0, 0, .w1c, 0, 1, []⟩]⟩,
  ⟨0x1B040C, 0x0, 1, 0x0, 1, 0x00000000, false, [⟨31, 0, .wo, 0, 4294967295, []⟩]⟩,
  ⟨0x1B0410, 0x0, 1, 0x0, 1, 0x00000000, false, [⟨31, 0, .wo, 0, 4294967295, []⟩]⟩,
  ⟨0x1B0414, 0x0, 1, 0x0, 1, 0x00000000, false, [⟨2, 0, .wo, 0, 7, []⟩]⟩,
  ⟨0x1B0418, 0x0, 1, 0x0, 1, 0x00000000, false, [⟨31, 0, .rwl, 0, 4294967295, []⟩]⟩,
  ⟨0x1B041C, 0x0, 1, 0x0, 1, 0x00000000, false, [⟨31, 0, .rwl, 0, 4294967295, []⟩]⟩,
  ⟨0x1B0440, 0x0, 1, 0x4, 16, 0x00000000, false, [⟨31, 0, .wo, 0, 4294967295, []⟩]⟩,
  ⟨0x1B0600, 0x0, 1, 0x0, 1, 0x00000000, false, [⟨31, 6, .wo, 0, 67108863, []⟩]⟩,
  ⟨0x1B0604, 0x0, 1, 0x0, 1, 0x00000000, false, [⟨31, 0, .wo, 0, 4294967295, []⟩]⟩]

/-- CI_ERR to MEP_SRAM_UE_CNT. -/
def regRows5 : List RegRow := [
  ⟨0x1B060C, 0x0, 1, 0x0, 1, 0x00000000, false, [⟨5, 5, .w1c, 0, 1, []⟩, ⟨4, 4, .w1c, 0, 1, []⟩, ⟨3, 3, .w1c, 0, 1, []⟩, ⟨2, 2, .w1c, 0, 1, []⟩, ⟨1, 1, .w1c, 0, 1, []⟩, ⟨0, 0, .w1c, 0, 1, []⟩]⟩,
  ⟨0x1B0618, 0x0, 1, 0x0, 1, 0x00000000, false, [⟨31, 0, .rc, 0, 4294967295, []⟩]⟩,
  ⟨0x1C0004, 0x0, 1, 0x0, 1, 0x00000000, false, [⟨9, 9, .w1c, 0, 1, []⟩, ⟨8, 8, .w1c, 0, 1, []⟩, ⟨7, 7, .w1c, 0, 1, []⟩, ⟨6, 6, .w1c, 0, 1, []⟩, ⟨5, 5, .w1c, 0, 1, []⟩, ⟨4, 4, .w1c, 0, 1, []⟩, ⟨3, 3, .w1c, 0, 1, []⟩, ⟨2, 2, .w1c, 0, 1, []⟩, ⟨1, 1, .w1c, 0, 1, []⟩, ⟨0, 0, .w1c, 0, 1, []⟩]⟩,
  ⟨0x1C000C, 0x0, 1, 0x0, 1, 0x00000064, false, []⟩,
  ⟨0x1C001C, 0x0, 1, 0x0, 1, 0x00000000, false, [⟨31, 0, .rc, 0, 4294967295, []⟩]⟩,
  ⟨0x1C0020, 0x0, 1, 0x0, 1, 0x00000000, false, [⟨31, 16, .rc, 0, 65535, []⟩, ⟨15, 0, .rc, 0, 65535, []⟩]⟩,
  ⟨0x1C0024, 0x0, 1, 0x0, 1, 0x00000000, false, [⟨9, 0, .rw, 0, 1023, []⟩]⟩,
  ⟨0x1D0008, 0x2000, 6, 0x0, 1, 0x00000400, true, [⟨14, 0, .rw, 64, 16384, []⟩]⟩,
  ⟨0x1D000C, 0x2000, 6, 0x0, 1, 0x00000009, true, [⟨3, 0, .rw, 6, 12, []⟩]⟩,
  ⟨0x1D0010, 0x2000, 6, 0x0, 1, 0x00000001, false, [⟨0, 0, .rw, 0, 1, []⟩]⟩,
  ⟨0x1D0014, 0x2000, 6, 0x0, 1, 0x00000000, false, [⟨4, 4, .w1c, 0, 1, []⟩, ⟨3, 3, .w1c, 0, 1, []⟩, ⟨2, 2, .w1c, 0, 1, []⟩, ⟨1, 1, .w1c, 0, 1, []⟩, ⟨0, 0, .w1c, 0, 1, []⟩]⟩,
  ⟨0x1D001C, 0x2000, 6, 0x0, 1, 0x00000000, false, [⟨31, 0, .rc, 0, 4294967295, []⟩]⟩,
  ⟨0x1D0020, 0x2000, 6, 0x0, 1, 0x00000000, false, [⟨31, 0, .rc, 0, 4294967295, []⟩]⟩,
  ⟨0x1D0024, 0x2000, 6, 0x0, 1, 0x00000000, false, [⟨31, 0, .rc, 0, 4294967295, []⟩]⟩,
  ⟨0x1D0028, 0x2000, 6, 0x0, 1, 0x00000000, false, [⟨31, 16, .rc, 0, 65535, []⟩, ⟨15, 0, .rc, 0, 65535, []⟩]⟩,
  ⟨0x1F0000, 0x0, 1, 0x0, 1, 0x00000001, false, [⟨0, 0, .rw, 0, 1, []⟩]⟩,
  ⟨0x1F0004, 0x0, 1, 0x0, 1, 0x00000018, true, [⟨9, 0, .rw, 0, 720, []⟩]⟩,
  ⟨0x1F000C, 0x0, 1, 0x0, 1, 0x00000003, false, [⟨5, 0, .rw, 0, 63, []⟩]⟩,
  ⟨0x1F0010, 0x0, 1, 0x0, 1, 0x00000000, false, [⟨10, 10, .w1c, 0, 1, []⟩, ⟨9, 9, .w1c, 0, 1, []⟩, ⟨8, 8, .w1c, 0, 1, []⟩, ⟨7, 7, .w1c, 0, 1, []⟩, ⟨6, 6, .w1c, 0, 1, []⟩, ⟨5, 5, .w1c, 0, 1, []⟩, ⟨4, 4, .w1c, 0, 1, []⟩, ⟨3, 3, .w1c, 0, 1, []⟩, ⟨2, 2, .w1c, 0, 1, []⟩, ⟨1, 1, .w1c, 0, 1, []⟩, ⟨0, 0, .w1c, 0, 1, []⟩]⟩,
  ⟨0x1F0018, 0x0, 1, 0x0, 1, 0x00000004, true, [⟨7, 0, .rw, 1, 255, []⟩]⟩,
  ⟨0x1F0110, 0x0, 1, 0x20, 6, 0x00000000, false, [⟨31, 0, .rc, 0, 4294967295, []⟩]⟩,
  ⟨0x1F0114, 0x0, 1, 0x20, 6, 0x00000000, false, [⟨31, 0, .rc, 0, 4294967295, []⟩]⟩,
  ⟨0x1F0208, 0x0, 1, 0x0, 1, 0x00000000, false, [⟨31, 0, .rc, 0, 4294967295, []⟩]⟩,
  ⟨0x1F020C, 0x0, 1, 0x0, 1, 0x00000000, false, [⟨31, 0, .rc, 0, 4294967295, []⟩]⟩]

/-- RST_CTL to TMP_ERR. -/
def regRows6 : List RegRow := [
  ⟨0x210004, 0x0, 1, 0x0, 1, 0x00000000, false, [⟨31, 24, .wo, 0, 255, []⟩, ⟨0, 0, .wo, 0, 1, []⟩]⟩,
  ⟨0x21000C, 0x0, 1, 0x0, 1, 0x00000000, false, [⟨5, 5, .w1c, 0, 1, []⟩, ⟨4, 4, .w1c, 0, 1, []⟩, ⟨3, 3, .w1c, 0, 1, []⟩, ⟨2, 2, .w1c, 0, 1, []⟩, ⟨1, 1, .w1c, 0, 1, []⟩, ⟨0, 0, .w1c, 0, 1, []⟩]⟩,
  ⟨0x200004, 0x0, 1, 0x100, 2, 0x0000000A, true, [⟨23, 0, .rw, 0, 16777215, []⟩]⟩,
  ⟨0x200008, 0x0, 1, 0x100, 2, 0x00000004, true, [⟨2, 0, .rw, 0, 4, []⟩]⟩,
  ⟨0x200010, 0x0, 1, 0x0, 1, 0x00000040, true, [⟨23, 0, .rw, 1, 16777215, []⟩]⟩,
  ⟨0x200014, 0x0, 1, 0x0, 1, 0x00000400, true, [⟨23, 0, .rw, 1, 16777215, []⟩]⟩,
  ⟨0x200018, 0x0, 1, 0x0, 1, 0x00008000, true, [⟨23, 0, .rw, 1, 16777215, []⟩]⟩,
  ⟨0x20001C, 0x0, 1, 0x0, 1, 0x00080000, true, [⟨23, 0, .rw, 1, 16777215, []⟩]⟩,
  ⟨0x200040, 0x0, 1, 0x0, 1, 0x00000000, false, [⟨31, 0, .rc, 0, 4294967295, []⟩]⟩,
  ⟨0x220000, 0x0, 1, 0x0, 1, 0x00000064, false, []⟩,
  ⟨0x220004, 0x0, 1, 0x0, 1, 0x00000000, false, [⟨0, 0, .wo, 0, 1, []⟩]⟩,
  ⟨0x230004, 0x0, 1, 0x0, 1, 0x0000035F, true, [⟨15, 8, .rw, 1, 10, []⟩, ⟨7, 0, .rw, 80, 105, []⟩]⟩,
  ⟨0x230008, 0x0, 1, 0x0, 1, 0x00001000, true, [⟨15, 0, .rw, 256, 65535, []⟩]⟩,
  ⟨0x23000C, 0x0, 1, 0x0, 1, 0x00034B28, true, [⟨23, 16, .rw, 1, 10, []⟩, ⟨15, 8, .rw, 0, 255, []⟩, ⟨7, 0, .rw, 0, 100, []⟩]⟩,
  ⟨0x230010, 0x0, 1, 0x0, 1, 0x00000000, false, [⟨3, 3, .w1c, 0, 1, []⟩, ⟨2, 2, .w1c, 0, 1, []⟩, ⟨1, 1, .w1c, 0, 1, []⟩, ⟨0, 0, .w1c, 0, 1, []⟩]⟩]

/-- Every register with a writable field or a reset value other than 0. -/
def regRows : List RegRow :=
  regRows0 ++ regRows1 ++ regRows2 ++ regRows3 ++ regRows4 ++ regRows5 ++ regRows6

/-- The row of an offset. -/
def regRow (off : Nat) : Option RegRow := regRows.find? (fun r => r.holds off)

/-- Reset value of the register at an offset (the maps' Reset column). -/
def regReset (off : Nat) : DWord := ((regRow off).map (fun r => BitVec.ofNat 32 r.reset)).getD 0

end Sys2Proof.Machine
end

