-- ==== Sys2Proof/Machine/State.lean ====
section
/-!
DEFINITION. The state of the TBH-6432 as plain data: queues, instances, namespaces, media, map, Chest,
Strands, index, cores, keyed services, Code Array, DRAM, power, pins, and the queue of commands that
wait. State.reset is the device as PWR_GOOD rises (R392, Table 17-2 step 1).
-/

namespace Sys2Proof.Machine

/-- Why the block stops with a fault. The block has no fault: every command has an outcome in the
spec (R4, R8); the type has no constructor that a meaning raises except the one below. -/
inductive Fault where
  /-- A control core uses a DEVICE address that the spec gives no device (Table 12-7), outside every
  trap the spec names. Raised by no meaning at present. Safe. -/
  | noDevice
deriving DecidableEq, Repr

/-- Why a command is refused. -/
inductive Refusal where
  /-- No meaning yet for the command of this mnemonic. Safe. -/
  | notModelled (mnemonic : String)
deriving DecidableEq, Repr

/-- What the device sends out, newest last: DMA and peer writes in their order (R55), completion
entries, interrupt messages, and the answers to reads. -/
inductive Out where
  /-- a memory write TLP of a port: PASID, address, bytes, Relaxed Ordering, ID-Based Ordering (R35) -/
  | write (port : Bool) (pasid : Option Nat) (addr : Nat) (data : List Byte) (ro ido : Bool)
  /-- a flush of the dirty-page log: the line at that address is read, those bits are ORed in, and it is written back (R79) -/
  | orLine (port : Bool) (addr : Nat) (bits : List Byte)
  /-- a zero-length read that pushes earlier writes (R55) -/
  | zeroRead (port : Bool) (pasid : Option Nat) (addr : Nat)
  /-- a peer write: resolved address, bytes, Relaxed Ordering, AT = Translated (R82) -/
  | peer (port : Bool) (addr : Nat) (data : List Byte) (ro translated : Bool)
  /-- a completion entry: completion queue row, its address, four dwords (R55) -/
  | cqe (port : Bool) (cq : Nat) (addr : Nat) (dw : List DWord)
  /-- an interrupt message: address and data (R56, R57) -/
  | message (port : Bool) (addr : BitVec 64) (data : DWord)
  /-- the bytes that a register read returns (R44), or its failure: poisoned data, Completer Abort -/
  | readData (off : Nat) (bytes : List Byte)
  | poisoned (off : Nat)
  | abort (off : Nat)
  /-- an array word or status word read by a requester (R346) -/
  | word (req addr : Nat) (v : Word)
  /-- a configuration request's outcome: its value, or Configuration Request Retry Status (R35, R425) -/
  | config (port : Bool) (v : Option DWord)
  /-- an AER message: ERR_FATAL, or ERR_NONFATAL (R59) -/
  | aer (port fatal : Bool)
  /-- bytes shifted out on TDO, and the SMBus response (served or not acknowledged) -/
  | tdo (bits : List Bool)
  | smbus (served : Bool)
  /-- an ATS Invalidate Completion (R35) -/
  | invalidated (port : Bool)
deriving DecidableEq, Repr

/-! ### Device, queues, instances, namespaces, commands (spec/01 to spec/04) -/

/-- Device states (R30, Table 1-10). -/
inductive DevState where
  | boot | test | recovery | service | halted
deriving DecidableEq, Repr

/-- Media health (R31, Table 1-11). -/
inductive Health where
  | normal | degraded | readOnly | failed
deriving DecidableEq, Repr

/-- A submission-queue row (Table 2-17). -/
structure SqRow where
  valid : Bool := false
  error : Bool := false
  base : BitVec 64 := 0
  /-- QSIZE, 0-based -/
  qsize : Nat := 0
  cqid : Nat := 0
  tail : Nat := 0
  head : Nat := 0
  inst : Nat := 0
  loc : Nat := 0
  /-- a Delete I/O SQ waits for the commands fetched from this row (R49): its command's tag -/
  deleting : Option Nat := none
  /-- a write-class command fetched from this row is held under R54 -/
  blocked : Bool := false
deriving DecidableEq, Repr

/-- A completion-queue row (Table 2-17). -/
structure CqRow where
  valid : Bool := false
  error : Bool := false
  base : BitVec 64 := 0
  qsize : Nat := 0
  ien : Bool := false
  imt : Bool := false
  vector : Nat := 0
  tail : Nat := 0
  head : Nat := 0
  phase : Bool := true
  inst : Nat := 0
  loc : Nat := 0
  /-- entries posted and not yet signalled (R56) -/
  unsig : Nat := 0
  /-- a boundary is due to signal the queue: entries older than a boundary, or signalled entries
  left unconsumed by a head doorbell (R56) -/
  resignal : Bool := false
  /-- a head doorbell has left signalled entries unconsumed (R56) -/
  left : Bool := false
deriving DecidableEq, Repr

/-- An interrupt message table entry (Table 2-17); at POR masked, OWNER 0 (R61). -/
structure ImtEntry where
  addr : BitVec 64 := 0
  data : DWord := 0
  mask : Bool := true
  pend : Bool := false
  nocoal : Bool := false
  owner : Nat := 0
deriving DecidableEq, Repr

/-- An MSI-X table entry of a function (Table 2-4). -/
structure MsixEntry where
  addr : BitVec 64 := 0
  data : DWord := 0
  mask : Bool := true
  pend : Bool := false
deriving DecidableEq, Repr

/-- Asynchronous event types (R438), with the log page that releases each. -/
inductive AenType where
  | error | smart | notice
deriving DecidableEq, Repr

/-- An asynchronous event: its type, information and log page (R438). -/
structure Aen where
  kind : AenType
  info : Nat
  page : Nat
deriving DecidableEq, Repr

/-- The NVMe controller of one port (R38 to R40, R437 to R440). -/
structure Ctrl where
  en : Bool := false
  rdy : Bool := false
  cfs : Bool := false
  mps : Nat := 0
  aqa : DWord := 0
  asq : BitVec 64 := 0
  acq : BitVec 64 := 0
  /-- CSTS.SHST: 0 normal, 1 occurring, 2 complete -/
  shst : Nat := 0
  /-- CC as last written -/
  cc : DWord := 0
  /-- a controller reset drains (R394) -/
  resetting : Bool := false
  aerWaiting : List Nat := []
  aerHeld : List Aen := []
  /-- event types reported and not yet released by their log page (R438) -/
  aerMasked : List AenType := []
  /-- feature values set by the host: (feature id, CDW11) (R439) -/
  features : List (Nat × Nat) := []
  /-- MSI-X vectors with coalescing disabled (R56) -/
  noCoal : List Nat := []
  /-- error log entries, newest first: (status name code, sqid, lba, command-specific) -/
  errLog : List (Nat × Nat × Nat × Nat) := []
deriving DecidableEq, Repr

/-- Instance states (Table 3-1). -/
inductive InstState where
  | free | active | resetting | deleting
deriving DecidableEq, Repr

/-- The dirty-page log of an instance (R78 to R81). -/
structure DirtyLog where
  running : Bool := false
  fault : Bool := false
  /-- the device's buffer: false A, true B -/
  activeB : Bool := false
  gen : Nat := 0
  first : Nat := 0
  /-- NPAGES, 0-based -/
  npages : Nat := 0
  bufA : BitVec 64 := 0
  bufB : BitVec 64 := 0
  /-- pages whose bits are coalesced on chip and not yet in the device's buffer -/
  pend : List Nat := []
  /-- pages whose bits stand in the device's buffer -/
  inBuf : List Nat := []
deriving DecidableEq, Repr

/-- A queue position held by Instance Create with RESTORE (R66). -/
structure HeldPos where
  loc : Nat
  head : Nat
  tail : Nat
  qsize : Nat
  phase : Bool := true
deriving DecidableEq, Repr

/-- A row of the instance table (R62, Table 3-4, Table 3-10). -/
structure Inst where
  state : InstState := .free
  pasid : Option Nat := none
  /-- last share set -/
  share : Nat := 0
  /-- share in force -/
  shareNow : Nat := 0
  carry : Nat := 0
  carryCnt : Nat := 0
  /-- commands with a smaller tag were in flight when the carry was set (R69) -/
  carryTag : Nat := 0
  ftok : Int := 0
  mtok : Int := 0
  /-- INST_ERR -/
  err : DWord := 0
  /-- reset generation (R74) -/
  gen : Nat := 0
  completed : Nat := 0
  charged : Nat := 0
  /-- attached namespaces: (NSID, read-only) -/
  attach : List (Nat × Bool) := []
  heldSq : List HeldPos := []
  heldCq : List HeldPos := []
  dlog : DirtyLog := {}
  /-- tag of the Instance Reset or Delete that runs (R75) -/
  mgmtTag : Nat := 0
  /-- beats since the last engine job the reset waits for ended (R75) -/
  drain : Nat := 0
  /-- SQ row visited last (R52) -/
  rr : Nat := 0
  /-- the first suppression of this reset has been reported (R74) -/
  fenced : Bool := false
deriving DecidableEq, Repr

/-- A peer table entry (Table 3-7). -/
structure PeerEntry where
  base : Nat := 0
  pages : Nat := 0
  any : Bool := false
  owner : Nat := 0
  relaxed : Bool := false
  atTranslated : Bool := false
  valid : Bool := false
deriving DecidableEq, Repr

/-- The I/O command sets (Table 4-1). -/
inductive NsKind where
  | nvm | kv | cprog | slm
deriving DecidableEq, Repr

/-- A reservation of a namespace as the NVMe base specification keeps it (R34): its generation, its type (0 none), the
port whose host holds it, and the registered keys by port (R67: one host for each port). -/
structure Resv where
  gen : Nat := 0
  typ : Nat := 0
  holder : Option Bool := none
  keys : List (Bool × BitVec 64) := []
deriving DecidableEq, Repr

/-- A namespace (R85). -/
structure Namespace where
  kind : NsKind
  /-- LBAs for NVM, bytes for KV (capacity) and SLM, 0 for Computational Programs -/
  size : Nat
  lbaf : Nat := 0
  /-- protection information type, 0 none -/
  pi : Nat := 0
  /-- generation of the media key (R325): a new key makes older images unreadable -/
  keyGen : Nat := 0
  /-- a delete has been fetched: later commands are refused (R67) -/
  deleting : Option Nat := none
  /-- NCAP, 4 KiB units (R175) -/
  cap : Nat := 0
  /-- metadata interleaved with the data in host buffers -/
  ext : Bool := false
  /-- creation number: tells a namespace from a later one of the same NSID (R283) -/
  serial : Nat := 0
  /-- first span number of its run in the span map -/
  base : Nat := 0
  /-- protection information in the first bytes of the metadata, not the last (DPS bit 3) -/
  piFirst : Bool := false
  resv : Resv := {}
deriving DecidableEq, Repr

/-- A program slot (R102): the bytes delivered and whether its program is active. -/
structure ProgSlot where
  bytes : List Byte := []
  active : Bool := false
  /-- where the activated program lies in code RAM (R205) -/
  base : Nat := 0
deriving DecidableEq, Repr

/-- What a command keeps of the program its PROGRAM stage names (R95, Table 4-19). -/
structure ProgInfo where
  pind : Nat
  /-- first code RAM word -/
  base : Nat
  codeWords : Nat
  ldWords : Nat
  entry : Nat
  winMask : Nat
  /-- Skovzit FLAGS[0] -/
  bitmap : Bool
  /-- Skovzit FLAGS[1] -/
  dramWin : Bool
  /-- the local-memory image -/
  image : List Word
deriving DecidableEq, Repr

/-- A standard or vendor status of the manual (Tables 4-22 to 4-24), by name. -/
inductive Status where
  | success
  | invalidField | invalidOpcode | invalidNamespace | invalidQid | invalidQSize | invalidPrpOffset
  | invalidVector | cqInvalid | invalidQDeletion | sglLength | lbaRange | capacityExceeded
  | writeProtected | insufficientCapacity | unrecoveredRead | invalidKeySize | invalidValueSize
  | keyExists | keyAbsent | overlappingRange | invalidFwSlot | invalidFwImage | fwProhibited
  | fwNeedsReset | notSaveable | sequenceError | sequenceErrorBusy | internalError
  | internalErrorCar | dataTransfer | abortedSqDel | nsNotReady | aerLimit | reservationConflict | compareFailure
  | guardCheck | appTagCheck | refTag | invalidProt | idUnavailable | nsAttached | invalidLogPage | invalidFormat
  | notCompressible | dcmpIllegal | dcmpDistance | dcmpOverrun | dcmpChecksum | dcmpTruncated
  | chainExhausted | lengthMismatch | beatOverrun | programTrap | notActive | instanceReset
  | shareZero | drawerUnavailable | rebuildPending | peerFailed | deadlineExceeded | batchConflict
deriving DecidableEq, Repr

/-- Why a read of stored data fails: status, DW0, DW1, span (R107). -/
structure RdErr where
  st : Status
  dw0 : Nat
  dw1 : Nat
  span : Nat
deriving DecidableEq, Repr

/-- Where a command in flight stands. -/
inductive Phase where
  /-- fetched and not yet at media or an engine -/
  | fetched
  /-- write-class, held under R54 -/
  | held
  /-- waits for a Clasp context or memory (R223) -/
  | waitClasp
  /-- at work -/
  | active
  /-- a write-class command whose data all lies in the write buffer (R105) -/
  | received
  /-- waits for a map or index partition (R28, R199) -/
  | waitRebuild
deriving DecidableEq, Repr

/-- A command in flight (R53). -/
structure Cmd where
  tag : Nat
  port : Bool
  admin : Bool
  inst : Nat
  sq : Nat
  cq : Nat
  /-- the 16 dwords of the submission entry -/
  dw : List DWord
  gen : Nat
  /-- the namespace was attached read-only at the fetch (R67) -/
  ro : Bool := false
  /-- namespaces attached to its instance at the fetch (R67) -/
  att : List Nat := []
  /-- a management command whose checks and effect were made in the cycle of its fetch, and that still runs (R65) -/
  checked : Bool := false
  /-- programs of the function active at the fetch (R95) -/
  active : List ProgInfo := []
  /-- write commands a Flush waits for (R145) -/
  waits : List Nat := []
  /-- INS_CMD_DEADLINE at the fetch, ms -/
  deadline : Nat
  /-- beats counted since the first boundary after the fetch; `none` before that boundary -/
  age : Option Nat := none
  phase : Phase := .fetched
  prog : Option ProgInfo := none
  /-- beats the command has waited for a rebuild partition -/
  waited : Option Nat := none
  /-- CHS_REBUILD_WAIT as the wait began, ms -/
  waitMs : Nat := 0
  /-- partition it waits for: (0 map, 1 index; number) -/
  partition : Nat × Nat := (0, 0)
  /-- write-buffer slots that hold its data -/
  slots : List Nat := []
  /-- bytes of the images formed for it (R90) -/
  stored : Nat := 0
  /-- encodes its STORED still waits for (R90) -/
  encodes : Nat := 0
  /-- shard jobs it still waits for -/
  shards : Nat := 0
  /-- first failure that will set the status: status, DW0, DW1 -/
  fail : Option (Status × Nat × Nat) := none
  dw0 : Nat := 0
  dw1 : Nat := 0
  /-- images its media reads found unreadable: channel, media address -/
  badImgs : List (Nat × Nat) := []
  /-- images that its data is read from -/
  imgs : List (Nat × Nat) := []
  /-- its media reads have been queued -/
  issued : Bool := false
  /-- pipeline descriptor and predicate table, once read (R91) -/
  desc : Option (List Byte × List Byte) := none
  /-- data it has received or read, until it is used; or why that data cannot be read -/
  data : List Byte := []
  rd : Option RdErr := none
  /-- spans of a Write Zeroes or a deallocation that it has acted on -/
  at_ : Nat := 0
  /-- its completion entry has been posted, or never will be, and its received data is still carried on (R105) -/
  dead : Bool := false
  /-- its completion entry is still to come and will be suppressed (R74) -/
  owed : Bool := false
deriving DecidableEq, Repr
/-! ### Media, map, care and the Chest (spec/05 to spec/08) -/

/-- LUN states (Table 5-13, MED_LUN_STAT.STATE). -/
inductive LunState where
  | absent | active | failed | resetting
deriving DecidableEq, Repr

/-- What an array operation does. -/
inductive OpKind where
  | read | program | erase
deriving DecidableEq, Repr

/-- Internal engines that move images (Table 7-2, Table 7-3). -/
inductive Mover where
  | host | fold | gc | refresh | wear | reloc | coalesce | evac | ckpt | flush
deriving DecidableEq, Repr

/-- What a page read is for: a command's data, the patrol of R170, the source of copy `n` or the check of its destination
(R160), the old image of a read-modify-write or of a span to coalesce (R139, R140), or a stripe's other page for the
reconstruction `n` of a page of channel `home` (R130). -/
inductive ReadUse where
  | host
  | patrol
  | copy (n : Nat)
  | verify (n : Nat)
  | rmw (slot : Nat)
  | coalesce (nsid span : Nat)
  | rebuild (n home : Nat)
deriving DecidableEq, Repr

/-- A page of a channel: LUN, block, and its number in the block row, plane by plane (R134). -/
structure PageAt where
  ch : Nat
  lun : Nat
  block : Nat
  page : Nat
deriving DecidableEq, Repr

/-- An operation queued on, or run by, a LUN (R120 to R123): the pages of one image, one parity page, one
patrol page, or one block erase. -/
structure LunOp where
  id : Nat
  kind : OpKind
  /-- sequencer class, Table 5-6 -/
  cls : Nat
  block : Nat
  slc : Bool := false
  /-- media address of the image it reads or programs -/
  maddr : Nat := 0
  /-- command it serves, if any; and its instance -/
  tag : Option Nat := none
  inst : Nat := 0
  /-- units of its image; codewords it moves on the bus, and page commands it takes -/
  units : Nat := 0
  cw : Nat := 0
  pages : Nat := 1
  /-- engine that issued it -/
  by_ : Mover := .host
  /-- what a read is for -/
  use : ReadUse := .host
  /-- program of this copy's destination; of the checkpoint image of this segment -/
  copy : Option Nat := none
  ckpt : Option Nat := none
  /-- rank of internal work (Table 7-3) -/
  rank : Nat := 0
  /-- program of the parity page of this stripe, and that page -/
  parity : Option Nat := none
  page : Nat := 0
  /-- write-buffer slot whose image it programs -/
  slot : Option Nat := none
  /-- beat of arrival in the queue -/
  arrival : Nat := 0
  /-- beats run, suspended time excluded; and since the last start or resume -/
  ran : Nat := 0
  ranSince : Nat := 0
  /-- MED_OP_TIMEOUT in beats at its start -/
  limit : Nat := 0
  suspends : Nat := 0
  /-- a suspend has been issued and has not taken effect -/
  suspReq : Bool := false
  suspended : Bool := false
  /-- reads served in the present suspension (R122) -/
  served : Nat := 0
  /-- the read has been reissued after one timeout (Table 5-8) -/
  reissued : Bool := false
  /-- the read could not cause a suspension because the program or erase was at its limit (R122) -/
  limited : Bool := false
deriving DecidableEq, Repr

/-- A codeword in the soft-decode pool, or a page with `n` failed codewords that waits for its reconstruction (R127, R128). -/
structure SoftCw where
  id : Nat := 0
  tag : Option Nat
  cls : Nat
  ch : Nat
  lun : Nat
  block : Nat
  maddr : Nat
  page : Nat := 0
  n : Nat := 1
  by_ : Mover := .host
  use : ReadUse := .host
  slc : Bool := false
  /-- the reads of the stripe's other pages have been queued; one of them has failed step 3 (R130) -/
  asked : Bool := false
  failed : Bool := false
deriving DecidableEq, Repr

/-- One LUN (R109, Table 5-13). -/
structure Lun where
  state : LunState := .absent
  op : Option LunOp := none
  /-- read served while `op` is suspended -/
  rd : Option LunOp := none
  queue : List LunOp := []
  /-- internal work that waits for one of the four places of the queue (R165) -/
  ready : List LunOp := []
  /-- features applied since its last reset: address and P1 to P4 (R119) -/
  feats : Sparse (List Byte) := []
  timeouts : Nat := 0
  lastRetry : Nat := 0
  /-- READ ID matched the channel's profile -/
  matched : Bool := false
  /-- the parameter page declares the extended rate (R112) -/
  xrDeclared : Bool := false
deriving DecidableEq, Repr

/-- A media profile as the device uses it (Tables 5-2 to 5-5). -/
structure Profile where
  idValue : List Byte
  idMask : List Byte
  cell : Nat
  planes : Nat
  blocks : Nat
  pagesNative : Nat
  pagesSlc : Nat
  cwPerPage : Nat
  maxRate : Nat
  xr : Bool
  xrByte : Nat
  xrMask : Nat
  xrMargin : Nat
  peSlc : Nat
  peNative : Nat
  rdSlc : Nat
  rdNative : Nat
  flipRefresh : Nat
  psuspMax : Nat
  esuspMax : Nat
  /-- µs -/
  resumeMin : Nat
  rdBurst : Nat
  /-- typical times of Table 5-3, ns -/
  typ : List Nat
  nretrySlc : Nat
  nretryNative : Nat
  /-- page bytes behind the codewords; program passes of native mode -/
  spare : Nat
  passes : Nat
  /-- MP_RULE, RETRY_FA, the retry entries (SLC, then native), the features of Table 5-5 -/
  mpRule : Nat
  retryFa : Nat
  levels : Nat
  retry : List (List Byte)
  feats : List (Nat × List Byte)
deriving DecidableEq, Repr

/-- One NAND channel (R111 to R113, R168). -/
structure Chan where
  /-- MT/s; 0 while down -/
  rate : Nat := 0
  /-- NV-LPDDR4 rate of Table 5-1 -/
  base : Nat := 0
  xrOn : Bool := false
  /-- calibration runs -/
  cal : Bool := false
  /-- calibration failed at 6,400 MT/s: the channel stays at its base rate until RECAL or POR -/
  xrFailed : Bool := false
  profile : Option Nat := none
  direct : Bool := false
  /-- R168: credit in units while urgent -/
  urgent : Bool := false
  credit : Int := 0
  foldOn : Bool := false
  /-- patrol position, rows (R170) -/
  patrol : Nat := 0
  /-- temperature band as TMP reports it (R113, R409) -/
  band : Nat := 0
deriving DecidableEq, Repr

/-- A block row (R134, R159): one BLOCK index on every plane of a LUN. -/
inductive RowState where
  | free | opened | closed | suspect | retired | bad
deriving DecidableEq, Repr

/-- What the device keeps of a block row. -/
structure Row where
  state : RowState := .bad
  slc : Bool := false
  nativeErases : Nat := 0
  slcErases : Nat := 0
  verifyFails : Nat := 0
  reads : Nat := 0
  /-- the read counter as last checkpointed (R169) -/
  saved : Nat := 0
  /-- units written, pad units included; no further image enters a row that is closing -/
  written : Nat := 0
  closing : Bool := false
  superblock : Nat := 0
  /-- stream of that superblock (Table 8-3) -/
  stream : Nat := 0
  closeBeat : Nat := 0
  /-- marked for retirement (R174); pinned (R167) -/
  marked : Bool := false
  pinned : Bool := false
  /-- an erase-start record is open (R131) -/
  eraseOpen : Bool := false
  /-- an erase-start record has been issued and is not yet durable -/
  erasePend : Bool := false
  /-- the record of the erase asked for is durable: the erase may be issued -/
  eraseReady : Bool := false
  /-- the erase gate has been asked and waits (R161) -/
  gateWait : Bool := false
  /-- engine that has selected the row (R163) -/
  owner : Option Mover := none
  /-- refresh candidate queued (R170), and one that needed soft decode (Table 7-3) -/
  candidate : Bool := false
  soft : Bool := false
  /-- image records not yet in a record codeword, the record codewords, and the units that parity, record and summary pages
  take (R164, R188) -/
  recs : Nat := 0
  rcw : List Nat := []
  extra : Nat := 0
  /-- units copied out of the row since its last erase, and the stripes that hold those copies (R161, R168) -/
  copied : Nat := 0
  copyStripes : List Nat := []
  /-- segments that referred to the row, with the SEQ of the commit that took the reference away (R187) -/
  freed : List (Nat × Nat) := []
deriving DecidableEq, Repr

/-- A stored image (R134, R135): a whole span, or one grain. -/
structure Img where
  ch : Nat
  maddr : Nat
  /-- 512-byte units -/
  len : Nat
  shelf : Bool
  raw : Bool
  nsid : Nat
  span : Nat
  grain : Option Nat := none
  /-- the image bytes before encryption: header or frame, Chapter 10 -/
  bytes : List Byte
  keyGen : Nat
  /-- an image whose codewords reach step 5 of Table 5-11 -/
  unreadable : Bool := false
  /-- rows in which a copy of it has failed its verify read (R160): channel, LUN, block -/
  avoid : List (Nat × Nat × Nat) := []
  /-- stripes of its pages -/
  stripes : List Nat := []
deriving DecidableEq, Repr

/-- A die-parity stripe (R129). -/
structure Stripe where
  id : Nat
  slc : Bool
  /-- its stream and superblock: every stripe lies within one (R164) -/
  stream : Nat := 0
  super : Nat := 0
  /-- its data pages, in their positions -/
  pages : List PageAt
  /-- its parity page, and whether that page is programmed -/
  parity : Option PageAt := none
  done : Bool := false
  closed : Bool := false
  /-- the page of a re-parity whose program is under way (R171) -/
  next : Option PageAt := none
deriving DecidableEq, Repr

/-- What a page holds (Table 8-3). -/
inductive PageKind where
  | data | parity | flush | summary | pad
deriving DecidableEq, Repr

/-- The header of a page (Table 8-3). -/
structure PageHdr where
  kind : PageKind
  slc : Bool
  /-- second program pass written -/
  second : Bool
  lastFlush : Bool := false
  pseq : Nat
  stripe : Nat := 0
  /-- position in the stripe, 16 for parity -/
  slot : Nat := 0
  stream : Nat
  /-- record codewords of the page, a bit mask -/
  rcw : Nat := 0
  super : Nat
  wear : Nat
  ckptSeq : Nat
deriving DecidableEq, Repr

/-- States of a write-buffer slot (Table 6-4). -/
inductive SlotState where
  | receiving | held | programmed | mapped
deriving DecidableEq, Repr

/-- A stored image as an entry describes it: grain (none for a whole span), media address, units, raw, in
the Shelf. -/
structure Loc where
  grain : Option Nat
  maddr : Nat
  len : Nat
  raw : Bool
  shelf : Bool
deriving DecidableEq, Repr

/-- A write-buffer slot (R144). -/
structure Slot where
  idx : Nat
  state : SlotState := .receiving
  nsid : Nat
  span : Nat
  /-- data received and not yet held: command, grain, bytes -/
  recv : List (Nat × Nat × List Byte) := []
  /-- grains the slot holds: (grain, its 4,096 data bytes and metadata) -/
  grains : List (Nat × List Byte) := []
  /-- grains held since the running image was encoded: they keep the slot after the image commits -/
  fresh : List Nat := []
  /-- the entry the span held before the slot was taken -/
  old : BitVec 64 := 0
  /-- mapped units of the span before the slot was taken -/
  oldMask : Nat := 0
  /-- grain entries held before, for a splintered span: (grain, entry) -/
  oldGrains : List (Nat × BitVec 64) := []
  /-- KV: value bytes the span holds -/
  kvLen : Option Nat := none
  /-- channel of the image (R137, R138); no channel has been taken for the next whole image yet -/
  ch : Nat := 0
  unplaced : Bool := false
  /-- splintering path of R139: grain images instead of a whole image -/
  grainImages : Bool := false
  /-- images encoded: entries to be -/
  imgs : List Loc := []
  /-- programs outstanding -/
  programs : Nat := 0
  /-- commands whose data it holds and no running image carries; those that the running image carries -/
  tags : List Nat := []
  flight : List Nat := []
  /-- instance of the command that wrote to it last (R70) -/
  inst : Nat := 0
  /-- directory plaintext of a PIPE_WRITE with DIR = 1 (R259); its image has grain 64 in `imgs` -/
  dir : Option (List Byte) := none
  /-- waits for a grain block (R167) -/
  stuck : Bool := false
  /-- the reads of the old image for a read-modify-write have been queued; they have failed (R139) -/
  rmwAsked : Bool := false
  rmwBad : Bool := false
  /-- grains whose image has been counted in STORED: command and grain (R90) -/
  counted : List (Nat × Nat) := []
  /-- dumped by a flush, and where its flush image lies: channel and media address (R189) -/
  dumped : Bool := false
  dump : Option (Nat × Nat) := none
  /-- a grain is lost and could not be listed: recovery reverts the slot (R386) -/
  lost : Bool := false
  /-- the entries point to media (MAPPED); the slot waits for the parity of R129; its release is recorded -/
  done : Bool := false
  freeing : Bool := false
deriving DecidableEq, Repr

/-- A grain block (R138): its owner and its 64 entries. -/
structure GrainBlock where
  nsid : Nat
  span : Nat
  entries : List (BitVec 64)
deriving DecidableEq, Repr

/-- What a ROW record says of its row (Table 8-2): closed, pinned, marked for retirement with its cause (row of Table 7-4,
from 0) and whether it leaves the pool at once, released from the pool as a marked row, no longer pinned. -/
inductive RowChange where
  | close
  | pin
  | retire (cause : Nat)
  | release
  | unpin
deriving DecidableEq, Repr

/-- A change a Chest record carries (Table 8-2). -/
inductive Change where
  /-- 0x01: entries of the slot's span point to media -/
  | spanCommit (slot : Nat)
  /-- 0x01: a checkpoint image of a segment: the system namespace's span entry (R185) -/
  | sysCommit (seg ch maddr len : Nat)
  /-- 0x02: a move of one image: its entries (none: the span's, 64: its directory's) with what each must still hold,
  the new channel and location, the mover, the source -/
  | copyCommit (nsid span : Nat) (ents : List (Option Nat × BitVec 64)) (ch : Nat) (loc : Loc) (by_ : Mover)
      (src : Nat × Nat)
  /-- 0x03: grains deallocated for a command -/
  | trim (tag : Option Nat) (nsid span : Nat) (grains : List Nat)
  /-- 0x04: the span splinters, or a coalesced span takes one image and frees its block -/
  | splinter (nsid span : Nat)
  | coalesced (nsid span : Nat) (ents : List (Option Nat × BitVec 64)) (ch : Nat) (loc : Loc)
  /-- 0x07: early close or re-parity of a stripe; with its parity page, once that is programmed -/
  | stripe (id : Nat) (parity : Option PageAt)
  /-- 0x08: row close, pin, retire, release -/
  | row (ch lun block : Nat) (what : RowChange)
  /-- 0x09: a segment or partition checkpointed at a SEQ -/
  | ckpt (seg : Nat) (seq : Nat)
  /-- 0x0A -/
  | seal (clean : Bool)
  /-- 0x10: slot taken or grains added for a command; slot released -/
  | slot (idx tag : Nat)
  | slotFree (idx : Nat)
  /-- 0x11 -/
  | eraseStart (ch lun block : Nat)
  /-- 0x12 -/
  | move (ch lun block : Nat) (by_ : Mover)
  /-- 0x13 -/
  | image (ch maddr : Nat)
deriving DecidableEq, Repr

/-- A Chest record: issued, not yet acknowledged (R184). -/
structure Rec where
  seq : Nat
  change : Change
deriving DecidableEq, Repr

/-- The kind of the last boot (CHS_STAT.LAST_BOOT). -/
inductive BootKind where
  | clean | flushed | unsealed | rebuilt
deriving DecidableEq, Repr

/-- A root copy (R183): its sequence number, the boot kind of the last SEAL, the duration of the last flush in µs, the journal's
first SEQ and the next one, the SEQ of the newest complete checkpoint, and the PSEQ high-water mark. -/
structure Root where
  seq : Nat := 0
  kind : BootKind := .clean
  flushUs : Nat := 0
  head : Nat := 1
  tail : Nat := 1
  ckpt : Nat := 0
  pseq : Nat := 1
deriving DecidableEq, Repr

/-- The Chest (R182 to R202). -/
structure Chest where
  failed : Bool := false
  /-- records issued and not yet acknowledged, oldest first -/
  pending : List Rec := []
  /-- next SEQ -/
  seq : Nat := 1
  /-- journal records still held: SEQ, bytes, segments and partitions they change -/
  journal : List (Nat × Nat × List Nat) := []
  /-- SEQ of the newest complete checkpoint (Table 8-3), and that at which the running one started -/
  ckptDone : Nat := 0
  ckptFrom : Nat := 0
  /-- SEQ each segment or partition was last checkpointed at -/
  ckptSeq : List (Nat × Nat) := []
  /-- segments changed since their last checkpoint -/
  dirty : List Nat := []
  ckptActive : Bool := false
  ckptAgain : Bool := false
  /-- segments the running checkpoint still has to write -/
  ckptLeft : List Nat := []
  /-- those of them whose image is made and not yet committed, with its SEQ -/
  ckptBusy : List (Nat × Nat) := []
  /-- beats since the period timer restarted -/
  ckptTimer : Nat := 0
  /-- the last record is a SEAL: CLEAN (true) or FLUSHED; `none`: a record follows the last SEAL -/
  sealed : Option Bool := some true
  lastBoot : BootKind := .clean
  /-- the two root copies (R183) -/
  rootA : Root := {}
  rootB : Root := {}
  /-- the Chest is found readable at the next recovery -/
  readable : Bool := true
  /-- configuration kept in PERSIST: register offset and value -/
  persist : List (Nat × DWord) := []
  /-- words of the die as firmware and control cores see them, by word address -/
  raw : Sparse Word := []
  /-- uncorrectable words, by word address -/
  bad : List Nat := []
deriving DecidableEq, Repr

/-- Rebuild without the Chest (R197 to R199). -/
structure Rebuild where
  /-- 0 none, 1 scan, 2 partitions -/
  phase : Nat := 0
  mapLeft : List Nat := []
  idxLeft : List Nat := []
  /-- promotion queue, first served first: (0 map, 1 index; partition) -/
  promo : List (Nat × Nat) := []
deriving DecidableEq, Repr

/-- A Drawer directory record (Table 6-5). -/
structure Segment where
  slot : Option Nat := none
  resident : Bool := true
  dirty : Bool := false
  homed : Bool := false
  /-- FLAGS[3] BAD_SLOT -/
  bad : Bool := false
  /-- a write-out whose confirming read has not completed: its slot (R153) -/
  out : Option Nat := none
  seq : Nat := 0
  tag : BitVec 128 := 0
  /-- beat of last use, for least-recently-used replacement -/
  used : Nat := 0
deriving DecidableEq, Repr

/-- Drawer states (FTL_DRW_STAT.STATE). -/
inductive DrawerState where
  | none_ | active | lost
deriving DecidableEq, Repr

/-- The Drawer (R150 to R157). -/
structure Drawer where
  state : DrawerState := .none_
  slots : Nat := 0
  bad : List Nat := []
  /-- segments in the DRAM map space when the map spills; `none`: the map fits -/
  room : Option Nat := none
  need : Nat := 0
deriving DecidableEq, Repr

/-- Where a copy stands in the steps of R160. -/
inductive CopyStage where
  | reading | programming | verifying | issued
deriving DecidableEq, Repr

/-- A copy made and not yet committed (R160). -/
structure Copy where
  id : Nat := 0
  nsid : Nat
  span : Nat
  /-- the entries that name the source (none: the span's, 64: its directory's), as they stood -/
  ents : List (Option Nat × BitVec 64)
  ch : Nat
  loc : Loc
  by_ : Mover
  /-- the source: channel and media address -/
  src : Nat × Nat
  stage : CopyStage := .reading
  /-- rank of the work (Table 7-3) -/
  rank : Nat := 0
deriving DecidableEq, Repr

/-- The map engine and media care (R133 to R181). -/
structure Ftl where
  /-- span entries, key NSID × 2^40 + span -/
  span : Sparse (BitVec 64) := []
  /-- rewrite counts, same key (R139) -/
  rewrites : Sparse Nat := []
  grain : Sparse (Option GrainBlock) := []
  /-- mapped 4 KiB units of each NVM span, a 64-bit mask (R177) -/
  mask : Sparse Nat := []
  /-- rotation pointers by NSID (R137) -/
  rot : Sparse Nat := []
  imgs : List Img := []
  slots : List Slot := []
  rows : Sparse Row := []
  stripes : List Stripe := []
  /-- next program sequence number (Table 8-3), and the channel at which the search for the next parity page starts (R129) -/
  pseq : Nat := 1
  parityAt : Nat := 0
  /-- segment directory by segment number -/
  segs : Sparse Segment := []
  drawer : Drawer := {}
  /-- spans queued for coalescing: (NSID, span); those whose images have been asked for, with the images -/
  coalesce : List (Nat × Nat) := []
  coalRead : List (Nat × Nat × List (Nat × Nat)) := []
  pressure : Bool := false
  copies : List Copy := []
  nextOp : Nat := 1
  /-- open superblock of each stream of Table 7-2, and the next superblock number -/
  supers : Sparse Nat := []
  nextSuper : Nat := 1
  gcOn : Bool := false
  /-- superblock chosen by the running pass -/
  gcSel : Option Nat := none
  splinterTimer : Nat := 0
  wlTimer : Nat := 0
  /-- rows good at first format, TOTAL_ROWS and LUNs at format (R175) -/
  fmtRows : Nat := 0
  totalRows : Nat := 0
  fmtLuns : Nat := 0
  retired : Nat := 0
  /-- retirements by cause (Table 7-8 bytes 24–43) -/
  retCause : List Nat := [0, 0, 0, 0, 0]
  dataErrors : Nat := 0
  hostUnits : Nat := 0
  intUnits : Nat := 0
  /-- units copied by GC, fold, refresh, wear levelling, relocation -/
  copied : List Nat := [0, 0, 0, 0, 0]
  candCause : List Nat := [0, 0, 0, 0]
  erases : Nat := 0
  reclaimed : Nat := 0
  /-- FAILED LUNs awaiting relocation: device-wide index -/
  reloc : List Nat := []
  /-- configured sizes in force since the last map load -/
  grainGib : Nat := 16
  wbGib : Nat := 8
  lastSpread : Nat := 0
  lastSpreadCh : Nat := 0
  /-- a configuration change asks for AVAIL to be recomputed at the next boundary (R175) -/
  recompute : Bool := false
  /-- seal-key generation of this boot (R152) -/
  sealGen : Nat := 0
deriving DecidableEq, Repr
/-! ### Strands, Clasp, Press, key index, shard engine, cores (spec/09 to spec/13) -/

/-- A predicate table entry (Table 9-3). -/
structure Pred where
  op : Nat
  typ : Nat
  foff : Nat
  flen : Nat
  plen : Nat
  missing : Bool
  a : List Byte
  b : List Byte
  m : List Byte
deriving DecidableEq, Repr

/-- A pipeline descriptor as read at dispatch (Tables 4-8 to 4-14). -/
structure Pipe where
  /-- 0 LBA_RANGE, 1 KEY, 2 KEY_RANGE, 3 WHOLE -/
  kind : Nat := 0
  slba : Nat := 0
  lbacnt : Nat := 0
  lkey : List Byte := []
  hkey : List Byte := []
  hasPred : Bool := false
  recfmt : Nat := 0
  reclen : Nat := 0
  delim : Nat := 0
  npred : Nat := 0
  ptable : BitVec 64 := 0
  truth : List Byte := []
  preds : List Pred := []
  hasProg : Bool := false
  pind : Nat := 0
  budget : Nat := 0
  skipEmpty : Bool := false
  skipOverrun : Bool := false
  args : List Word := []
  /-- Clasp OP: 1 CONCAT, 2 MERGE, 3 AGGREGATE, 4 TOPK -/
  op : Nat := 1
  rlen : Nat := 0
  koff : Nat := 0
  klen : Nat := 0
  desc : Bool := false
  voff : Nat := 0
  vfmt : Nat := 0
  agg : Nat := 0
  count : Nat := 0
  target : Nat := 0
  peer : Nat := 0
  format : Nat := 0
  nsid : Nat := 0
  offset : Nat := 0
  limit : Nat := 0
  expandFail : Bool := false
deriving DecidableEq, Repr

/-- A group of AGGREGATE (R226). -/
structure Group where
  key : List Byte
  sum : Int
  min : Int
  max : Int
  count : Nat
deriving DecidableEq, Repr

/-- A span of a running pipeline that is still to be cut into leaves (R206, R262). -/
structure RunSpan where
  /-- the object: 0 for an LBA range, the value's first span for a key -/
  obj : Nat
  span : Nat
  strand : Nat
  /-- its data section, or why it cannot be read; the images it is read from -/
  data : List Byte := []
  bad : Option RdErr := none
  imgs : List (Nat × Nat) := []
  /-- bytes of the data section in range -/
  lo : Nat := 0
  hi : Nat := 0
  /-- next leaf to form -/
  next : Nat := 0
  /-- its directory image, read first; 1: the Bloom filter excludes the key, 2: the key list does -/
  dir : List (Nat × Nat) := []
  skip : Nat := 0
  /-- the reads of its images have been queued -/
  asked : Bool := false
deriving DecidableEq, Repr

/-- A running pipeline: its Clasp context, memory and results (R222 to R229). -/
structure Run where
  tag : Nat
  inst : Nat
  pipe : Pipe
  prog : Option ProgInfo := none
  /-- working memory held, bytes (Table 9-10) -/
  mem : Nat
  /-- segments of the DPTR sink -/
  segs : List (Nat × Nat) := []
  spans : List RunSpan := []
  leaves : Nat := 0
  skipped : Nat := 0
  overrun : Nat := 0
  flags : Nat := 0
  rbytes : Nat := 0
  records : Nat := 0
  /-- MERGE: each Strand's queued records -/
  heads : List (Nat × List (List Byte)) := []
  /-- MERGE: the record each Strand had last, for ORDER_BROKEN -/
  lasts : List (Nat × List Byte) := []
  groups : List Group := []
  /-- TOPK: records kept, in key order, with their Strand -/
  top : List (Nat × List Byte) := []
deriving DecidableEq, Repr

/-- A leaf in a leaf slot that waits for a Bead (R217). -/
structure Leaf where
  tag : Nat
  span : Nat
  k : Nat
  /-- number of the leaf in its pipeline, in the order formed -/
  seq : Nat
  /-- leaf slot, 0–15 -/
  slot : Nat
deriving DecidableEq, Repr

/-- A job: one leaf, one Bead, one PROGRAM stage (R213, R217, R218). -/
structure Job where
  tag : Nat
  inst : Nat
  prog : ProgInfo
  leafSlot : Nat
  outSlot : Nat
  span : Nat
  k : Nat
  seq : Nat
  budget : Nat
  /-- reference boundary -/
  ref : Nat
  skipOverrun : Bool
  /-- WAIT retired in the beat after boundary m -/
  waiting : Option Nat := none
  jobOut : DWord := 0
  cyc : Nat := 0
deriving DecidableEq, Repr

/-- A finished output that waits at the mover (R215, R216, R222). -/
structure OutSlot where
  tag : Nat
  /-- output slots it occupies -/
  slots : List Nat
  seq : Nat
  bytes : List Byte
  /-- lengths of its whole records, in order; of a program's output, its length -/
  cuts : List Nat
  records : Nat
  /-- a Press frame (FORMAT ≠ 0) -/
  framed : Bool := false
deriving DecidableEq, Repr

/-- A Press direct job (R244 to R248). -/
structure PressJob where
  desc : BitVec 64
  port : Bool
  started : Bool := false
  op : Nat := 0
  format : Nat := 0
  expandFail : Bool := false
  pv : Bool := false
  pasid : Nat := 0
  irq : Bool := false
  olen : Option Nat := none
  status : BitVec 64 := 0
  vector : Nat := 0
  /-- chain entries: address, length, NSID -/
  src : List (Nat × Nat × Nat) := []
  dst : List (Nat × Nat × Nat) := []
  saving : Nat := 16
  /-- input consumed and output produced so far -/
  input : List Byte := []
  output : List Byte := []
  left : Nat := 0
deriving DecidableEq, Repr

/-- A Strand (R203, R204). -/
structure Strand where
  leaves : List Leaf := []
  outUsed : List Nat := []
  /-- finished outputs in the order their jobs ended -/
  mover : List OutSlot := []
  bp : Bool := false
  sbuf : Sparse Word := []
  /-- output-slot words a Bead has written since the dispatch that took the slot (Table 9-6) -/
  outw : Sparse (Option Word) := []
  /-- first free value of each output slot's undefined words -/
  seeds : Sparse Nat := []
  code : Sparse Word := []
  press : List PressJob := []
  cyc : Nat := 0
  /-- uncorrectable Strand-buffer words -/
  bad : List Nat := []
  badCode : List Nat := []
deriving DecidableEq, Repr

/-- A key index entry (Table 11-1). -/
inductive IdxEntry where
  | free
  | key (kvns : Nat) (k : List Byte) (vlen first : Nat)
  | dir (nsid span : Nat) (ch len maddr : Nat) (raw shelf : Bool)
deriving DecidableEq, Repr

/-- Where an item lies: bucket and slot, or stash slot (R251). -/
inductive IdxPlace where
  | bucket (b slot : Nat)
  | stash (slot : Nat)
deriving DecidableEq, Repr

/-- A List sequence of a KV namespace (R257). -/
structure ListSeq where
  kvns : Nat
  lastKey : List Byte
  part : Nat
  place : IdxPlace
  /-- beats since the last List of the sequence -/
  idle : Nat := 0
  /-- the sequence stands between two commands -/
  live : Bool := true
deriving DecidableEq, Repr

/-- The index engine (R250 to R258). -/
structure Idx where
  /-- key: partition × 2^32 + bucket × 8 + slot -/
  table : Sparse IdxEntry := []
  /-- key: partition × 64 + slot -/
  stash : Sparse IdxEntry := []
  hashKey : BitVec 128 := 0
  /-- GiB in force since the last map load -/
  gib : Nat := 8
  /-- the region has DRAM (R373) -/
  placed : Bool := true
  kvns : List (Nat × Nat) := []
  /-- span runs in use by commands that resolved a freed entry: (tag, NSID, first, count) (R256) -/
  held : List (Nat × Nat × Nat × Nat) := []
  /-- span numbers taken by stores that have not committed: (tag, NSID, first, count) -/
  taken : List (Nat × Nat × Nat × Nat) := []
  seqs : List ListSeq := []
  /-- partitions marked for rebuild after an uncorrectable word (R258) -/
  damaged : List Nat := []
deriving DecidableEq, Repr

/-- A destination of a shard descriptor (Table 11-4). -/
structure ShardDest where
  addr : Nat
  kind : Nat
  peer : Nat
  present : Bool
  rebuild : Bool
  nsid : Nat
deriving DecidableEq, Repr

/-- A shard-engine job (R267 to R269). -/
structure ShardJob where
  tag : Nat
  inst : Nat
  /-- port and reset generation of its command -/
  port : Bool
  gen : Nat
  rebuild : Bool
  fromPipe : Bool
  k : Nat
  m : Nat
  unit : Nat
  shlen : Nat
  dests : List ShardDest
  /-- the object, for an encode; the source shards by index, for a rebuild -/
  data : List Byte
  srcs : List (Nat × List Byte) := []
  started : Bool := false
  /-- writes issued so far -/
  issued : Nat := 0
  /-- its command is past its deadline, or reset after the job's start: nothing further leaves (R268) -/
  suppressed : Bool := false
deriving DecidableEq, Repr

/-- Which core executes: a Bead of a Strand, or a control core (Table 12-1). -/
inductive CoreRun where
  | running
  /-- SLEEP (R294) -/
  | sleeping
  /-- a trap met ST.TRAPPED = 1 (R291) -/
  | stopped
  /-- not started: before the ROM runs -/
  | off
deriving DecidableEq, Repr

/-- A window descriptor (Table 12-5), its four words as SAVW stores them. -/
structure Win where
  page : Word := 0
  w1 : Word := 0
  w2 : Word := 0
  w3 : Word := 0
deriving DecidableEq, Repr

/-- The state of one Gleluris-16 core (R272, Tables 12-2 and 12-12). -/
structure Core where
  a : Word := 0
  x : Word := 0
  y : Word := 0
  e : Word := 0
  st : Word := 0
  base : Word := 0
  pc : Word := 0
  cs : Word := 0
  /-- return stack, oldest entry first: PC and CS (R275) -/
  rs : List (Word × Word) := []
  /-- windows 1–15, key n -/
  win : Sparse Win := []
  /-- creation number of the SLM namespace each window was mapped to (R283) -/
  winNs : Sparse Nat := []
  mem : Sparse Word := []
  /-- local-memory words that are uncorrectable -/
  bad : List Nat := []
  epc : Word := 0
  ecs : Word := 0
  est : Word := 0
  ecause : Word := 0
  einfo : Word := 0
  vlo : Word := 0
  vhi : Word := 0x8000
  imask : BitVec 64 := 0
  rsSel : Word := 0
  rsPc : Word := 0
  rsCs : Word := 0
  run : CoreRun := .off
  job : Option Job := none
  /-- R47: the low word staged by a write, with its register offset -/
  stage : Option (Nat × Word) := none
  /-- R47: the high word latched by a read of the low word -/
  latch : Option (Nat × Word) := none
  lastCause : Nat := 0
  lastTrapPc : Word := 0
deriving DecidableEq, Repr

/-- Number `k`'s core at reset: a Bead (k < 256) or a control core (Table 12-2). -/
def Core.atReset (k : Nat) : Core := if k < 256 then {} else { st := 0x8000, cs := 0x8000 }

/-! ### Keyed services, Code Array, DRAM, power, pins (spec/14 to spec/18) -/

/-- A Locket slot (R320); EMPTY while `loaded` is false. -/
structure KeySlot where
  loaded : Bool := false
  key : List Byte := []
  owner : Nat := 0
  shared : Bool := false
  /-- KEYLEN: 0, 1, 2 for 16, 24, 32 bytes -/
  keylen : Nat := 0
  /-- GCM invocation counter, 0 to 2^32, kept in the Chest (R337) -/
  gcm : Nat := 0
deriving DecidableEq, Repr

/-- The digest engine (R326 to R332). -/
structure Digest where
  active : Bool := false
  done : Bool := false
  valid : Bool := false
  matched : Bool := false
  /-- the open message is invalid (R328) -/
  invalid : Bool := false
  alg : Nat := 0
  hmac : Bool := false
  slot : Nat := 0
  verify : Bool := false
  /-- declared length, with LEN_VALID at START (R330) -/
  len : Option Nat := none
  req : Nat := 0
  /-- blocks the engine still has to absorb: BUSY while not 0 (R328) -/
  busy : Nat := 0
  /-- DG_LAST has been committed -/
  last : Bool := false
  /-- message bytes accepted -/
  msg : List Byte := []
  exp : List DWord := List.replicate 16 0
  res : List DWord := List.replicate 16 0
  /-- last digest error code -/
  err : Nat := 0
deriving DecidableEq, Repr

/-- A cipher job (R334 to R339). -/
structure CipherJob where
  desc : Nat
  req : Nat
  /-- reset generation of the instance at the commit -/
  gen : Nat
  started : Bool := false
  op : Nat := 0
  mode : Nat := 0
  slot : Nat := 0
  ctrw : Nat := 0
  irq : Bool := false
  len : Nat := 0
  src : Nat := 0
  dst : Nat := 0
  iv : List Byte := []
  aad : Nat := 0
  aadLen : Nat := 0
  vector : Nat := 0
  status : Nat := 0
  /-- the key as taken at the start -/
  key : List Byte := []
  /-- expected tag of a GCM decryption (R338) -/
  tag : List Byte := []
  /-- its slot was zeroized while it ran (R324) -/
  zeroized : Bool := false
  /-- its DMA met an uncorrectable line (R385) -/
  halted : Bool := false
deriving DecidableEq, Repr

/-- The keyed services unit (R312 to R340). -/
structure Ksu where
  /-- lock holder, a requester ID of Table 14-2 -/
  owner : Option Nat := none
  /-- ERR code of each requester (R319) -/
  err : Sparse Nat := []
  /-- former owners whose next access gives LOCK_LOST (R317) -/
  lost : List Nat := []
  /-- beats the owner has been idle, from the first boundary after the last restart (R26, R316) -/
  idle : Option Nat := none
  /-- idle timeout of this idle period, ms -/
  idleTo : Nat := 10
  /-- KS_ACT.INST of each port -/
  actA : Nat := 0
  actB : Nat := 0
  key : List DWord := List.replicate 8 0
  slots : List KeySlot := List.replicate 64 {}
  dg : Digest := {}
  run : Option CipherJob := none
  queued : Option CipherJob := none
  /-- a cipher job of a control core has ended: level of interrupt source 12 -/
  jobFlag : Bool := false
deriving DecidableEq, Repr

/-- Bank modes (Table 15-2). -/
inductive BankMode where
  | read | command | busy | suspended | status
deriving DecidableEq, Repr

/-- An operation of a Code Array bank (Table 15-4). -/
inductive CarOp where
  /-- word addresses and values -/
  | program (words : List (Nat × Word))
  | sector (n : Nat)
  | bank
  | password (words : List Word) (req : Nat)
  /-- protect or clear a sector -/
  | protect (sector : Nat) (on : Bool)
  | pwWord (i : Nat) (v : Word)
  /-- boot swap: selector word address and the new value -/
  | swap (addr : Nat) (v : Word)
deriving DecidableEq, Repr

/-- A bank of the Code Array (R345, R346). -/
structure CarBank where
  mode : BankMode := .read
  op : Option CarOp := none
  /-- requester of the operation -/
  req : Nat := 0
  toggle : Bool := false
  error : Bool := false
  prot : Bool := false
  notErased : Bool := false
  noSwap : Bool := false
  /-- sector whose erase is suspended (R352) -/
  susp : Option Nat := none
  /-- a suspend has been accepted and has not taken effect -/
  suspReq : Bool := false
  /-- the erased sector reads as the array after an exit in SUSPENDED (R348) -/
  arrayView : Bool := false
deriving DecidableEq, Repr

/-- A command sequence under way (R347, R349): requester, bank, cycles accepted, oldest first. -/
structure CarSeq where
  req : Nat
  bank : Nat
  /-- (bank offset, data) of each cycle -/
  cycles : List (Nat × Word)
deriving DecidableEq, Repr

/-- The Code Array (R343 to R364). -/
structure Car where
  banks : List CarBank := List.replicate 4 {}
  seqs : List CarSeq := []
  /-- array words; an erased word is 0xFFFF -/
  words : Sparse Word := []
  /-- words that fail ECC -/
  bad : List Nat := []
  /-- sectors with an open erase-start marker: they are SUSPECT (R355) -/
  markers : List Nat := []
  prot : List Nat := []
  /-- PW0 to PW3 -/
  password : List Word := [0xFFFF, 0xFFFF, 0xFFFF, 0xFFFF]
  pwOpen : Bool := false
  frozen : Bool := false
  pwFails : Nat := 0
  /-- beats since the boundary after the failed unlock (R357) -/
  lockout : Option Nat := none
  /-- erases of each sector -/
  ecnt : Sparse Nat := []
  /-- operations refused under R350 -/
  pwrFail : Bool := false
  /-- the configuration array has been read (R364) -/
  cfgRead : Bool := false
  /-- block the ROM booted: true BOOT_B -/
  booted : Bool := false
  repaired : Bool := false
  /-- a SELW bit whose program was interrupted: word address and value when completed (R360) -/
  half : Option (Nat × Word) := none
deriving DecidableEq, Repr

/-- States of a DRAM channel (DRC_STAT.STATE). -/
inductive DrcState where
  | absent | up | disabled | selfRefresh
deriving DecidableEq, Repr

/-- A DRAM channel (R365 to R390). -/
structure Drc where
  state : DrcState := .absent
  isSealed : Bool := false
  failing : Bool := false
  dsetA : Nat := 0
  dsetB : Nat := 0
  band : Nat := 0
  bandPend : Bool := false
  clkStopped : Bool := false
  /-- refresh debts: sub-channel A rank 0, A rank 1, B rank 0, B rank 1 (R370) -/
  debts : List Nat := [0, 0, 0, 0]
  /-- doubled refresh rate per rank (R371) -/
  doubled : List Bool := [false, false, false, false]
  /-- a check-area read-back is due (R374) -/
  checkDue : Bool := false
  /-- sub-channels that have still to switch sets: A, B -/
  swA : Bool := false
  swB : Bool := false
  /-- valid delay sets, bands 0–2 (R372) -/
  setOk : List Bool := [true, true, true]
  /-- activate tables by bank key: rows and counts (R375) -/
  act : Sparse (List (Nat × Nat)) := []
  /-- remapped lines, in the order of their entries (R387) -/
  remap : List Nat := []
  /-- correctable-error tracker: line, count -/
  track : List (Nat × Nat) := []
  /-- devices with correctable errors: (sub, rank, device) (R389) -/
  devs : List (Nat × Nat × Nat) := []
  /-- poisoned lines (R381) -/
  poison : List Nat := []
  /-- self-refresh is wanted by PWR (R379) -/
  srWant : Bool := false
  rd : Nat := 0
  wr : Nat := 0
deriving DecidableEq, Repr

/-- DRAM as a whole, and memory protection (R365 to R391). -/
structure Dram where
  ch : List Drc := List.replicate 6 {}
  /-- interleave key K (R367) -/
  key : BitVec 64 := 0
  /-- characterization record: T1, T2, HYST and ROWPERM (Table 16-3) -/
  t1 : Nat := 0
  t2 : Nat := 0
  hyst : Nat := 0
  rowperm : List Nat := []
  /-- working DRAM as the DRAM windows see it, by word address -/
  words : Sparse Word := []
  /-- SLM, by byte address of the region (R103) -/
  slm : Sparse Byte := []
  /-- poisoned SLM bytes' lines: line index -/
  slmPoison : List Nat := []
  /-- poisoned grains: NSID, span, grain (R386) -/
  grains : List (Nat × Nat × Nat) := []
  /-- SRAM word remaps: macro (class × 1,024 + instance), word (R388) -/
  sramRemap : List (Nat × Nat) := []
  /-- correctable SRAM words since the pass began: macro, word, count -/
  sramTrack : List (Nat × Nat × Nat) := []
  scrub : Bool := false
  /-- boundaries since the last pass started; `none`: none has started since the patrol was enabled -/
  scrubTimer : Option Nat := none
  /-- lines read in the pass, and in all -/
  scrubAt : Nat := 0
  scrubAll : Nat := 0
  passes : Nat := 0
  /-- SEALED channels in force (R377) -/
  sealedCh : List Nat := []
  /-- regions that got DRAM (R29, R373): map, index, write buffer, SLM -/
  placed : List Bool := [true, true, true, true]
deriving DecidableEq, Repr

/-- Reset kinds that rerun the ROM (Table 17-1, RST_CAUSE.KIND). -/
inductive ResetKind where
  | por | perst | soft | watchdog
deriving DecidableEq, Repr

/-- The on-die fuses (R399, R320, R432). -/
structure Fuses where
  keyHash : List (List Byte) := [[], [], [], []]
  revoked : List Bool := [false, false, false, false]
  svn : Nat := 0
  deviceKey : List Byte := List.replicate 32 0
  /-- SHA-384 of the debug key, if fused -/
  debugHash : Option (List Byte) := none
  serial : List Byte := []
deriving DecidableEq, Repr

/-- Power, reset, boot, temperature and the watchdog (R392 to R414). -/
structure Power where
  ps : Nat := 0
  allowed : Nat := 0
  level : Nat := 0
  /-- c1 to c4 (R406) -/
  c : List Nat := [0, 0, 0, 0]
  wake : Nat := 0
  /-- an exit to PS0 is under way -/
  waking : Bool := false
  throttle : Nat := 0
  /-- beats for which the throttle level has been unchanged -/
  steady : Nat := 0
  /-- sensor readings in °C; `none` is a failed sensor, before the first sample no reading -/
  sensors : List (Option Int) := []
  /-- TJ in °C, once sampled -/
  tj : Option Int := none
  /-- consecutive boundaries with TJ ≥ 110 °C (R411) -/
  hot : Nat := 0
  /-- Critical Warning as last reported (R179) -/
  warn : Nat := 0
  /-- boundaries spent in each power state, and throttled -/
  res : List Nat := [0, 0, 0, 0, 0]
  throt : Nat := 0
  wdRun : Bool := false
  /-- beats counted since the first boundary after the kick -/
  wd : Option Nat := none
  prewarn : Bool := false
  /-- PERST_N is low: as power comes up, and until the board raises it (Table 18-7) -/
  perstLow : Bool := true
  pwrGood : Bool := true
  pwrFailLow : Bool := false
  /-- the wait of R424 before CC0 starts -/
  cc0Wait : Bool := false
  /-- a flush is under way that the loss of power cuts short (R190, R424) -/
  flush : Bool := false
  /-- what the board gives the ROM run under way; `none`: no ROM runs (R397) -/
  rom : Option Boot := none
  cause : ResetKind := .por
  from_ : Nat := 0
  flushed : Bool := false
  /-- RST_BOOT_STAT -/
  bootStat : DWord := 0
  /-- firmware staging area (R400): pieces (offset, bytes) -/
  staging : List (Nat × List Byte) := []
  /-- tag of the Firmware Commit that runs (R402) -/
  commit : Option Nat := none
  /-- protection frozen in the other bank's layout (R402) -/
  stale : Bool := false
  fuses : Fuses := {}
deriving DecidableEq, Repr

/-- JTAG instructions (Table 18-11). -/
inductive JtagIr where
  | extest | idcode | sample | clamp | highz | debug | bypass
deriving DecidableEq, Repr

/-- The test access port (R431, R432). -/
structure Tap where
  ir : JtagIr := .idcode
  /-- boundary-scan cells as preloaded -/
  cells : List Bool := []
  /-- the cells drive the balls (EXTEST, CLAMP), or all outputs are high impedance (HIGHZ) -/
  driving : Bool := false
  highz : Bool := false
  bypass : Bool := false
  /-- ADH_DEBUG: the challenge scanned out, the response scanned in -/
  challenge : List Byte := []
  response : Option (List Byte) := none
  /-- the core cells are not held by TRST_N -/
  reset : Bool := false
deriving DecidableEq, Repr

/-- Output drive of a group of balls (Table 18-2). -/
inductive Drive where
  | hiz | low | high | idle | running
deriving DecidableEq, Repr

/-- The balls (R415 to R427, Table 18-2): what the device drives and what it sees. -/
structure Pins where
  /-- NFn_WP_N high, per channel -/
  wp : List Bool := List.replicate 32 false
  /-- NFn_CE_N, RE, WE: idle levels, per channel (parked or down: idle) -/
  nf : List Drive := List.replicate 32 .idle
  /-- DDm_RESET_N high, and the clock running, per channel -/
  ddReset : List Bool := List.replicate 6 false
  ddClk : List Bool := List.replicate 6 false
  /-- PE_TX: electrical idle until training -/
  peTx : Drive := .idle
  clkreq : Bool := false
  /-- asserted open-drain outputs -/
  wakeN : Bool := false
  alertN : Bool := false
  thermN : Bool := false
  uartTx : Bool := true
  gpioIn : BitVec 16 := 0
  gpioOut : BitVec 16 := 0
  /-- 1: the ball is an output -/
  gpioDir : BitVec 16 := 0
  /-- straps latched (R419) -/
  dual : Bool := false
  console : Bool := false
  /-- AVS_VID code driven on GPIO[7:4], once firmware drives it (R420) -/
  avs : Option Nat := none
  tap : Tap := {}
deriving DecidableEq, Repr
/-! ### The device -/

/-- The writable part of a function's configuration space, the bits that other fields of Port hold apart (R35, R36,
Table 2-3). -/
structure Cfg where
  /-- Command: Memory Space Enable, Parity Error Response, SERR# Enable, Interrupt Disable -/
  mem : Bool := false
  parity : Bool := false
  serr : Bool := false
  intxOff : Bool := false
  bar0 : BitVec 64 := 0
  bar2 : BitVec 64 := 0
  /-- Device Control: error reporting enables [3:0], Max_Payload_Size (0 to 2), Max_Read_Request_Size (0 to 5) -/
  report : BitVec 4 := 0
  mps : Nat := 0
  mrrs : Nat := 2
  /-- Device Control 2: IDO Request Enable, IDO Completion Enable, 10-Bit Tag Requester Enable -/
  ido : Bool := false
  idoCpl : Bool := false
  tag10 : Bool := false
  pasid : Bool := false
  ats : Bool := false
  stu : Nat := 0
  /-- L1 PM Substates Control 1 [3:0], Link Control ASPM Control -/
  l1ss : BitVec 4 := 0
  aspm : Nat := 0
  /-- AER: Uncorrectable Error Status, Mask and Severity, Correctable Error Status and Mask, ECRC enables -/
  uncStat : DWord := 0
  uncMask : DWord := 0x00400000
  uncSev : DWord := 0x00462030
  corStat : DWord := 0
  corMask : DWord := 0x00006000
  ecrcGen : Bool := false
  ecrcChk : Bool := false
deriving DecidableEq, Repr

/-- A port: its link, its function's configuration space, MSI-X table and translation cache
(R34 to R37, R57), and its NVMe controller. -/
structure Port where
  up : Bool := false
  training : Bool := false
  flit : Bool := false
  speed : Nat := 0
  width : Nat := 0
  bme : Bool := false
  /-- Enable Relaxed Ordering of Device Control -/
  relaxed : Bool := false
  msixEn : Bool := false
  msixMask : Bool := false
  msix : Sparse MsixEntry := []
  /-- ATS translation cache: (PASID, page) with their permissions granted -/
  atc : List (Nat × Nat) := []
  /-- L1.2 enabled in L1 PM Substates Control -/
  l12 : Bool := false
  cfg : Cfg := {}
  /-- DMA that waits for the link to finish training, oldest first (R37) -/
  stalled : List Out := []
  ctrl : Ctrl := {}
  hmb : List (Nat × Nat) := []
  hmbOn : Bool := false
deriving DecidableEq, Repr

/-- The state of the block. -/
structure State where
  /-- commands that wait, first in first out -/
  pending : List Instr := []
  /-- what has gone out, newest last -/
  out : List Out := []
  /-- device registers held as such, by BAR0 byte offset; unlisted: the reset value of the table -/
  regs : Sparse DWord := []
  /-- value in force until the next beat boundary of each register whose write waits for it (R12) -/
  held : List (Nat × DWord) := []
  /-- low halves written and not committed: source, register offset, value (R45) -/
  stage : List (Src × Nat × DWord) := []
  beat : Nat := 0
  /-- Media Care log page as it was at the last beat boundary; empty before the first (R180) -/
  careLog : List Byte := []
  /-- counts the free values taken (the model's own field) -/
  free : Nat := 0
  dev : DevState := .boot
  /-- MAP_STATE REBUILDING -/
  rebuilding : Bool := false
  health : Health := .normal
  portA : Port := {}
  portB : Port := {}
  /-- Subsystem IDs loaded (R425), and what they are: Subsystem ID and Subsystem Vendor ID -/
  idsLoaded : Bool := false
  subsys : DWord := 0
  sq : Sparse SqRow := []
  cq : Sparse CqRow := []
  imt : Sparse ImtEntry := []
  /-- row loaded by QMG_QCMD (QMG_QDATA0–5) -/
  qdata : List DWord := [0, 0, 0, 0, 0, 0]
  cmds : List Cmd := []
  nextTag : Nat := 1
  /-- journal hold in force (R186) -/
  jhold : Bool := false
  insts : Sparse Inst := []
  peers : Sparse PeerEntry := []
  /-- peer tables to take effect at the next boundary: key, entry -/
  peerNext : List (Nat × PeerEntry) := []
  ns : Sparse (Option Namespace) := []
  /-- namespaces created so far -/
  nsSerial : Nat := 0
  progs : Sparse ProgSlot := []
  profiles : List Profile := []
  chans : List Chan := List.replicate 32 {}
  luns : Sparse Lun := []
  /-- the pages as the media hold them (Table 5-9), randomized, by page key -/
  nand : Sparse (List Byte) := []
  /-- firmware-only registers that a control core has written (R132) -/
  fw : Sparse (Option DWord) := []
  /-- soft-decode pool, in order of arrival; pages that wait for their reconstruction (R127, R130) -/
  soft : List SoftCw := []
  recon : List SoftCw := []
  ftl : Ftl := {}
  chest : Chest := {}
  rebuild : Rebuild := {}
  strands : Sparse Strand := []
  runs : List Run := []
  idx : Idx := {}
  shd : List ShardJob := []
  /-- cores: Bead b of Strand s under 8 s + b, control core c under 256 + c -/
  cores : Sparse Core := []
  /-- cached instruction lines of each control-core pair -/
  icache : Sparse (List Nat) := []
  /-- uncorrectable code words in the cache of each pair (R382, Table 12-11) -/
  icacheBad : Sparse (List Nat) := []
  /-- interrupt routing of each control core (RST_ROUTE) -/
  route : Sparse (BitVec 64) := []
  ksu : Ksu := {}
  car : Car := {}
  dram : Dram := {}
  pwr : Power := {}
  pins : Pins := {}
deriving DecidableEq, Repr

/-- The device as PWR_GOOD rises (Table 17-2 step 1): DEV_STATE BOOT, every register at the reset value
of its table, nothing stored, nothing waiting. -/
def State.reset : State := {}

end Sys2Proof.Machine
end

