-- ==== Sys2Proof/Machine/Ops.lean ====
section
/-!
DEFINITION. The operations every meaning is written over: registers and their sticky bits, counters,
free values, ports and instances, DMA writes with their fence and dirty-page log, interrupt messages.
-/

namespace Sys2Proof.Machine

/-- What a command answers. -/
abbrev Result := Host.Outcome State Fault Refusal

/-! ### Lists held by index -/

/-- Element `i` of a list, or the default. -/
def nth {α : Type} (d : α) : List α → Nat → α
  | [], _ => d
  | a :: _, 0 => a
  | _ :: t, n + 1 => nth d t n

/-- The list with element `i` replaced; unchanged when there is none. -/
def setNth {α : Type} (v : α) : List α → Nat → List α
  | [], _ => []
  | _ :: t, 0 => v :: t
  | a :: t, n + 1 => a :: setNth v t n

/-! ### Registers -/

/-- The stored value of the register at BAR0 offset `off`. -/
def State.reg (s : State) (off : Nat) : DWord := Sparse.get regReset s.regs off

/-- Store a register. -/
def State.setReg (s : State) (off : Nat) (v : DWord) : State :=
  { s with regs := Sparse.set regReset s.regs off v }

/-- The value of the register that the hardware uses: the old one until the boundary after a write
(R12). -/
def State.inForce (s : State) (off : Nat) : DWord :=
  match s.held.find? (fun p => decide (p.1 = off)) with
  | some p => p.2
  | none => s.reg off

/-- Field `[hi:lo]` as read. -/
def State.field (s : State) (off hi lo : Nat) : Nat := bits (s.reg off).toNat hi lo

/-- Field `[hi:lo]` as the hardware uses it. -/
def State.fieldNow (s : State) (off hi lo : Nat) : Nat := bits (s.inForce off).toNat hi lo

/-- Write field `[hi:lo]`. -/
def State.setField (s : State) (off hi lo v : Nat) : State :=
  s.setReg off (BitVec.ofNat 32 (setBits (s.reg off).toNat hi lo v))

/-- Count `n` into field `[hi:lo]`, saturating. -/
def State.count (s : State) (off hi lo n : Nat) : State :=
  s.setField off hi lo (min (s.field off hi lo + n) (2 ^ (hi + 1 - lo) - 1))

/-- Count 1 into a whole 32-bit counter, saturating at 0xFFFF_FFFF. -/
def State.bump (s : State) (off : Nat) : State := s.count off 31 0 1

/-- Add `n` to the 64-bit counter pair `lo`/`lo + 4`. -/
def State.bump64 (s : State) (lo n : Nat) : State :=
  let v := (s.reg lo).toNat + (s.reg (lo + 4)).toNat * 2 ^ 32 + n
  (s.setReg lo (BitVec.ofNat 32 v)).setReg (lo + 4) (BitVec.ofNat 32 (v / 2 ^ 32))

/-- Set a sticky bit (R5, R6). -/
def State.raise (s : State) (err bit : Nat) : State :=
  s.setReg err (s.reg err ||| BitVec.ofNat 32 (2 ^ bit))

/-- Capture `v` in a first-event register: VALID is bit 31, and a held capture stays. -/
def State.capture (s : State) (loc v : Nat) : State :=
  if bitOf (s.reg loc).toNat 31 then s else s.setReg loc (BitVec.ofNat 32 (2 ^ 31 + v % 2 ^ 31))

/-- Set a sticky bit and capture the event if none is held. -/
def State.raiseAt (s : State) (err bit loc v : Nat) : State := (s.raise err bit).capture loc v

/-! ### Output and free values -/

/-- Send something out. -/
def State.emit (s : State) (o : Out) : State := { s with out := s.out ++ [o] }

/-- Issue DMA or a message on a port's link: it stalls while the link trains (R37). -/
def State.send (s : State) (p : Bool) (o : Out) : State :=
  let q := if p then s.portB else s.portA
  if q.training then
    let r := { q with stalled := q.stalled ++ [o] }
    if p then { s with portB := r } else { s with portA := r }
  else s.emit o

/-- The next free value (the spec leaves it open). -/
def State.freeVal (s : State) : Nat := Config.freeNat s.free

/-- Take a free value. -/
def State.tick (s : State) : State := { s with free := s.free + 1 }

/-- Free bytes: what the spec leaves open of a buffer, a page's spare, an abandoned attempt's destination (R126, R238). -/
def freeBytes (seed n : Nat) : List Byte := (List.range n).map (fun i => BitVec.ofNat 8 (Config.freeNat seed >>> (8 * i)))

/-! ### Little-endian and big-endian bytes -/

/-- `n` as `k` little-endian bytes. -/
def leBytes : Nat → Nat → List Byte
  | 0, _ => []
  | k + 1, n => BitVec.ofNat 8 n :: leBytes k (n / 256)

/-- The number little-endian bytes spell. -/
def leNat : List Byte → Nat
  | [] => 0
  | b :: t => b.toNat + 256 * leNat t

/-- `n` as `k` big-endian bytes. -/
def beBytes (k n : Nat) : List Byte := (leBytes k n).reverse

/-- The number big-endian bytes spell. -/
def beNat (l : List Byte) : Nat := leNat l.reverse

/-- Bytes `[at, at + n)` of a list. -/
def slice (l : List Byte) (at_ n : Nat) : List Byte := (l.drop at_).take n

/-- The little-endian field of `n` bytes at byte `at_`. -/
def leField (l : List Byte) (at_ n : Nat) : Nat := leNat (slice l at_ n)

/-- All bytes are 0. -/
def zeroBytes (l : List Byte) : Bool := l.all (fun b => decide (b = 0))

/-! ### Time -/

/-- Beats of a time in milliseconds: ceil(ms / 2.048 µs) (R26). -/
def beatsOfMs (ms : Nat) : Nat := cdiv (ms * 1000000) 2048

/-- Beats of a time in microseconds (R26). -/
def beatsOfUs (us : Nat) : Nat := cdiv (us * 1000) 2048

/-! ### Ports and instances -/

/-- The port: `true` is B. -/
def State.port (s : State) (p : Bool) : Port := if p then s.portB else s.portA

def State.setPort (s : State) (p : Bool) (v : Port) : State :=
  if p then { s with portB := v } else { s with portA := v }

def State.ctrl (s : State) (p : Bool) : Ctrl := (s.port p).ctrl

def State.setCtrl (s : State) (p : Bool) (c : Ctrl) : State := s.setPort p { s.port p with ctrl := c }

/-- The port an instance belongs to: in DUAL mode 512 and above belong to port B (R34). -/
def State.portOf (s : State) (inst : Nat) : Bool := s.pins.dual && decide (512 ≤ inst)

/-- A manager instance: 0, and 512 in DUAL mode (R34). -/
def State.isManager (s : State) (inst : Nat) : Bool :=
  decide (inst = 0) || (s.pins.dual && decide (inst = 512))

/-- The manager instance of a port. -/
def State.manager (s : State) (p : Bool) : Nat := if s.pins.dual && p then 512 else 0

/-- Instance `inst` lies in the range of port `p`. -/
def State.inPort (s : State) (p : Bool) (inst : Nat) : Bool :=
  decide (inst < 1024) && decide (s.portOf inst = p)

def State.inst (s : State) (i : Nat) : Inst := Sparse.get (fun _ => {}) s.insts i

def State.setInst (s : State) (i : Nat) (v : Inst) : State :=
  { s with insts := Sparse.set (fun _ => {}) s.insts i v }

/-- Set a bit of INST_ERR of an instance (Table 2-8). -/
def State.instErr (s : State) (i bit : Nat) : State :=
  s.setInst i { s.inst i with err := (s.inst i).err ||| BitVec.ofNat 32 (2 ^ bit) }

/-- Set a bit of HIF_ERR of a port (Table 2-15). -/
def State.hifErr (s : State) (p : Bool) (bit : Nat) : State :=
  s.raise (Reg.HIF_ERR (if p then 1 else 0)) bit

/-- The port whose manager may write device-wide configuration (R41). -/
def State.ownerPort (s : State) : Bool := s.pins.dual && bitOf (s.inForce Reg.HIF_PORT_CFG).toNat 0

/-! ### Fence (R74) -/

/-- Work of instance `inst` started under generation `gen` may still write. -/
def State.alive (s : State) (inst gen : Nat) : Bool := decide ((s.inst inst).gen = gen)

/-- Record a suppressed write: the first one since the reset sets INS_EVENTS.FENCED (bit 11). -/
def State.fenced (s : State) (inst : Nat) : State :=
  if (s.inst inst).fenced then s
  else (s.setInst inst { s.inst inst with fenced := true }).instErr inst 11

/-! ### Dirty-page log (R79) -/

/-- 4 KiB pages a write touches. -/
def pagesOf (addr len : Nat) : List Nat :=
  if len = 0 then [] else (List.range ((addr + len - 1) / 4096 - addr / 4096 + 1)).map (· + addr / 4096)

/-- The 64 bytes of bitmap line `k` with the pages given (R78). -/
def bitmapLine (first k : Nat) (pages : List Nat) : List Byte :=
  let here := (pages.filter (fun p => decide ((p - first) / 512 = k))).map (fun p => (p - first) % 512)
  (List.range 64).map (fun b => BitVec.ofNat 8 (((List.range 8).filter (fun j => here.contains (8 * b + j))).map (2 ^ ·)).sum)

/-- Lines of a log with coalesced bits. -/
def DirtyLog.lines (d : DirtyLog) : List Nat := (d.pend.map (fun p => (p - d.first) / 512)).dedup

/-- Flush the coalesced bits of an instance to the device's buffer, each line read, its bits ORed in and written back: with
the manager's address space, never with Relaxed Ordering, and not logged (R79, R80). -/
def State.flushDirty (s : State) (i : Nat) : State :=
  let r := s.inst i
  let d := r.dlog
  let base := if d.activeB then d.bufB else d.bufA
  let t := s.setInst i { r with dlog :=
    { d with pend := [], inBuf := d.inBuf ++ d.pend.filter (fun p => !d.inBuf.contains p) } }
  if d.running && !d.fault then
    d.lines.foldl (fun u k => u.send (s.portOf i) (.orLine (s.portOf i) (base.toNat + 64 * k) (bitmapLine d.first k d.pend))) t
  else t

/-- Every log flushes: order 8 of Table 1-5, and early when the tracker is full (R79). -/
def State.flushLogs (s : State) : State :=
  s.insts.foldl (fun t e => if (t.inst e.1).dlog.pend.isEmpty then t else t.flushDirty e.1) s

/-- Lines that the tracker holds, device-wide, and how many it can hold (R79). -/
def State.dirtyLines (s : State) : Nat := (s.insts.map (fun e => e.2.dlog.lines.length)).sum
def trackerLines : Nat := 8192

/-- Set the bit of one page of a running log: a further line that finds the tracker full has it flushed first (R79). -/
def State.dirtyPage (s : State) (i p : Nat) : State :=
  let d := (s.inst i).dlog
  if d.pend.contains p then s
  else
    let t := if !d.lines.contains ((p - d.first) / 512) && decide (trackerLines ≤ s.dirtyLines) then s.flushLogs else s
    t.setInst i { t.inst i with dlog := { (t.inst i).dlog with pend := (t.inst i).dlog.pend ++ [p] } }

/-- Log a DMA write of an instance: pages inside the range are coalesced, pages outside set
INS_EVENTS.DLOG_RANGE (bit 12). -/
def State.dirty (s : State) (inst addr len : Nat) : State :=
  let d := (s.inst inst).dlog
  if d.running && !d.fault then
    let ps := pagesOf addr len
    let inside := ps.filter (fun p => decide (d.first ≤ p) && decide (p ≤ d.first + d.npages))
    let t := inside.foldl (fun u p => u.dirtyPage inst p) s
    if inside.length = ps.length then t else t.instErr inst 12
  else s

/-- A DMA write for an instance to host memory, under its PASID where it is no manager instance,
logged, or suppressed when its generation has passed (R74, R79, R334). -/
def State.dmaWrite (s : State) (inst gen addr : Nat) (data : List Byte) (ro : Bool) : State :=
  if data.isEmpty then s
  else if s.alive inst gen then
    (s.dirty inst addr data.length).send (s.portOf inst)
      (.write (s.portOf inst) (if s.isManager inst then none else (s.inst inst).pasid) addr data ro
        (s.port (s.portOf inst)).cfg.ido)
  else s.fenced inst

/-! ### Power states (R408) -/

/-- Replace the power and reset state. -/
def State.setPwr (s : State) (p : Power) : State := { s with pwr := p }

/-- A wake event: the exit to PS0 starts (R408). -/
def State.wakeBy (s : State) (cause : Nat) : State :=
  if s.pwr.ps = 0 then s else s.setPwr { s.pwr with waking := true, wake := cause }

/-! ### Interrupt messages (R57) -/

/-- Send the message of MSI-X vector `v` of a port, or set its pending bit while it, or the function,
is masked. -/
def State.msix (s : State) (p : Bool) (v : Nat) : State :=
  let e := Sparse.get (fun _ => {}) (s.port p).msix v
  if !(s.port p).msixEn then s
  else if e.mask || (s.port p).msixMask then
    s.setPort p { s.port p with msix := Sparse.set (fun _ => {}) (s.port p).msix v { e with pend := true } }
  else s.send p (.message p e.addr e.data)

/-- Clearing the Function Mask sends the message of every unmasked vector with its pending bit set (R57). -/
def State.msixFlush (s : State) (p : Bool) : State :=
  (s.port p).msix.foldl (fun t e =>
    if e.2.pend && !e.2.mask then
      (t.setPort p { t.port p with msix := Sparse.set (fun _ => {}) (t.port p).msix e.1 { e.2 with pend := false } }).send p
        (.message p e.2.addr e.2.data)
    else t) s

/-- Send the message of interrupt message table entry `n` for an instance: withheld when the entry
has another owner, pending while masked. -/
def State.imtMessage (s : State) (inst n : Nat) : State :=
  let e := Sparse.get (fun _ => {}) s.imt n
  if e.owner ≠ inst then s.raise Reg.QMG_ERR 4
  else if e.mask then
    { s with imt := Sparse.set (fun _ => {}) s.imt n { e with pend := true } }
  else s.send (s.portOf inst) (.message (s.portOf inst) e.addr e.data)

/-- The message of a job of an instance with vector `v` (R57, R339). -/
def State.jobMessage (s : State) (inst v : Nat) : State :=
  if s.isManager inst then s.msix (s.portOf inst) v else s.imtMessage inst v


end Sys2Proof.Machine
end

