-- ==== Sys2Proof/Machine/CodeArray.lean ====
section
/-!
DEFINITION. The Code Array (spec/15): bank modes and the status word, command sequences cycle by cycle,
programs, erases, suspend and resume, protection, the boot selector.
-/

namespace Sys2Proof.Machine

/-! ### Addresses (R343) -/

def carBankOf (a : Nat) : Nat := a / 2 ^ 23
def carSector (a : Nat) : Nat := a / 2 ^ 15
def carBase (bank : Nat) : Nat := bank * 2 ^ 23

def State.setCar (s : State) (c : Car) : State := { s with car := c }

def State.bank (s : State) (b : Nat) : CarBank := nth {} s.car.banks b

def State.setBank (s : State) (b : Nat) (v : CarBank) : State :=
  s.setCar { s.car with banks := setNth v s.car.banks b }

/-- The mode CAR_STAT reads: COMMAND while a sequence is under way in a bank in READ (Table 15-2). -/
def Car.mode (c : Car) (b : Nat) : BankMode :=
  let m := (nth {} c.banks b).mode
  if decide (m = .read) && c.seqs.any (fun q => decide (q.bank = b)) then .command else m

/-- Set a CAR_ERR bit and capture it: requester and sector (Table 15-10). -/
def State.carRaise (s : State) (bit req sector : Nat) : State :=
  s.raiseAt Reg.CAR_ERR bit Reg.CAR_ERR_LOC (bit * 2 ^ 27 + req % 2048 * 2 ^ 16 + sector % 1024)

/-! ### Array words -/

/-- An array word: erased words read 0xFFFF; a SUSPECT sector reads free values (R355). -/
def State.carWord (s : State) (a : Nat) : Word :=
  if s.car.markers.contains (carSector a) then
    Config.suspectWord a (Sparse.get (fun _ => 0) s.car.ecnt (carSector a))
  else Sparse.get (fun _ => 0xFFFF) s.car.words a

/-- The word fails ECC (R363). -/
def State.carBad (s : State) (a : Nat) : Bool := s.car.bad.contains a

def State.setCarWord (s : State) (a : Nat) (v : Word) : State :=
  s.setCar { s.car with words := Sparse.set (fun _ => 0xFFFF) s.car.words a v
                        bad := s.car.bad.filter (fun x => decide (x ≠ a)) }

/-- Store several words. -/
def State.setCarWords (s : State) : List (Nat × Word) → State
  | [] => s
  | p :: t => State.setCarWords (s.setCarWord p.1 p.2) t

/-- Words left undefined by a failed or interrupted program: free values, which may fail ECC (R351, R355). -/
def State.undefCarWords (s : State) : List (Nat × Word) → State
  | [] => s
  | p :: t =>
    let v := s.freeVal
    let s1 := (s.tick).setCarWord p.1 (BitVec.ofNat 16 v)
    State.undefCarWords
      (if bitOf v 16 then s1.setCar { s1.car with bad := p.1 :: s1.car.bad } else s1) t

/-- Erase sectors `[lo, lo + n)`: every word reads 0xFFFF, the markers are cleared (R352, R355). -/
def Car.erase (c : Car) (lo n : Nat) : Car :=
  let inside (a : Nat) : Bool := decide (lo ≤ carSector a) && decide (carSector a < lo + n)
  { c with
    words := c.words.filter (fun p => !inside p.1)
    bad := c.bad.filter (fun a => !inside a)
    markers := c.markers.filter (fun k => !(decide (lo ≤ k) && decide (k < lo + n))) }

/-! ### The boot selector (Table 15-6, R359) -/

/-- Sector of SEL_A (false) or SEL_B. -/
def selSector (b : Bool) : Nat := if b then 260 else 4

/-- Word `i` of a selector sector. -/
def State.selWord (s : State) (b : Bool) (i : Nat) : Word := s.carWord (selSector b * 2 ^ 15 + i)

def State.selSeq (s : State) (b : Bool) : Nat := (s.selWord b 2).toNat * 2 ^ 16 + (s.selWord b 3).toNat
def State.selW (s : State) (b : Bool) : Nat := (s.selWord b 4).toNat * 2 ^ 16 + (s.selWord b 5).toNat

/-- Bytes of words, bits [15:8] first. -/
def wordBytes (l : List Word) : List Byte :=
  (l.map (fun w => [BitVec.ofNat 8 (w.toNat / 256), BitVec.ofNat 8 w.toNat])).flatten

/-- A selector is valid (R359). -/
def State.selValid (s : State) (b : Bool) : Bool :=
  let w := fun i => s.selWord b i
  decide (w 0 = 0x5E1C) && decide (w 1 = 1) && decide (w 8 = 0xA55A) &&
  decide ((w 6).toNat * 2 ^ 16 + (w 7).toNat = (crc32c (wordBytes [w 0, w 1, w 2, w 3])).toNat) &&
  !s.car.markers.contains (selSector b)

/-- The current selector (R359): the valid one with the larger SEQ, SEL_A when equal. -/
def State.selCurrent (s : State) : Option Bool :=
  match s.selValid false, s.selValid true with
  | false, false => none
  | true, false => some false
  | false, true => some true
  | true, true => some (decide (s.selSeq false < s.selSeq true))

/-- Number of 0 bits among the lowest `n` of `w`. -/
def zerosOf (w : Nat) : Nat → Nat
  | 0 => 0
  | n + 1 => zerosOf w n + b2n (!bitOf w n)

/-- The selection: BOOT_B when the current SELW holds an odd number of 0 bits (R359). -/
def State.bootSelect (s : State) : Bool :=
  match s.selCurrent with
  | none => false
  | some b => decide (zerosOf (s.selW b) 32 % 2 = 1)

/-- The lowest-numbered bit among the lowest `n`, counting from `i`, that is still 1. -/
def lowestOne (w : Nat) : Nat → Nat → Option Nat
  | 0, _ => none
  | n + 1, i => if bitOf w i then some i else lowestOne w n (i + 1)

/-! ### Starting and refusing operations -/

/-- The bank enters STATUS with an outcome. -/
def State.carStatus (s : State) (b : Nat) (error prot notErased noSwap : Bool) : State :=
  s.setBank b { s.bank b with
    mode := .status, op := none, error := error, prot := prot, notErased := notErased, noSwap := noSwap }

/-- An operation starts: the bank is BUSY (R347). -/
def State.carBusy (s : State) (b req : Nat) (op : CarOp) : State :=
  s.setBank b { s.bank b with mode := .busy, op := some op, req := req, error := false, prot := false
                              notErased := false, noSwap := false }

def State.sectorProt (s : State) (k : Nat) : Bool := s.car.prot.contains k

/-- The end of a sequence refused under R350. -/
def State.carPwr (s : State) (b req sector : Nat) : State :=
  (s.carStatus b true true false false).carRaise 8 req sector

/-- Protection, or its freeze, refuses (R351, R352, R356, R358). -/
def State.carProtRefused (s : State) (b req sector : Nat) : State :=
  (s.carStatus b true true false false).carRaise 3 req sector

/-- A word program or buffer program of words of one line (R351). -/
def State.carProgram (s : State) (b req : Nat) (ws : List (Nat × Word)) : State :=
  let sec := match ws with
    | [] => 0
    | p :: _ => carSector p.1
  if s.car.pwrFail then s.carPwr b req sec
  else if ws.any (fun p => decide (s.carWord p.1 ≠ 0xFFFF) || s.carBad p.1) then
    s.carStatus b true false true false
  else if s.sectorProt sec then s.carProtRefused b req sec
  else if (decide (sec = 4) || decide (sec = 260)) && ws.any (fun p => decide (8 < p.1 % 2 ^ 15)) then
    s.carStatus b true false false false
  else s.carBusy b req (.program ws)

/-- Open the erase-start markers of sectors `[lo, lo + n)` (R355). -/
def Car.mark (c : Car) (lo n : Nat) : Car :=
  { c with markers := c.markers.filter (fun k => !(decide (lo ≤ k) && decide (k < lo + n))) ++
      (List.range n).map (· + lo) }

/-- A sector erase (R352). -/
def State.carSectorErase (s : State) (b req sec : Nat) : State :=
  if s.car.pwrFail then s.carPwr b req sec
  else if s.sectorProt sec then s.carProtRefused b req sec
  else (s.setCar (s.car.mark sec 1)).carBusy b req (.sector sec)

/-- A bank erase (R352). -/
def State.carBankErase (s : State) (b req : Nat) : State :=
  if s.car.pwrFail then s.carPwr b req (b * 256)
  else if s.car.prot.any (fun k => decide (k / 256 = b)) then s.carProtRefused b req (b * 256)
  else (s.setCar (s.car.mark (b * 256) 256)).carBusy b req .bank

/-- A password unlock's last cycle (R357, R358). -/
def State.carUnlock (s : State) (b req : Nat) (ws : List Word) : State :=
  if s.car.pwrFail then s.carPwr b req 0
  else if s.car.frozen then s.carProtRefused b req 0
  else if s.car.lockout.isSome then (s.carStatus b true true false false).carRaise 5 req 0
  else s.carBusy b req (.password ws req)

/-- A protection program's target (R356): none for a target or value that aborts the sequence. -/
def protTarget (a : Nat) (v : Word) : Option CarOp :=
  if decide (1 ≤ a) && decide (a ≤ 4) then some (.pwWord (a - 1) v)
  else if a % 2 ^ 15 = 0 then
    if v = 1 then some (.protect (carSector a) true)
    else if v = 0 then some (.protect (carSector a) false)
    else none
  else none

/-- Setting a sector's bit is allowed at any time, everything else while PASSWORD_OPEN (R356). -/
def protAllowed (pwOpen : Bool) : CarOp → Bool
  | .protect _ true => true
  | _ => pwOpen

/-- A protection program's last cycle (R356, R358). -/
def State.carProtect (s : State) (b req a : Nat) (op : CarOp) : State :=
  if s.car.pwrFail then s.carPwr b req (carSector a)
  else if s.car.frozen || !protAllowed s.car.pwOpen op then s.carProtRefused b req (carSector a)
  else s.carBusy b req op

/-- Protection freeze (R358). -/
def State.carFreeze (s : State) (b req : Nat) : State :=
  if s.car.pwrFail then s.carPwr b req 0
  else s.setCar { s.car with frozen := true, pwOpen := false }

/-- Boot swap (R359): the lowest SELW bit still 1 in the current selector is programmed, in that
selector's bank. -/
def State.carSwap (s : State) (b req : Nat) : State :=
  if s.car.pwrFail then s.carPwr b req 0
  else match s.selCurrent with
  | none => (s.carStatus b true false false true).carRaise 6 req 0
  | some sel =>
    let sec := selSector sel
    match lowestOne (s.selW sel) 32 0 with
    | none => (s.carStatus b true false false true).carRaise 6 req sec
    | some i =>
      let a := sec * 2 ^ 15 + (if i < 16 then 5 else 4)
      let nb := carBankOf a
      if (s.bank nb).mode = .busy then s.carRaise 1 req sec
      else s.carBusy nb req (.swap a (BitVec.ofNat 16 (setBits (s.carWord a).toNat (i % 16) (i % 16) 0)))

/-- Status read (Table 15-4). -/
def State.carStatusRead (s : State) (b req : Nat) : State :=
  if s.car.pwrFail then s.carPwr b req 0
  else s.setBank b { s.bank b with mode := .status }

/-- Suspend: it acts within 20 µs once the minimum run has passed (R352). -/
def State.carSuspend (s : State) (b req : Nat) : State :=
  if s.car.pwrFail then s.carRaise 8 req 0
  else s.setBank b { s.bank b with suspReq := true }

/-- Resume (R352). -/
def State.carResume (s : State) (b req : Nat) : State :=
  match (s.bank b).susp with
  | none => s
  | some k =>
    if s.car.pwrFail then s.carPwr b req k
    else s.setBank b { s.bank b with mode := .busy, op := some (.sector k), req := req, susp := none
                                     arrayView := false }

/-! ### Sequences (R347 to R349) -/

/-- The requester's sequence on a bank, its cycles oldest first. -/
def State.carSeq (s : State) (req b : Nat) : List (Nat × Word) :=
  match s.car.seqs.find? (fun q => decide (q.req = req) && decide (q.bank = b)) with
  | some q => q.cycles
  | none => []

def State.dropSeq (s : State) (req b : Nat) : State :=
  s.setCar { s.car with seqs := s.car.seqs.filter (fun q => !(decide (q.req = req) && decide (q.bank = b))) }

def State.putSeq (s : State) (req b : Nat) (cs : List (Nat × Word)) : State :=
  let t := s.dropSeq req b
  t.setCar { t.car with seqs := t.car.seqs ++ [⟨req, b, cs⟩] }

/-- The sequence is abandoned (R349). -/
def State.seqAbort (s : State) (req b addr : Nat) : State := (s.dropSeq req b).carRaise 0 req (carSector addr)

/-- The sequence is a buffer load of another requester on the bank. -/
def loadsFor (req b : Nat) (q : CarSeq) : Bool :=
  decide (q.bank = b) && decide (q.req ≠ req) &&
    (match q.cycles with | _ :: _ :: (_, w) :: _ => decide (w = 0x0042) | _ => false)

/-- Another requester's buffer load is under way on the bank. -/
def State.otherLoad (s : State) (req b : Nat) : Option Nat := (s.car.seqs.find? (loadsFor req b)).map (·.req)

/-- A command word is accepted in the bank's mode (Table 15-4). -/
def cmdAccepted (bk : CarBank) (w : Word) : Bool :=
  let sectorRuns := match bk.op with
    | some (.sector _) => true
    | _ => false
  if w = 0x0041 || w = 0x0042 then decide (bk.mode = .read) || decide (bk.mode = .suspended)
  else if w = 0x0070 then decide (bk.mode ≠ .busy)
  else if w = 0x00B1 then decide (bk.mode = .busy) && sectorRuns
  else if w = 0x00B2 then decide (bk.mode = .suspended) || (decide (bk.mode = .busy) && bk.susp.isSome)
  else if w = 0x0061 || w = 0x0062 || w = 0x00C1 || w = 0x00C4 || w = 0x00C6 || w = 0x00C8 then
    decide (bk.mode = .read)
  else false

/-- The exit command (R348): STATUS returns to READ, or to SUSPENDED while an erase is suspended;
SUSPENDED gives up its status view; it ends PASSWORD_OPEN (R357). -/
def State.carExit (s : State) (b : Nat) : State :=
  let bk := s.bank b
  let s1 := s.setCar { s.car with pwOpen := false }
  match bk.mode with
  | .status => s1.setBank b { bk with mode := if bk.susp.isSome then .suspended else .read }
  | .suspended => s1.setBank b { bk with arrayView := true }
  | _ => s1

/-- A write of 0x00F0 by requester `req` outside a data phase: dropped while the bank is BUSY; else it abandons the sequence
under way and is the exit command (R348). -/
def State.carExitWrite (s : State) (req b : Nat) : State :=
  if (s.bank b).mode = .busy then s else (s.dropSeq req b).carExit b

/-- The last cycle of an operation that needs the bank: dropped with SEQ_CONFLICT when it finds the bank
BUSY (R349). -/
def State.lastCycle (s : State) (req b addr : Nat) (f : State → State) : State :=
  if (s.bank b).mode = .busy then (s.dropSeq req b).carRaise 1 req (carSector addr)
  else f (s.dropSeq req b)

/-- Confirm of a buffer load (Table 15-5): `cs` are the cycles so far. -/
def State.carConfirm (s : State) (req b addr : Nat) (cs : List (Nat × Word)) : State :=
  match cs with
  | _ :: _ :: (_, w) :: (ca, n) :: ws =>
    if decide (w = 0x0042) && decide (ws.length = n.toNat + 1) &&
        decide (addr % 2 ^ 23 / 32 = ca / 32) then
      s.lastCycle req b addr (fun t => t.carProgram b req (ws.map (fun p => (carBase b + p.1, p.2))))
    else s.seqAbort req b addr
  | _ => s.seqAbort req b addr

/-- A data write of a buffer load. -/
def State.carLoad (s : State) (req b addr : Nat) (data : Word) (cs : List (Nat × Word)) (ca : Nat) (n : Word)
    (ws : List (Nat × Word)) : State :=
  let off := addr % 2 ^ 23
  let suspended := (s.bank b).susp.any (fun k => decide (k = carSector addr))
  if n.toNat + 1 ≤ ws.length then
    if data = 0x0043 then s.carConfirm req b addr cs
    else if data = 0x00F0 then s.carExitWrite req b
    else s.seqAbort req b addr
  else if decide (off / 32 ≠ ca / 32) || ws.any (fun p => decide (p.1 = off)) || suspended then
    if data = 0x00F0 then s.carExitWrite req b else s.seqAbort req b addr
  else s.putSeq req b (cs ++ [(off, data)])

/-- The cycles after the command word. -/
def State.carFurther (s : State) (req b addr : Nat) (data : Word) (w : Word) (cs ws : List (Nat × Word)) :
    State :=
  let off := addr % 2 ^ 23
  let more := s.putSeq req b (cs ++ [(off, data)])
  let wrong := if data = 0x00F0 then s.carExitWrite req b else s.seqAbort req b addr
  if w = 0x0041 then
    if (s.bank b).susp.any (fun k => decide (k = carSector addr)) then s.seqAbort req b addr
    else s.lastCycle req b addr (fun t => t.carProgram b req [(addr, data)])
  else if w = 0x0042 then
    match ws with
    | [] => if data.toNat ≤ 31 then more else wrong
    | (ca, n) :: ds => s.carLoad req b addr data cs ca n ds
  else if w = 0x0061 then
    if decide (data = 0x0061) && decide (off % 2 ^ 15 = 0) then
      s.lastCycle req b addr (fun t => t.carSectorErase b req (carSector addr))
    else wrong
  else if w = 0x0062 then
    if decide (data = 0x0062) && decide (off = 0) then
      s.lastCycle req b addr (fun t => t.carBankErase b req)
    else wrong
  else if w = 0x00C1 then
    if off ≠ ws.length then wrong
    else if ws.length = 3 then
      s.lastCycle req b addr (fun t => t.carUnlock b req (ws.map (·.2) ++ [data]))
    else more
  else
    match protTarget addr data with
    | none => s.seqAbort req b addr
    | some op => s.lastCycle req b addr (fun t => t.carProtect b req addr op)

/-- The third cycle: the command word, at bank offset 0x2AAA. Commands without further cycles act now. -/
def State.carCommand (s : State) (req b addr : Nat) (w : Word) (cs : List (Nat × Word)) : State :=
  let bk := s.bank b
  if !cmdAccepted bk w then s.seqAbort req b addr
  else if w = 0x0070 then (s.dropSeq req b).carStatusRead b req
  else if w = 0x00B1 then (s.dropSeq req b).carSuspend b req
  else if w = 0x00B2 then
    if bk.mode = .busy then (s.dropSeq req b).carRaise 1 req (bk.susp.getD 0)
    else (s.dropSeq req b).carResume b req
  else if w = 0x00C6 then (s.dropSeq req b).carFreeze b req
  else if w = 0x00C8 then (s.dropSeq req b).carSwap b req
  else s.putSeq req b (cs ++ [(addr % 2 ^ 23, w)])

/-- A command cycle: one word write of requester `req` to array word `addr` (R347 to R349). -/
def State.carCycle (s : State) (req addr : Nat) (data : Word) : State :=
  let b := carBankOf addr
  let off := addr % 2 ^ 23
  let cs := s.carSeq req b
  match s.otherLoad req b with
  | some other =>
    if decide (data = 0x00F0) && decide (req ≠ 0x7FF) then s.carExitWrite other b
    else s.carRaise 1 req (carSector addr)
  | none =>
    match cs with
    | _ :: _ :: (_, w) :: ws => s.carFurther req b addr data w cs ws
    | _ =>
      if data = 0x00F0 then
        if decide (s.car.mode b = .read) then s.seqAbort req b addr else s.carExitWrite req b
      else if decide (cs.length = 0) && decide (off = 0x2AAA) && decide (data = 0x5A5A) then
        s.putSeq req b [(off, data)]
      else if decide (cs.length = 1) && decide (off = 0x1555) && decide (data = 0xA5A5) then
        s.putSeq req b (cs ++ [(off, data)])
      else if decide (cs.length = 2) && decide (off = 0x2AAA) then s.carCommand req b addr data cs
      else s.seqAbort req b addr

/-- The first three cycles of a command. -/
def State.carUnlockCmd (s : State) (req b : Nat) (w : Word) : State :=
  ((s.carCycle req (carBase b + 0x2AAA) 0x5A5A).carCycle req (carBase b + 0x1555) 0xA5A5).carCycle req
    (carBase b + 0x2AAA) w

/-- Several cycles in order. -/
def State.carCycles (s : State) (req : Nat) : List (Nat × Word) → State
  | [] => s
  | p :: t => State.carCycles (s.carCycle req p.1 p.2) req t

/-! ### Reads (R345, R346, R363) -/

/-- The status word of a bank (Table 15-3). -/
def CarBank.status (k : CarBank) : Word :=
  BitVec.ofNat 16 (b2n (decide (k.mode = .busy)) * 128 + b2n k.toggle * 64 + b2n k.error * 32 +
    b2n k.susp.isSome * 16 + b2n k.prot * 8 + b2n k.notErased * 4 + b2n k.noSwap * 2)

/-- A data read: the word, or none where it is uncorrectable. -/
def State.carRead (s : State) (req addr : Nat) : State × Option Word :=
  let b := carBankOf addr
  let bk := s.bank b
  let array : State × Option Word :=
    if s.carBad addr then (s.carRaise 7 req (carSector addr), none) else (s, some (s.carWord addr))
  match bk.mode with
  | .busy =>
    let k := { bk with toggle := !bk.toggle }
    (s.setBank b k, some k.status)
  | .status => (s, some bk.status)
  | .suspended =>
    if decide (bk.susp = some (carSector addr)) && !bk.arrayView then (s, some bk.status) else array
  | _ => array

/-! ### Ends and interruptions -/

/-- Count erases of sectors `[lo, lo + n)`; one beyond 100,000 sets ENDURANCE (R362). -/
def State.countErase (s : State) (req lo : Nat) : Nat → State
  | 0 => s
  | n + 1 =>
    let t := State.countErase s req lo n
    let c := Sparse.get (fun _ => 0) t.car.ecnt (lo + n) + 1
    let t1 := t.setCar { t.car with ecnt := Sparse.set (fun _ => 0) t.car.ecnt (lo + n) (min c 0x1FFFF) }
    if 100000 < c then t1.carRaise 9 req (lo + n) else t1

/-- The comparison of a password unlock ends (R357). -/
def State.carCompare (s : State) (b req : Nat) (ws : List Word) : State :=
  if ws = s.car.password then
    (s.setCar { s.car with pwOpen := true, pwFails := 0 }).carStatus b false false false false
  else
    ((s.setCar { s.car with pwFails := min (s.car.pwFails + 1) 255, lockout := some 0 }).carStatus b
      true true false false).carRaise 4 req 0

/-- The operation of a bank ends, passing its internal verify or not (R351, R352, R355, R356, R359). -/
def State.carDone (s : State) (b : Nat) (pass : Bool) : State :=
  let bk := s.bank b
  let req := bk.req
  let fail (t : State) (sec : Nat) : State := (t.carStatus b true false false false).carRaise 2 req sec
  let ok (t : State) : State := t.carStatus b false false false false
  let sk (t : State) : State := t.setBank b { t.bank b with suspReq := false }
  if bk.mode ≠ .busy then s
  else match bk.op with
  | none => s
  | some (.program ws) =>
    let s1 := s.count Reg.CAR_OP_CNT 15 0 1
    if pass then ok (s1.setCarWords ws)
    else fail (s1.undefCarWords ws) (match ws with | [] => 0 | p :: _ => carSector p.1)
  | some (.sector k) =>
    let s1 := sk ((s.count Reg.CAR_OP_CNT 31 16 1).countErase req k 1)
    if pass then ok (s1.setCar (s1.car.erase k 1)) else fail s1 k
  | some .bank =>
    let s1 := (s.count Reg.CAR_OP_CNT 31 16 256).countErase req (b * 256) 256
    if pass then ok (s1.setCar (s1.car.erase (b * 256) 256)) else fail s1 (b * 256)
  | some (.password ws r) => s.carCompare b r ws
  | some (.protect k on) =>
    let p := s.car.prot.filter (fun x => decide (x ≠ k))
    ok (s.setCar { s.car with prot := if on then p ++ [k] else p })
  | some (.pwWord i v) => ok (s.setCar { s.car with password := setNth v s.car.password i })
  | some (.swap a v) => ok (s.setCarWord a v)

/-- The suspension takes effect (R352). -/
def State.carSuspended (s : State) (b : Nat) : State :=
  let bk := s.bank b
  match bk.mode, bk.op, bk.suspReq with
  | .busy, some (.sector k), true =>
    s.setBank b { bk with mode := .suspended, op := none, susp := some k, suspReq := false, arrayView := false }
  | _, _, _ => s

/-- What a reset that reruns the ROM, or a loss of power, leaves of an operation (R355, R360). -/
def State.carInterrupt (s : State) (b : Nat) : State :=
  match (s.bank b).op with
  | some (.program ws) => s.undefCarWords ws
  | some (.swap a v) =>
    let t := s.tick
    if bitOf s.freeVal 0 then (t.setCarWord a v).setCar { (t.setCarWord a v).car with half := some (a, v) } else t
  | some (.protect k _) =>
    let p := s.car.prot.filter (fun x => decide (x ≠ k))
    s.tick.setCar { s.car with prot := if bitOf s.freeVal 0 then p ++ [k] else p }
  | some (.pwWord i _) =>
    s.tick.setCar { s.car with password := setNth (BitVec.ofNat 16 s.freeVal) s.car.password i }
  | _ => s

/-- Every operation stops; banks return to READ; sequences and PASSWORD_OPEN end (R355, R357). -/
def State.carStop (s : State) : State :=
  let t := (((s.carInterrupt 0).carInterrupt 1).carInterrupt 2).carInterrupt 3
  t.setCar { t.car with banks := List.replicate 4 {}, seqs := [], pwOpen := false, pwrFail := false }

/-- The CAR reads its configuration array at a ROM rerun (R355, R358, R360, R364): SUSPECT sectors set
OP_FAIL; POR also repairs the selector and ends the freeze and a lockout. -/
def State.carInit (s : State) (por : Bool) : State :=
  let c := s.car
  let c1 := { c with cfgRead := true
                     frozen := c.frozen && !por
                     lockout := if por then none else c.lockout
                     repaired := if por then c.half.isSome else c.repaired
                     half := if por then none else c.half }
  let t := s.setCar c1
  match c.markers with
  | [] => t
  | k :: ks => t.carRaise 2 0 (ks.foldl min k)

/-! ### The commands -/

/-- WORD_PROGRAM (R347, R351): the four cycles. -/
def execWordProgram (req addr : Nat) (data : Word) (s : State) : Result :=
  .next ((s.carUnlockCmd req (carBankOf addr) 0x0041).carCycle req addr data)

/-- BUFFER_LOAD (R347, R351, Table 15-5): up to the last data write. -/
def execBufferLoad (req addr : Nat) (count : Word) (writes : List (Nat × Word)) (s : State) : Result :=
  .next (((s.carUnlockCmd req (carBankOf addr) 0x0042).carCycle req addr count).carCycles req writes)

/-- BUFFER_CONFIRM (R347, Table 15-5). -/
def execBufferConfirm (req addr : Nat) (s : State) : Result :=
  .next (match s.otherLoad req (carBankOf addr) with
    | some _ => s.carRaise 1 req (carSector addr)
    | none => s.carConfirm req (carBankOf addr) addr (s.carSeq req (carBankOf addr)))

/-- SECTOR_ERASE (R352). -/
def execSectorErase (req addr : Nat) (s : State) : Result :=
  .next ((s.carUnlockCmd req (carBankOf addr) 0x0061).carCycle req addr 0x0061)

/-- BANK_ERASE (R352). -/
def execBankErase (req addr : Nat) (s : State) : Result :=
  .next ((s.carUnlockCmd req (carBankOf addr) 0x0062).carCycle req addr 0x0062)

/-- STATUS_READ (R347). -/
def execStatusRead (req bank : Nat) (s : State) : Result := .next (s.carUnlockCmd req bank 0x0070)

/-- ERASE_SUSPEND (R352). -/
def execEraseSuspend (req bank : Nat) (s : State) : Result := .next (s.carUnlockCmd req bank 0x00B1)

/-- ERASE_SUSPEND_EFFECT (R352). -/
def execEraseSuspendEffect (bank : Nat) (s : State) : Result := .next (s.carSuspended bank)

/-- ERASE_RESUME (R352). -/
def execEraseResume (req bank : Nat) (s : State) : Result := .next (s.carUnlockCmd req bank 0x00B2)

/-- PASSWORD_UNLOCK (R357): password bits [63:48] first. -/
def execPasswordUnlock (req bank : Nat) (w0 w1 w2 w3 : Word) (s : State) : Result :=
  .next ((s.carUnlockCmd req bank 0x00C1).carCycles req
    [(carBase bank, w0), (carBase bank + 1, w1), (carBase bank + 2, w2), (carBase bank + 3, w3)])

/-- PROTECTION_PROGRAM (R356). -/
def execProtectionProgram (req addr : Nat) (v : Word) (s : State) : Result :=
  .next ((s.carUnlockCmd req (carBankOf addr) 0x00C4).carCycle req addr v)

/-- PROTECTION_FREEZE (R358). -/
def execProtectionFreeze (req bank : Nat) (s : State) : Result := .next (s.carUnlockCmd req bank 0x00C6)

/-- BOOT_SWAP (R359). -/
def execBootSwap (req bank : Nat) (s : State) : Result := .next (s.carUnlockCmd req bank 0x00C8)

/-- EXIT_OR_RESET (R348): one write of 0x00F0. -/
def execExitOrReset (req addr : Nat) (s : State) : Result := .next (s.carCycle req addr 0x00F0)

/-- A data read of the word at `addr` reads the array, not the status word (Table 15-2). -/
def State.readsArray (s : State) (addr : Nat) : Bool :=
  let k := s.bank (carBankOf addr)
  match k.mode with
  | .busy => false
  | .status => false
  | .suspended => k.arrayView || decide (k.susp ≠ some (carSector addr))
  | _ => true

/-- CODE_ARRAY_BANK_READ (R345, R346, R363): the word read at `addr` goes out; beside it stands whether the array corrected it,
which CAR_ECC_CNT counts. -/
def execCodeArrayBankRead (req : Nat) (addr : Nat × Bool) (s : State) : Result :=
  match s.carRead req addr.1 with
  | (t, some w) => .next ((if addr.2 && s.readsArray addr.1 then t.bump Reg.CAR_ECC_CNT else t).emit (.word req addr.1 w))
  | (t, none) => .next t

/-- CODE_ARRAY_OPERATION_DONE (R351 to R362). -/
def execCodeArrayOperationDone (bank : Nat) (pass : Bool) (s : State) : Result := .next (s.carDone bank pass)

/-- CODE_ARRAY_LOCKOUT_EXPIRY (R357): 100 ms of CAR_PW_LOCKOUT after the boundary after the failure. -/
def execCodeArrayLockoutExpiry (s : State) : Result :=
  .next (match s.car.lockout with
    | some n => if beatsOfMs 100 < n then s.setCar { s.car with lockout := none } else s
    | none => s)

end Sys2Proof.Machine
end

