-- ==== Sys2Proof/Machine/Boot.lean ====
section
/-!
DEFINITION. Boot blocks (R398, Tables 17-3 and 17-4): their fields, the ROM's checks on a block of the Code Array or on a
staged package, and the choice between the two blocks.
-/

namespace Sys2Proof.Machine

/-- Word address of a boot block, and of its execute-in-place image (Table 15-1). -/
def bootBase (b : Bool) : Nat := if b then 0x800000 else 0
def imageBase (b : Bool) : Nat := bootBase b + 0x40000

/-- First sector of a boot block and of its image. -/
def bootSector (b : Bool) : Nat := if b then 256 else 0
def imageSector (b : Bool) : Nat := bootSector b + 8

/-- `n` bytes of the Code Array from a word address, in the packing of R276. -/
def State.carBytes (s : State) (a n : Nat) : List Byte := wordBytes ((List.range (n / 2)).map (fun i => s.carWord (a + i)))

/-- A word of the range fails ECC (R363). -/
def State.carEcc (s : State) (a n : Nat) : Bool := s.car.bad.any (fun w => decide (a ≤ w) && decide (w < a + n / 2))

/-- A sector of the range is SUSPECT (R355). -/
def State.carSuspect (s : State) (lo n : Nat) : Bool := s.car.markers.any (fun k => decide (lo ≤ k) && decide (k < lo + n))

/-! ### Fields of a boot block (Table 17-4) -/

def blkRev (b : List Byte) : Nat := leField b 8 4
def blkSvn (b : List Byte) : Nat := leField b 12 1
def blkFlags (b : List Byte) : Nat := leField b 13 1
def blkPay (b : List Byte) : Nat := leField b 16 4
def blkXip (b : List Byte) : Nat := leField b 20 4
def blkEntry (b : List Byte) : Nat := leField b 24 4
def blkKey (b : List Byte) : List Byte := slice b 160 97
def blkPayload (b : List Byte) : List Byte := slice b 512 (blkPay b)

/-- SHA-384 (R398). -/
def sha384 (l : List Byte) : List Byte := digest 1 l

/-- Check 2 of Table 17-3. -/
def blkHeader (b : List Byte) : Bool :=
  decide (slice b 0 4 = [0x54, 0x42, 0x48, 0x42]) && decide (leField b 4 2 = 1) && decide (leField b 6 2 = 512) &&
    decide (blkSvn b ≤ 31) && decide (bits (blkFlags b) 7 2 = 0) && zeroBytes (slice b 14 2) &&
    zeroBytes (slice b 56 8) && zeroBytes (slice b 257 7) && zeroBytes (slice b 360 152) &&
    decide (16 ≤ blkPay b) && decide (blkPay b ≤ 261632) && decide (blkPay b % 16 = 0) &&
    decide (65536 ≤ blkXip b) && decide (blkXip b ≤ 16252928) && decide (blkXip b % 65536 = 0) &&
    decide (blkEntry b < blkXip b / 2) && decide (leField b 160 1 = 4)

/-- The index of the fused key hash that matches and is not revoked (check 3). -/
def Fuses.keyIndex (f : Fuses) (key : List Byte) : Option Nat :=
  (List.range 4).find? (fun i => decide (nth [] f.keyHash i = sha384 key) && !nth false f.revoked i)

/-- What the checks read beside the block: which parts fail ECC, whether a sector of the image is SUSPECT, and the
image's bytes. -/
structure BlkMedia where
  headEcc : Bool
  payEcc : Bool
  imgEcc : Bool
  imgSuspect : Bool
  image : List Byte
deriving DecidableEq, Repr

/-- Checks 2 to 7 of Table 17-3: 0 when they pass, else the code of the first that fails; 9 for an uncorrectable word. -/
def blkCheck (f : Fuses) (b : List Byte) (m : BlkMedia) : Nat :=
  if m.headEcc then 9
  else if !blkHeader b then 2
  else if (f.keyIndex (blkKey b)).isNone then 3
  else if !ecdsa (blkKey b) (sha384 (b.take 264)) (slice b 264 96) then 4
  else if blkSvn b < f.svn then 5
  else if m.payEcc then 9
  else if sha384 (blkPayload b) ≠ slice b 112 48 then 6
  else if m.imgSuspect then 7
  else if m.imgEcc then 9
  else if sha384 m.image ≠ slice b 64 48 then 7
  else 0

/-- Check 8: the GCM tag under the device key. -/
def blkTag (f : Fuses) (b : List Byte) : Bool :=
  decide (gcmTag f.deviceKey (slice b 28 12) (b.take 28) (blkPayload b) = slice b 40 16)

/-- A boot block of the Code Array, and what its checks read. -/
def State.blkBytes (s : State) (b : Bool) : List Byte := s.carBytes (bootBase b) 262144

def State.blkMedia (s : State) (b : Bool) : BlkMedia :=
  let x := s.blkBytes b
  { headEcc := s.carEcc (bootBase b) 512
    payEcc := s.carEcc (bootBase b + 256) (blkPay x)
    imgEcc := s.carEcc (imageBase b) (blkXip x)
    imgSuspect := s.carSuspect (imageSector b) (blkXip x / 65536)
    image := s.carBytes (imageBase b) (blkXip x) }

/-- Every check of Table 17-3 on a stored block: 0 or the code of the first that fails. -/
def State.bootCheck (s : State) (b : Bool) : Nat :=
  if s.carSuspect (bootSector b) 4 then 1
  else
    let x := s.blkBytes b
    let c := blkCheck s.pwr.fuses x (s.blkMedia b)
    if c ≠ 0 then c else if blkTag s.pwr.fuses x then 0 else 8

/-- The ROM met an uncorrectable word of a block (code 9): ECC_UNCORR, at the lowest such word of the part it was reading (R363). -/
def State.romEcc (s : State) (b : Bool) (code : Nat) : State :=
  let within (a n : Nat) : List Nat := s.car.bad.filter (fun w => decide (a ≤ w) && decide (w < a + n / 2))
  let x := s.blkBytes b
  let at1 := within (bootBase b) 512
  let at2 := within (bootBase b + 256) (blkPay x)
  let bad := if at1 ≠ [] then at1 else if at2 ≠ [] then at2 else within (imageBase b) (blkXip x)
  if code = 9 then s.carRaise 7 0 (carSector (bad.min?.getD 0)) else s

/-- The plaintext of a passing payload. -/
def State.bootPayload (s : State) (b : Bool) : List Byte :=
  let x := s.blkBytes b
  gcmData s.pwr.fuses.deviceKey (slice x 28 12) (blkPayload x)

/-- What the ROM's choice comes to (steps 4 to 7 of Table 17-2): the block that boots, and the codes of the selected and
of the other block, 15 for one not tried. -/
def State.bootChoice (s : State) : Option Bool × Nat × Nat :=
  let sel := s.bootSelect
  let c := s.bootCheck sel
  if c = 0 then (some sel, 0, 15)
  else
    let d := s.bootCheck !sel
    (if d = 0 then some (!sel) else none, c, d)

end Sys2Proof.Machine
end

