-- ==== Sys2Proof/Machine/Inflate.lean ====
section
/-!
DEFINITION. Reading DEFLATE, zlib, gzip and Zstandard (R236, R237, R241, R242), as RFC 1951, 1950, 1952 and 8878
define them. The element of R242 is a header, a stored block, a literal or a length with its distance in DEFLATE, and a
header, a block or a trailer field in Zstandard (log 209).
-/

namespace Sys2Proof.Machine

/-- A fault at an element: the plaintext before it stands. -/
def stopAt {α : Type} (why : Dcmp) (inp : Nat) (o : Array Byte) : Except Bad α := .error ⟨why, inp, o.size, o.toList⟩

/-- A truncation is reported at the input length (R242). -/
def stopShort {α : Type} (a o : Array Byte) : Except Bad α := stopAt .truncated a.size o

/-- Bit `p` of the input, bit 0 of each byte first; 0 beyond its end. -/
def bitIn (a : Array Byte) (p : Nat) : Nat := (a.getD (p / 8) 0).toNat / 2 ^ (p % 8) % 2

/-- The `n` bits from bit `p` up, low bit first. -/
def bitsIn (a : Array Byte) (p : Nat) : Nat → Nat
  | 0 => 0
  | n + 1 => bitIn a p + 2 * bitsIn a (p + 1) n

/-- The `n` bytes from byte `i` up, low byte first. -/
def bytesIn (a : Array Byte) (i n : Nat) : Nat := bitsIn a (8 * i) (8 * n)

/-- Append `n` bytes, each copied from `dist` behind the end. -/
def copyEnd (dist : Nat) : Nat → Array Byte → Array Byte
  | 0, o => o
  | n + 1, o => copyEnd dist n (o.push (o.getD (o.size - dist) 0))

/-- Output would pass a declared length. -/
def passes (lim : Option Nat) (n : Nat) : Bool :=
  match lim with
  | some m => decide (m < n)
  | none => false

/-! ### DEFLATE -/

/-- The symbols of each code length 1 to 15, in order. -/
def codeTable (lens : List Nat) : List (List Nat) :=
  (List.range 15).map (fun k => (List.range lens.length).filter (fun v => decide (lens.getD v 0 = k + 1)))

/-- Code space that lengths use, in units of 2^-15. -/
def codeSpace (lens : List Nat) : Nat := (lens.map (fun n => if n = 0 then 0 else 2 ^ (15 - n))).sum

/-- What reading one code gives: the input ends, no such code, a symbol and the bit after it. -/
inductive CodeRead where
  | short
  | bad
  | sym (v p : Nat)
deriving DecidableEq, Repr

/-- Read one code, high bit first. -/
def readCode (a : Array Byte) : List (List Nat) → Nat → Nat → Nat → CodeRead
  | [], _, _, _ => .bad
  | vs :: t, code, first, p =>
    if 8 * a.size ≤ p then .short
    else
      let c := code + bitIn a p
      match vs[c - first]? with
      | some v => .sym v (p + 1)
      | none => readCode a t (c * 2) ((first + vs.length) * 2) (p + 1)

def lenBase : List Nat := [3, 4, 5, 6, 7, 8, 9, 10, 11, 13, 15, 17, 19, 23, 27, 31, 35, 43, 51, 59, 67, 83, 99, 115, 131, 163, 195, 227, 258]
def lenExtra : List Nat := [0, 0, 0, 0, 0, 0, 0, 0, 1, 1, 1, 1, 2, 2, 2, 2, 3, 3, 3, 3, 4, 4, 4, 4, 5, 5, 5, 5, 0]

/-- First distance and extra bits of a distance code. -/
def distExtra (d : Nat) : Nat := d / 2 - 1
def distBase (d : Nat) : Nat := if d < 4 then d + 1 else (2 + d % 2) * 2 ^ distExtra d + 1

/-- Codes of a block up to its end: the bit after it and the output. A stream's output begins at `base`. -/
def deflateCodes (a : Array Byte) (lit dist : List (List Nat)) (lim : Option Nat) (base : Nat) :
    Nat → Nat → Array Byte → Except Bad (Nat × Array Byte)
  | 0, _, o => stopShort a o
  | fuel + 1, p, o =>
    match readCode a lit 0 0 p with
    | .short => stopShort a o
    | .bad => stopAt .illegal (p / 8) o
    | .sym v q =>
      if v < 256 then
        if passes lim (o.size + 1) then stopAt .overrun (p / 8) o
        else deflateCodes a lit dist lim base fuel q (o.push (BitVec.ofNat 8 v))
      else if v = 256 then .ok (q, o)
      else if 285 < v then stopAt .illegal (p / 8) o
      else
        let len := lenBase.getD (v - 257) 0 + bitsIn a q (lenExtra.getD (v - 257) 0)
        let r := q + lenExtra.getD (v - 257) 0
        if 8 * a.size < r then stopShort a o
        else match readCode a dist 0 0 r with
          | .short => stopShort a o
          | .bad => stopAt .illegal (p / 8) o
          | .sym d t =>
            let e := distExtra d
            let back := distBase d + bitsIn a t e
            if 29 < d then stopAt .illegal (p / 8) o
            else if 8 * a.size < t + e then stopShort a o
            else if o.size - base < back then stopAt .distance (p / 8) o
            else if passes lim (o.size + len) then stopAt .overrun (p / 8) o
            else deflateCodes a lit dist lim base fuel (t + e) (copyEnd back len o)

/-- Code lengths of a dynamic block, the latest first, up to `need` of them: a repeat of nothing or past the end is bad. -/
def codeLengths (a : Array Byte) (t : List (List Nat)) (need : Nat) : Nat → List Nat → Nat → CodeRead × List Nat
  | 0, l, _ => (.bad, l)
  | fuel + 1, l, p =>
    if l.length = need then (.sym 0 p, l)
    else if need < l.length then (.bad, l)
    else match readCode a t 0 0 p with
      | .short => (.short, l)
      | .bad => (.bad, l)
      | .sym v q =>
        if v < 16 then codeLengths a t need fuel (v :: l) q
        else
          let e := if v = 16 then 2 else if v = 17 then 3 else 7
          let n := bitsIn a q e + (if v = 18 then 11 else 3)
          if v = 16 && l.isEmpty then (.bad, l)
          else if 8 * a.size < q + e then (.short, l)
          else codeLengths a t need fuel (List.replicate n (if v = 16 then l.headD 0 else 0) ++ l) (q + e)

/-- The order in which the lengths of the code-length code are sent. -/
def lengthOrder : List Nat := [16, 17, 18, 0, 8, 7, 9, 6, 10, 5, 11, 4, 12, 3, 13, 2, 14, 1, 15]

/-- Distance lengths that RFC 1951 allows: a complete code, one code of one bit, or none. -/
def distOk (l : List Nat) : Bool :=
  decide (codeSpace l = 2 ^ 15) || decide (codeSpace l = 0) ||
    (decide (codeSpace l = 2 ^ 14) && decide ((l.filter (fun n => decide (n ≠ 0))).length = 1))

/-- The code lengths that the header of a dynamic block at bit `p` gives, and the bit after it. -/
def dynamicHeader (a : Array Byte) (p : Nat) : CodeRead × List Nat × List Nat :=
  if 8 * a.size < p + 14 then (.short, [], [])
  else
    let hlit := bitsIn a p 5 + 257
    let hdist := bitsIn a (p + 5) 5 + 1
    let hclen := bitsIn a (p + 10) 4 + 4
    if 286 < hlit then (.bad, [], [])
    else if 8 * a.size < p + 14 + 3 * hclen then (.short, [], [])
    else
      let sent := (List.range hclen).map (fun k => bitsIn a (p + 14 + 3 * k) 3)
      let cl := (List.range 19).map (fun v => sent.getD (lengthOrder.idxOf v) 0)
      if codeSpace cl ≠ 2 ^ 15 then (.bad, [], [])
      else
        match codeLengths a (codeTable cl) (hlit + hdist) 320 [] (p + 14 + 3 * hclen) with
        | (.sym v q, l) =>
          let lens := l.reverse
          if codeSpace (lens.take hlit) = 2 ^ 15 ∧ distOk (lens.drop hlit) = true then (.sym v q, lens.take hlit, lens.drop hlit)
          else (.bad, [], [])
        | (r, _) => (r, [], [])

/-- Code lengths of a fixed block. -/
def fixedLit : List Nat := List.replicate 144 8 ++ List.replicate 112 9 ++ List.replicate 24 7 ++ List.replicate 8 8
def fixedDist : List Nat := List.replicate 32 5

/-- The blocks of a stream from bit `p`: the bit after the last one and the output. -/
def deflateStream (a : Array Byte) (lim : Option Nat) (base : Nat) :
    Nat → Nat → Array Byte → Except Bad (Nat × Array Byte)
  | 0, _, o => stopShort a o
  | fuel + 1, p, o =>
    let size := 8 * a.size
    if size < p + 3 then stopShort a o
    else
      let body : Except Bad (Nat × Array Byte) :=
        match bitsIn a (p + 1) 2 with
        | 0 =>
          let q := (p + 3 + 7) / 8
          let len := bytesIn a q 2
          if a.size < q + 4 then stopShort a o
          else if bytesIn a (q + 2) 2 ≠ 65535 - len then stopAt .illegal (p / 8) o
          else if a.size < q + 4 + len then stopShort a o
          else if passes lim (o.size + len) then stopAt .overrun (p / 8) o
          else .ok (8 * (q + 4 + len), o ++ a.extract (q + 4) (q + 4 + len))
        | 1 => deflateCodes a (codeTable fixedLit) (codeTable fixedDist) lim base (size + 1) (p + 3) o
        | 2 =>
          match dynamicHeader a (p + 3) with
          | (.short, _, _) => stopShort a o
          | (.bad, _, _) => stopAt .illegal (p / 8) o
          | (.sym _ q, l, d) => deflateCodes a (codeTable l) (codeTable d) lim base (size + 1) q o
        | _ => stopAt .illegal (p / 8) o
      match body with
      | .error e => .error e
      | .ok (q, u) => if bitIn a p = 1 then .ok (q, u) else deflateStream a lim base fuel q u

/-- A declared output length that the output does not meet. -/
def missesLen (lim : Option Nat) (n : Nat) : Bool :=
  match lim with
  | some m => decide (m ≠ n)
  | none => false

/-- One stream from byte `i`: the byte after it and the output. -/
def deflateAt (a : Array Byte) (lim : Option Nat) (i : Nat) (o : Array Byte) : Except Bad (Nat × Array Byte) :=
  match deflateStream a lim o.size (8 * a.size + 1) (8 * i) o with
  | .error e => .error e
  | .ok (p, u) => .ok ((p + 7) / 8, u)

/-- Raw DEFLATE: one stream, nothing after it (R237). -/
def rawRead (a : Array Byte) (lim : Option Nat) : Except Bad (Array Byte) :=
  match deflateAt a lim 0 #[] with
  | .error e => .error e
  | .ok (i, o) => if missesLen lim o.size || decide (i < a.size) then stopAt .length i o else .ok o

/-- zlib: header, one stream, Adler-32, nothing after it (R237). -/
def zlibRead (a : Array Byte) (lim : Option Nat) : Except Bad (Array Byte) :=
  let cmf := bytesIn a 0 1
  let flg := bytesIn a 1 1
  if cmf % 16 ≠ 8 ∨ 7 < cmf / 16 then stopAt .illegal 0 #[]
  else if a.size < 2 then stopShort a #[]
  else if (cmf * 256 + flg) % 31 ≠ 0 ∨ flg / 32 % 2 = 1 then stopAt .illegal 0 #[]
  else
    match deflateAt a lim 2 #[] with
    | .error e => .error e
    | .ok (i, o) =>
      if a.size < i + 4 then stopShort a o
      else if missesLen lim o.size then stopAt .length i o
      else if readHigh (a.extract i (i + 4)).toList ≠ adler32 o.toList then stopAt .checksum i o
      else if i + 4 < a.size then stopAt .length (i + 4) o
      else .ok o

/-- The byte after a zero-terminated field, if it ends. -/
def afterZero (a : Array Byte) : Nat → Nat → Option Nat
  | 0, _ => none
  | fuel + 1, i => if a.size ≤ i then none else if a.getD i 0 = 0 then some (i + 1) else afterZero a fuel (i + 1)

/-- The byte after the header of a gzip member that begins at byte `i`. -/
def gzipHeader (a : Array Byte) (i : Nat) (o : Array Byte) : Except Bad Nat :=
  let has (k : Nat) : Bool := decide (i + k < a.size)
  let flg := bytesIn a (i + 3) 1
  if (has 0 && decide (bytesIn a i 1 ≠ 0x1F)) || (has 1 && decide (bytesIn a (i + 1) 1 ≠ 0x8B)) ||
      (has 2 && decide (bytesIn a (i + 2) 1 ≠ 8)) || (has 3 && decide (32 ≤ flg)) then stopAt .illegal i o
  else if a.size < i + 10 then stopShort a o
  else
    let extra := if bitOf flg 2 then i + 12 + bytesIn a (i + 10) 2 else i + 10
    let name := if bitOf flg 3 then afterZero a (a.size + 1) extra else some extra
    let text := match name with
      | some k => if bitOf flg 4 then afterZero a (a.size + 1) k else some k
      | none => none
    match text with
    | none => stopShort a o
    | some k =>
      if a.size < extra then stopShort a o
      else if bitOf flg 1 then
        if a.size < k + 2 then stopShort a o
        else if bytesIn a k 2 ≠ (crc32 (a.extract i k).toList).toNat % 65536 then stopAt .checksum k o
        else .ok (k + 2)
      else if a.size < k then stopShort a o
      else .ok k

/-- gzip: consecutive members to the end of the input (R237). -/
def gzipRead (a : Array Byte) (lim : Option Nat) : Nat → Nat → Array Byte → Except Bad (Array Byte)
  | 0, _, o => stopShort a o
  | fuel + 1, i, o =>
    match gzipHeader a i o with
    | .error e => .error e
    | .ok k =>
      match deflateAt a lim k o with
      | .error e => .error e
      | .ok (j, u) =>
        let p := (u.extract o.size u.size)
        let last := decide (a.size = j + 8)
        if a.size < j + 8 then stopShort a u
        else if bytesIn a (j + 4) 4 ≠ p.size % 2 ^ 32 ∨ (last = true ∧ missesLen lim u.size = true) then stopAt .length (j + 4) u
        else if bytesIn a j 4 ≠ (crc32 p.toList).toNat then stopAt .checksum j u
        else if last then .ok u
        else gzipRead a lim fuel (j + 8) u

/-! ### Zstandard: bit streams read from their end -/

/-- A backward bit stream: its bytes and how many bits are left. -/
structure Back where
  a : Array Byte
  n : Nat
deriving DecidableEq, Repr

/-- The stream in bytes `i` to `j - 1`: the highest set bit of the last byte is its mark; none where there is none. -/
def Back.mk? (a : Array Byte) (i j : Nat) : Option Back :=
  let last := (a.getD (j - 1) 0).toNat
  if j ≤ i ∨ a.size < j ∨ last = 0 then none
  else some ⟨a.extract i j, 8 * (j - i - 1) + Nat.log2 last⟩

/-- The next `k` bits as a number, zeros below the start. -/
def Back.peek (b : Back) (k : Nat) : Nat :=
  if k ≤ b.n then bitsIn b.a (b.n - k) k else bitsIn b.a 0 b.n * 2 ^ (k - b.n)

/-- Take `k` bits if they are there. -/
def Back.take? (b : Back) (k : Nat) : Option (Nat × Back) :=
  if k ≤ b.n then some (b.peek k, { b with n := b.n - k }) else none

/-! ### Zstandard: finite-state entropy tables -/

/-- A state of an FSE table: symbol, bits to read, base of the next state. -/
structure FseRow where
  sym : Nat := 0
  bits : Nat := 0
  base : Nat := 0
deriving DecidableEq, Repr

/-- An FSE table: accuracy and its states. -/
structure Fse where
  log : Nat
  rows : Array FseRow
deriving DecidableEq, Repr

/-- Zero counts that a two-bit repeat flag adds. -/
def fseZeros (a : Array Byte) : Nat → Nat → Nat → Nat × Nat
  | 0, p, z => (p, z)
  | fuel + 1, p, z =>
    let r := bitsIn a p 2
    if r = 3 then fseZeros a fuel (p + 2) (z + 3) else (p + 2, z + r)

/-- Normalised counts of a table description: `left` of the space, the latest symbol first; -1 is less than one. -/
def fseCounts (a : Array Byte) (most : Nat) : Nat → Nat → Nat → List Int → Option (Nat × List Int)
  | 0, _, _, _ => none
  | fuel + 1, p, left, l =>
    if left = 0 then (if l.length ≤ most + 1 then some (p, l) else none)
    else if most < l.length then none
    else
      let b := Nat.log2 (left + 1) + 1
      let t := 2 ^ (b - 1)
      let short := 2 * t - 1 - (left + 1)
      let v := bitsIn a p (b - 1)
      let w := bitsIn a p b
      let vq : Nat × Nat := if v < short then (v, p + b - 1) else (if t ≤ w then w - short else w, p + b)
      let c : Int := (vq.1 : Int) - 1
      if left < c.natAbs then none
      else if c = 0 then
        let z := fseZeros a 100 vq.2 0
        fseCounts a most fuel z.1 left (List.replicate z.2 0 ++ (0 :: l))
      else fseCounts a most fuel vq.2 (left - c.natAbs) (c :: l)

/-- The places of the symbols: those of less than one at the end, the others spread by the step of RFC 8878. -/
def fseSpread (log : Nat) (counts : List Int) : Array Nat :=
  let size := 2 ^ log
  let idx := List.range counts.length
  let rare := idx.filter (fun v => decide (counts.getD v 0 = -1))
  let high := size - rare.length
  let a0 : Array Nat := (rare.foldl (fun (x : Array Nat × Nat) v => (x.1.setIfInBounds (x.2 - 1) v, x.2 - 1))
    (Array.replicate size 0, size)).1
  let step := size / 2 + size / 8 + 3
  let places := ((List.range size).map (fun k => k * step % size)).filter (fun q => decide (q < high))
  let syms := idx.flatMap (fun v => List.replicate (counts.getD v 0).toNat v)
  (places.zip syms).foldl (fun x q => x.setIfInBounds q.1 q.2) a0

/-- The table that counts give. -/
def fseTable (log : Nat) (counts : List Int) : Fse :=
  let spread := fseSpread log counts
  let next0 : Array Nat := (counts.map (fun c => if c = -1 then 1 else c.toNat)).toArray
  let r := spread.toList.foldl (fun (x : Array FseRow × Array Nat) v =>
    let n := x.2.getD v 1
    let b := log - Nat.log2 n
    (x.1.push ⟨v, b, n * 2 ^ b - 2 ^ log⟩, x.2.setIfInBounds v (n + 1))) (#[], next0)
  ⟨log, r.1⟩

/-- A table description at byte `i`, which ends by byte `j`: the table and the byte after it. -/
def fseRead (a : Array Byte) (i j most maxLog : Nat) : Option (Fse × Nat) :=
  let log := bitsIn a (8 * i) 4 + 5
  if j ≤ i ∨ maxLog < log then none
  else match fseCounts a most 300 (8 * i + 4) (2 ^ log) [] with
    | none => none
    | some (p, l) => if 8 * j < p then none else some (fseTable log l.reverse, (p + 7) / 8)

/-! ### Zstandard: Huffman tables -/

/-- A Huffman table: greatest code length, and for each value of that many bits the symbol and its length. -/
structure Huff where
  bits : Nat
  cells : Array (Nat × Nat)
deriving DecidableEq, Repr

/-- Weights read with two interleaved FSE states, the latest first, until the stream is used up. -/
def huffWeights (f : Fse) : Nat → Back → Nat → Nat → List Nat → List Nat
  | 0, _, _, _, l => l
  | fuel + 1, b, s, t, l =>
    let r := f.rows.getD s {}
    match b.take? r.bits with
    | none => (f.rows.getD t {}).sym :: r.sym :: l
    | some (v, b1) => huffWeights f fuel b1 t (r.base + v) (r.sym :: l)

/-- The table that weights give, the last weight being implied; none where they are invalid. -/
def huffTable (ws : List Nat) : Option Huff :=
  let space (l : List Nat) : Nat := (l.map (fun w => if w = 0 then 0 else 2 ^ (w - 1))).sum
  let sum := space ws
  let bits := Nat.log2 sum + 1
  let gap := 2 ^ bits - sum
  if sum = 0 ∨ 11 < bits ∨ 255 < ws.length ∨ 2 ^ Nat.log2 gap ≠ gap then none
  else
    let all := ws ++ [Nat.log2 gap + 1]
    let order := (List.range bits).flatMap (fun k => (List.range all.length).filter (fun v => decide (all.getD v 0 = k + 1)))
    some ⟨bits, (order.flatMap (fun v =>
      let w := all.getD v 0
      List.replicate (2 ^ (w - 1)) (v, bits + 1 - w))).toArray⟩

/-- A tree description at byte `i`, which ends by byte `j`: the table and the byte after it. -/
def huffRead (a : Array Byte) (i j : Nat) : Option (Huff × Nat) :=
  let h := bytesIn a i 1
  if j ≤ i then none
  else if 128 ≤ h then
    let n := h - 127
    let e := i + 1 + (n + 1) / 2
    let ws := (List.range n).map (fun k => bytesIn a (i + 1 + k / 2) 1 / (if k % 2 = 0 then 16 else 1) % 16)
    if j < e then none else (huffTable ws).map (fun t => (t, e))
  else
    let e := i + 1 + h
    if j < e then none
    else match fseRead a (i + 1) e 255 6 with
      | none => none
      | some (f, k) =>
        match Back.mk? a k e with
        | none => none
        | some b =>
          match b.take? f.log with
          | none => none
          | some (s, b1) =>
            match b1.take? f.log with
            | none => none
            | some (t, b2) => (huffTable (huffWeights f 256 b2 s t []).reverse).map (fun x => (x, e))

/-- `n` literals of one stream, which they use up. -/
def huffStream (t : Huff) : Nat → Back → Array Byte → Option (Array Byte)
  | 0, b, o => if b.n = 0 then some o else none
  | n + 1, b, o =>
    let c := t.cells.getD (b.peek t.bits) (0, 0)
    if b.n < c.2 then none else huffStream t n { b with n := b.n - c.2 } (o.push (BitVec.ofNat 8 c.1))

/-- `n` literals from bytes `i` to `j - 1`. -/
def huffPart (t : Huff) (a : Array Byte) (i j n : Nat) (o : Array Byte) : Option (Array Byte) :=
  match Back.mk? a i j with
  | none => none
  | some b => huffStream t n b o

/-- `n` literals in four streams behind a jump table. -/
def huffFour (t : Huff) (a : Array Byte) (i j n : Nat) : Option (Array Byte) :=
  let k1 := i + 6 + bytesIn a i 2
  let k2 := k1 + bytesIn a (i + 2) 2
  let k3 := k2 + bytesIn a (i + 4) 2
  let m := (n + 3) / 4
  if j < i + 6 ∨ j ≤ k3 ∨ n < 3 * m then none
  else do
    let o1 ← huffPart t a (i + 6) k1 m #[]
    let o2 ← huffPart t a k1 k2 m o1
    let o3 ← huffPart t a k2 k3 m o2
    huffPart t a k3 j (n - 3 * m) o3

/-! ### Zstandard: blocks -/

/-- What one block of a frame leaves to the next: tables and repeated offsets. -/
structure ZCtx where
  huff : Option Huff := none
  ll : Option Fse := none
  ofs : Option Fse := none
  ml : Option Fse := none
  rep : Nat × Nat × Nat := (1, 4, 8)
deriving DecidableEq, Repr

/-- The literals section in bytes `i` to `j - 1`: literals, the byte after it, the tree in force. -/
def zLiterals (a : Array Byte) (i j : Nat) (c : ZCtx) : Option (Array Byte × Nat × Option Huff) :=
  let b0 := bytesIn a i 1
  let kind := b0 % 4
  let form := b0 / 4 % 4
  if j ≤ i then none
  else if kind < 2 then
    let h := if form % 2 = 0 then 1 else if form = 1 then 2 else 3
    let n := if h = 1 then b0 / 8 else bytesIn a i h / 16
    let e := i + h + (if kind = 0 then n else 1)
    if j < e then none
    else if kind = 0 then some (a.extract (i + h) e, e, c.huff)
    else some (Array.replicate n (a.getD (i + h) 0), e, c.huff)
  else
    let h := if form < 2 then 3 else form + 2
    let w := if form < 2 then 10 else if form = 2 then 14 else 18
    let n := bitsIn a (8 * i + 4) w
    let e := i + h + bitsIn a (8 * i + 4 + w) w
    if j < i + h ∨ j < e then none
    else
      let tree : Option (Huff × Nat) := if kind = 2 then huffRead a (i + h) e else c.huff.map (fun t => (t, i + h))
      match tree with
      | none => none
      | some (t, k) =>
        (if form = 0 then huffPart t a k e n #[] else huffFour t a k e n).map (fun o => (o, e, some t))

/-- Default distributions (RFC 8878 section 3.1.1.3.2.2). -/
def llDefault : List Int := [4, 3, 2, 2, 2, 2, 2, 2, 2, 2, 2, 2, 2, 1, 1, 1, 2, 2, 2, 2, 2, 2, 2, 2, 2, 3, 2, 1, 1, 1, 1, 1, -1, -1, -1, -1]
def mlDefault : List Int := [1, 4, 3, 2, 2, 2, 2, 2, 2] ++ List.replicate 37 1 ++ List.replicate 7 (-1)
def ofDefault : List Int := [1, 1, 1, 1, 1, 1, 2, 2, 2] ++ List.replicate 15 1 ++ List.replicate 5 (-1)

/-- A sequence code's table by its mode, at byte `i`: predefined, RLE, described, repeated. -/
def zTable (a : Array Byte) (mode i j most maxLog log : Nat) (dflt : List Int) (prev : Option Fse) : Option (Fse × Nat) :=
  if mode = 0 then some (fseTable log dflt, i)
  else if mode = 1 then
    if i < j ∧ bytesIn a i 1 ≤ most then some (⟨0, #[⟨bytesIn a i 1, 0, 0⟩]⟩, i + 1) else none
  else if mode = 2 then fseRead a i j most maxLog
  else prev.map (fun f => (f, i))

/-- Base and extra bits of a literal-length code. -/
def llCode (c : Nat) : Nat × Nat :=
  if c < 16 then (c, 0)
  else [(16, 1), (18, 1), (20, 1), (22, 1), (24, 2), (28, 2), (32, 3), (40, 3), (48, 4), (64, 6), (128, 7), (256, 8), (512, 9),
    (1024, 10), (2048, 11), (4096, 12), (8192, 13), (16384, 14), (32768, 15), (65536, 16)].getD (c - 16) (0, 0)

/-- Base and extra bits of a match-length code. -/
def mlCode (c : Nat) : Nat × Nat :=
  if c < 32 then (c + 3, 0)
  else [(35, 1), (37, 1), (39, 1), (41, 1), (43, 2), (47, 2), (51, 3), (59, 3), (67, 4), (83, 4), (99, 5), (131, 7), (259, 8),
    (515, 9), (1027, 10), (2051, 11), (4099, 12), (8195, 13), (16387, 14), (32771, 15), (65539, 16)].getD (c - 32) (0, 0)

/-- A sequence: literal length, offset value, match length. -/
structure ZSeq where
  ll : Nat
  ofs : Nat
  ml : Nat
deriving DecidableEq, Repr

/-- The next state of a table. -/
def Fse.next (f : Fse) (s : Nat) (b : Back) : Option (Nat × Back) :=
  let r := f.rows.getD s {}
  (b.take? r.bits).map (fun vb => (r.base + vb.1, vb.2))

/-- `n` sequences, the latest first; they use the stream up. -/
def zSeqs (fl fo fm : Fse) : Nat → Back → Nat → Nat → Nat → List ZSeq → Option (List ZSeq)
  | 0, b, _, _, _, l => if b.n = 0 then some l else none
  | n + 1, b, sl, so, sm, l => do
    let co := (fo.rows.getD so {}).sym
    let cm := mlCode (fm.rows.getD sm {}).sym
    let cl := llCode (fl.rows.getD sl {}).sym
    let (vo, b1) ← b.take? co
    let (vm, b2) ← b1.take? cm.2
    let (vl, b3) ← b2.take? cl.2
    let q : ZSeq := ⟨cl.1 + vl, 2 ^ co + vo, cm.1 + vm⟩
    if n = 0 then zSeqs fl fo fm n b3 sl so sm (q :: l)
    else
      let (sl1, b4) ← fl.next sl b3
      let (sm1, b5) ← fm.next sm b4
      let (so1, b6) ← fo.next so b5
      zSeqs fl fo fm n b6 sl1 so1 sm1 (q :: l)

/-- The sequences section in bytes `i` to `j - 1`: sequences in order and the context for the next block. -/
def zSequences (a : Array Byte) (i j : Nat) (c : ZCtx) : Option (List ZSeq × ZCtx) :=
  let b0 := bytesIn a i 1
  let h := if b0 < 128 then 1 else if b0 < 255 then 2 else 3
  let n := if b0 < 128 then b0 else if b0 < 255 then (b0 - 128) * 256 + bytesIn a (i + 1) 1 else bytesIn a (i + 1) 2 + 0x7F00
  if j < i + h then none
  else if n = 0 then (if j = i + h then some ([], c) else none)
  else
    let m := bytesIn a (i + h) 1
    if j < i + h + 1 ∨ m % 4 ≠ 0 then none
    else do
      let (fl, k1) ← zTable a (m / 64) (i + h + 1) j 35 9 6 llDefault c.ll
      let (fo, k2) ← zTable a (m / 16 % 4) k1 j 31 8 5 ofDefault c.ofs
      let (fm, k3) ← zTable a (m / 4 % 4) k2 j 52 9 6 mlDefault c.ml
      let b ← Back.mk? a k3 j
      let (sl, b1) ← b.take? fl.log
      let (so, b2) ← b1.take? fo.log
      let (sm, b3) ← b2.take? fm.log
      let l ← zSeqs fl fo fm n b3 sl so sm []
      some (l.reverse, { c with ll := some fl, ofs := some fo, ml := some fm })

/-- The offset that an offset value names, and the repeated offsets after it; 0 is none. -/
def zOffset (r : Nat × Nat × Nat) (q : ZSeq) : Nat × (Nat × Nat × Nat) :=
  let k := if q.ll = 0 then q.ofs + 1 else q.ofs
  if 3 < q.ofs then (q.ofs - 3, q.ofs - 3, r.1, r.2.1)
  else if k = 1 then (r.1, r)
  else if k = 2 then (r.2.1, r.2.1, r.1, r.2.2)
  else if k = 3 then (r.2.2, r.2.2, r.1, r.2.1)
  else (r.1 - 1, r.1 - 1, r.1, r.2.1)

/-- Sequences with their offsets resolved, in order, and the repeated offsets after them. -/
def zResolve : List ZSeq → Nat × Nat × Nat → List ZSeq × (Nat × Nat × Nat)
  | [], r => ([], r)
  | q :: t, r =>
    let x := zOffset r q
    let y := zResolve t x.2
    ({ q with ofs := x.1 } :: y.1, y.2)

/-- Some offset reaches beyond the window or the `made` bytes of the frame. -/
def zFar (window : Nat) : List ZSeq → Nat → Bool
  | [], _ => false
  | q :: t, made => decide (min window (made + q.ll) < q.ofs) || zFar window t (made + q.ll + q.ml)

/-- Carry sequences out: literals from `k` on, then the match; the literals that are left follow. -/
def zRun (lits : Array Byte) : List ZSeq → Nat → Array Byte → Array Byte
  | [], k, o => o ++ lits.extract k lits.size
  | q :: t, k, o => zRun lits t (k + q.ll) (copyEnd q.ofs q.ml (o ++ lits.extract k (k + q.ll)))

/-- The contents of a compressed block in bytes `i` to `j - 1`. The frame's output begins at `base`. -/
def zCompressed (a : Array Byte) (i j window most base : Nat) (lim : Option Nat) (c : ZCtx) (o : Array Byte) :
    Except Bad (Array Byte × ZCtx) :=
  let r : Option (Array Byte × List ZSeq × ZCtx) := do
    let (lits, k, t) ← zLiterals a i j c
    let (l, c1) ← zSequences a k j { c with huff := t }
    let x := zResolve l c1.rep
    if x.1.any (fun q => decide (q.ofs = 0)) || decide (lits.size < (l.map (fun q => q.ll)).sum) then none
    else some (lits, x.1, { c1 with rep := x.2 })
  match r with
  | none => stopAt .illegal (i - 3) o
  | some (lits, l, c1) =>
    let n := lits.size + (l.map (fun q => q.ml)).sum
    if zFar window l (o.size - base) then stopAt .distance (i - 3) o
    else if most < n ∨ passes lim (o.size + n) = true then stopAt .overrun (i - 3) o
    else .ok (zRun lits l 0 o, c1)

/-- The blocks of a frame from byte `i`: the byte after the last one and the output. -/
def zBlocks (a : Array Byte) (window base : Nat) (lim : Option Nat) : Nat → Nat → ZCtx → Array Byte → Except Bad (Nat × Array Byte)
  | 0, _, _, o => stopShort a o
  | fuel + 1, i, c, o =>
    let h := bytesIn a i 3
    let n := h / 8
    let most := min window 131072
    let kind := h / 2 % 4
    let e := i + 3 + (if kind = 1 then 1 else n)
    if i < a.size ∧ kind = 3 then stopAt .illegal i o
    else if a.size < i + 3 ∨ a.size < e then stopShort a o
    else
      let body : Except Bad (Array Byte × ZCtx) :=
        if kind = 2 then if most < n then stopAt .overrun i o else zCompressed a (i + 3) e window most base lim c o
        else if most < n ∨ passes lim (o.size + n) = true then stopAt .overrun i o
        else if kind = 0 then .ok (o ++ a.extract (i + 3) e, c)
        else .ok (o ++ Array.replicate n (a.getD (i + 3) 0), c)
      match body with
      | .error x => .error x
      | .ok (u, c1) => if h % 2 = 1 then .ok (e, u) else zBlocks a window base lim fuel e c1 u

/-! ### Zstandard: frames -/

/-- A frame header that has been read: byte after it, window, Frame_Content_Size and its byte, checksum flag. -/
structure ZHead where
  next : Nat
  window : Nat
  size : Option Nat
  sizeAt : Nat
  check : Bool
deriving DecidableEq, Repr

/-- The frame header after the magic number, at byte `i`. -/
def zHead (a : Array Byte) (i : Nat) (o : Array Byte) : Except Bad ZHead :=
  let d := bytesIn a i 1
  let single := bitOf d 5
  let f := d / 64
  let idLen := [0, 1, 2, 4].getD (d % 4) 0
  let fLen := if f = 0 then (if single then 1 else 0) else 2 ^ f
  let w := bytesIn a (i + 1) 1
  let at1 := if single then i + 1 else i + 2
  let at2 := at1 + idLen
  let fcs := bytesIn a at2 fLen + (if f = 1 then 256 else 0)
  let window := if single then fcs else 2 ^ (10 + w / 8) + 2 ^ (10 + w / 8) / 8 * (w % 8)
  if bitOf d 3 then stopAt .illegal i o
  else if a.size < at2 + fLen then stopShort a o
  else if 2 ^ 23 < window ∨ bytesIn a at1 idLen ≠ 0 then stopAt .illegal i o
  else .ok ⟨at2 + fLen, window, if fLen = 0 then none else some fcs, at2, bitOf d 2⟩

/-- A frame's magic number at byte `i`, as far as the input holds it: 1 a frame, 2 a skippable frame, 0 neither. -/
def zMagic (a : Array Byte) (i : Nat) : Nat :=
  let l := (a.extract i (i + 4)).toList
  if l = [0x28, 0xB5, 0x2F, 0xFD].take l.length then 1
  else if (l.headD 0).toNat / 16 = 5 ∧ l.drop 1 = [0x2A, 0x4D, 0x18].take (l.length - 1) then 2
  else 0

/-- No frame follows byte `i`, only skippable ones. -/
def zOnlySkips (a : Array Byte) : Nat → Nat → Bool
  | 0, _ => true
  | fuel + 1, i => decide (a.size ≤ i) || (decide (zMagic a i = 2) && zOnlySkips a fuel (i + 8 + bytesIn a (i + 4) 4))

/-- The frame whose blocks begin at byte `i` is the input's last: its blocks are passed over by their headers. -/
def zIsLast (a : Array Byte) (check : Bool) : Nat → Nat → Bool
  | 0, _ => true
  | fuel + 1, i =>
    let h := bytesIn a i 3
    let e := i + 3 + (if h / 2 % 4 = 1 then 1 else h / 8)
    if a.size ≤ e then true
    else if h % 2 = 1 then zOnlySkips a (a.size + 1) (e + if check then 4 else 0)
    else zIsLast a check fuel e

/-- The size field of a frame disagrees with the declared length: the frame would pass it, or is the last and falls
short of it (log 210). -/
def zDisagrees (a : Array Byte) (h : ZHead) (lim : Option Nat) (made : Nat) : Bool :=
  match lim, h.size with
  | some m, some f => decide (m < made + f) || (decide (made + f < m) && zIsLast a h.check (a.size + 1) h.next)
  | _, _ => false

/-- Consecutive frames, skippable ones passed over (R236). -/
def zstdRead (a : Array Byte) (lim : Option Nat) : Nat → Nat → Array Byte → Except Bad (Array Byte)
  | 0, _, o => stopShort a o
  | fuel + 1, i, o =>
    if a.size ≤ i then (if missesLen lim o.size then stopAt .length a.size o else .ok o)
    else if zMagic a i = 0 then stopAt .illegal i o
    else if a.size < i + 4 then stopShort a o
    else if zMagic a i = 2 then
      let e := i + 8 + bytesIn a (i + 4) 4
      if a.size < i + 8 ∨ a.size < e then stopShort a o else zstdRead a lim fuel e o
    else
      match zHead a (i + 4) o with
      | .error x => .error x
      | .ok h =>
        let cap := match h.size, lim with
          | some f, some m => some (min (o.size + f) m)
          | some f, none => some (o.size + f)
          | none, m => m
        if zDisagrees a h lim o.size then stopAt .length h.sizeAt o
        else
          match zBlocks a h.window o.size cap (a.size + 1) h.next {} o with
          | .error x => .error x
          | .ok (e, u) =>
            let p := u.extract o.size u.size
            if missesLen h.size p.size then stopAt .length h.sizeAt u
            else if !h.check then zstdRead a lim fuel e u
            else if a.size < e + 4 then stopShort a u
            else if bytesIn a e 4 ≠ (xxh64 p.toList).toNat % 2 ^ 32 then stopAt .checksum e u
            else zstdRead a lim fuel (e + 4) u

/-- Read an input of a format other than TBLZ: Zstandard 1, raw DEFLATE 2, zlib 3, gzip 4. -/
def inflate (fmt : Nat) (l : List Byte) (lim : Option Nat) : Except Bad (List Byte) :=
  let a := l.toArray
  let r := if fmt = 1 then zstdRead a lim (a.size + 1) 0 #[]
    else if fmt = 2 then rawRead a lim
    else if fmt = 3 then zlibRead a lim
    else gzipRead a lim (a.size + 1) 0 #[]
  match r with
  | .error e => .error e
  | .ok o => .ok o.toList

/-- Read an input of a format: plaintext produced, code of Table 4-22, offsets. An empty input is truncated (R240); a TBLZ
header's PLEN must agree with a declared length (R241). -/
def inflateAny (fmt : Nat) (l : List Byte) (olen : Option Nat) : List Byte × Nat × Nat × Nat :=
  let r : Except Bad (List Byte) :=
    if l.isEmpty then .error ⟨.truncated, 0, 0, []⟩
    else if fmt ≠ 0 then inflate fmt l olen
    else match olen with
      | some n => if 16 ≤ l.length ∧ highField l 4 4 ≠ n ∧ magicKnown l = true then .error ⟨.length, 4, 0, []⟩ else imageDecode l
      | none => imageDecode l
  match r with
  | .ok p => (p, 0, l.length, p.length)
  | .error e => (e.made, e.why.code, e.inp, e.out)

end Sys2Proof.Machine
end

