-- ==== Sys2Proof/Machine/DramCtl.lean ====
section
/-!
DEFINITION. The DRAM controllers and the error logs of memory protection (spec/16): address maps, refresh
debt, activate tables, delay sets, self-refresh, correctable errors, remaps and the patrol scrubber.
-/

namespace Sys2Proof.Machine

def State.setDram (s : State) (d : Dram) : State := { s with dram := d }

def State.drc (s : State) (m : Nat) : Drc := nth {} s.dram.ch m

def State.setDrc (s : State) (m : Nat) (v : Drc) : State := s.setDram { s.dram with ch := setNth v s.dram.ch m }

/-! ### Addressing (R367, R368) -/

/-- XOR of the lowest `n` bytes of `x` (R367). -/
def foldBytes (x : Nat) : Nat → Nat
  | 0 => 0
  | n + 1 => Nat.xor (x % 256) (foldBytes (x / 256) n)

/-- Working channels, ascending (GLB_DRAM_PRESENT.WORKING). -/
def State.working (s : State) : List Nat :=
  (List.range 6).filter (fun m => decide ((s.drc m).state = .up) || decide ((s.drc m).state = .selfRefresh))

/-- Channel and channel offset of an address of the interleaved space (R367); none without a channel. -/
def dramPlace (work : List Nat) (key : BitVec 64) (a : Nat) : Option (Nat × Nat) :=
  let n := work.length
  if n = 0 then none
  else
    let l := a / 256
    let g := l / n
    let f := foldBytes (Nat.xor g key.toNat) 8
    some (nth 0 work ((l % n + f % n) % n), g * 256 + a % 256)

/-- A line's place: sub-channel, rank, bank 0–31, row. -/
structure LinePlace where
  sub : Nat
  rank : Nat
  bank : Nat
  row : Nat
deriving DecidableEq, Repr

/-- Table 16-2: density code 1 is 8 Gb, 2 is 16 Gb; `ranks2` for two ranks; `k2` is K[5:0]. -/
def linePlace (density : Nat) (ranks2 : Bool) (k2 line : Nat) : LinePlace :=
  let wide := decide (density = 2)
  let low := if wide then 6 else if ranks2 then 6 else 5
  let row := bits line (low + 22) (low + 7)
  let rank := if !wide && ranks2 then bits line 5 5 else 0
  let group := Nat.xor (Nat.xor (bits line 3 1) (bits row 2 0)) (bits k2 2 0)
  let inGroup := if wide then Nat.xor (Nat.xor (bits line 5 4) (bits row 4 3)) (bits k2 4 3)
    else Nat.xor (Nat.xor (bits line 4 4) (bits row 3 3)) (bits k2 3 3)
  ⟨line % 2, rank, 4 * group + inGroup, row⟩

/-- The place of a line of channel `m`, by its configuration in use (DRC_CFG). -/
def State.place (s : State) (m line : Nat) : LinePlace :=
  linePlace (s.field (Reg.DRC_CFG m) 27 26) (bitOf (s.reg (Reg.DRC_CFG m)).toNat 25) (s.dram.key.toNat % 64) line

/-- Index of a rank in the lists of debts: 2·sub + rank. -/
def rankIx (sub rank : Nat) : Nat := 2 * sub + rank

/-- Set a DRC_ERR bit and capture it (Table 16-12). -/
def State.drcRaise (s : State) (m bit sub rank bank row : Nat) : State :=
  s.raiseAt (Reg.DRC_ERR m) bit (Reg.DRC_ERR_LOC m)
    (bit * 2 ^ 28 + sub * 2 ^ 27 + rank * 2 ^ 26 + bank * 2 ^ 21 + row)

/-- Set a MEP_ERR bit and capture it: channel, or 7, and SRAM macro (Table 16-14). -/
def State.mepRaise (s : State) (bit ch macro_ : Nat) : State :=
  s.raiseAt Reg.MEP_ERR bit Reg.MEP_ERR_LOC (bit * 2 ^ 27 + ch * 2 ^ 24 + macro_ % 2 ^ 16)

/-! ### Refresh (R370, R371) -/

/-- A tREFI tick of a rank. -/
def State.refreshTick (s : State) (m sub rank : Nat) (queued window : Bool) : State :=
  let d := s.drc m
  if d.state ≠ .up then s
  else
    let i := rankIx sub rank
    let d1 := if window then
        { d with act := d.act.filter (fun p => !(decide (p.1 / 32 = i))) } else d
    let debt := nth 0 d1.debts i + 1
    if !queued then s.setDrc m d1
    else if debt < 8 then s.setDrc m { d1 with debts := setNth debt d1.debts i }
    else (s.setDrc m { d1 with debts := setNth 0 d1.debts i }).drcRaise m 3 sub rank 0 0

/-- An idle rank makes its debt up (R370). -/
def State.refreshMakeup (s : State) (m sub rank : Nat) : State :=
  let d := s.drc m
  if d.state ≠ .up then s else s.setDrc m { d with debts := setNth 0 d.debts (rankIx sub rank) }

/-- The mode register is read (R371). -/
def State.refreshRate (s : State) (m sub rank : Nat) (doubled : Bool) : State :=
  let d := s.drc m
  if d.state ≠ .up then s else s.setDrc m { d with doubled := setNth doubled d.doubled (rankIx sub rank) }

/-! ### Delay sets (R372, R374) -/

/-- The band after a reading `t` (R374): up at T1, T2, down below T1 − HYST, T2 − HYST. -/
def bandOf (t1 t2 hyst : Int) (band : Nat) (t : Int) : Nat :=
  if t2 ≤ t then 2
  else if band = 2 ∧ t2 - hyst ≤ t then 2
  else if t1 ≤ t then 1
  else if 1 ≤ band ∧ t1 - hyst ≤ t then 1
  else 0

/-- The boundary's band check of a channel (R374); a set that is invalid disables the channel (R372). -/
def State.drcBand (s : State) (m : Nat) (t : Int) : State :=
  let d := s.drc m
  if d.state ≠ .up ∧ d.state ≠ .selfRefresh then s
  else
    let b := bandOf s.dram.t1 s.dram.t2 s.dram.hyst d.band t
    if b = d.band then s
    else if nth true d.setOk b then
      s.setDrc m { d with band := b, bandPend := true, swA := true, swB := true }
    else (s.setDrc m { d with band := b, state := .disabled }).drcRaise m 1 0 0 0 0

/-- A sub-channel loads the new set during a REFab of rank 0 (R374). -/
def State.delaySwitch (s : State) (m sub : Nat) : State :=
  let d := s.drc m
  if d.state ≠ .up || !d.bandPend || !(if sub = 0 then d.swA else d.swB) then s
  else
    let d1 := if sub = 0 then { d with dsetA := d.band, swA := false } else { d with dsetB := d.band, swB := false }
    let all := !d1.swA && !d1.swB
    (s.setDrc m { d1 with bandPend := !all, checkDue := d1.checkDue || all }).bump (Reg.DRC_DSET_CNT m)

/-- A channel becomes FAILING (R389). -/
def State.drcFailing (s : State) (m sub rank : Nat) : State :=
  let d := s.drc m
  if d.failing then s else (s.setDrc m { d with failing := true }).drcRaise m 4 sub rank 0 0

/-- The check area has been read back (R374). -/
def State.checkArea (s : State) (m : Nat) (pass : Bool) : State :=
  let d := s.drc m
  if !d.checkDue then s
  else
    let s1 := s.setDrc m { d with checkDue := false }
    if pass then s1 else (s1.drcRaise m 0 0 0 0 0).drcFailing m 0 0

/-! ### Accesses and row hammer (R369, R375, R376) -/

/-- Smallest count of an activate table. -/
def minCount : List (Nat × Nat) → Nat
  | [] => 0
  | [p] => p.2
  | p :: t => min p.2 (minCount t)

/-- Replace the first entry whose count is `c`. -/
def replaceMin (c : Nat) (e : Nat × Nat) : List (Nat × Nat) → List (Nat × Nat)
  | [] => []
  | p :: t => if p.2 = c then e :: t else p :: replaceMin c e t

/-- What one ACT does to its bank's table. -/
inductive ActEvent where
  | quiet | neighbours | overflow
deriving DecidableEq, Repr

/-- The activate-table update of R375. -/
def actUpdate (thr : Nat) (t : List (Nat × Nat)) (row : Nat) : List (Nat × Nat) × ActEvent :=
  match t.find? (fun p => decide (p.1 = row)) with
  | some e =>
    if thr ≤ e.2 + 1 then (t.filter (fun p => decide (p.1 ≠ row)), .neighbours)
    else (t.map (fun p => if p.1 = row then (row, e.2 + 1) else p), .quiet)
  | none =>
    if t.length < 32 then (t ++ [(row, 1)], .quiet)
    else if thr / 2 ≤ minCount t then ([], .overflow)
    else (replaceMin (minCount t) (row, minCount t + 1) t, .quiet)

/-- One ACT of a row (R375, R376). `draw` is the value drawn from the random source. -/
def State.activate (s : State) (m line draw : Nat) : State :=
  let d := s.drc m
  let p := s.place m line
  if d.isSealed then
    if draw % 2 ^ s.fieldNow (Reg.DRC_RH_PROB m) 3 0 = 0 then s.bump (Reg.DRC_RH_TRR_CNT m) else s
  else
    let key := rankIx p.sub p.rank * 32 + p.bank
    let (t, ev) := actUpdate (s.fieldNow (Reg.DRC_RH_THR m) 14 0) (Sparse.get (fun _ => []) d.act key) p.row
    let s1 := s.setDrc m { d with act := Sparse.set (fun _ => []) d.act key t }
    match ev with
    | .quiet => s1
    | .neighbours => s1.bump (Reg.DRC_RH_TRR_CNT m)
    | .overflow => (s1.drcRaise m 2 p.sub p.rank p.bank p.row).bump (Reg.DRC_RH_RFM_CNT m)

/-- A line access (R369): a partial write reads and writes; a whole-line write clears poison (R381). -/
def State.lineAccess (s : State) (m line : Nat) (write whole : Bool) (draw : Nat) : State :=
  let d := s.drc m
  if d.state ≠ .up then s
  else
    let d1 := { d with
      rd := if write && whole then d.rd else d.rd + 1
      wr := if write then d.wr + 1 else d.wr
      poison := if write && whole then d.poison.filter (fun l => decide (l ≠ line)) else d.poison }
    (s.setDrc m d1).activate m line draw

/-! ### Self-refresh (R379, R380) -/

/-- The self-refresh entry that PWR requested, past the point of no return. -/
def State.srEntry (s : State) (m : Nat) : State :=
  let d := s.drc m
  if decide (d.state ≠ .up) || !d.srWant then s
  else
    let stop := bitOf (s.reg (Reg.DRC_SR_CTL m)).toNat 0
    let s1 := s.setDrc m { d with state := .selfRefresh, debts := [0, 0, 0, 0], clkStopped := stop }
    { s1 with pins := { s1.pins with ddClk := setNth (!stop) s1.pins.ddClk m } }.count (Reg.DRC_SR_CNT m) 15 0 1

/-- An access meets an entry before its step 4 (`early`), which aborts it, or wakes the channel (R380). A
band change meanwhile loads its set before the exit (R374). -/
def State.srExit (s : State) (m : Nat) (early : Bool) : State :=
  let d := s.drc m
  if d.state = .up then
    if early && d.srWant then
      (s.setDrc m { d with srWant := false }).count (Reg.DRC_SR_CNT m) 31 16 1
    else s
  else if d.state = .selfRefresh then
    let d1 := if d.bandPend then
        { d with dsetA := d.band, dsetB := d.band, swA := false, swB := false, bandPend := false, checkDue := true }
      else d
    let s1 := s.setDrc m { d1 with state := .up, clkStopped := false, srWant := false }
    let s2 := { s1 with pins := { s1.pins with ddClk := setNth true s1.pins.ddClk m } }
    if d.bandPend then s2.count (Reg.DRC_DSET_CNT m) 31 0 (b2n d.swA + b2n d.swB) else s2
  else s

/-! ### Correctable errors and remaps (R383, R387, R388, R389, R391) -/

/-- Remap a line: the lowest free entry, or REMAP_FULL; the last entry taken exhausts them (R387, R389). -/
def State.remapLine (s : State) (m line : Nat) : State :=
  let d := s.drc m
  let p := s.place m line
  if d.remap.contains line then s
  else if 16 ≤ d.remap.length then s.mepRaise 4 m 0
  else
    let s1 := s.setDrc m { d with remap := d.remap ++ [line]
                                  track := d.track.filter (fun e => decide (e.1 ≠ line)) }
    if d.remap.length + 1 = 16 then s1.drcFailing m p.sub p.rank else s1

/-- MEP_SRAM_MACRO[15:0] of a class and instance. -/
def macroOf (cls inst : Nat) : Nat := cls * 1024 + inst

/-- Entries a macro uses. -/
def Dram.sramUsed (d : Dram) (mac : Nat) : Nat := (d.sramRemap.filter (fun p => decide (p.1 = mac))).length

/-- Remap an SRAM word (R388). -/
def State.remapWord (s : State) (mac word : Nat) : State :=
  if s.dram.sramRemap.contains (mac, word) then s
  else if 8 ≤ s.dram.sramUsed mac then s.mepRaise 5 7 mac
  else
    let s1 := s.setDram { s.dram with sramRemap := s.dram.sramRemap ++ [(mac, word)] }
    if s1.dram.sramUsed mac = 8 then s1.mepRaise 5 7 mac else s1

/-- The last-event log of the SRAMs, which holds an uncorrectable event until UE_SRAM reads 0 (R391). -/
def State.sramLog (s : State) (mac word synd : Nat) (ue : Bool) : State :=
  if bitOf (s.reg Reg.MEP_ERR).toNat 3 && bitOf (s.reg Reg.MEP_SRAM_MACRO).toNat 30 then s
  else
    (s.setReg Reg.MEP_SRAM_MACRO (BitVec.ofNat 32 (2 ^ 31 + b2n ue * 2 ^ 30 + mac))).setReg Reg.MEP_SRAM_WORD
      (BitVec.ofNat 32 (synd % 128 * 2 ^ 25 + word % 2 ^ 18))

/-- Count an error of `key` in a tracker. -/
def trackCount (key : Nat) : List (Nat × Nat) → List (Nat × Nat)
  | [] => [(key, 1)]
  | p :: t => if p.1 = key then (key, p.2 + 1) :: t else p :: trackCount key t

/-- Count of `key` in a tracker. -/
def trackOf (key : Nat) (t : List (Nat × Nat)) : Nat :=
  match t.find? (fun p => decide (p.1 = key)) with
  | some p => p.2
  | none => 0

/-- A corrected DRAM line (R383, R387, R389). -/
def State.ceDram (s : State) (m line device bits_ syms : Nat) : State :=
  let p := s.place m line
  let s1 := ((s.bump (Reg.MEP_CE_CNT m)).setReg (Reg.MEP_CE_LINE m) (BitVec.ofNat 32 (2 ^ 31 + line % 2 ^ 29))).setReg
    (Reg.MEP_CE_SYND m)
    (BitVec.ofNat 32 (device % 16 * 2 ^ 28 + p.sub * 2 ^ 27 + p.rank * 2 ^ 26 + bits_ % 128 * 2 ^ 16 + syms % 256))
  let s2 := s1.mepRaise 0 m 0
  let d := s2.drc m
  let t := if d.track.length < 64 || decide (trackOf line d.track ≠ 0) then trackCount line d.track else d.track
  let dv := if d.devs.contains (p.sub, p.rank, device) then d.devs else d.devs ++ [(p.sub, p.rank, device)]
  let s3 := s2.setDrc m { d with track := t, devs := dv }
  let s4 := if s.fieldNow Reg.MEP_REMAP_THR 7 0 ≤ trackOf line t then s3.remapLine m line else s3
  if 2 ≤ (dv.filter (fun e => decide (e.1 = p.sub) && decide (e.2.1 = p.rank))).length then
    s4.drcFailing m p.sub p.rank
  else s4

/-- A corrected SRAM word (R383, R388). -/
def State.ceSram (s : State) (cls inst word synd : Nat) : State :=
  let mac := macroOf cls inst
  let s1 := ((s.bump Reg.MEP_SRAM_CE_CNT).sramLog mac word synd false).mepRaise 2 7 mac
  let n := match s1.dram.sramTrack.find? (fun e => decide (e.1 = mac) && decide (e.2.1 = word)) with
    | some e => e.2.2 + 1
    | none => 1
  let t := s1.dram.sramTrack.filter (fun e => !(decide (e.1 = mac) && decide (e.2.1 = word)))
  let s2 := s1.setDram { s1.dram with sramTrack := t ++ [(mac, word, n)] }
  if s.fieldNow Reg.MEP_REMAP_THR 7 0 ≤ n then s2.remapWord mac word else s2

/-! ### Patrol scrubbing (R384) -/

/-- Lines of a channel: its capacity in 64-byte lines. -/
def State.chLines (s : State) (m : Nat) : Nat := s.field (Reg.DRC_CFG m) 5 0 * 2 ^ 24

/-- The channel and line at position `n` of a pass over the channels listed. -/
def scrubPlace (lines : Nat → Nat) : List Nat → Nat → Option (Nat × Nat)
  | [], _ => none
  | m :: t, n => if n < lines m then some (m, n) else scrubPlace lines t (n - lines m)

/-- Lines of a pass. -/
def State.scrubLines (s : State) : Nat := (s.working.map s.chLines).sum

/-- The patrol timer has expired (R26, Table 1-6); before the first pass nothing is awaited (log 177). -/
def State.scrubDue (s : State) : Bool :=
  match s.dram.scrubTimer with
  | none => true
  | some n => decide (beatsOfMs (s.fieldNow Reg.MEP_SCRUB_PERIOD 9 0 * 3600000) < n)

/-- The patrol timer counts a boundary: not in PS3 and PS4, where the scrubber pauses (R406). -/
def State.scrubBeat (s : State) : State :=
  if 3 ≤ s.pwr.ps then s else s.setDram { s.dram with scrubTimer := s.dram.scrubTimer.map (· + 1) }

/-- A period of 0 in force stops the pass (R384). -/
def State.scrubStop (s : State) : State :=
  if s.fieldNow Reg.MEP_SCRUB_PERIOD 9 0 = 0 then
    s.setDram { s.dram with scrub := false, scrubAt := 0, scrubTimer := none }
  else s

/-- A new pass starts (R384): the trackers count one scrub period (R387). -/
def State.scrubStart (s : State) : State :=
  if s.fieldNow Reg.MEP_SCRUB_PERIOD 9 0 = 0 || s.dram.scrub || !s.scrubDue then s
  else s.setDram { s.dram with scrub := true, scrubAt := 0, scrubTimer := some 0, sramTrack := []
                               ch := s.dram.ch.map (fun d => { d with track := [] }) }

/-- The pass goes on by one line, and ends after the last one. -/
def State.scrubNext (s : State) : State :=
  let d := s.dram
  if s.scrubLines ≤ d.scrubAt + 1 then
    s.setDram { d with scrub := false, scrubAt := 0, passes := (d.passes + 1) % 256 }
  else s.setDram { d with scrubAt := d.scrubAt + 1 }

/-! ### The commands that need nothing outside the controllers -/

/-- REFRESH_TICK (R370, R375). -/
def execRefreshTick (ch sub rank : Nat) (queued window : Bool) (s : State) : Result :=
  .next (s.refreshTick ch sub rank queued window)

/-- REFRESH_MAKEUP (R370). -/
def execRefreshMakeup (ch sub rank : Nat) (s : State) : Result := .next (s.refreshMakeup ch sub rank)

/-- REFRESH_RATE_POLL (R371). -/
def execRefreshRatePoll (ch sub rank : Nat) (doubled : Bool) (s : State) : Result :=
  .next (s.refreshRate ch sub rank doubled)

/-- DELAY_SET_SWITCH (R374). -/
def execDelaySetSwitch (ch sub : Nat) (s : State) : Result := .next (s.delaySwitch ch sub)

/-- CHECK_AREA_READBACK (R374). -/
def execCheckAreaReadback (ch : Nat) (pass : Bool) (s : State) : Result := .next (s.checkArea ch pass)

/-- DRAM_LINE_ACCESS (R369, R375, R376, R381). -/
def execDramLineAccess (ch line : Nat) (write whole : Bool) (draw : Nat) (s : State) : Result :=
  .next (s.lineAccess ch line write whole draw)

/-- SELF_REFRESH_ENTRY (R379). -/
def execSelfRefreshEntry (ch : Nat) (s : State) : Result := .next (s.srEntry ch)

/-- SELF_REFRESH_EXIT (R380). -/
def execSelfRefreshExit (ch : Nat) (early : Bool) (s : State) : Result := .next (s.srExit ch early)

/-- DRAM_CORRECTABLE_ERROR (R383, R387 to R389). For an SRAM word, `syms` is its SECDED syndrome. -/
def execDramCorrectableError (site : MemSite) (device bits_ syms : Nat) (s : State) : Result :=
  .next (match site with
    | .dram ch line => s.ceDram ch line device bits_ syms
    | .sram cls inst word => s.ceSram cls inst word syms)

/-- SCRUB_PASS_START (R384). -/
def execScrubPassStart (s : State) : Result := .next s.scrubStart

end Sys2Proof.Machine
end

