-- ==== Sys2Proof/Machine/Keyed.lean ====
section
/-!
DEFINITION. The keyed services unit (spec/14): the lock, the Locket, the digest engine and the cipher
engine, each command of it and the operations that resets and deletes use.
-/

namespace Sys2Proof.Machine

/-! ### Requesters, errors, the lock (R312 to R319) -/

/-- The requester ID of a register access (R312, Table 14-2). An instance page reaches no KSU register
but the digest results, and carries its instance. -/
def State.reqOf (s : State) : Src → Nat
  | .host p => if p then s.ksu.actB else s.ksu.actA
  | .page _ i => i
  | .cc c => 0x400 + c

/-- A control core's ID (Table 14-2). -/
def isCore (req : Nat) : Bool := decide (0x400 ≤ req)

/-- Replace the KSU. -/
def State.setKsu (s : State) (k : Ksu) : State := { s with ksu := k }

/-- The requester's ERR code (R319). -/
def State.ksErr (s : State) (req : Nat) : Nat := Sparse.get (fun _ => 0) s.ksu.err req

def State.setKsErr (s : State) (req code : Nat) : State :=
  s.setKsu { s.ksu with err := Sparse.set (fun _ => 0) s.ksu.err req code }

/-- Set bit `bit` of KS_ERR (0), DG_ERR (1) or CI_ERR (2) and capture it with its requester. -/
def State.ksRaise (s : State) (unit_ bit req : Nat) : State :=
  s.raiseAt (if unit_ = 0 then Reg.KS_ERR else if unit_ = 1 then Reg.DG_ERR else Reg.CI_ERR) bit
    Reg.KS_ERR_LOC (unit_ * 2 ^ 29 + bit * 2 ^ 26 + req)

def State.holdsLock (s : State) (req : Nat) : Bool := decide (s.ksu.owner = some req)

/-- Restart the idle timer: an access of the owner, or the end of its digest block or job (R316). -/
def State.idleRestart (s : State) : State :=
  match s.ksu.owner with
  | none => s
  | some _ => s.setKsu { s.ksu with idle := some 0, idleTo := s.fieldNow Reg.KS_IDLE_TO 9 0 }

/-- An access of a requester: it restarts the timer if the requester holds the lock. -/
def State.ksTouch (s : State) (req : Nat) : State := if s.holdsLock req then s.idleRestart else s

/-- A dropped access of a requester that does not hold the lock: LOCK_LOST once after a forced
release, else LOCK_NOT_HELD (R317, R318). -/
def State.noLock (s : State) (req : Nat) : State :=
  if s.ksu.lost.contains req then
    (s.setKsu { s.ksu with lost := s.ksu.lost.filter (fun r => decide (r ≠ req)) }).setKsErr req 2
  else s.setKsErr req 1

/-- In DUAL mode host writes to KSU are accepted from the owning port only (R41, R313). -/
def State.ksForeign (s : State) : Src → Bool
  | .host p => s.pins.dual && decide (p ≠ s.ownerPort)
  | .page _ _ => true
  | .cc _ => false

/-- The drop of such a write (R41). -/
def State.notOwner (s : State) : Src → State
  | .host p => s.hifErr p 7
  | .page _ _ => s
  | .cc _ => s

/-- A KSU write that needs the lock: `f` is its effect, for the requester that holds the lock. -/
def State.locked (s : State) (src : Src) (f : Nat → State → State) : State :=
  if s.ksForeign src then s.notOwner src
  else if s.holdsLock (s.reqOf src) then f (s.reqOf src) (s.ksTouch (s.reqOf src))
  else s.noLock (s.reqOf src)

/-- A keyed-services operation: a locked write that also wakes the device (R408). -/
def State.lockedOp (s : State) (src : Src) (f : Nat → State → State) : State :=
  s.locked src (fun r t => f r (t.wakeBy 2))

/-- The wipe every release makes: the open message is abandoned, DG_EXP and KS_KEY are zeroed (R315). -/
def Ksu.wipe (k : Ksu) : Ksu :=
  { k with
    owner := none, idle := none, key := List.replicate 8 0
    dg := { k.dg with active := false, busy := if k.dg.active then 0 else k.dg.busy
                      last := false, exp := List.replicate 16 0 } }

/-- A forced release (R317). -/
def State.forcedRelease (s : State) : State :=
  match s.ksu.owner with
  | none => s
  | some r =>
    let k := s.ksu.wipe
    let k := { k with lost := r :: k.lost.filter (fun x => decide (x ≠ r))
                      dg := { k.dg with res := List.replicate 16 0, valid := false } }
    let src : Src := if isCore r then .cc (r - 0x400) else .host (s.portOf r)
    let s1 := { s.setKsu k with
      stage := s.stage.filter (fun e => !(decide (e.1 = src) && decide (e.2.1 = Reg.CI_DESC_LO))) }
    s1.ksRaise 0 0 r

/-! ### Key slots (R320 to R324) -/

def State.slot (s : State) (n : Nat) : KeySlot := nth {} s.ksu.slots n

def State.setSlot (s : State) (n : Nat) (v : KeySlot) : State :=
  s.setKsu { s.ksu with slots := setNth v s.ksu.slots n }

/-- IN_USE (R323): an open HMAC message, the running job and the queued job. -/
def Ksu.inUse (k : Ksu) (n : Nat) : Nat :=
  b2n (k.dg.active && k.dg.hmac && decide (k.dg.slot = n)) +
  b2n (match k.run with | some j => decide (j.slot = n) | none => false) +
  b2n (match k.queued with | some j => decide (j.slot = n) | none => false)

/-- The error a use of a slot meets, 0 for none (R322). -/
def State.slotUse (s : State) (req n : Nat) : Nat :=
  let k := s.slot n
  if !k.loaded then 4
  else if decide (k.owner = req) || isCore req ||
      (k.shared && (isCore k.owner || decide (s.portOf k.owner = s.portOf req))) then 0
  else 3

/-- A refused slot command: KEY_SLOT_BUSY and KS_ERR.SLOT_REFUSED. -/
def State.slotRefused (s : State) (req : Nat) : State := (s.setKsErr req 3).ksRaise 0 1 req

/-- Slot 63 takes no slot command from a host requester (R320). -/
def slotBarred (req n : Nat) : Bool := decide (n = 63) && !isCore req

/-- Bytes of a key length code. -/
def keyBytes (keylen : Nat) : Nat := if keylen = 0 then 16 else if keylen = 1 then 24 else 32

/-- Big-endian bytes of 32-bit words: the first byte in [31:24]. -/
def wordsToBytes (l : List DWord) : List Byte := (l.map (fun w => beBytes 4 w.toNat)).flatten

/-- OP = WRITE (R321). -/
def State.keyWrite (s : State) (req n keylen : Nat) : State :=
  let k := s.slot n
  let s0 := s.setKsu { s.ksu with key := List.replicate 8 0 }
  if slotBarred req n || decide (keylen = 3) || decide (s.ksu.inUse n ≠ 0) ||
      (k.loaded && decide (k.owner ≠ req) && !isCore k.owner) then s0.slotRefused req
  else
    s0.setSlot n
      { loaded := true, key := (wordsToBytes s.ksu.key).take (keyBytes keylen)
        owner := if k.loaded && decide (k.owner ≠ req) && isCore req then k.owner else req
        shared := false, keylen := keylen, gcm := 0 }

/-- End every user of a slot with KEY_ZEROIZED (R324). ZEROIZED_USE names the first of the users ended (log 224). -/
def State.endUsers (s : State) (n : Nat) : State :=
  let k := s.ksu
  let d := k.dg.active && k.dg.hmac && decide (k.dg.slot = n)
  let mark (j : Option CipherJob) : Option CipherJob :=
    j.map (fun j => if decide (j.slot = n) then { j with zeroized := true } else j)
  let s1 := s.setKsu { k with run := mark k.run, queued := mark k.queued }
  let s2 := if d then
      ((s1.setKsu { s1.ksu with dg := { k.dg with active := false, busy := 0, last := false, err := 4 } }).setKsErr
        k.dg.req 4).ksRaise 1 3 k.dg.req
    else s1
  let user : Nat := if d then k.dg.req else match k.run.filter (fun j => decide (j.slot = n)), k.queued with
    | some j, _ => j.req
    | none, some j => j.req
    | none, none => 0
  if decide (k.inUse n ≠ 0) then s2.ksRaise 0 2 user else s2

/-- Empty a slot and end its users. The GCM counter stays: only a key WRITE restarts it (R337). -/
def State.zeroize (s : State) (n : Nat) : State :=
  (s.endUsers n).setSlot n { gcm := (s.slot n).gcm }

/-- OP = ZEROIZE (R324). -/
def State.keyZeroize (s : State) (req n : Nat) : State :=
  if slotBarred req n || ((s.slot n).loaded && decide ((s.slot n).owner ≠ req) && !isCore req) then
    s.slotRefused req
  else s.zeroize n

/-- OP = SHARE or UNSHARE: the owner sets or clears SHARED (R322). -/
def State.keyShare (s : State) (req n : Nat) (on : Bool) : State :=
  if slotBarred req n || !(s.slot n).loaded || decide ((s.slot n).owner ≠ req) then s.slotRefused req
  else s.setSlot n { s.slot n with shared := on }

/-! ### The digest engine (R326 to R332) -/

/-- Block bytes and result bytes of an algorithm (Table 14-4). -/
def dgBlock (alg : Nat) : Nat := if alg = 0 then 64 else if alg = 3 then 136 else 128
def dgSize (alg : Nat) : Nat := if alg = 1 then 48 else if alg = 2 then 64 else 32

/-- Exactly `n` bytes of a list, zeros where it ends early. -/
def fit (n : Nat) (l : List Byte) : List Byte := (l ++ List.replicate n 0).take n

/-- The digest of a message, `dgSize` bytes. -/
def hash (alg : Nat) (m : List Byte) : List Byte := fit (dgSize alg) (digest alg m)

/-- HMAC over the hash with a key padded with zeros to the block size (R326). -/
def hmacOf (alg : Nat) (key m : List Byte) : List Byte :=
  let k := fit (dgBlock alg) key
  hash alg (k.map (fun b => b ^^^ 0x5c) ++ hash alg (k.map (fun b => b ^^^ 0x36) ++ m))

/-- Blocks the commit of DG_LAST absorbs: the padded rest, and for HMAC the outer pad and final
blocks (R329). -/
def finalBlocks (alg : Nat) (hmac : Bool) (total : Nat) : Nat :=
  let b := dgBlock alg
  let pad := if alg = 3 then 1 else if alg = 0 then 9 else 17
  cdiv (total % b + pad) b + (if hmac then 2 else 0)

/-- A digest error: DG_STAT.ERR, the requester's ERR and a DG_ERR bit. -/
def State.dgError (s : State) (req code bit : Nat) : State :=
  ((s.setKsu { s.ksu with dg := { s.ksu.dg with err := code } }).setKsErr req code).ksRaise 1 bit req

/-- A word or command dropped while the engine cannot take it: the open message becomes invalid (R328). -/
def State.dgOverrun (s : State) (req : Nat) : State :=
  (s.setKsu { s.ksu with dg := { s.ksu.dg with invalid := s.ksu.dg.invalid || s.ksu.dg.active } }).dgError req 9 0

/-- DG_CTL stored without START; a reserved ALG keeps the old one (R11). -/
def State.dgCtl (s : State) (v : Nat) : State :=
  let old := (s.reg Reg.DG_CTL).toNat
  let alg := if 4 ≤ bits v 2 0 then bits old 2 0 else bits v 2 0
  s.setReg Reg.DG_CTL (BitVec.ofNat 32
    (alg + bits v 3 3 * 8 + bits v 4 4 * 16 + bits v 5 5 * 32 + bits v 13 8 * 256))

/-- START opens a message (R326). -/
def State.dgStart (s : State) (req : Nat) : State :=
  let c := (s.reg Reg.DG_CTL).toNat
  let hm := bitOf c 3
  let sl := bits c 13 8
  if s.ksu.dg.busy ≠ 0 then s.dgOverrun req
  else if hm && decide (s.slotUse req sl ≠ 0) then
    (s.setKsu { s.ksu with dg := { s.ksu.dg with err := s.slotUse req sl } }).setKsErr req (s.slotUse req sl)
  else
    s.setKsu { s.ksu with dg :=
      { s.ksu.dg with
        active := true, done := false, valid := false, matched := false, invalid := false
        alg := bits c 2 0, hmac := hm, slot := sl, verify := bitOf c 4
        len := if bitOf c 5 then
            some ((s.reg Reg.DG_LEN_LO).toNat + 2 ^ 32 * (s.reg Reg.DG_LEN_HI).toNat) else none
        req := req, busy := b2n hm, last := false, msg := [], res := List.replicate 16 0, err := 0 } }

/-- A DG_DATA word (R327, R328). -/
def State.dgData (s : State) (req : Nat) (w : DWord) : State :=
  let d := s.ksu.dg
  if !d.active || decide (d.busy ≠ 0) then s.dgOverrun req
  else if 2 ^ 61 - 1 < d.msg.length + 4 then s.setKsu { s.ksu with dg := { d with invalid := true } }
  else
    let m := d.msg ++ beBytes 4 w.toNat
    s.setKsu { s.ksu with dg := { d with msg := m, busy := b2n (decide (m.length % dgBlock d.alg = 0)) } }

/-- End of a message with no valid result (R329). -/
def State.dgFail (s : State) : State :=
  s.setKsu { s.ksu with dg :=
    { s.ksu.dg with active := false, done := true, valid := false, last := false, busy := 0
                    exp := List.replicate 16 0 } }

/-- DG_LAST_HI commits the final bytes (R329, R330). -/
def State.dgLast (s : State) (req : Nat) (lo v : DWord) : State :=
  let d := s.ksu.dg
  if d.busy ≠ 0 then s.dgOverrun req
  else if !d.active then s
  else
    let n := min (bits v.toNat 2 0) 4
    let m := d.msg ++ (beBytes 4 lo.toNat).take n
    let s1 := s.setKsu { s.ksu with dg := { d with msg := m } }
    match d.len with
    | some l =>
      if m.length ≠ l then ((s1.setKsErr req 8).dgFail).dgError req 8 1
      else if d.invalid then s1.dgFail
      else s1.setKsu { s1.ksu with dg := { s1.ksu.dg with last := true, busy := finalBlocks d.alg d.hmac m.length } }
    | none =>
      if d.invalid then s1.dgFail
      else s1.setKsu { s1.ksu with dg := { s1.ksu.dg with last := true, busy := finalBlocks d.alg d.hmac m.length } }

/-- The message ends with its result (R331) or its verify outcome (R332). -/
def State.dgFinish (s : State) : State :=
  let d := s.ksu.dg
  let r := if d.hmac then hmacOf d.alg (s.slot d.slot).key d.msg else hash d.alg d.msg
  let ws := (List.range 16).map (fun i => BitVec.ofNat 32 (beNat (fit 4 (r.drop (4 * i)))))
  if d.verify then
    let ok := decide ((wordsToBytes d.exp).take (dgSize d.alg) = r)
    let s1 := s.setKsu { s.ksu with dg :=
      { d with active := false, done := true, valid := false, matched := ok, last := false
               exp := List.replicate 16 0 } }
    if ok then s1 else s1.dgError d.req 10 2
  else
    s.setKsu { s.ksu with dg :=
      { d with active := false, done := true, valid := true, last := false, res := ws
               exp := List.replicate 16 0 } }

/-- One block has been absorbed (R328). -/
def State.dgBlockDone (s : State) : State :=
  let d := s.ksu.dg
  if d.busy = 0 then s
  else
    let s1 := s.setKsu { s.ksu with dg := { d with busy := d.busy - 1 } }
    let s2 := if d.busy = 1 && d.last then s1.dgFinish else s1
    s2.ksTouch d.req

/-! ### The cipher engine (R333 to R339) -/

/-- Bytes of a 128-bit block, big-endian, and back. -/
def blockBytes (b : BitVec 128) : List Byte := beBytes 16 b.toNat
def toBlock (l : List Byte) : BitVec 128 := BitVec.ofNat 128 (beNat (fit 16 l))

/-- CBC over whole blocks. -/
def cbc (enc : Bool) (key : List Byte) : Nat → BitVec 128 → List Byte → List Byte
  | 0, _, _ => []
  | n + 1, iv, data =>
    let x := toBlock (data.take 16)
    if enc then
      let y := aesEnc key (x ^^^ iv)
      blockBytes y ++ cbc enc key n y (data.drop 16)
    else blockBytes (aesDec key x ^^^ iv) ++ cbc enc key n x (data.drop 16)

/-- CFB-128 over whole blocks. -/
def cfb (enc : Bool) (key : List Byte) : Nat → BitVec 128 → List Byte → List Byte
  | 0, _, _ => []
  | n + 1, iv, data =>
    let x := toBlock (data.take 16)
    let y := aesEnc key iv ^^^ x
    blockBytes y ++ cfb enc key n (if enc then y else x) (data.drop 16)

/-- Width of the counter field in bits (R336). -/
def ctrBits (ctrw : Nat) : Nat := if ctrw = 0 then 32 else if ctrw = 1 then 64 else 128

/-- The counter block with its field set to `c`. -/
def ctrBlock (ctrw : Nat) (iv : List Byte) (c : Nat) : BitVec 128 :=
  BitVec.ofNat 128 (setBits (beNat (fit 16 iv)) (ctrBits ctrw - 1) 0 c)

/-- CTR over `n` blocks from field value `c`. -/
def ctr (key iv : List Byte) (ctrw : Nat) : Nat → Nat → List Byte → List Byte
  | 0, _, _ => []
  | n + 1, c, data =>
    let ks := blockBytes (aesEnc key (ctrBlock ctrw iv c))
    List.zipWith (· ^^^ ·) (data.take 16) ks ++ ctr key iv ctrw n (c + 1) (data.drop 16)

/-- Field value of block 0 (R336). -/
def CipherJob.ctr0 (j : CipherJob) : Nat := beNat (fit 16 j.iv) % 2 ^ ctrBits j.ctrw

/-- Bytes a CTR job produces before a block would wrap its counter (R336). -/
def CipherJob.ctrOut (j : CipherJob) : Nat := min j.len (16 * (2 ^ ctrBits j.ctrw - j.ctr0))

/-- Output bytes of a job on the data read; CBC and CFB-128 work on whole blocks. -/
def CipherJob.output (j : CipherJob) (data : List Byte) : List Byte :=
  let n := if j.mode = 1 ∨ j.mode = 3 then data.length / 16 else cdiv data.length 16
  if j.mode = 1 then cbc (decide (j.op = 1)) j.key n (toBlock j.iv) data
  else if j.mode = 2 then
    (ctr j.key j.iv j.ctrw n j.ctr0 data).take j.ctrOut
  else if j.mode = 3 then cfb (decide (j.op = 1)) j.key n (toBlock j.iv) data
  else fit data.length (gcmData j.key (j.iv.take 12) data)

/-- A mode is available in a device state (Table 14-6). -/
def modeAvailable (mode : Nat) (d : DevState) : Bool :=
  if mode = 4 then decide (d = .boot) || decide (d = .test) || decide (d = .recovery)
  else decide (d ≠ .halted)

/-- LEN is legal for the mode (Table 14-6). -/
def lenLegal (mode op len : Nat) : Bool :=
  if mode = 1 || mode = 3 then
    decide (len % 16 = 0) && decide (len ≤ (if op = 1 then 2 ^ 21 else 2 ^ 24))
  else decide (len ≤ 2 ^ 24)

/-- The descriptor as a job (Table 14-7). -/
def CipherJob.ofDesc (j : CipherJob) (d : List Byte) : CipherJob :=
  { j with
    started := true, op := leField d 0 1, mode := leField d 1 1, slot := leField d 2 1
    ctrw := bits (leField d 3 1) 1 0, irq := bitOf (leField d 3 1) 2
    len := leField d 4 4, src := leField d 8 8, dst := leField d 16 8, iv := slice d 24 16
    aad := leField d 40 8, aadLen := leField d 48 2, vector := leField d 50 2
    status := leField d 56 8 / 32 * 32 }

/-- Check 2 of Table 14-8 on the descriptor's bytes. -/
def descLegal (s : State) (req : Nat) (d : List Byte) : Bool :=
  let op := leField d 0 1
  let mode := leField d 1 1
  let fl := leField d 3 1
  decide (d.length = 64) && (op == 1 || op == 2) && decide (1 ≤ mode) && decide (mode ≤ 4) &&
  decide (leField d 2 1 < 64) && decide (fl < 8) &&
  (if mode = 2 then decide (bits fl 1 0 ≠ 3) else decide (bits fl 1 0 = 0)) &&
  lenLegal mode op (leField d 4 4) &&
  (if mode = 4 then zeroBytes (slice d 36 4) else zeroBytes (slice d 40 10)) &&
  zeroBytes (slice d 52 4) && decide (leField d 56 8 % 32 = 0) &&
  (if isCore req then decide (leField d 50 2 = 0)
   else if bitOf fl 2 && s.isManager req then decide (leField d 50 2 < 2048)
   else true)

/-- The Chest can commit a counter (R337). -/
def State.chestWritable (s : State) : Bool := !s.chest.failed && s.chest.readable

/-- The first failing check of Table 14-8 from order 2 on, as a status; 0 for none. -/
def cipherCheck (s : State) (j : CipherJob) (d : List Byte) : Nat :=
  if !descLegal s j.req d then 0x80
  else if !modeAvailable j.mode s.dev then 6
  else if j.zeroized then 4
  else if s.slotUse j.req j.slot = 4 then 4
  else if s.slotUse j.req j.slot ≠ 0 then 3
  else if decide (j.mode = 4) && decide (j.op = 1) &&
      (decide (2 ^ 32 ≤ (s.slot j.slot).gcm) || !s.chestWritable) then 7
  else 0

/-- Store bytes in working DRAM as the cores see it: byte 2w in [15:8] (R276). -/
def State.dramBytes (s : State) (addr : Nat) : List Byte → State
  | [] => s
  | b :: t =>
    let w := Sparse.get (fun _ => 0) s.dram.words (addr / 2)
    let w' : Word := if addr % 2 = 0 then BitVec.ofNat 16 (b.toNat * 256 + w.toNat % 256)
      else BitVec.ofNat 16 (w.toNat / 256 * 256 + b.toNat)
    State.dramBytes { s with dram := { s.dram with words := Sparse.set (fun _ => 0) s.dram.words (addr / 2) w' } }
      (addr + 1) t

/-- Write for a requester: host memory for an instance, working DRAM for a control core (R334). -/
def State.jobWrite (s : State) (j : CipherJob) (addr : Nat) (data : List Byte) : State :=
  if isCore j.req then s.dramBytes addr data else s.dmaWrite j.req j.gen addr data false

/-- The status record (Table 14-9). -/
def cipherRecord (status out beat : Nat) (tag : List Byte) : List Byte :=
  leBytes 2 status ++ [0, 1] ++ leBytes 4 out ++ leBytes 8 beat ++ fit 16 tag

/-- The job leaves the engine: the count, the queued job's turn, the owner's idle timer. -/
def State.cipherGone (s : State) (j : CipherJob) : State :=
  ((s.setKsu { s.ksu with run := s.ksu.queued, queued := none }).bump Reg.CI_JOB_CNT).ksTouch j.req

/-- CI_ERR bit of a final status: REFUSED is set by the caller. -/
def cipherBit (status : Nat) : Option Nat :=
  if status = 5 || status = 7 then some 2
  else if status = 10 then some 3
  else if status = 0x81 then some 4
  else none

/-- A job's end: its status record, then its message or the control core's interrupt level (R339). -/
def State.cipherRecordOut (s2 : State) (j : CipherJob) (status out : Nat) (tag : List Byte) (recordFault : Bool) :
    State :=
  let s3 := if recordFault then s2.ksRaise 2 4 j.req
    else
      let w := s2.jobWrite j j.status (cipherRecord status out s2.beat tag)
      if !j.irq then w
      else if isCore j.req then w.setKsu { w.ksu with jobFlag := true }
      else if w.alive j.req j.gen then w.jobMessage j.req j.vector
      else w
  s3.cipherGone j

/-- End a job with a status: the requester's ERR, the bit of CI_ERR, then the record. -/
def State.cipherEnd (s : State) (j : CipherJob) (status out : Nat) (tag : List Byte) (recordFault : Bool) :
    State :=
  let s1 := if 1 ≤ status && status ≤ 10 then s.setKsErr j.req status else s
  let s2 := match cipherBit status with
    | some b => s1.ksRaise 2 b j.req
    | none => s1
  s2.cipherRecordOut j status out tag recordFault

/-- The engine reads the descriptor and checks it (R335, R337, R338). -/
def State.cipherStart (s : State) (desc : Option (List Byte)) (tag : List Byte) : State :=
  match s.ksu.run with
  | none => s
  | some j0 =>
    if j0.started then s
    else match desc with
    | none => (s.ksRaise 2 4 j0.req).cipherGone j0
    | some d =>
      let j := j0.ofDesc d
      let st := cipherCheck s j d
      if st ≠ 0 then (s.ksRaise 2 1 j.req).cipherEnd j st 0 [] false
      else
        let s1 := if j.mode = 4 && j.op = 1 then
            s.setSlot j.slot { s.slot j.slot with gcm := (s.slot j.slot).gcm + 1 } else s
        let t := if decide (j.op = 2) && decide (j.mode = 4) then fit 16 tag else []
        let j1 := { j with key := (s.slot j.slot).key, tag := t }
        s1.setKsu { s1.ksu with run := some j1 }

/-- The data the job has read is processed and written, whole blocks first to last (R336). -/
def State.cipherOutput (s : State) (j : CipherJob) (data : List Byte) : State × Nat :=
  if j.zeroized then (s, 0)
  else
    let o := j.output (data.take j.len)
    ((s.jobWrite j j.dst o).bump64 Reg.CI_BYTES_LO o.length, o.length)

/-- A started job ends (R336 to R339). -/
def State.cipherJobEnd (s : State) (data aad : List Byte) (writeFault recordFault : Bool) : State :=
  match s.ksu.run with
  | none => s
  | some j =>
    if !j.started then s
    else
      let (s1, out) := s.cipherOutput j data
      let text := if j.op = 1 then j.output (data.take j.len) else data.take j.len
      let t := fit 16 (gcmTag j.key (j.iv.take 12) aad text)
      if j.zeroized then s.cipherEnd j 4 0 [] recordFault
      else if decide (data.length < j.len) || decide (aad.length < j.aadLen) || writeFault || j.halted then
        s1.cipherEnd j 0x81 out (if j.op = 2 then j.tag else []) recordFault
      else if j.mode = 2 && decide (j.ctrOut < j.len) then s1.cipherEnd j 5 out [] recordFault
      else if j.mode = 4 && j.op = 2 then
        s1.cipherEnd j (if t = j.tag then 0 else 10) out j.tag recordFault
      else if j.mode = 4 then s1.cipherEnd j 0 out t recordFault
      else s1.cipherEnd j 0 out [] recordFault

/-- 2 ms have passed since the start: nothing further is issued, the status reads DMA_FAULT, and of CI_ERR only TIMEOUT is
set (R339). -/
def State.cipherTimeout (s : State) (data : List Byte) : State :=
  match s.ksu.run with
  | none => s
  | some j =>
    if !j.started then s
    else
      let (s1, out) := s.cipherOutput j data
      (s1.ksRaise 2 5 j.req).cipherRecordOut j 0x81 out (if j.op = 2 then j.tag else []) false

/-! ### Resets and deletes of an instance (R73, R75, R77, R324, R340) -/

/-- Instance Reset of the lock's owner releases it by force; its queued job is removed. -/
def State.ksInstanceReset (s : State) (i : Nat) : State :=
  let s1 := if s.holdsLock i then s.forcedRelease else s
  match s1.ksu.queued with
  | some j => if j.req = i then s1.setKsu { s1.ksu with queued := none } else s1
  | none => s1

/-- Zeroize every slot of the instance below slot `n`. -/
def State.zeroizeOwned (s : State) (i : Nat) : Nat → State
  | 0 => s
  | n + 1 =>
    let t := State.zeroizeOwned s i n
    if (t.slot n).loaded && decide ((t.slot n).owner = i) then t.zeroize n else t

/-! ### The commands -/

/-- KS_LOCK read: the value it returns and the state after (R313, R314). -/
def State.ksLock (s : State) (src : Src) : State × DWord :=
  let r := s.reqOf src
  let busy : DWord := BitVec.ofNat 32 (3 * 2 ^ 30 + s.ksu.owner.getD 0)
  if s.ksForeign src then (s, busy)
  else match s.ksu.owner with
  | some o =>
    if o = r then (s.idleRestart, BitVec.ofNat 32 (2 * 2 ^ 30 + r)) else (s, busy)
  | none =>
    if decide (r < 1024) && (decide ((s.inst r).state = .resetting) || decide ((s.inst r).state = .deleting)) then
      (s, busy)
    else
      let k := s.ksu
      let s1 := (s.setKsu { k with owner := some r, lost := k.lost.filter (fun x => decide (x ≠ r)) }).setKsErr r 0
      (s1.idleRestart, BitVec.ofNat 32 (2 ^ 30 + r))

/-- KS_LOCK_READ (R314): the read's value goes out. -/
def execKsLockRead (src : Src) (s : State) : Result :=
  let (s1, v) := s.ksLock src
  .next (s1.emit (.readData Reg.KS_LOCK (leBytes 4 v.toNat)))

/-- KS_RELEASE (R315). One from a requester that does not own the lock records LOCK_NOT_HELD, after a forced release too
(log 223). -/
def execKsRelease (src : Src) (v : DWord) (s : State) : Result :=
  .next (if s.ksForeign src then s.notOwner src
    else if !s.holdsLock (s.reqOf src) then s.setKsErr (s.reqOf src) 1
    else if bitOf v.toNat 0 then s.setKsu s.ksu.wipe
    else s.ksTouch (s.reqOf src))

/-- KS_ACT_WRITE (R312): a value outside the port's range is ignored. A control core reaches the
register too, and writes the owning port's copy. -/
def execKsActWrite (src : Src) (v : DWord) (s : State) : Result :=
  .next (if s.ksForeign src then s.notOwner src
    else
      let n := bits v.toNat 9 0
      let p := match src with
        | .host p => p
        | .page p _ => p
        | .cc _ => s.ownerPort
      let s1 := s.ksTouch (s.reqOf src)
      if s.inPort p n then
        s1.setKsu (if p then { s1.ksu with actB := n } else { s1.ksu with actA := n })
      else s1)

/-- KEY_SLOT_WRITE (R321). -/
def execKeySlotWrite (src : Src) (slot keylen : Nat) (s : State) : Result :=
  .next (s.lockedOp src (fun r t => t.keyWrite r slot keylen))

/-- KEY_SLOT_ZEROIZE (R324). -/
def execKeySlotZeroize (src : Src) (slot : Nat) (s : State) : Result :=
  .next (s.lockedOp src (fun r t => t.keyZeroize r slot))

/-- KEY_SLOT_SHARE (R322). -/
def execKeySlotShare (src : Src) (slot : Nat) (s : State) : Result :=
  .next (s.lockedOp src (fun r t => t.keyShare r slot true))

/-- KEY_SLOT_UNSHARE (R322). -/
def execKeySlotUnshare (src : Src) (slot : Nat) (s : State) : Result :=
  .next (s.lockedOp src (fun r t => t.keyShare r slot false))

/-- DIGEST_START (R326): DG_CTL written with START = 1. -/
def execDigestStart (src : Src) (ctl : DWord) (s : State) : Result :=
  .next (s.lockedOp src (fun r t =>
    if t.ksu.dg.busy ≠ 0 then t.dgOverrun r else (t.dgCtl ctl.toNat).dgStart r))

/-- DIGEST_DATA_WRITE (R327, R328). -/
def execDigestDataWrite (src : Src) (w : DWord) (s : State) : Result :=
  .next (s.lockedOp src (fun r t => t.dgData r w))

/-- The low half a source has staged for a pair, 0 after POR (R45). -/
def State.staged (s : State) (src : Src) (off : Nat) : DWord :=
  match s.stage.find? (fun e => decide (e.1 = src) && decide (e.2.1 = off)) with
  | some e => e.2.2
  | none => 0

/-- DIGEST_LAST_COMMIT (R329): DG_LAST_HI written. -/
def execDigestLastCommit (src : Src) (v : DWord) (s : State) : Result :=
  .next (s.lockedOp src (fun r t => t.dgLast r (t.staged src Reg.DG_LAST_LO) v))

/-- DIGEST_BLOCK_DONE (R328 to R332). -/
def execDigestBlockDone (s : State) : Result := .next s.dgBlockDone

/-- CIPHER_DESC_COMMIT (R334). `slot` is the SLOT byte that stands in the descriptor (R323). -/
def execCipherDescCommit (src : Src) (hi : DWord) (slot : Nat) (s : State) : Result :=
  .next (s.locked src (fun r t =>
    let addr := hi.toNat * 2 ^ 32 + (t.staged src Reg.CI_DESC_LO).toNat / 64 * 64
    let j : CipherJob := { desc := addr, req := r, gen := (t.inst r).gen, slot := slot }
    match t.ksu.run, t.ksu.queued with
    | none, _ => (t.setKsu { t.ksu with run := some j }).wakeBy 2
    | some _, none => (t.setKsu { t.ksu with queued := some j }).wakeBy 2
    | some _, some _ => (t.setKsErr r 9).ksRaise 2 0 r))

/-- CIPHER_JOB_START (R335). -/
def execCipherJobStart (desc : Option (List Byte)) (tag : List Byte) (s : State) : Result :=
  .next (s.cipherStart desc tag)

/-- CIPHER_JOB_END (R336 to R339). -/
def execCipherJobEnd (data aad : List Byte) (writeFault recordFault : Bool) (s : State) : Result :=
  .next (s.cipherJobEnd data aad writeFault recordFault)

/-- CIPHER_JOB_TIMEOUT (R339). -/
def execCipherJobTimeout (data : List Byte) (s : State) : Result := .next (s.cipherTimeout data)

/-- The idle timer has run out (R316): KS_IDLE_TO in beats. -/
def State.idleExpired (s : State) : Bool :=
  match s.ksu.owner, s.ksu.idle with
  | some _, some n => decide (beatsOfMs s.ksu.idleTo < n)
  | _, _ => false

/-- KS_IDLE_TIMEOUT (R316, R317). -/
def execKsIdleTimeout (s : State) : Result := .next (if s.idleExpired then s.forcedRelease else s)

/-- The idle timer counts a boundary unless a digest block or cipher job of the owner runs or waits
(R316). -/
def State.idleBeat (s : State) : State :=
  match s.ksu.owner, s.ksu.idle with
  | some o, some n =>
    let work := (decide (s.ksu.dg.req = o) && decide (s.ksu.dg.busy ≠ 0)) ||
      (match s.ksu.run with | some j => decide (j.req = o) | none => false) ||
      (match s.ksu.queued with | some j => decide (j.req = o) | none => false)
    if work then s else s.setKsu { s.ksu with idle := some (n + 1) }
  | _, _ => s

end Sys2Proof.Machine
end

