-- ==== Sys2Proof/Machine/Power.lean ====
section
/-!
DEFINITION. Power states, temperature, the watchdog (spec/17) and the test port and management bus
(spec/18).
-/

namespace Sys2Proof.Machine

def State.setPins (s : State) (p : Pins) : State := { s with pins := p }

/-- Ports in use: both in DUAL mode. -/
def State.ports (s : State) : List Bool := if s.pins.dual then [false, true] else [false]

/-! ### Idle levels and power states (R405 to R408) -/

/-- Internal media work waits or runs on channel `n`: an operation that serves no command. -/
def State.internalWork (s : State) (n : Nat) : Bool :=
  s.luns.any (fun p => decide (p.1 / 64 = n) &&
    ((match p.2.op with | some o => o.tag.isNone | none => false) || p.2.queue.any (fun o => o.tag.isNone))) ||
  (nth {} s.chans n).foldOn

/-- Idle level 1 (R406). -/
def State.idle1 (s : State) : Bool :=
  s.strands.all (fun p => p.2.leaves.isEmpty && p.2.mover.isEmpty && p.2.press.isEmpty && p.2.outUsed.isEmpty) &&
  s.cores.all (fun p => p.2.job.isNone) && s.runs.isEmpty && s.shd.isEmpty &&
  s.ksu.run.isNone && s.ksu.queued.isNone

/-- Idle level 2. -/
def State.idle2 (s : State) : Bool :=
  s.idle1 && s.cmds.isEmpty && (List.range 16).all (fun n => !s.internalWork (n + 16))

/-- Idle level 3. -/
def State.idle3 (s : State) : Bool :=
  s.idle2 && s.ftl.slots.all (fun w => decide (w.state ≠ .receiving) && decide (w.state ≠ .held)) &&
  s.luns.all (fun p => p.2.op.isNone) && (List.range 16).all (fun n => !s.internalWork n) &&
  !s.chest.ckptActive && !s.ftl.gcOn && s.ftl.copies.isEmpty && s.ftl.coalRead.isEmpty && s.soft.isEmpty && s.recon.isEmpty &&
  s.ftl.segs.all (fun e => e.2.out.isNone)

/-- Idle level 4. -/
def State.idle4 (s : State) : Bool := s.idle3 && s.ports.all (fun p => (s.port p).l12)

/-- Whether each of the four levels holds. -/
def State.idleLevels (s : State) : List Bool := [s.idle1, s.idle2, s.idle3, s.idle4]

/-- EXLAT in µs (Table 17-7). -/
def exlat (k : Nat) : Nat :=
  if k = 0 then 0 else if k = 1 then 10 else if k = 2 then 200 else if k = 3 then 2000 else 15000

/-- The smaller of the ports' values of a per-port register. -/
def State.portMin (s : State) (r : Nat → Nat) (hi : Nat) : Nat :=
  let a := s.fieldNow (r 0) hi 0
  if s.pins.dual then min a (s.fieldNow (r 1) hi 0) else a

/-- PWR_HYSTk in force. -/
def State.hyst (s : State) (k : Nat) : Nat :=
  if k = 1 then s.fieldNow Reg.PWR_HYST1 23 0 else if k = 2 then s.fieldNow Reg.PWR_HYST2 23 0
  else if k = 3 then s.fieldNow Reg.PWR_HYST3 23 0 else s.fieldNow Reg.PWR_HYST4 23 0

/-- PSk is within the tolerance and the limits (R407). -/
def State.psPermitted (s : State) (k : Nat) : Bool :=
  decide (exlat k ≤ s.portMin Reg.PWR_LAT_TOL 23) && decide (k ≤ s.portMin Reg.PWR_PS_LIMIT 2)

/-- PSk meets every condition of R407. -/
def State.psAllowed (s : State) (k : Nat) : Bool :=
  decide (k = 0) || (s.psPermitted k && decide (s.hyst k ≤ nth 0 s.pwr.c (k - 1)))

/-- The deepest allowed state (R407). -/
def State.psDeepest (s : State) : Nat :=
  if s.psAllowed 4 then 4 else if s.psAllowed 3 then 3 else if s.psAllowed 2 then 2
  else if s.psAllowed 1 then 1 else 0

/-- Channel `n` is parked in PSk (Table 17-7). -/
def parked (k n : Nat) : Bool := decide (3 ≤ k) || (decide (k = 2) && decide (16 ≤ n))

/-- DRAM channels in self-refresh in PSk: all but the lowest working one in PS3, all in PS4. -/
def State.srChannels (s : State) (k : Nat) : List Nat :=
  if k = 4 then s.working else if k = 3 then s.working.drop 1 else []

/-- PWR asks channels for self-refresh, and channels that have it wanted enter on their own event (R379). -/
def State.wantSr (s : State) : List Nat → State
  | [] => s
  | m :: t => State.wantSr (s.setDrc m { s.drc m with srWant := true }) t

/-- Every channel in self-refresh or asked for it returns to UP (R380). -/
def State.leaveSr (s : State) : List Nat → State
  | [] => s
  | m :: t => State.leaveSr ((s.setDrc m { s.drc m with srWant := false }).srExit m false) t

/-- NAND signals in PSk: those of a parked channel, or of one with no used LUN, are in their idle states (R417). -/
def State.nandDrive (s : State) (k : Nat) : List Drive :=
  (List.range 32).map (fun n =>
    if parked k n || !s.luns.any (fun e => decide (e.1 / 64 = n) && decide (e.2.state ≠ .absent)) then Drive.idle else Drive.running)

/-- Enter PSk: parked channels return their signals to the idle states with WP_N high (R417), control cores sleep in PS4, whose
link is in L1.2 with CLKREQ_N released (Table 17-7, R425). -/
def State.enterPs (s : State) (k : Nat) : State :=
  let s1 := (s.setPwr { s.pwr with ps := k }).bump Reg.PWR_TRANS_CNT
  (s1.setPins { s1.pins with nf := s1.nandDrive k, clkreq := decide (k ≠ 4) && s1.pins.clkreq }).wantSr (s1.srChannels k)

/-- Return to PS0. -/
def State.enterPs0 (s : State) : State :=
  if s.pwr.ps = 0 then s.setPwr { s.pwr with waking := false }
  else
    let s1 := (s.setPwr { s.pwr with ps := 0, waking := false }).bump Reg.PWR_TRANS_CNT
    (s1.setPins { s1.pins with nf := s1.nandDrive 0, clkreq := true }).leaveSr s1.working

/-- Order 9 of Table 1-5: levels, counters, the allowed state, residency; a tolerance or limit that no
longer permits the current state returns the device to PS0 (R406, R407). -/
def State.powerBeat (s : State) : State :=
  let lv := s.idleLevels
  let c := List.zipWith (fun (h : Bool) n => if h then n + 1 else 0) lv s.pwr.c
  let p := { s.pwr with
    c := c, level := (List.zipWith (fun (h : Bool) k => if h then k else 0) lv [1, 2, 4, 8]).sum
    res := setNth (nth 0 s.pwr.res s.pwr.ps + 1) s.pwr.res s.pwr.ps
    throt := s.pwr.throt + b2n (decide (s.pwr.throttle ≠ 0)) }
  let s1 := s.setPwr p
  let s2 := s1.setPwr { s1.pwr with allowed := s1.psDeepest }
  if s2.pwr.ps ≠ 0 && !s2.psPermitted s2.pwr.ps then
    (s2.setPwr { s2.pwr with wake := 5 }).enterPs0
  else s2

/-! ### Temperature (R409 to R412) -/

/-- The highest reading of the sensors that have not failed; 110 °C when every one has (R409). -/
def tjOf (l : List (Option Int)) : Int :=
  match l.filterMap id with
  | [] => 110
  | a :: t => t.foldl max a

/-- Kelvin as the registers read it. -/
def kelvin (t : Int) : Nat := (t + 273).toNat

/-- DRAM channels follow the sensors of their PHYs, 4 to 9 (R374, R409). -/
def State.drcBands (s : State) (l : List (Option Int)) : Nat → State
  | 0 => s
  | n + 1 =>
    let t := State.drcBands s l n
    match nth none l (4 + n) with
    | some x => t.drcBand n x
    | none => t

/-- The sample at a boundary (R409, R411): TJ, sensor failures, THERM_N, DRAM bands. -/
def State.sample (s : State) (l : List (Option Int)) : State :=
  let tj := tjOf l
  let hot := if 110 ≤ tj then s.pwr.hot + 1 else 0
  let s1 := s.setPwr { s.pwr with sensors := l, tj := some tj, hot := hot, steady := s.pwr.steady + 1 }
  let s2 := if l.any (fun x => x.isNone) then s1.raise Reg.TMP_ERR 1 else s1
  let s3 := if tj < -5 then s2.raise Reg.TMP_ERR 2 else s2
  let s4 := if s3.ports.any (fun p =>
      let f := ((s3.ctrl p).features.find? (fun e => decide (e.1 = 4))).map (·.2)
      decide (((f.getD 368 : Nat) : Int) ≤ tj + 273)) then s3.raise Reg.TMP_ERR 3 else s3
  let s5 := if 1 ≤ hot then s4.setPins { s4.pins with thermN := true } else s4
  s5.drcBands l 6

/-- THROTTLE_STEP (R410). -/
def State.throttleStep (s : State) : State :=
  match s.pwr.tj with
  | none => s
  | some tj =>
    let temp : Int := s.fieldNow Reg.TMP_THR 7 0
    let hyst : Int := s.fieldNow Reg.TMP_THR 15 8
    if s.pwr.steady < s.fieldNow Reg.TMP_STEP 15 0 then s
    else if temp ≤ tj ∧ s.pwr.throttle < 7 then
      (s.setPwr { s.pwr with throttle := s.pwr.throttle + 1, steady := 0 }).raise Reg.TMP_ERR 0
    else if tj < temp - hyst ∧ 0 < s.pwr.throttle then
      s.setPwr { s.pwr with throttle := s.pwr.throttle - 1, steady := 0 }
    else s

/-! ### The watchdog (R413) -/

/-- Period in force, in beats. -/
def State.wdPeriod (s : State) : Nat := beatsOfMs (s.fieldNow Reg.TMR_WDT_PERIOD 13 0)

/-- The watchdog counts a boundary. -/
def State.wdBeat (s : State) : State :=
  if s.pwr.wdRun then
    s.setPwr { s.pwr with wd := some (match s.pwr.wd with | none => 0 | some n => n + 1) }
  else s

def State.wdExpired (s : State) : Bool :=
  s.pwr.wdRun && (match s.pwr.wd with | some n => decide (s.wdPeriod ≤ n) | none => false)

/-- WATCHDOG_PREWARN (R413): half the period without a kick. -/
def execWatchdogPrewarn (s : State) : Result :=
  .next (if s.pwr.wdRun && (match s.pwr.wd with | some n => decide (cdiv s.wdPeriod 2 ≤ n) | none => false) then
      s.setPwr { s.pwr with prewarn := true }
    else s)

/-- Restart of the count. -/
def State.wdKick (s : State) : State :=
  if s.pwr.wdRun then s.setPwr { s.pwr with wd := none, prewarn := false } else s

/-- TMR_WDT_KICK (R413, R414): by a control core only; a host write is dropped with NOT_OWNER. -/
def execTmrWdtKick (src : Src) (v : DWord) (s : State) : Result :=
  .next (match src with
    | .cc _ => if bitOf v.toNat 0 then s.wdKick else s
    | .host p => s.hifErr p 7
    | .page _ _ => s)

/-- THROTTLE_STEP (R410). -/
def execThrottleStep (s : State) : Result := .next s.throttleStep

/-- POWER_STATE_WAKE (R408): the exit that a wake event has started reaches PS0. -/
def execPowerStateWake (s : State) : Result := .next (if s.pwr.waking then s.enterPs0 else s)

/-! ### Test port and management bus (R431 to R433) -/

def State.setTap (s : State) (t : Tap) : State := s.setPins { s.pins with tap := t }

/-- The bits of a number, least significant first. -/
def bitsLsb : Nat → Nat → List Bool
  | 0, _ => []
  | k + 1, n => decide (n % 2 = 1) :: bitsLsb k (n / 2)

/-- IDCODE of stepping B1 (R431). -/
def idcode : Nat := 0x164325CB

/-- The TAP runs unless TRST_N holds it; an instruction that acts only while PWR_GOOD is low acts as
BYPASS otherwise (Table 18-11). -/
def State.tapLoad (s : State) (ir : JtagIr) : State :=
  let t := s.pins.tap
  if t.reset then s
  else if (decide (ir = .extest) || decide (ir = .clamp) || decide (ir = .highz)) && s.pwr.pwrGood then
    s.setTap { t with ir := .bypass, driving := false, highz := false }
  else
    s.setTap { t with ir := ir, driving := decide (ir = .extest) || decide (ir = .clamp)
                      highz := decide (ir = .highz) }

/-- Shift through the one-bit bypass register: a 0 is captured first. -/
def bypassOut (b : List Bool) : List Bool := (false :: b).take b.length

/-- The balls as the boundary-scan cells see them, in the model's order. -/
def Pins.sample (p : Pins) : List Bool :=
  p.wp ++ p.ddReset ++ p.ddClk ++ [!p.clkreq, !p.wakeN, !p.alertN, !p.thermN, p.uartTx] ++ bitsLsb 16 p.gpioIn.toNat

/-- EXTEST (R431): the cells drive the balls while PWR_GOOD is low. -/
def execExtest (cells : List Bool) (s : State) : Result :=
  .next (let t := s.tapLoad .extest
    if t.pins.tap.reset then t
    else if t.pins.tap.driving then
      (t.setTap { t.pins.tap with cells := cells }).emit (.tdo t.pins.sample)
    else t.emit (.tdo (bypassOut cells)))

/-- IDCODE (R431). -/
def execIdcode (s : State) : Result :=
  .next (let t := s.tapLoad .idcode
    if t.pins.tap.reset then t else t.emit (.tdo (bitsLsb 32 idcode)))

/-- SAMPLE/PRELOAD (R431). -/
def execSamplePreload (cells : List Bool) (s : State) : Result :=
  .next (let t := s.tapLoad .sample
    if t.pins.tap.reset then t
    else (t.setTap { t.pins.tap with cells := cells }).emit (.tdo t.pins.sample))

/-- CLAMP (R431): the preloaded cells drive the balls, as EXTEST. -/
def execClamp (s : State) : Result := .next (s.tapLoad .clamp)

/-- HIGHZ (R431): every output is high impedance, as EXTEST. -/
def execHighz (s : State) : Result := .next (s.tapLoad .highz)

/-- BYPASS (R431), for its code and every other one. -/
def execBypass (b : List Bool) (s : State) : Result :=
  .next (let t := s.tapLoad .bypass
    if t.pins.tap.reset then t else t.emit (.tdo (bypassOut b)))

/-- The 64-byte challenge: a nonce from the random source (a free value), GLB_IDENT, the serial. -/
def State.challenge (s : State) : List Byte :=
  fit 64 (leBytes 32 s.freeVal ++ leBytes 4 0x64321100 ++ s.pwr.fuses.serial)

/-- ADH_DEBUG (R432): the challenge is scanned out, or a response scanned in. A response counts only
while PWR_GOOD is low or before the ROM's check; any other is discarded. -/
def execAdhDebug (response : Option (List Byte)) (s : State) : Result :=
  .next (let t := s.tapLoad .debug
    if t.pins.tap.reset then t
    else match response with
    | none =>
      let c := s.challenge
      ((t.tick).setTap { t.pins.tap with challenge := c }).emit
        (.tdo ((c.map (fun b => bitsLsb 8 b.toNat)).flatten))
    | some r =>
      if !t.pwr.pwrGood || decide (t.dev = .boot) then t.setTap { t.pins.tap with response := some r } else t)

/-- NVME_MI_REQUEST (R433): served in SERVICE and HALTED, not after a control core has stopped (R291);
the address is not acknowledged otherwise. -/
def execNvmeMiRequest (s : State) : Result :=
  .next (s.emit (.smbus ((decide (s.dev = .service) || decide (s.dev = .halted)) &&
    !s.cores.any (fun p => decide (p.2.run = .stopped)))))

end Sys2Proof.Machine
end

