-- ==== Sys2Proof/Machine/Status.lean ====
section
/-!
DEFINITION. Status values of completions (R107, R108, R434): vendor codes of Table 4-22, standard codes
of the NVMe and Key Value command sets, and DNR.
-/

namespace Sys2Proof.Machine

/-- Status Code Type and Status Code: SCT × 256 + SC. Type 0x7 codes are Table 4-22's; the numbers of the
standard statuses are those of the NVMe specifications the manual cites (PRESUMED, log 50). -/
def Status.code : Status → Nat
  | .success => 0x000
  | .invalidOpcode => 0x001
  | .invalidField => 0x002
  | .dataTransfer => 0x004
  | .internalError => 0x006
  | .internalErrorCar => 0x006
  | .abortedSqDel => 0x008
  | .invalidNamespace => 0x00B
  | .sequenceError => 0x00C
  | .sequenceErrorBusy => 0x00C
  | .sglLength => 0x00F
  | .invalidPrpOffset => 0x013
  | .writeProtected => 0x020
  | .lbaRange => 0x080
  | .capacityExceeded => 0x081
  | .nsNotReady => 0x082
  | .reservationConflict => 0x083
  | .invalidValueSize => 0x085
  | .invalidKeySize => 0x086
  | .keyAbsent => 0x087
  | .keyExists => 0x089
  | .cqInvalid => 0x100
  | .invalidQid => 0x101
  | .invalidQSize => 0x102
  | .aerLimit => 0x105
  | .invalidFwSlot => 0x106
  | .invalidFwImage => 0x107
  | .invalidVector => 0x108
  | .invalidLogPage => 0x109
  | .invalidFormat => 0x10A
  | .fwNeedsReset => 0x10B
  | .invalidQDeletion => 0x10C
  | .notSaveable => 0x10D
  | .fwProhibited => 0x113
  | .overlappingRange => 0x114
  | .insufficientCapacity => 0x115
  | .idUnavailable => 0x116
  | .nsAttached => 0x118
  | .unrecoveredRead => 0x281
  | .guardCheck => 0x282
  | .appTagCheck => 0x283
  | .refTag => 0x284
  | .invalidProt => 0x181
  | .compareFailure => 0x285
  | .notCompressible => 0x701
  | .dcmpIllegal => 0x702
  | .dcmpDistance => 0x703
  | .dcmpOverrun => 0x704
  | .dcmpChecksum => 0x705
  | .dcmpTruncated => 0x706
  | .chainExhausted => 0x707
  | .lengthMismatch => 0x708
  | .beatOverrun => 0x709
  | .programTrap => 0x70A
  | .notActive => 0x70B
  | .instanceReset => 0x70C
  | .shareZero => 0x70D
  | .drawerUnavailable => 0x70E
  | .rebuildPending => 0x70F
  | .peerFailed => 0x710
  | .deadlineExceeded => 0x711
  | .batchConflict => 0x712

/-- DNR (Table 4-22, Table 4-24): 1 but for success and the statuses a resubmission can change. -/
def Status.dnr : Status → Bool
  | .success => false
  | .dataTransfer => false
  | .abortedSqDel => false
  | .nsNotReady => false
  | .aerLimit => false
  | .sequenceErrorBusy => false
  | .internalErrorCar => false
  | .instanceReset => false
  | .drawerUnavailable => false
  | .rebuildPending => false
  | .peerFailed => false
  | .deadlineExceeded => false
  | _ => true

end Sys2Proof.Machine
end

