-- ==== Sys2Proof/Machine/Queues.lean ====
section
/-!
DEFINITION. The host link and the queues (spec/02): completion entries and interrupt messages, asynchronous
events, doorbells, queue creation and deletion, the link, translation cache and configuration space.
-/

namespace Sys2Proof.Machine

/-! ### Rows -/

def State.sqRow (s : State) (q : Nat) : SqRow := Sparse.get (fun _ => {}) s.sq q
def State.cqRow (s : State) (q : Nat) : CqRow := Sparse.get (fun _ => {}) s.cq q
def State.setSq (s : State) (q : Nat) (r : SqRow) : State := { s with sq := Sparse.set (fun _ => {}) s.sq q r }
def State.setCq (s : State) (q : Nat) (r : CqRow) : State := { s with cq := Sparse.set (fun _ => {}) s.cq q r }

/-- The admin row of a port (R34). -/
def adminRow (p : Bool) : Nat := if p then 8192 else 0

/-- Row `q` lies in the port's range (Table 2-1). -/
def State.rowInPort (s : State) (p : Bool) (q : Nat) : Bool :=
  if s.pins.dual then (if p then decide (8192 ≤ q) && decide (q < 16384) else decide (q < 8192))
  else decide (q < 16384)

/-- Entries of a CQ written and not yet consumed (R50). -/
def CqRow.posted (r : CqRow) : Nat := (r.tail + (r.qsize + 1) - r.head) % (r.qsize + 1)

/-- Entries of an SQ between head and tail. -/
def SqRow.fetchable (r : SqRow) : Nat := (r.tail + (r.qsize + 1) - r.head) % (r.qsize + 1)

/-- Commands in flight bound to a CQ (R51). -/
def State.reserved (s : State) (q : Nat) : Nat := (s.cmds.filter (fun c => decide (c.cq = q) && !c.dead)).length

/-- Room of a CQ (R51 condition 4). -/
def State.cqRoom (s : State) (q : Nat) : Nat :=
  let r := s.cqRow q
  r.qsize - (r.posted + s.reserved q)

/-- QMG_INFLIGHT.COUNT: I/O commands in flight (R53). -/
def State.inflight (s : State) : Nat := (s.cmds.filter (fun c => !c.admin && !c.dead)).length

/-- Set a QMG_ERR bit and capture the row, or for DB_NOQUEUE the instance. -/
def State.qmgErr (s : State) (bit : Nat) (cq : Bool) (q : Nat) : State :=
  s.raiseAt Reg.QMG_ERR bit Reg.QMG_ERR_QID (b2n cq * 2 ^ 30 + q)

/-! ### Commands in flight -/

def State.cmd? (s : State) (tag : Nat) : Option Cmd := s.cmds.find? (fun c => decide (c.tag = tag))

def State.dropCmd (s : State) (tag : Nat) : State :=
  { s with cmds := s.cmds.filter (fun c => decide (c.tag ≠ tag)) }

def State.setCmd (s : State) (c : Cmd) : State :=
  { s with cmds := s.cmds.map (fun x => if x.tag = c.tag then c else x) }

/-- Dword `i` of the submission entry. -/
def Cmd.d (c : Cmd) (i : Nat) : DWord := nth 0 c.dw i

/-- Field `[hi:lo]` of dword `i`. -/
def Cmd.f (c : Cmd) (i hi lo : Nat) : Nat := bits (c.d i).toNat hi lo

def Cmd.opcode (c : Cmd) : Nat := c.f 0 7 0
def Cmd.cid (c : Cmd) : Nat := c.f 0 31 16
def Cmd.nsid (c : Cmd) : Nat := (c.d 1).toNat

/-- Dwords `i` and `i + 1` as one number. -/
def Cmd.q (c : Cmd) (i : Nat) : Nat := (c.d i).toNat + 2 ^ 32 * (c.d (i + 1)).toNat

/-- Beats by which an I/O command is past its deadline; none before it (R24, R104). -/
def Cmd.late (c : Cmd) : Option Nat :=
  if c.admin || c.dead then none
  else match c.age with
    | some a => if beatsOfMs c.deadline ≤ a then some (a - beatsOfMs c.deadline) else none
    | none => none

/-- Beats by which it is past the limit of its wait for a rebuild partition (R28). -/
def Cmd.lateWait (c : Cmd) : Option Nat :=
  if c.admin || c.dead || decide (c.phase ≠ .waitRebuild) then none
  else match c.waited with
    | some a => if beatsOfMs c.waitMs ≤ a then some (a - beatsOfMs c.waitMs) else none
    | none => none

/-- The status a limit gives: that of the limit reached first, the deadline's where both were reached at one boundary
(R28; the tie is the model's choice, log 167). -/
def Cmd.timedOut (c : Cmd) : Option Status :=
  match c.late, c.lateWait with
  | none, none => none
  | some _, none => some .deadlineExceeded
  | none, some _ => some .rebuildPending
  | some d, some w => if d < w then some .rebuildPending else some .deadlineExceeded

/-- A command past its deadline (R24, R104): order 4 of Table 1-5 has marked it. -/
def Cmd.expired (c : Cmd) : Bool := c.late.isSome

/-- Run `f` on the command in flight with that tag when it is one of `ops` of its queue kind; a tag that
is not in flight names no event. A command past its deadline goes no further: it ends by its expiry (R24). -/
def State.onCmd (s : State) (tag : Nat) (admin : Bool) (ops : List Nat) (f : Cmd → State) : State :=
  match s.cmd? tag with
  | some c => if decide (c.admin = admin) && ops.contains c.opcode && !c.expired then f c else s
  | none => s

/-! ### Completion entries (R55) -/

/-- The four dwords of a completion entry. -/
def cqeDwords (dw0 dw1 sqhd sqid cid : Nat) (phase more : Bool) (st : Status) : List DWord :=
  [BitVec.ofNat 32 dw0, BitVec.ofNat 32 dw1, BitVec.ofNat 32 (sqid % 65536 * 65536 + sqhd % 65536),
   BitVec.ofNat 32 (cid % 65536 + b2n phase * 2 ^ 16 + st.code * 2 ^ 17 + b2n more * 2 ^ 30 + b2n st.dnr * 2 ^ 31)]

/-- Write the completion entry of a command and take it out of flight. `log` is the Error Information log
entry, LBA and command-specific field (R107). An entry of an older generation is never written (R74), and
one of a CQ in ERROR is discarded (Table 2-12). -/
def State.complete (s : State) (c : Cmd) (st : Status) (dw0 dw1 : Nat) (log : Option (Nat × Nat)) : State :=
  let s1 := s.dropCmd c.tag
  if c.dead then (if c.owed then s1.fenced c.inst else s1)
  else
  let i := s1.inst c.inst
  let s2 := s1.setInst c.inst { i with
    completed := i.completed + b2n !c.admin
    carryCnt := i.carryCnt - b2n (!c.admin && decide (c.tag < i.carryTag)) }
  let q := s2.cqRow c.cq
  if !s1.alive c.inst c.gen then s1.fenced c.inst
  else if !q.valid || q.error then s2
  else
    let sqr := s2.sqRow c.sq
    let addr := q.base.toNat + 16 * q.tail
    let sqid := if s2.isManager c.inst then c.sq else sqr.loc
    let s3 := match log with
      | none => s2
      | some (lba, spec) =>
        s2.setCtrl c.port { s2.ctrl c.port with errLog := (st.code, c.sq, lba, spec) :: (s2.ctrl c.port).errLog }
    let last := decide (q.tail = q.qsize)
    let q1 := { q with tail := if last then 0 else q.tail + 1, phase := if last then !q.phase else q.phase
                       unsig := q.unsig + 1 }
    ((s3.dirty c.inst addr 16).send c.port
      (.cqe c.port c.cq addr (cqeDwords dw0 dw1 sqr.head sqid c.cid q.phase log.isSome st))).setCq c.cq q1

/-- A data integrity error more (R179). -/
def State.dataError (s : State) : State := { s with ftl := { s.ftl with dataErrors := s.ftl.dataErrors + 1 } }

/-- Complete a command: one past its deadline completes with DEADLINE_EXCEEDED whatever it came to (R24). Each that completes with
Unrecovered Read Error counts (R179). -/
def State.post (s : State) (c : Cmd) (st : Status) (dw0 dw1 : Nat) (log : Option (Nat × Nat)) : State :=
  if c.expired && decide (st ≠ .rebuildPending) then s.complete c .deadlineExceeded 0 0 none
  else (if st = .unrecoveredRead ∧ !c.dead then s.dataError else s).complete c st dw0 dw1 log

/-- Post a command's completion and go on with its received data (R105). -/
def State.bury (s : State) (c : Cmd) (st : Status) : State :=
  let t := s.post c st 0 0 none
  { t with cmds := t.cmds ++ [{ c with dead := true }] }

/-- Complete with success. -/
def State.ok (s : State) (c : Cmd) : State := s.post c .success 0 0 none

/-- Complete with a status and no further contents. -/
def State.err (s : State) (c : Cmd) (st : Status) : State := s.post c st 0 0 none

/-! ### Signalling a CQ (R56) -/

/-- A feature's CDW11 of a controller, or its default. -/
def Ctrl.feature (c : Ctrl) (id dflt : Nat) : Nat :=
  match c.features.find? (fun e => decide (e.1 = id)) with
  | some e => e.2
  | none => dflt

/-- Coalescing is off for the queue (R56). -/
def State.coalOff (s : State) (r : CqRow) : Bool :=
  if r.imt then (Sparse.get (fun _ => {}) s.imt r.vector).nocoal
  else (s.ctrl (s.portOf r.inst)).noCoal.contains r.vector

/-- The coalescing threshold, THR. -/
def State.coalThr (s : State) (r : CqRow) : Nat := bits ((s.ctrl (s.portOf r.inst)).feature 8 0) 7 0

/-- Row `q` is an admin row. -/
def State.isAdminRow (s : State) (q : Nat) : Bool := decide (q = 0) || (s.pins.dual && decide (q = 8192))

/-- A message of a queue's instance (R57); a message with another owner captures the row. -/
def State.cqMessage (s : State) (q : Nat) (r : CqRow) : State :=
  if r.imt then
    if (Sparse.get (fun _ => {}) s.imt r.vector).owner ≠ r.inst then s.qmgErr 4 true q
    else s.imtMessage r.inst r.vector
  else s.msix (s.portOf r.inst) r.vector

/-- INTERRUPT_MESSAGE (R56): one message of a queue that is due. -/
def execInterruptMessage (row : Nat) (s : State) : Result :=
  .next (
    let r := s.cqRow row
    let each := s.isAdminRow row || s.coalOff r
    if !r.valid || !r.ien then s
    else if each && decide (r.unsig ≠ 0) then
      (s.setCq row { r with unsig := r.unsig - 1 }).cqMessage row r
    else if each && !r.resignal then s
    else if r.resignal || decide (s.coalThr r + 1 ≤ r.unsig) then
      (s.setCq row { r with unsig := 0, resignal := false }).cqMessage row r
    else s)

/-- A boundary makes a queue due: entries unsignalled since before it, where coalescing holds them back, or signalled ones
that a head doorbell has left (R56). `each`: every entry has a message of its own. -/
def CqRow.beat (each : Bool) (r : CqRow) : CqRow :=
  { r with resignal := r.resignal || (r.ien && (r.left || (!each && decide (r.unsig ≠ 0)))), left := false }

/-- MSIX_UNMASK (R57). -/
def execMsixUnmask (port : Bool) (vector : Nat) (s : State) : Result :=
  .next (
    let e := Sparse.get (fun _ => {}) (s.port port).msix vector
    let put (x : MsixEntry) : State :=
      s.setPort port { s.port port with msix := Sparse.set (fun _ => {}) (s.port port).msix vector x }
    if e.pend && (s.port port).msixEn && !(s.port port).msixMask then
      (put { e with mask := false, pend := false }).send port (.message port e.addr e.data)
    else put { e with mask := false })

/-! ### Asynchronous events (R438) -/

def AenType.code : AenType → Nat
  | .error => 0
  | .smart => 1
  | .notice => 2

/-- Complete one outstanding request with an event. -/
def State.aenComplete (s : State) (p : Bool) (e : Aen) (tag : Nat) (rest : List Nat) : State :=
  let s1 := s.setCtrl p { s.ctrl p with aerWaiting := rest, aerMasked := e.kind :: (s.ctrl p).aerMasked }
  match s1.cmd? tag with
  | some c => s1.post c .success (e.kind.code + e.info * 2 ^ 8 + e.page * 2 ^ 16) 0 none
  | none => s1

/-- Hold an event: events held for one type are reported as one. -/
def State.aenHold (s : State) (p : Bool) (e : Aen) : State :=
  let c := s.ctrl p
  if c.aerHeld.any (fun x => decide (x.kind = e.kind)) then s
  else s.setCtrl p { c with aerHeld := c.aerHeld ++ [e] }

/-- Report an event, or hold it while its type is masked or no request is outstanding (R438). -/
def State.aen (s : State) (p : Bool) (kind : AenType) (info page : Nat) : State :=
  let c := s.ctrl p
  let e : Aen := ⟨kind, info, page⟩
  if c.aerMasked.contains kind then s.aenHold p e
  else match c.aerWaiting with
    | [] => s.aenHold p e
    | t :: rest => s.aenComplete p e t rest

/-- Report the first held event that may be reported. -/
def State.aenRelease (s : State) (p : Bool) : State :=
  let c := s.ctrl p
  match c.aerHeld.find? (fun e => !c.aerMasked.contains e.kind), c.aerWaiting with
  | some e, t :: rest =>
    (s.setCtrl p { c with aerHeld := c.aerHeld.filter (fun x => decide (x ≠ e)) }).aenComplete p e t rest
  | _, _ => s

/-- The host has read an event's log page with Retain Asynchronous Event cleared. -/
def State.aenRead (s : State) (p : Bool) (page : Nat) : State :=
  let c := s.ctrl p
  let open_ (k : AenType) : Bool := match k with
    | .error => decide (page = 1)
    | .smart => decide (page = 2)
    | .notice => decide (page ≠ 1) && decide (page ≠ 2)
  (s.setCtrl p { c with aerMasked := c.aerMasked.filter (fun k => !open_ k) }).aenRelease p

/-- ASYNC_EVENT_REQUEST (R438): held outstanding, up to 8. -/
def execAsyncEventRequest (tag : Nat) (s : State) : Result :=
  .next (s.onCmd tag true [0x0C] (fun c =>
    if 8 ≤ (s.ctrl c.port).aerWaiting.length then s.err c .aerLimit
    else if (s.ctrl c.port).aerWaiting.contains tag then s
    else (s.setCtrl c.port { s.ctrl c.port with aerWaiting := (s.ctrl c.port).aerWaiting ++ [tag] }).aenRelease c.port))

/-- An Error event of a manager instance's doorbell, with its QID in the Error Information log (R50). -/
def State.doorbellAen (s : State) (i info q : Nat) : State :=
  if s.isManager i then
    let p := s.portOf i
    (s.setCtrl p { s.ctrl p with errLog := (0, q, 0, 0) :: (s.ctrl p).errLog }).aen p .error info 1
  else s

/-! ### Doorbells (R50) -/

/-- The row of a local SQ index of an instance. -/
def State.sqOf (s : State) (i n : Nat) : Option Nat :=
  (s.sq.find? (fun e => e.2.valid && decide (e.2.inst = i) && decide (e.2.loc = n) && !s.isAdminRow e.1)).map (·.1)

/-- The row of a local CQ index of an instance. -/
def State.cqOf (s : State) (i n : Nat) : Option Nat :=
  (s.cq.find? (fun e => e.2.valid && decide (e.2.inst = i) && decide (e.2.loc = n) && !s.isAdminRow e.1)).map (·.1)

/-- A doorbell that names no queue. There is no QID to record: the log entry carries QID 0 and status 0 (the model's
choice, log 168). -/
def State.dbNoQueue (s : State) (i : Nat) : State := ((s.instErr i 1).qmgErr 3 false i).doorbellAen i 0 0

/-- A doorbell value that is ignored. -/
def State.dbValue (s : State) (i : Nat) (cq : Bool) (q : Nat) : State :=
  ((s.instErr i 2).qmgErr 2 cq q).doorbellAen i 1 q

/-- An SQ tail write to a row. -/
def State.sqTail (s : State) (i q v : Nat) : State :=
  let r := s.sqRow q
  if r.error then s
  else if r.qsize < v then s.dbValue i false q
  else s.setSq q { r with tail := v }

/-- A CQ head write to a row. -/
def State.cqHead (s : State) (i q v : Nat) : State :=
  let r := s.cqRow q
  let used := (v + (r.qsize + 1) - r.head) % (r.qsize + 1)
  if r.error then s
  else if r.qsize < v then s.dbValue i true q
  else if r.posted < used then s.dbValue i true q
  else
    let r1 := { r with head := v }
    s.setCq q { r1 with left := r.left || decide (r.unsig < r1.posted) }

/-- A doorbell wakes the device (R408) and acts on its row. A page of the other port is a reserved offset
(R41). -/
def State.doorbell (s : State) (db : Doorbell) (v : DWord) (row : State → Nat → Nat → Option Nat)
    (admin : State → Nat → Bool) (f : State → Nat → Nat → Nat → State) : State :=
  let n := bits v.toNat 15 0
  match db with
  | .admin p =>
    let q := adminRow p
    let t := s.wakeBy 1
    if admin t q then f t (t.manager p) q n else t
  | .page p i l =>
    if !s.inPort p i then s
    else
      let t := s.wakeBy 1
      match row t i l with
      | some q => f t i q n
      | none => t.dbNoQueue i

/-- SQ_TAIL_DOORBELL (R50). -/
def execSqTailDoorbell (db : Doorbell) (v : DWord) (s : State) : Result :=
  .next (s.doorbell db v State.sqOf (fun t q => (t.sqRow q).valid) State.sqTail)

/-- CQ_HEAD_DOORBELL (R50). -/
def execCqHeadDoorbell (db : Doorbell) (v : DWord) (s : State) : Result :=
  .next (s.doorbell db v State.cqOf (fun t q => (t.cqRow q).valid) State.cqHead)

/-! ### Indirect access to rows and messages (R41, R61) -/

/-- Port of a host source; none for a control core. -/
def srcPort : Src → Option Bool
  | .host p => some p
  | .page p _ => some p
  | .cc _ => none

/-- A selection of a row or entry that the source may see (R41). -/
def State.visible (s : State) (src : Src) (q : Nat) : Bool :=
  match srcPort src with
  | some p => s.rowInPort p q
  | none => decide (q < 16384)

/-- An SQ row as QMG_QDATA0–5 (Table 2-17). -/
def State.sqData (s : State) (q : Nat) : List DWord :=
  let r := s.sqRow q
  if !r.valid then List.replicate 6 0
  else [r.base.setWidth 32, (r.base >>> 32).setWidth 32, BitVec.ofNat 32 (r.qsize * 65536 + r.cqid),
    BitVec.ofNat 32 (r.tail * 65536 + r.head),
    BitVec.ofNat 32 (2 ^ 31 + b2n r.error * 2 ^ 30 + r.inst * 65536 + r.loc),
    BitVec.ofNat 32 (s.cmds.filter (fun c => decide (c.sq = q) && !c.dead)).length]

/-- A CQ row as QMG_QDATA0–5 (Table 2-17). -/
def State.cqData (s : State) (q : Nat) : List DWord :=
  let r := s.cqRow q
  if !r.valid then List.replicate 6 0
  else [r.base.setWidth 32, (r.base >>> 32).setWidth 32,
    BitVec.ofNat 32 (r.qsize * 65536 + b2n r.ien * 2 ^ 15 + b2n r.imt * 2 ^ 14 + r.vector % 16384),
    BitVec.ofNat 32 (r.tail * 65536 + r.head),
    BitVec.ofNat 32 (2 ^ 31 + b2n r.error * 2 ^ 30 + b2n r.phase * 2 ^ 29 + r.inst * 65536 + r.loc),
    BitVec.ofNat 32 (s.reserved q)]

/-- Own QMG items of the port are written by it; other sources are control cores (R41). -/
def execQmgQcmdRead (src : Src) (s : State) : Result :=
  .next (
    let sel := (s.reg Reg.QMG_QSEL).toNat
    let q := bits sel 13 0
    { s with qdata := if !s.visible src q then List.replicate 6 0
                      else if bitOf sel 31 then s.cqData q else s.sqData q })

/-- QMG_IMT_LOAD (R61): the selected entry, or zeros (R41). -/
def execQmgImtLoad (src : Src) (s : State) : Result :=
  .next (
    let n := s.field Reg.QMG_IMTSEL 13 0
    let e := Sparse.get (fun _ => {}) s.imt n
    let w : List DWord := if !s.visible src n then [0, 0, 0, 0]
      else [e.addr.setWidth 32, (e.addr >>> 32).setWidth 32, e.data,
        BitVec.ofNat 32 (b2n e.mask * 2 ^ 31 + b2n e.pend * 2 ^ 30 + b2n e.nocoal * 2 ^ 29 + e.owner * 65536)]
    (((s.setReg (Reg.QMG_IMTDATA 0) (nth 0 w 0)).setReg (Reg.QMG_IMTDATA 1) (nth 0 w 1)).setReg
      (Reg.QMG_IMTDATA 2) (nth 0 w 2)).setReg (Reg.QMG_IMTDATA 3) (nth 0 w 3))

/-- QMG_IMT_STORE (R61): the whole entry is replaced; PEND is read only. Unmasking an entry with PEND set sends one
message; the entry's OWNER no longer being the one it pends for, the message is withheld instead (R57, log 169). -/
def execQmgImtStore (src : Src) (s : State) : Result :=
  .next (
    let n := s.field Reg.QMG_IMTSEL 13 0
    let r := fun i => s.reg (Reg.QMG_IMTDATA i)
    let old := Sparse.get (fun _ => {}) s.imt n
    let d3 := (r 3).toNat
    let e : ImtEntry :=
      { addr := BitVec.ofNat 64 ((r 1).toNat * 2 ^ 32 + (r 0).toNat / 4 * 4), data := r 2
        mask := bitOf d3 31, nocoal := bitOf d3 29, owner := bits d3 25 16, pend := old.pend }
    if !s.visible src n then s
    else if e.pend && !e.mask then
      let t := { s with imt := Sparse.set (fun _ => {}) s.imt n { e with pend := false } }
      if e.owner = old.owner then t.send (s.portOf e.owner) (.message (s.portOf e.owner) e.addr e.data)
      else t.raise Reg.QMG_ERR 4
    else { s with imt := Sparse.set (fun _ => {}) s.imt n e })

/-! ### Creating and deleting queues (R40, R48, R49) -/

/-- PRP1, dwords 6 and 7. -/
def Cmd.prp1 (c : Cmd) : Nat := c.q 6

/-- The checks both creations share, orders 1 to 4 of Table 2-10; `used` says that the row or the local
index is in use. -/
def State.createCheck (s : State) (c : Cmd) (used : Bool) (bad1 : Bool) : Option Status :=
  let k := s.ctrl c.port
  let i := c.f 13 25 16
  let q := c.f 10 15 0
  if decide (bits k.cc.toNat 19 16 ≠ 6) || decide (bits k.cc.toNat 23 20 ≠ 4) || bad1 || !s.inPort c.port i ||
      decide ((s.inst i).state = .free) || (!s.isManager i && !(s.port c.port).cfg.pasid) then some .invalidField
  else if !s.rowInPort c.port q || decide (q = 0) || decide (16384 ≤ q) || s.isAdminRow q || used then
    some .invalidQid
  else if c.f 10 31 16 = 0 then some .invalidQSize
  else if c.prp1 % (4096 * 2 ^ k.mps) ≠ 0 then some .invalidPrpOffset
  else none

/-- CREATE_IO_CQ (R48, R66). A held position of that index is taken from the instance row; the entries it restores count as
signalled and unconsumed. -/
def execCreateIoCq (tag : Nat) (s : State) : Result :=
  .next (s.onCmd tag true [0x05] (fun c =>
    let i := c.f 13 25 16
    let l := c.f 13 5 0
    let q := c.f 10 15 0
    let iv := c.f 11 31 16
    let ien := bitOf (c.d 11).toNat 1
    match s.createCheck c ((s.cqRow q).valid || (s.cqOf i l).isSome) (!bitOf (c.d 11).toNat 0) with
    | some st => s.err c st
    | none =>
      let badIv := if s.isManager i then decide (2048 ≤ iv)
        else !s.rowInPort c.port iv || decide ((Sparse.get (fun _ => {}) s.imt iv).owner ≠ i)
      if ien && badIv then s.err c .invalidVector
      else
        let held := (s.inst i).heldCq.find? (fun h => decide (h.loc = l) && decide (h.qsize = c.f 10 31 16))
        let r : CqRow :=
          { valid := true, base := BitVec.ofNat 64 c.prp1, qsize := c.f 10 31 16, ien := ien
            imt := !s.isManager i, vector := iv % 16384, inst := i, loc := l
            head := (held.map (·.head)).getD 0, tail := (held.map (·.tail)).getD 0
            phase := (held.map (·.phase)).getD true
            left := (held.map (fun h => decide (h.head ≠ h.tail))).getD false }
        let s1 := s.setInst i { s.inst i with heldCq := (s.inst i).heldCq.filter (fun h => decide (h.loc ≠ l)) }
        (s1.setCq q r).ok c))

/-- CREATE_IO_SQ (R48, R66). -/
def execCreateIoSq (tag : Nat) (s : State) : Result :=
  .next (s.onCmd tag true [0x01] (fun c =>
    let i := c.f 13 25 16
    let l := c.f 13 5 0
    let q := c.f 10 15 0
    let cqid := c.f 11 31 16
    match s.createCheck c ((s.sqRow q).valid || (s.sqOf i l).isSome)
        (!bitOf (c.d 11).toNat 0 || decide (c.f 12 15 0 ≠ 0)) with
    | some st => s.err c st
    | none =>
      if !s.rowInPort c.port cqid || !(s.cqRow cqid).valid || s.isAdminRow cqid ||
          decide ((s.cqRow cqid).inst ≠ i) then
        s.err c .cqInvalid
      else
        let held := (s.inst i).heldSq.find? (fun h => decide (h.loc = l) && decide (h.qsize = c.f 10 31 16))
        let r : SqRow :=
          { valid := true, base := BitVec.ofNat 64 c.prp1, qsize := c.f 10 31 16, cqid := cqid, inst := i, loc := l
            head := (held.map (·.head)).getD 0, tail := (held.map (·.tail)).getD 0 }
        let s1 := s.setInst i { s.inst i with heldSq := (s.inst i).heldSq.filter (fun h => decide (h.loc ≠ l)) }
        (s1.setSq q r).ok c))

/-- A command that has not reached media or an engine (R49). -/
def Cmd.idle (c : Cmd) : Bool :=
  decide (c.phase = .fetched) || decide (c.phase = .held) || decide (c.phase = .waitClasp) ||
    decide (c.phase = .waitRebuild)

/-- Complete every command of the list with one status. -/
def State.errAll (s : State) (st : Status) : List Cmd → State
  | [] => s
  | c :: t => State.errAll (s.err c st) st t

/-- The SQ's commands that have not started complete with Command Aborted due to SQ Deletion (R49). -/
def State.abortSq (s : State) (q : Nat) : State :=
  s.errAll .abortedSqDel (s.cmds.filter (fun c => decide (c.sq = q) && !c.admin && !c.dead && c.idle))

/-- DELETE_IO_SQ (R49): fetching stops at once. -/
def execDeleteIoSq (tag : Nat) (s : State) : Result :=
  .next (s.onCmd tag true [0x00] (fun c =>
    let q := c.f 10 15 0
    if !s.rowInPort c.port q || s.isAdminRow q || !(s.sqRow q).valid || (s.sqRow q).deleting.isSome then
      s.err c .invalidQid
    else (s.setSq q { s.sqRow q with deleting := some tag }).abortSq q))

/-- DELETE_IO_SQ_DRAINED (R49): every command fetched from the SQ has completed. -/
def execDeleteIoSqDrained (row : Nat) (s : State) : Result :=
  .next (match (s.sqRow row).deleting with
    | none => s
    | some tag =>
      if s.cmds.any (fun c => decide (c.sq = row) && !c.admin && !c.dead) then s
      else match s.cmd? tag with
        | some c => (s.setSq row {}).ok c
        | none => s.setSq row {})

/-- DELETE_IO_CQ (R49). -/
def execDeleteIoCq (tag : Nat) (s : State) : Result :=
  .next (s.onCmd tag true [0x04] (fun c =>
    let q := c.f 10 15 0
    if !s.rowInPort c.port q || s.isAdminRow q || !(s.cqRow q).valid then s.err c .invalidQid
    else if s.sq.any (fun e => e.2.valid && decide (e.2.cqid = q) && !s.isAdminRow e.1) then s.err c .invalidQDeletion
    else (s.setCq q {}).ok c))

/-! ### The link, the translation cache, configuration space (R35, R37, R60, R425) -/

/-- Lanes the mode allows (Table 2-1). -/
def State.maxWidth (s : State) : Nat := if s.pins.dual then 8 else 16

/-- The HIF copy of a port (R60): port B's exists in DUAL mode only. -/
def State.hasPort (s : State) (p : Bool) : Bool := !p || s.pins.dual

/-- LINK_RETRAIN (R37): HIF_LINK_CTL.RETRAIN written. The write follows R41. -/
def execLinkRetrain (src : Src) (port : Bool) (s : State) : Result :=
  .next (if !s.hasPort port then s
    else match src with
    | .host p =>
      if p = port || p = s.ownerPort then s.setPort port { s.port port with training := true }
      else s.hifErr p 7
    | .page _ _ => s
    | .cc _ => s.setPort port { s.port port with training := true })

/-- LINK_PARTNER_RETRAIN (R37). -/
def execLinkPartnerRetrain (port : Bool) (s : State) : Result :=
  .next (if s.hasPort port then s.setPort port { s.port port with training := true } else s)

/-- The stalled DMA of a port goes out (R37). -/
def State.unstall (s : State) (p : Bool) : State :=
  { s.setPort p { s.port p with stalled := [] } with out := s.out ++ (s.port p).stalled }

/-- LINK_TRAINED (R37, R60). -/
def execLinkTrained (port flit : Bool) (speed width : Nat) (s : State) : Result :=
  .next (if !s.hasPort port then s
    else
      let s1 := s.setPort port
        { s.port port with up := true, training := false, flit := flit, speed := speed, width := width }
      let s2 := if speed < s1.fieldNow (Reg.HIF_LINK_CTL (b2n port)) 3 0 then s1.hifErr port 10 else s1
      let s3 := if width < s2.maxWidth then s2.hifErr port 11 else s2
      (s3.setPins { s3.pins with peTx := .running }).unstall port)

/-- LINK_DOWN (R60). -/
def execLinkDown (port : Bool) (s : State) : Result :=
  .next (if !s.hasPort port then s
    else (s.setPort port { s.port port with up := false, flit := false, speed := 0, width := 0 }).hifErr port 9)

/-- ECRC_ERROR (R60). -/
def execEcrcError (port : Bool) (s : State) : Result :=
  .next (if s.hasPort port then s.hifErr port 8 else s)

/-- RECEIVER_ERROR (R60): a replay or a receiver or FLIT error is counted. -/
def execReceiverError (port replay : Bool) (s : State) : Result :=
  .next (if !s.hasPort port then s
    else if replay then s.count (Reg.HIF_ERR_CNT (b2n port)) 31 16 1
    else s.count (Reg.HIF_ERR_CNT (b2n port)) 15 0 1)

/-- ATS_INVALIDATE_REQUEST (R35): the pages named leave the translation cache. -/
def execAtsInvalidateRequest (port : Bool) (pasid first count : Nat) (s : State) : Result :=
  .next (if !s.hasPort port then s
    else (s.setPort port { s.port port with
      atc := (s.port port).atc.filter (fun e =>
        !(decide (e.1 = pasid) && decide (first ≤ e.2) && decide (e.2 < first + count))) }).emit (.invalidated port))

/-! ### Configuration space (R35, R36, R38, R425, Tables 2-2 and 2-3) -/

/-- A number of flags by bit. -/
def flags (l : List (Nat × Bool)) : Nat := (l.map (fun e => b2n e.2 * 2 ^ e.1)).sum

/-- What a register of configuration space reads. Places of fields are those of the PCIe base specification (PRESUMED, log
170); a 16-bit register reads in bits [15:0], and a register of an absent capability reads 0. -/
def State.cfgRead (s : State) (p : Bool) (r : CfgReg) : Nat :=
  let q := s.port p
  let c := q.cfg
  match r with
  | .ids => 0x64321EA7
  | .command => flags [(1, c.mem), (2, q.bme), (6, c.parity), (8, c.serr), (10, c.intxOff), (20, true)]
  | .classRev => 0x01800011
  | .bar 0 => c.bar0.toNat % 2 ^ 32 + 4
  | .bar 1 => c.bar0.toNat / 2 ^ 32
  | .bar 2 => c.bar2.toNat % 2 ^ 32 + 4
  | .bar 3 => c.bar2.toNat / 2 ^ 32
  | .bar _ => 0
  | .subsystem => s.subsys.toNat
  | .devCap => 2 + 2 ^ 5 + 2 ^ 15
  | .devCtl => c.report.toNat + b2n q.relaxed * 16 + c.mps * 32 + 2 ^ 8 + c.mrrs * 2 ^ 12
  | .devCap2 => 2 ^ 16 + 2 ^ 17
  | .devCtl2 => flags [(8, c.ido), (9, c.idoCpl), (12, c.tag10)]
  | .linkCap => 6 + (if s.pins.dual then 8 else 16) * 16 + 2 * 2 ^ 10
  | .linkCtl => c.aspm
  | .msixCtl => 2047 + b2n q.msixMask * 2 ^ 14 + b2n q.msixEn * 2 ^ 15
  | .pasidCap => 20 * 2 ^ 8
  | .pasidCtl => b2n c.pasid
  | .atsCap => 2 ^ 5
  | .atsCtl => c.stu + b2n c.ats * 2 ^ 15
  | .aerUncStat => c.uncStat.toNat
  | .aerUncMask => c.uncMask.toNat
  | .aerUncSev => c.uncSev.toNat
  | .aerCorStat => c.corStat.toNat
  | .aerCorMask => c.corMask.toNat
  | .aerCap => flags [(5, true), (6, c.ecrcGen), (7, true), (8, c.ecrcChk)]
  | .l1ssCap => 0x1F
  | .l1ssCtl => c.l1ss.toNat
  | .other _ => 0

/-- A write of a register of configuration space; read-only and reserved bits are ignored, and a reserved
Max_Payload_Size or Max_Read_Request_Size leaves the field (Table 2-2). -/
def State.cfgWrite (s : State) (p : Bool) (r : CfgReg) (v : DWord) : State :=
  let q := s.port p
  let c := q.cfg
  let n := v.toNat
  let put (c : Cfg) : State := s.setPort p { q with cfg := c }
  let half (x : BitVec 64) (hi : Bool) (keep : Nat) : BitVec 64 :=
    if hi then v ++ x.extractLsb' 0 32 else x.extractLsb' 32 32 ++ BitVec.ofNat 32 (n / keep * keep)
  match r with
  | .command => s.setPort p { q with
      bme := bitOf n 2
      cfg := { c with mem := bitOf n 1, parity := bitOf n 6, serr := bitOf n 8, intxOff := bitOf n 10 } }
  | .bar 0 => put { c with bar0 := half c.bar0 false (2 ^ 26) }
  | .bar 1 => put { c with bar0 := half c.bar0 true 1 }
  | .bar 2 => put { c with bar2 := half c.bar2 false (2 ^ 17) }
  | .bar 3 => put { c with bar2 := half c.bar2 true 1 }
  | .devCtl => s.setPort p { q with
      relaxed := bitOf n 4
      cfg := { c with
        report := BitVec.ofNat 4 n
        mps := if bits n 7 5 ≤ 2 then bits n 7 5 else c.mps
        mrrs := if bits n 14 12 ≤ 5 then bits n 14 12 else c.mrrs } }
  | .devCtl2 => put { c with ido := bitOf n 8, idoCpl := bitOf n 9, tag10 := bitOf n 12 }
  | .linkCtl => put { c with aspm := bits n 1 1 * 2 }
  | .msixCtl =>
    let t := s.setPort p { q with msixEn := bitOf n 15, msixMask := bitOf n 14 }
    if bitOf n 15 && !bitOf n 14 then t.msixFlush p else t
  | .pasidCtl => put { c with pasid := bitOf n 0 }
  | .atsCtl => put { c with stu := bits n 4 0, ats := bitOf n 15 }
  | .aerUncStat => put { c with uncStat := c.uncStat - (c.uncStat &&& v) }
  | .aerUncMask => put { c with uncMask := v }
  | .aerUncSev => put { c with uncSev := v }
  | .aerCorStat => put { c with corStat := c.corStat - (c.corStat &&& v) }
  | .aerCorMask => put { c with corMask := v }
  | .aerCap => put { c with ecrcGen := bitOf n 6, ecrcChk := bitOf n 8 }
  | .l1ssCtl => s.setPort p { q with l12 := bitOf n 0 || bitOf n 2, cfg := { c with l1ss := BitVec.ofNat 4 n } }
  | _ => s

/-- CONFIGURATION_REQUEST (R35, R36, R38, R425): retried until the Subsystem IDs are loaded; else a read answers the
register, and a write stores its value. -/
def execConfigurationRequest (port : Bool) (write : CfgReg × Option DWord) (s : State) : Result :=
  .next (if !s.hasPort port then s
    else if !s.idsLoaded then s.emit (.config port none)
    else
      let t := match write.2 with
        | none => s
        | some v => s.cfgWrite port write.1 v
      t.emit (.config port (some (BitVec.ofNat 32 (t.cfgRead port write.1)))))

/-- An uncorrectable error of AER bit `bit`: its status is set, and unless it is masked a message goes out, ERR_FATAL or
ERR_NONFATAL by its severity, where Device Control or SERR# Enable lets it (R59). -/
def State.aerReport (s : State) (p : Bool) (bit : Nat) : State :=
  let c := (s.port p).cfg
  let fatal := bitOf c.uncSev.toNat bit
  let t := s.setPort p { s.port p with cfg := { c with uncStat := c.uncStat ||| BitVec.ofNat 32 (2 ^ bit) } }
  if bitOf c.uncMask.toNat bit then t
  else if c.serr || bitOf c.report.toNat (if fatal then 2 else 1) then t.send p (.aer p fatal)
  else t

end Sys2Proof.Machine
end

