-- ==== Sys2Proof/Machine/Entries.lean ====
section
/-!
DEFINITION. Map entries (spec/06): fields of a span or grain entry, the span map, grain blocks, write-buffer
slots, and which stored images they name.
-/

namespace Sys2Proof.Machine

def State.setFtl (s : State) (f : Ftl) : State := { s with ftl := f }

def State.setChest (s : State) (c : Chest) : State := { s with chest := c }

/-- Issue a Chest record: it takes the next SEQ, and its change becomes visible when it is committed (R184). -/
def State.issue (s : State) (ch : Change) : State :=
  s.setChest { s.chest with pending := s.chest.pending ++ [{ seq := s.chest.seq, change := ch }], seq := s.chest.seq + 1 }

/-! ### Entries (Table 6-1) -/

def eWbuf (e : BitVec 64) : Bool := e.getLsbD 62
def eShelf (e : BitVec 64) : Bool := e.getLsbD 61
def eTrim (e : BitVec 64) : Bool := e.getLsbD 60
/-- SPLINTERED in a span entry, INSPAN in a grain entry. -/
def eSplit (e : BitVec 64) : Bool := e.getLsbD 59
def eRaw (e : BitVec 64) : Bool := e.getLsbD 58
def eCh (e : BitVec 64) : Nat := bits e.toNat 57 53
def eLen (e : BitVec 64) : Nat := bits e.toNat 52 43
def eMaddr (e : BitVec 64) : Nat := bits e.toNat 42 0

/-- An entry from its fields. -/
def mkEntry (wbuf shelf trim split raw : Bool) (ch len maddr : Nat) : BitVec 64 :=
  BitVec.ofNat 64 (b2n wbuf * 2 ^ 62 + b2n shelf * 2 ^ 61 + b2n trim * 2 ^ 60 + b2n split * 2 ^ 59 +
    b2n raw * 2 ^ 58 + ch * 2 ^ 53 + len * 2 ^ 43 + maddr)

/-- The entry of data in a slot; of a deallocated span; of a splintered span; of an image. -/
def slotEntry (ch idx : Nat) : BitVec 64 := mkEntry true false false false false ch 0 idx
def trimEntry : BitVec 64 := mkEntry false false true false false 0 0 0
def splitEntry (ch block : Nat) : BitVec 64 := mkEntry false false false true false ch 0 block
def imgEntry (ch : Nat) (l : Loc) (inspan : Bool) : BitVec 64 :=
  mkEntry false l.shelf false inspan l.raw ch l.len l.maddr

/-- The entry describes a stored image. -/
def eImage (e : BitVec 64) : Bool := decide (e ≠ 0) && !eWbuf e && !eTrim e

/-! ### The span map and grain blocks -/

/-- Key of a span: NSID and number. -/
def spanKey (n sp : Nat) : Nat := n * 2 ^ 40 + sp

def State.spanEntry (s : State) (n sp : Nat) : BitVec 64 := Sparse.get (fun _ => 0) s.ftl.span (spanKey n sp)

def State.setSpan (s : State) (n sp : Nat) (e : BitVec 64) : State :=
  s.setFtl { s.ftl with span := Sparse.set (fun _ => 0) s.ftl.span (spanKey n sp) e }

def State.block? (s : State) (b : Nat) : Option GrainBlock := Sparse.get (fun _ => none) s.ftl.grain b

def State.setBlock (s : State) (b : Nat) (v : Option GrainBlock) : State :=
  s.setFtl { s.ftl with grain := Sparse.set (fun _ => none) s.ftl.grain b v }

/-- The span is splintered: its entry names a grain block. -/
def State.splintered (s : State) (n sp : Nat) : Bool :=
  let e := s.spanEntry n sp
  eSplit e && !eWbuf e && !eTrim e

/-- The entry of grain `g` of a splintered span; 0 where it is not splintered. -/
def State.grainEntry (s : State) (n sp g : Nat) : BitVec 64 :=
  if s.splintered n sp then
    match s.block? (eMaddr (s.spanEntry n sp)) with
    | some b => nth 0 b.entries g
    | none => 0
  else 0

def State.setGrain (s : State) (n sp g : Nat) (e : BitVec 64) : State :=
  let i := eMaddr (s.spanEntry n sp)
  match s.block? i with
  | some b => s.setBlock i (some { b with entries := setNth e b.entries g })
  | none => s

/-- Mapped units of a span. -/
def State.maskOf (s : State) (n sp : Nat) : Nat := Sparse.get (fun _ => 0) s.ftl.mask (spanKey n sp)

def State.setMask (s : State) (n sp m : Nat) : State :=
  s.setFtl { s.ftl with mask := Sparse.set (fun _ => 0) s.ftl.mask (spanKey n sp) m }

/-- Partial-rewrite count of a span (R139). -/
def State.rewriteCount (s : State) (n sp : Nat) : Nat := Sparse.get (fun _ => 0) s.ftl.rewrites (spanKey n sp)

def State.setRewrites (s : State) (n sp c : Nat) : State :=
  s.setFtl { s.ftl with rewrites := Sparse.set (fun _ => 0) s.ftl.rewrites (spanKey n sp) c }

/-- The bits of a list of grains. -/
def grainMask (l : List Nat) : Nat := l.foldl (fun m g => if m.testBit g then m else m + 2 ^ g) 0

/-- 1 bits of a mask of 64. -/
def popMask (m : Nat) : Nat := ((List.range 64).map (fun i => b2n (m.testBit i))).sum

/-- The smallest number from `i` on that a list does not hold. -/
def unusedFrom (l : List Nat) : Nat → Nat → Nat
  | 0, i => i
  | k + 1, i => if l.contains i then unusedFrom l k (i + 1) else i

/-- Grain blocks in use (FTL_GRAIN_USED), and a number for a new one: the spec does not say which of the free ones a splinter takes, so
the search for one starts at a free value (log 90). -/
def State.grainUsed (s : State) : Nat := s.ftl.grain.length

def State.newBlock (s : State) : Nat :=
  unusedFrom (s.ftl.grain.map (·.1)) s.ftl.grain.length (s.freeVal % 2 ^ 24)

/-! ### Slots (R144) -/

def State.slotAt (s : State) (i : Nat) : Option Slot := s.ftl.slots.find? (fun v => decide (v.idx = i))

/-- The slot that gathers a span's grains. -/
def State.slotOf (s : State) (n sp : Nat) : Option Slot :=
  s.ftl.slots.find? (fun v => decide (v.nsid = n) && decide (v.span = sp) && !v.done)

def State.putSlot (s : State) (v : Slot) : State :=
  if (s.slotAt v.idx).isSome then
    s.setFtl { s.ftl with slots := s.ftl.slots.map (fun x => if x.idx = v.idx then v else x) }
  else s.setFtl { s.ftl with slots := s.ftl.slots ++ [v] }

def State.dropSlot (s : State) (i : Nat) : State :=
  s.setFtl { s.ftl with slots := s.ftl.slots.filter (fun v => decide (v.idx ≠ i)) }

/-- Slots of the write buffer in force: 256 KiB each (R144). -/
def State.slotCap (s : State) : Nat := if nth true s.dram.placed 2 then s.ftl.wbGib * 4096 else 0

/-- A number for a slot that is taken: which unused one is a free value. -/
def State.newSlot (s : State) : Nat :=
  unusedFrom (s.ftl.slots.map (·.idx)) s.ftl.slots.length (s.freeVal % max 1 s.slotCap)

/-- Data and metadata bytes of a slot in RECEIVING or HELD, and those that a slot further on receives (R191). -/
def Slot.dirtyBytes (v : Slot) : Nat :=
  (v.recv.map (fun r => r.2.2.length)).sum +
    (if v.state = .receiving ∨ v.state = .held then (v.grains.map (fun r => r.2.length)).sum else 0)

/-- Dirty data of the write buffer. -/
def State.dirtyBytes (s : State) : Nat := (s.ftl.slots.map Slot.dirtyBytes).sum

/-! ### Images -/

def State.img? (s : State) (ch m : Nat) : Option Img :=
  s.ftl.imgs.find? (fun i => decide (i.ch = ch) && decide (i.maddr = m))

def State.putImg (s : State) (i : Img) : State := s.setFtl { s.ftl with imgs := s.ftl.imgs ++ [i] }

/-- LUN and block of a media address (Table 6-2). -/
def maLun (m : Nat) : Nat := bits m 42 37
def maBlock (m : Nat) : Nat := bits m 36 21

/-- The image lies in that block row. -/
def Img.inRow (i : Img) (ch l block : Nat) : Bool :=
  decide (i.ch = ch) && decide (maLun i.maddr = l) && decide (maBlock i.maddr = block)

/-- An entry on channel `ch` names the image. -/
def Img.named (i : Img) (ch : Nat) (e : BitVec 64) : Bool :=
  eImage e && decide (ch = i.ch) && decide (eMaddr e = i.maddr)

/-- A span entry, with its grain block if it is splintered, names the image. -/
def State.entryNames (s : State) (i : Img) (e : BitVec 64) : Bool :=
  if eSplit e && eImage e then
    match s.block? (eMaddr e) with
    | some b => b.entries.any (fun x => i.named (eCh x) x)
    | none => false
  else i.named (eCh e) e

/-- A directory entry of the key index names the image (R259). -/
def State.dirNames (s : State) (i : Img) : Bool :=
  let hit (e : Nat × IdxEntry) : Bool := match e.2 with
    | .dir _ _ ch _ m _ _ => decide (ch = i.ch) && decide (m = i.maddr)
    | _ => false
  s.idx.table.any hit || s.idx.stash.any hit

/-- The image is referenced: by its span's entry, by a grain entry, by a directory entry, or by the old entry
in the descriptor of a slot that is not released yet (R159, R144). -/
def State.imgRef (s : State) (i : Img) : Bool :=
  s.entryNames i (s.spanEntry i.nsid i.span) || s.dirNames i ||
    s.ftl.slots.any (fun v => decide (v.nsid = i.nsid) && decide (v.span = i.span) &&
      (s.entryNames i v.old || v.oldGrains.any (fun g => i.named (eCh g.2) g.2)))

/-! ### Namespaces -/

def State.nsOf (s : State) (n : Nat) : Option Namespace := Sparse.get (fun _ => none) s.ns n

/-- Map segment of a span; of a grain block; partition of a segment (R150, R199). -/
def State.segOf (s : State) (n sp : Nat) : Nat := (((s.nsOf n).map (·.base)).getD 0 + sp) / 8192
def grainSeg (b : Nat) : Nat := 262144 + b / 128
def segPart (seg : Nat) : Nat := seg / 64 % 4096

/-- What one grain of a span reads from. -/
inductive Source where
  | zeros
  /-- bytes a slot holds -/
  | bytes (b : List Byte)
  /-- grain `g` of the span image named, or the grain image itself (`none`) -/
  | stored (ch maddr : Nat) (g : Option Nat)
deriving DecidableEq, Repr

/-- The source an entry that is in no slot gives (spec/06, resolve). -/
def sourceOf (ch g : Nat) (e : BitVec 64) (whole : Bool) : Source :=
  if !eImage e then .zeros else .stored ch (eMaddr e) (if whole then some g else none)

/-- Resolve grain `g` through a span entry that is not in a slot. -/
def State.resolveOld (s : State) (e : BitVec 64) (g : Nat) : Source :=
  if eSplit e && eImage e then
    match s.block? (eMaddr e) with
    | some b =>
      let x := nth 0 b.entries g
      sourceOf (eCh x) g x (eSplit x)
    | none => .zeros
  else sourceOf (eCh e) g e true

/-- Resolve grain `g` of a span: slot, grain entry, span entry (spec/06). -/
def State.resolve (s : State) (n sp g : Nat) : Source :=
  let e := s.spanEntry n sp
  let inSlot (i : Nat) (other : Source) : Source :=
    match s.slotAt i with
    | some v =>
      match v.grains.find? (fun x => decide (x.1 = g)) with
      | some x => .bytes x.2
      | none => other
    | none => other
  if eWbuf e then
    inSlot (eMaddr e) (match s.slotAt (eMaddr e) with
      | some v => s.resolveOld v.old g
      | none => .zeros)
  else if s.splintered n sp then
    let x := s.grainEntry n sp g
    if eWbuf x then
      inSlot (eMaddr x) (match s.slotAt (eMaddr x) with
        | some v =>
          match v.oldGrains.find? (fun y => decide (y.1 = g)) with
          | some y => sourceOf (eCh y.2) g y.2 (eSplit y.2)
          | none => .zeros
        | none => .zeros)
    else sourceOf (eCh x) g x (eSplit x)
  else s.resolveOld e g

end Sys2Proof.Machine
end

