-- ==== Sys2Proof/Machine/Pages.lean ====
section
/-!
DEFINITION. What a NAND page carries (R125 to R127, R188): its codewords with their parity, the page header with its BCH code,
and the randomizer.
-/

namespace Sys2Proof.Machine

/-! ### The randomizer (R126) -/

/-- One step of the generator x^23 + x^18 + 1: the bit that comes out is fed back (log 179). -/
def prbsBit (x : BitVec 23) : Bool := x.getLsbD 22 ^^ x.getLsbD 17
def prbsStep (x : BitVec 23) : BitVec 23 := (x <<< 1) ||| (if prbsBit x then 1 else 0)

/-- Eight output bits, the first the least significant, and the generator behind them. -/
def prbsByte : Nat → BitVec 23 → Nat × BitVec 23
  | 0, x => (0, x)
  | k + 1, x =>
    let r := prbsByte k (prbsStep x)
    (b2n (prbsBit x) + 2 * r.1, r.2)

def prbsBytes : Nat → BitVec 23 → List Byte
  | 0, _ => []
  | k + 1, x =>
    let r := prbsByte 8 x
    BitVec.ofNat 8 r.1 :: prbsBytes k r.2

/-- The seed of codeword `c` of a page, or of its header with c = 8. -/
def pageSeed (lun block pg c : Nat) : BitVec 23 :=
  let s : BitVec 32 := BitVec.ofNat 32 pg ^^^ (BitVec.ofNat 32 block <<< 9) ^^^ (BitVec.ofNat 32 c <<< 20) ^^^ (BitVec.ofNat 32 lun <<< 16)
  let t := s.setWidth 23
  if t = 0 then 1 else t

/-- Randomize, and de-randomize: both XOR with the generator's output. -/
def randomize (lun block pg c : Nat) (d : List Byte) : List Byte := xorBytes d (prbsBytes d.length (pageSeed lun block pg c))

/-! ### The page header (R188, Table 8-3) -/

def PageKind.code : PageKind → Nat
  | .data => 0
  | .parity => 1
  | .flush => 2
  | .summary => 3
  | .pad => 4

/-- Its 64 bytes. -/
def PageHdr.bytes (h : PageHdr) : List Byte :=
  let b := leBytes 2 0x5A3C ++ leBytes 1 h.kind.code ++ leBytes 1 (b2n h.slc + b2n h.second * 2 + b2n h.lastFlush * 4) ++
    leBytes 8 h.pseq ++ leBytes 4 h.stripe ++ leBytes 1 h.slot ++ leBytes 1 h.stream ++ leBytes 1 h.rcw ++ [0] ++
    leBytes 4 h.super ++ leBytes 4 h.wear ++ leBytes 8 h.ckptSeq ++ List.replicate 24 0
  b ++ leBytes 4 (crc32c b).toNat

/-! ### The page (R125, Table 5-9) -/

/-- The bytes of a page on the media: codewords of 4,096 data bytes, the header, the fill of the rest of the spare. -/
def pageRaw (lun block pg : Nat) (cws : List (List Byte)) (hdr fill : List Byte) : List Byte :=
  ((cws.zipIdx).map (fun e => randomize lun block pg e.2 (e.1 ++ Config.ldpc e.1))).flatten ++
    randomize lun block pg 8 (hdr ++ Config.bch hdr) ++ fill

/-- The data bytes of its `n` codewords, de-randomized. -/
def pageData (lun block pg n : Nat) (raw : List Byte) : List Byte :=
  ((List.range n).map (fun c => (randomize lun block pg c (slice raw (4608 * c) 4608)).take 4096)).flatten

/-- The header of a page, de-randomized. -/
def pageHead (lun block pg n : Nat) (raw : List Byte) : List Byte := (randomize lun block pg 8 (slice raw (4608 * n) 80)).take 64

/-- Bytes replaced from `at_` on. -/
def splice (l : List Byte) (at_ : Nat) (v : List Byte) : List Byte := l.take at_ ++ v ++ l.drop (at_ + v.length)

/-- The XOR of pages of `n` data bytes (R129); a page that is missing counts as zeros. -/
def xorPages (n : Nat) (l : List (List Byte)) : List Byte := l.foldl (fun a p => xorBytes a p) (List.replicate n 0)

end Sys2Proof.Machine
end

