-- ==== Sys2Proof/Machine/Media.lean ====
section
/-!
DEFINITION. The NAND channels (spec/05) and the block rows they hold (spec/07): addresses, LUN queues, the
sequencer's epoch, suspension, timeouts, calibration, rows, retirement, spares and health.
-/

namespace Sys2Proof.Machine

/-! ### Channels, LUNs, profiles -/

/-- LUN number device-wide (R109). -/
def lunKey (ch l : Nat) : Nat := 64 * ch + l

def State.lun (s : State) (ch l : Nat) : Lun := Sparse.get (fun _ => {}) s.luns (lunKey ch l)

def State.setLun (s : State) (ch l : Nat) (v : Lun) : State :=
  { s with luns := Sparse.set (fun _ => {}) s.luns (lunKey ch l) v }

def State.chan (s : State) (ch : Nat) : Chan := nth {} s.chans ch

def State.setChan (s : State) (ch : Nat) (v : Chan) : State := { s with chans := setNth v s.chans ch }

/-- The profile a channel uses (R115). -/
def State.profile? (s : State) (ch : Nat) : Option Profile :=
  match (s.chan ch).profile with
  | some i => s.profiles[i]?
  | none => none

/-- The channels 0 to 31. -/
def channels : List Nat := List.range 32

/-- LUNs of the channel that State lists (an unlisted one is ABSENT), those in one state, those used: not ABSENT (R112). -/
def State.lunsOn (s : State) (ch : Nat) : List Nat := (s.luns.filter (fun e => decide (e.1 / 64 = ch))).map (fun e => e.1 % 64)

def State.lunsIn (s : State) (ch : Nat) (st : LunState) : List Nat :=
  (s.lunsOn ch).filter (fun l => decide ((s.lun ch l).state = st))

def State.usedOn (s : State) (ch : Nat) : List Nat := (s.lunsOn ch).filter (fun l => decide ((s.lun ch l).state ≠ .absent))

/-- ACTIVE LUNs of the channel. -/
def State.activeLuns (s : State) (ch : Nat) : List Nat := s.lunsIn ch .active

/-- Bit `ch` of GLB_CH_PRESENT: at least one ACTIVE LUN (R130, MED_CH_STAT.UP). -/
def State.present (s : State) (ch : Nat) : Bool := !(s.activeLuns ch).isEmpty

/-- Channels present. -/
def State.presentCount (s : State) : Nat := (channels.filter s.present).length

/-- Die parity is active with at least 17 channels (R129, MED_DP_STAT.ACTIVE). -/
def State.dieParity (s : State) : Bool := decide (17 ≤ s.presentCount)

/-- Set a MED_ERR bit and capture an event of kind `kind` (Table 5-13). -/
def State.medRaise (s : State) (ch bit kind l block : Nat) : State :=
  s.raiseAt (Reg.MED_ERR ch) bit (Reg.MED_ERR_LOC ch) (kind * 2 ^ 28 + l * 2 ^ 22 + block % 2 ^ 22)

/-! ### Media addresses (R134, Table 6-2) -/

/-- Units of a block row in a mode. -/
def Profile.rowUnits (p : Profile) (slc : Bool) : Nat :=
  (if slc then p.pagesSlc else p.pagesNative) * p.planes * p.cwPerPage * 8

/-- The media address of unit `u` of a block row: sector, codeword, plane, page in rising order. -/
def Profile.maddr (p : Profile) (l block u : Nat) : Nat :=
  let cw := u / 8 % p.cwPerPage
  let plane := u / (8 * p.cwPerPage) % p.planes
  let page := u / (8 * p.cwPerPage * p.planes)
  l * 2 ^ 37 + block * 2 ^ 21 + page * 2 ^ 9 + plane * 2 ^ 6 + cw * 2 ^ 3 + u % 8

/-- The unit of a block row that a media address names. -/
def Profile.unit (p : Profile) (m : Nat) : Nat :=
  ((bits m 20 9 * p.planes + bits m 8 6) * p.cwPerPage + bits m 5 3) * 8 + bits m 2 0

/-- Codewords that `len` units from unit `u` touch. -/
def cwsOf (u len : Nat) : Nat := (u + len - 1) / 8 - u / 8 + 1

/-- Multi-plane pages that `len` units from unit `u` touch. -/
def Profile.pagesOf (p : Profile) (u len : Nat) : Nat :=
  let w := 8 * p.cwPerPage * p.planes
  (u + len - 1) / w - u / w + 1

/-- Units of a page, of a multi-plane page; the pages, plane by plane, that `len` units from unit `u` touch (R129, R134). -/
def Profile.pageUnits (p : Profile) : Nat := 8 * p.cwPerPage
def Profile.wordUnits (p : Profile) : Nat := 8 * p.cwPerPage * p.planes

def Profile.pagesTouched (p : Profile) (u len : Nat) : List Nat :=
  (List.range ((u + len - 1) / p.pageUnits - u / p.pageUnits + 1)).map (fun i => u / p.pageUnits + i)

/-- Units of a block row that images, parity and records may take: its last multi-plane page becomes the summary page. -/
def Profile.room (p : Profile) (slc : Bool) : Nat := p.rowUnits slc - p.wordUnits

/-- Units that `bytes` take. -/
def unitsOf (bytes : Nat) : Nat := cdiv bytes 512

/-! ### Block rows (R134, R159) -/

def rowKey (ch l block : Nat) : Nat := lunKey ch l * 65536 + block

def State.row (s : State) (ch l block : Nat) : Row := Sparse.get (fun _ => {}) s.ftl.rows (rowKey ch l block)

def State.setRow (s : State) (ch l block : Nat) (r : Row) : State :=
  s.setFtl { s.ftl with rows := Sparse.set (fun _ => {}) s.ftl.rows (rowKey ch l block) r }

def keyCh (k : Nat) : Nat := k / 65536 / 64
def keyLun (k : Nat) : Nat := k / 65536 % 64
def keyBlock (k : Nat) : Nat := k % 65536

/-- Rows of a channel with their LUN and block. -/
def State.rowsOf (s : State) (ch : Nat) : List (Nat × Row) := s.ftl.rows.filter (fun e => decide (keyCh e.1 = ch))

/-- Wear cycles of a row (R173). -/
def wearCycles (p : Profile) (r : Row) : Nat := r.nativeErases + cdiv (r.slcErases * p.peNative) p.peSlc

def State.wear (s : State) (ch : Nat) (r : Row) : Nat :=
  match s.profile? ch with
  | some p => wearCycles p r
  | none => r.nativeErases

/-- A row not retired, not marked and not factory bad. -/
def Row.good (r : Row) : Bool := decide (r.state ≠ .bad) && decide (r.state ≠ .retired) && !r.marked

/-- FTL_GOOD_ROWS (R175). -/
def State.goodRows (s : State) : Nat := s.ftl.fmtRows - s.ftl.retired

/-- FTL_PINNED. -/
def State.pinnedRows (s : State) : Nat := (s.ftl.rows.filter (fun e => e.2.pinned)).length

/-- Set a FTL_CARE_ERR bit with its place (Table 7-10). -/
def State.careRaise (s : State) (bit ch l block : Nat) : State :=
  s.raiseAt Reg.FTL_CARE_ERR bit Reg.FTL_CARE_ERR_LOC (bit * 2 ^ 28 + ch * 2 ^ 23 + l * 2 ^ 17 + block)

/-! ### Spares and health (R175, R176) -/

/-- Metadata bytes of an LBA format (Table 4-2). -/
def metaSize (lbaf : Nat) : Nat := if lbaf = 1 then 8 else if lbaf = 2 then 16 else if lbaf = 3 then 64 else 0

/-- NCAP in 4 KiB units. -/
def Namespace.ncap (n : Namespace) : Nat :=
  match n.kind with
  | .nvm => n.cap
  | .kv => n.cap
  | _ => 0

/-- The namespaces and their numbers. -/
def State.spaces (s : State) : List (Nat × Namespace) := s.ns.filterMap (fun e => e.2.map (fun n => (e.1, n)))

/-- Grain blocks that the pool in force holds: 512 bytes each. -/
def State.grainCap (s : State) : Nat := s.ftl.grainGib * 2 ^ 30 / 512

/-- Units that namespaces of these kinds could need at worst. -/
def spareUnits (cap : Nat) (l : List Namespace) : Nat :=
  (l.map (fun n => cdiv n.ncap 64 * cdiv (262160 + 64 * metaSize n.lbaf) 512)).sum + cap * 64 * 9

/-- Units of a native block row of the first channel with a profile. -/
def State.nativeRowUnits (s : State) : Nat :=
  match channels.findSome? s.profile? with
  | some p => p.rowUnits false
  | none => 1

/-- FTL_REQ_ROWS with a list of namespaces (R175). -/
def State.reqRows (s : State) (l : List Namespace) : Nat :=
  cdiv (spareUnits s.grainCap l) (max 1 s.nativeRowUnits) +
    cdiv (s.ftl.totalRows * s.fieldNow Reg.FTL_SHELF_CFG 6 0) 1000 +
    s.fieldNow Reg.FTL_GC_CTL 31 24 * s.ftl.fmtLuns

/-- AVAIL with a list of namespaces (R175). -/
def State.availOf (s : State) (l : List Namespace) : Nat :=
  let req := s.reqRows l
  if s.goodRows ≤ req || s.ftl.fmtRows ≤ req then 0
  else 100 * (s.goodRows - req) / (s.ftl.fmtRows - req)

def State.avail (s : State) : Nat := s.availOf (s.spaces.map (·.2))

/-- Row keys that hold a referenced unit: those of images that a committed entry or a slot's old entry names. -/
def State.usedRows (s : State) : Nat :=
  (s.ftl.rows.filter (fun e =>
    s.ftl.imgs.any (fun i => i.inRow (keyCh e.1) (keyLun e.1) (keyBlock e.1) && s.imgRef i))).length

/-- ACTIVE LUNs of the device. -/
def State.activeTotal (s : State) : Nat := (channels.map (fun c => (s.activeLuns c).length)).sum

/-- MEDIA_HEALTH by R176; FAILED is never left. With SPARE_MIN above SPARE_LOW, READ_ONLY wins where AVAIL lies between them (log
203). -/
def State.healthNow (s : State) : Health :=
  let low := s.fieldNow Reg.FTL_SPARE_CFG 15 8
  let least := s.fieldNow Reg.FTL_SPARE_CFG 7 0
  if decide (s.health = .failed) || decide (s.presentCount = 0) ||
      decide (s.goodRows < s.usedRows + s.fieldNow Reg.FTL_GC_CTL 31 24 * s.activeTotal) then .failed
  else if s.avail < least then .readOnly
  else if s.avail < low then .degraded
  else .normal

/-- Recompute AVAIL and MEDIA_HEALTH: a change sets HEALTH_CHANGED (R176). -/
def State.recompute (s : State) : State :=
  let h := s.healthNow
  if h = s.health then s else { s with health := h }.careRaise 4 0 0 0

/-! ### Pages on the media (R125, R126, R129, R188) -/

/-- Key of a page. -/
def PageAt.key (a : PageAt) : Nat := rowKey a.ch a.lun a.block * 32768 + a.page

/-- Codewords and planes of a channel's pages. -/
def State.cwOf (s : State) (ch : Nat) : Nat := match s.profile? ch with
  | some p => p.cwPerPage
  | none => 1

def State.planesOf (s : State) (ch : Nat) : Nat := match s.profile? ch with
  | some p => max 1 p.planes
  | none => 1

/-- The data bytes of a page as they stand after LDPC decode; of a page that is not programmed, zeros. -/
def State.pageOf (s : State) (a : PageAt) : List Byte :=
  let raw := Sparse.get (fun _ => []) s.nand a.key
  let n := s.cwOf a.ch
  if raw.isEmpty then List.replicate (4096 * n) 0 else pageData a.lun a.block (a.page / s.planesOf a.ch) n raw

/-- The header that a page of the row gets: the row's superblock and wear, the newest complete checkpoint. -/
def State.pageHdr (s : State) (a : PageAt) (kind : PageKind) (stripe slot stream rcw : Nat) : PageHdr :=
  let r := s.row a.ch a.lun a.block
  { kind := kind, slc := r.slc, pseq := s.ftl.pseq, stripe := stripe, slot := slot, stream := stream, rcw := rcw
    super := r.superblock, wear := s.wear a.ch r, ckptSeq := s.chest.ckptDone
    second := !r.slc && (match s.profile? a.ch with
      | some p => decide (p.passes = 2)
      | none => false) }

/-- A page is programmed: codewords, header, a fill of the rest of the spare (a free value). -/
def State.programPage (s : State) (a : PageAt) (h : PageHdr) (data : List Byte) : State :=
  let n := s.cwOf a.ch
  let fill := freeBytes s.free (match s.profile? a.ch with
    | some p => p.spare - 80
    | none => 0)
  let raw := pageRaw a.lun a.block (a.page / s.planesOf a.ch) ((List.range n).map (fun c => slice data (4096 * c) 4096)) h.bytes fill
  let t : State := { s with nand := Sparse.set (fun _ => []) s.nand a.key raw }
  (t.setFtl { t.ftl with pseq := t.ftl.pseq + 1 }).tick

/-- The pages of an erased row are gone. -/
def State.erasePages (s : State) (ch l block : Nat) : State :=
  { s with nand := s.nand.filter (fun e => decide (e.1 / 32768 ≠ rowKey ch l block)) }

/-- The tweak of unit `u` of an image (R136); a directory image counts as grain 0 (log 183). -/
def Img.tweak (i : Img) (u : Nat) : BitVec 128 :=
  BitVec.ofNat 128 (i.span % 2 ^ 64 + u % 2 ^ 10 * 2 ^ 64 + (match i.grain with
    | some g => g % 64 * 2 ^ 74 + 2 ^ 80
    | none => 0))

/-- The media key of a namespace generation: data key and tweak key (R325). -/
def State.imgKey (s : State) (i : Img) : List Byte :=
  Config.mediaKey (((Sparse.get (fun _ => none) s.ns i.nsid).map (·.serial)).getD 0) i.keyGen

/-- The units of an image as the media carry them: zeros behind the stored image up to the end of its last unit, each unit
encrypted (R135, R136). -/
def State.imgUnits (s : State) (i : Img) : List (List Byte) :=
  let k := s.imgKey i
  (List.range i.len).map (fun u =>
    xtsUnit true (k.take 32) (k.drop 32) (i.tweak u) ((slice i.bytes (512 * u) 512 ++ List.replicate 512 0).take 512))

/-- The first `n` pages that an image touches are programmed: each takes its units, under a header that `h` gives its kind. -/
def State.programPages (s : State) (i : Img) (stream n : Nat) (h : PageAt → PageHdr → PageHdr) : State :=
  match s.profile? i.ch with
  | none => s
  | some p =>
    let l := bits i.maddr 42 37
    let b := bits i.maddr 36 21
    let u0 := p.unit i.maddr
    let enc := (s.imgUnits i).flatten
    ((p.pagesTouched u0 i.len).take n).foldl (fun t g =>
      let a : PageAt := ⟨i.ch, l, b, g⟩
      let lo := g * p.pageUnits
      let v := (enc.drop (512 * (lo - u0))).take (512 * (lo + p.pageUnits - max lo u0))
      let st := t.ftl.stripes.find? (fun x => x.pages.contains a)
      let r := t.row i.ch l b
      let rcw := ((r.rcw.filter (fun c => decide (c / p.cwPerPage = g))).map (fun c => 2 ^ (c % p.cwPerPage))).sum
      t.programPage a (h a (t.pageHdr a .data ((st.map (·.id)).getD 0) ((st.map (fun x => x.pages.idxOf a)).getD 0) stream rcw))
        (splice (t.pageOf a) (512 * (u0 - lo)) v)) s

def State.programImage (s : State) (i : Img) (stream n : Nat) : State := s.programPages i stream n (fun _ h => h)

/-! ### LUN queues (R120, R121, R165) -/

/-- Internal reads and programs share four places of a LUN's queue (Table 5-6, R165). -/
def LunOp.internal (o : LunOp) : Bool := decide (o.cls = 2) || decide (o.cls = 4)

def Lun.places (u : Lun) : Nat := (u.queue.filter LunOp.internal).length

/-- The work of the lowest rank of Table 7-3, the earliest among equals. -/
def topReady : List LunOp → Option LunOp
  | [] => none
  | o :: t => match topReady t with
    | none => some o
    | some x => if x.rank < o.rank then some x else some o

/-- Internal work takes the free places. -/
def Lun.fill (now : Nat) : Nat → Lun → Lun
  | 0, u => u
  | k + 1, u =>
    if 4 ≤ u.places then u
    else match topReady u.ready with
      | none => u
      | some o => Lun.fill now k { u with queue := u.queue ++ [{ o with arrival := now }], ready := u.ready.erase o }

/-- Put an operation at the end of a LUN's queue, or, while the places are taken, with the work that waits for one. -/
def State.enqueue (s : State) (ch l : Nat) (o : LunOp) : State :=
  let u := s.lun ch l
  let o1 := { o with id := s.ftl.nextOp, arrival := s.beat }
  let t := s.setLun ch l
    (if o.internal then Lun.fill s.beat 4 { u with ready := u.ready ++ [o1] } else { u with queue := u.queue ++ [o1] })
  t.setFtl { t.ftl with nextOp := t.ftl.nextOp + 1 }

/-- Typical time of entry `i` of Table 5-3, ns. -/
def State.typNs (s : State) (ch i : Nat) : Nat :=
  match s.profile? ch with
  | some p => nth 0 p.typ i
  | none => 0

/-- Entry of Table 5-3 for an array operation. -/
def LunOp.entry (o : LunOp) : Nat :=
  match o.kind with
  | .read => if o.slc then 0 else 1
  | .program => if o.slc then 2 else 3
  | .erase => 4

/-- Transfer time of a read's codewords, ns: 4,608 bytes each at one byte per transfer. -/
def State.xferNs (s : State) (ch : Nat) (o : LunOp) : Nat :=
  if (s.chan ch).rate = 0 then 0 else o.cw * 4608 * 1000 / (s.chan ch).rate

/-- Suspends that the profile and R121 allow. -/
def suspLimit (p : Profile) (o : LunOp) : Nat :=
  match o.kind with
  | .program => min 4 p.psuspMax
  | .erase => min 8 p.esuspMax
  | .read => 0

/-- Reads of class 1 or 2 that wait on a LUN, in arrival order. -/
def Lun.waitingReads (l : Lun) : List LunOp := l.queue.filter (fun o => decide (o.kind = .read))

/-- The oldest waiting read. -/
def Lun.oldestRead (l : Lun) : Option LunOp := l.waitingReads.head?

/-- Projected age of read `r` at its completion while `o` runs, as the u32 arithmetic of R122 gives it, µs: time past the
typical one counts down. -/
def State.projected (s : State) (ch : Nat) (o r : LunOp) : Nat :=
  let us (ns : Nat) : Nat := ns / 1000
  let remain := us (s.typNs ch o.entry) + 2 ^ 32 - us (o.ran * 2048) % 2 ^ 32
  (us ((s.beat - r.arrival) * 2048) + remain + us (s.typNs ch r.entry) + us (s.xferNs ch r)) % 2 ^ 32

/-- MED_RD_TARGET in force, µs. -/
def State.readTarget (s : State) (ch : Nat) : Nat := s.fieldNow (Reg.MED_RD_TARGET ch) 16 0

/-- Count a suspend in MED_SUSP_CNT. -/
def State.countSuspend (s : State) (ch : Nat) (o : LunOp) : State :=
  match o.kind with
  | .erase => s.count (Reg.MED_SUSP_CNT ch) 31 16 1
  | _ => s.count (Reg.MED_SUSP_CNT ch) 15 0 1

/-- PWR_FAIL_N is recognised: the sequencer is in flush mode (R124). In HALTED the device stays quiesced (Table 8-4). -/
def State.flushMode (s : State) : Bool := s.pwr.pwrFailLow || decide (s.dev = .halted)

/-- Mark the oldest waiting read as one that could not suspend. -/
def markLimited : List LunOp → List LunOp
  | [] => []
  | o :: t => if o.kind = .read then { o with limited := true } :: t else o :: markLimited t

/-- The suspend test of one LUN at an epoch (R122). -/
def State.suspendTest (s : State) (ch l : Nat) : State :=
  let u := s.lun ch l
  match u.op, u.oldestRead, s.profile? ch with
  | some o, some r, some p =>
    if o.kind = .read || o.suspended || o.suspReq || s.flushMode then s
    else if s.projected ch o r ≤ s.readTarget ch then s
    else if suspLimit p o ≤ o.suspends then s.setLun ch l { u with queue := markLimited u.queue }
    else if p.resumeMin * 1000 ≤ o.ranSince * 2048 then
      (s.setLun ch l { u with op := some { o with suspReq := true, suspends := o.suspends + 1 } }).countSuspend ch o
    else s
  | _, _, _ => s

/-- Resume at an epoch: no read waits, or RD_BURST reads have been served; in flush mode a program resumes
and an erase stays suspended (R122, R124). -/
def State.resumeTest (s : State) (ch l : Nat) : State :=
  let u := s.lun ch l
  match u.op, s.profile? ch with
  | some o, some p =>
    let go := if s.flushMode then decide (o.kind = .program)
      else u.waitingReads.isEmpty || decide (p.rdBurst ≤ o.served)
    if o.suspended && u.rd.isNone && go then
      s.setLun ch l { u with op := some { o with suspended := false, ranSince := 0, served := 0 } }
    else s
  | _, _ => s

/-- The Strand that a read serves asserts back-pressure (R122): that of the page it rebuilds, else the channel's own. -/
def State.heldBack (s : State) (ch : Nat) (o : LunOp) : Bool :=
  let home := match o.use with
    | .rebuild _ h => h
    | _ => ch
  decide (o.cls = 1) && (Sparse.get (fun _ => {}) s.strands home).bp

/-- Nothing more will be written to a page: its units are all given away, or its row takes no more; and no program that waits
or runs on its LUN touches it. -/
def State.pageFull (s : State) (a : PageAt) : Bool :=
  let r := s.row a.ch a.lun a.block
  let u := s.lun a.ch a.lun
  match s.profile? a.ch with
  | some p =>
    (decide (r.state ≠ .opened) || r.closing || decide ((a.page + 1) * p.pageUnits ≤ r.written)) &&
      !((u.op.toList ++ u.rd.toList ++ u.queue ++ u.ready).any (fun o =>
        decide (o.kind = .program) && o.parity.isNone && decide (o.block = a.block) &&
          (p.pagesTouched (p.unit o.maddr) o.units).contains a.page))
  | none => true

/-- A parity page is programmed once the data pages of its stripe are (R129). -/
def State.parityReady (s : State) (o : LunOp) : Bool :=
  match o.parity with
  | some id => match s.ftl.stripes.find? (fun x => decide (x.id = id)) with
    | some v => v.pages.all s.pageFull
    | none => true
  | none => true

/-- The operation may start now (R120 to R124): the LUN is ACTIVE and free for it, the channel does not calibrate, flush mode
admits class 0 only, back-pressure holds back class 1 reads, an operation of an instance's commands needs MTOK > 0 (R70), a
row marked for retirement takes no program (R174), and a parity page waits for the data pages of its stripe. -/
def State.mayStart (s : State) (ch l : Nat) (o : LunOp) : Bool :=
  let u := s.lun ch l
  decide (u.state = .active) && !(s.chan ch).cal && (!s.flushMode || decide (o.cls = 0)) && !s.heldBack ch o &&
    (o.tag.isNone || decide (0 < (s.inst o.inst).mtok)) &&
    !(decide (o.kind = .program) && (s.row ch l o.block).marked) && s.parityReady o &&
    (match u.op with
      | none => true
      | some p => p.suspended && decide (o.kind = .read) && u.rd.isNone &&
          (match s.profile? ch with
            | some pr => decide (p.served < pr.rdBurst)
            | none => false))

/-- Charge an instance for codewords that move on the bus (R70). -/
def State.charge (s : State) (o : LunOp) (n : Nat) : State :=
  match o.tag with
  | none => s
  | some _ =>
    let i := s.inst o.inst
    s.setInst o.inst { i with mtok := i.mtok - 65536 * (n : Int), charged := i.charged + n }

/-- Page read commands count in the row's read counter, which saturates (R169). -/
def State.countReads (s : State) (ch l block n : Nat) : State :=
  let r := s.row ch l block
  s.setRow ch l block { r with reads := min (r.reads + n) 0xFFFFFF }

/-- Start an operation of the LUN's queue if it may start: one command of the epoch's plan. -/
def State.startOp (s : State) (ch l id : Nat) : State :=
  let u := s.lun ch l
  match u.queue.find? (fun o => decide (o.id = id)) with
  | none => s
  | some o =>
    if s.mayStart ch l o then
      let o1 := { o with limit := beatsOfMs (s.fieldNow (Reg.MED_OP_TIMEOUT ch) 9 0), ran := 0, ranSince := 0 }
      let w := Lun.fill s.beat 4 { u with queue := u.queue.filter (fun x => decide (x.id ≠ id)) }
      let t := match u.op with
        | none => s.setLun ch l { w with op := some o1 }
        | some p => s.setLun ch l { w with op := some { p with served := p.served + 1 }, rd := some o1 }
      match o.kind with
      | .read => t.countReads ch l o.block o.pages
      | _ => t
    else s

/-- One beat of the operations that run (R122, R123). -/
def LunOp.beat (o : LunOp) : LunOp :=
  if o.suspended then o else { o with ran := o.ran + 1, ranSince := o.ranSince + 1 }

def Lun.beat (u : Lun) : Lun := { u with op := u.op.map LunOp.beat, rd := u.rd.map LunOp.beat }

/-- Every LUN's running time counts. -/
def State.lunBeats (s : State) : State := { s with luns := Sparse.mapVal (fun _ => {}) (fun _ u => u.beat) s.luns }

/-- Apply `f` to every LUN that State lists. -/
def State.eachLun (s : State) (f : State → Nat → Nat → State) : State :=
  s.luns.foldl (fun t e => f t (e.1 / 64) (e.1 % 64)) s

/-- Channels whose Strand asserts back-pressure count the epoch (R221). -/
def State.countBp (s : State) : State :=
  channels.foldl (fun t ch => if (Sparse.get (fun _ => {}) t.strands ch).bp then t.bump (Reg.MED_BP_CNT ch) else t) s

/-! ### The order of an epoch (R70, R120, R168) -/

/-- Instance `a` has the larger bucket relative to its share (R70). -/
def State.richer (s : State) (a b : Nat) : Bool :=
  decide ((s.inst b).mtok * ((s.inst a).shareNow : Int) < (s.inst a).mtok * ((s.inst b).shareNow : Int))

/-- Arrival order. -/
def LunOp.earlier (a b : LunOp) : Bool :=
  decide (a.arrival < b.arrival) || (decide (a.arrival = b.arrival) && decide (a.id ≤ b.id))

/-- Class order; within class 1 the token order of R70, then arrival. -/
def State.precedes (s : State) (a b : LunOp) : Bool :=
  if a.cls ≠ b.cls then decide (a.cls < b.cls)
  else if decide (a.cls = 1) && (s.richer a.inst b.inst || s.richer b.inst a.inst) then s.richer a.inst b.inst
  else a.earlier b

/-- Put an element into an ordered list, before the first that it precedes; and order a list. -/
def insertBy {α : Type} (le : α → α → Bool) (a : α) : List α → List α
  | [] => [a]
  | b :: t => if le a b then a :: b :: t else b :: insertBy le a t

def sortBy {α : Type} (le : α → α → Bool) : List α → List α
  | [] => []
  | a :: t => insertBy le a (sortBy le t)

/-- The first of a list that `ns` of bus time reach. -/
def State.within (s : State) (ch : Nat) : Nat → List (Nat × LunOp) → List (Nat × LunOp)
  | _, [] => []
  | ns, e :: t => if ns = 0 then [] else e :: State.within s ch (ns - s.xferNs ch e.2) t

/-- INT_MIN in force: on an urgent channel as if it were 8 (R168). -/
def State.intMin (s : State) (ch : Nat) : Nat :=
  if (s.chan ch).urgent then 8 else s.fieldNow (Reg.MED_SCHED ch) 3 0

/-- Operations of a channel in the order of R120: the reserves of INT_MIN and PGM_MIN sixteenths of the epoch's bus time, then
class order. A suspension serves reads in class and arrival order alone (R122). -/
def State.epochOrder (s : State) (ch : Nat) : List (Nat × LunOp) :=
  let all := (s.lunsOn ch).flatMap (fun l => ((s.lun ch l).queue.filter (s.mayStart ch l)).map (fun o => (l, o)))
  let free (e : Nat × LunOp) : Bool := (s.lun ch e.1).op.isNone
  let ints := s.within ch (s.intMin ch * 128)
    (sortBy (fun a b => a.2.earlier b.2) (all.filter (fun e => free e && e.2.internal)))
  let pgms := s.within ch (s.fieldNow (Reg.MED_SCHED ch) 7 4 * 128)
    (sortBy (fun a b => a.2.earlier b.2) (all.filter (fun e => free e && decide (e.2.cls = 3))))
  ints ++ pgms ++ sortBy (fun a b => s.precedes a.2 b.2) (all.filter (fun e => !(ints ++ pgms).contains e))

/-- The operation that the order puts first on each LUN. -/
def firstOn : List (Nat × LunOp) → List (Nat × LunOp)
  | [] => []
  | e :: t => e :: (firstOn t).filter (fun x => decide (x.1 ≠ e.1))

/-- The starts of one channel: of what comes first on its LUN, those that the bus carries in this epoch. -/
def State.epochOn (s : State) (plan : List (Nat × Nat × Nat)) (ch : Nat) : State :=
  (firstOn (s.epochOrder ch)).foldl (fun u e =>
    if plan.contains (ch, e.1, e.2.id) then u.startOp ch e.1 e.2.id else u) s

/-- Order 7 of Table 1-5: an epoch opens. Suspends and resumes follow R122. `plan` names the operations whose transfers fit in
the epoch; of those ready on a LUN only the one that R120 puts first may start. -/
def State.epoch (s : State) (plan : List (Nat × Nat × Nat)) : State :=
  let t := ((s.lunBeats.eachLun State.suspendTest).eachLun State.resumeTest).countBp
  if plan.isEmpty then t else channels.foldl (fun u ch => u.epochOn plan ch) t

/-- NAND_SUSPEND_COMPLETE: after the suspend latency the LUN serves reads (R122). -/
def execNandSuspendComplete (ch lun : Nat) (s : State) : Result :=
  .next (
    let u := s.lun ch lun
    match u.op with
    | some o =>
      if o.suspReq then
        s.setLun ch lun { u with op := some { o with suspReq := false, suspended := true, served := 0 } }
      else s
    | none => s)

/-- NAND_RB_FALL: a hint to poll; it has no effect on what the sequencer does (R110). -/
def execNandRbFall (ch line : Nat) (s : State) : Result :=
  .next (if decide (ch < 32) && decide (line < 4) then s else s)

/-! ### Retirement (R174) -/

/-- Count an item of a list of counters. -/
def bumpAt (l : List Nat) (i : Nat) : List Nat := setNth (nth 0 l i + 1) l i

/-- The summary page of a row that closes: its last multi-plane page (log 184). -/
def State.writeSummary (s : State) (ch l block stream : Nat) : State :=
  match s.profile? ch with
  | some p =>
    let r := s.row ch l block
    (List.range p.planes).foldl (fun t i =>
      let a : PageAt := ⟨ch, l, block, p.room r.slc / p.pageUnits + i⟩
      t.programPage a (t.pageHdr a .summary 0 0 stream 0) (freeBytes t.free (4096 * p.cwPerPage))) s
  | none => s

/-- An open row takes no more images: pad units fill it and its last page is its summary; it is closed when its ROW record is
committed (R134, R184). A row to be retired gets no further page. -/
def State.fillRow (s : State) (ch l block : Nat) (summary : Bool) : State :=
  let r := s.row ch l block
  let n := match s.profile? ch with
    | some p => p.rowUnits r.slc
    | none => r.written
  let t := if summary then s.writeSummary ch l block (r.stream % 16) else s
  t.setRow ch l block { r with
    closing := true, written := n, recs := 0
    extra := r.extra + match s.profile? ch with
      | some p => p.wordUnits
      | none => 0 }

def State.closeRow (s : State) (ch l block : Nat) : State :=
  let r := s.row ch l block
  if r.state = .opened ∧ !r.closing then (s.fillRow ch l block true).issue (.row ch l block .close) else s

/-- Mark a row for retirement for cause `cause` of Table 7-4: from now on no image enters it; the mark is in its ROW record. -/
def State.retire (s : State) (ch l block cause : Nat) : State :=
  let r := s.row ch l block
  let asked := s.chest.pending.any (fun x => match x.change with
    | .row c m b (.retire _) => decide ((c, m, b) = (ch, l, block))
    | _ => false)
  if r.marked || asked || decide (r.state = .retired) || decide (r.state = .bad) then s
  else
    let t := if r.state = .opened ∧ !r.closing then s.fillRow ch l block false else s.setRow ch l block { r with closing := true }
    t.issue (.row ch l block (.retire cause))

/-- A ROW record is committed. A marked row is closed at once; one whose erase failed, that is free, or whose LUN has failed
leaves the pool (R174). -/
def State.commitRow (s : State) (ch l block : Nat) : RowChange → State
  | .close =>
    let r := s.row ch l block
    if r.state = .opened then s.setRow ch l block { r with state := .closed, closing := false, closeBeat := s.beat } else s
  | .pin =>
    let r := s.row ch l block
    (if r.pinned then s else s.setRow ch l block { r with pinned := true }).careRaise 1 ch l block
  | .unpin => s.setRow ch l block { s.row ch l block with pinned := false }
  | .release => s.setRow ch l block { s.row ch l block with state := .retired, gateWait := false }
  | .retire cause =>
    let r := s.row ch l block
    if r.marked then s
    else
      let out := decide (cause < 2) || decide (cause = 4) || decide (r.state = .free) || decide (r.state = .suspect)
      let t := s.setRow ch l block { r with
        marked := true, candidate := false, closing := false, gateWait := false
        state := if out then .retired else if r.state = .opened then .closed else r.state
        closeBeat := if r.state = .opened then s.beat else r.closeBeat }
      ((t.setFtl { t.ftl with retired := t.ftl.retired + 1, retCause := bumpAt t.ftl.retCause cause }).careRaise
        2 ch l block).recompute

/-! ### Refresh candidates (R169, R170) -/

/-- Queue a row once: `cause` (0 read disturb, 1 step 2 or FLIP_REFRESH, 2 soft decode, 3 patrol) counts in bytes 112–127 of log
page 0xD2, which count the candidates ever queued (log 180). -/
def State.candidate (s : State) (ch l block cause : Nat) : State :=
  let r := s.row ch l block
  if r.candidate then (if cause = 2 then s.setRow ch l block { r with soft := true } else s)
  else if decide (r.state = .free) || decide (r.state = .bad) || decide (r.state = .retired) ||
      decide (r.state = .suspect) || r.marked then s
  else
    let t := (s.setRow ch l block { r with candidate := true, soft := decide (cause = 2) }).closeRow ch l block
    t.setFtl { t.ftl with candCause := bumpAt t.ftl.candCause cause }

/-- The read-disturb limit of a row (R169). -/
def State.readLimit (s : State) (ch : Nat) (r : Row) : Nat :=
  match s.profile? ch with
  | some p => (if r.slc then p.rdSlc else p.rdNative) * s.fieldNow Reg.FTL_RD_SCALE 4 0 / 16
  | none => 0xFFFFFF

/-- A row whose counter has reached its limit becomes a candidate. -/
def State.disturbTest (s : State) (ch l block : Nat) : State :=
  let r := s.row ch l block
  if s.readLimit ch r ≤ r.reads then s.candidate ch l block 0 else s

/-! ### LUN failure and reset (Table 5-8, R113, R131) -/

/-- A running or queued operation that a LUN reset or failure meets: a program goes back to its source, an
erase leaves its row SUSPECT. -/
def State.abandonErase (s : State) (ch l : Nat) (o : LunOp) : State :=
  match o.kind with
  | .erase =>
    let r := s.row ch l o.block
    (s.setRow ch l o.block { r with state := .suspect, eraseOpen := true }).medRaise ch 0 5 l o.block
  | _ => s

/-- A LUN becomes FAILED: its images wait for relocation (R171), and the program that ran waits with those queued for their
pages to be written elsewhere (Table 5-8). -/
def State.lunFailed (s : State) (ch l : Nat) : State :=
  let u := s.lun ch l
  let t := (s.setLun ch l { u with
    state := .failed, op := none, rd := none
    queue := u.op.toList.filter (fun o => decide (o.kind = .program)) ++ u.queue ++ u.ready, ready := [] }).medRaise ch 8 4 l 0
  let w := t.setFtl { t.ftl with reloc := t.ftl.reloc ++ [lunKey ch l] }
  (match u.op with
    | some o => w.abandonErase ch l o
    | none => w).recompute

/-- The codewords of a read, by page: page number and how many. -/
def State.opPages (s : State) (ch : Nat) (o : LunOp) : List (Nat × Nat) :=
  match s.profile? ch with
  | some p =>
    let u := p.unit o.maddr / 8
    let pgs := (List.range o.cw).map (fun j => (u + j) / p.cwPerPage)
    pgs.dedup.map (fun g => (g, pgs.count g))
  | none => []

/-- Every codeword of a read goes to step 4 of Table 5-11. -/
def State.stripeWork (s : State) (ch l : Nat) (o : LunOp) : List SoftCw :=
  (s.opPages ch o).map (fun g =>
    { tag := o.tag, cls := o.cls, ch := ch, lun := l, block := o.block, maddr := o.maddr, page := g.1, n := g.2, by_ := o.by_
      use := o.use, slc := o.slc })

/-- Put pages into the queue for reconstruction, each under a number. -/
def State.toRecon (s : State) (l : List SoftCw) : State :=
  l.foldl (fun (u : State) c =>
    let t : State := { u with recon := u.recon ++ [{ c with id := u.ftl.nextOp }] }
    t.setFtl { t.ftl with nextOp := t.ftl.nextOp + 1 }) s

/-- A page that a reconstruction reads has failed: the reconstruction fails (R130). -/
def State.rebuildFailed (s : State) (n : Nat) : State :=
  { s with recon := s.recon.map (fun c => if c.id = n then { c with failed := true } else c) }

/-- A read reaches step 4: one made for a reconstruction fails that, the others go to their stripes. -/
def State.stepFour (s : State) (ch l : Nat) (o : LunOp) : State :=
  match o.use with
  | .rebuild n _ => s.rebuildFailed n
  | _ => s.toRecon (s.stripeWork ch l o)

/-- Fail a LUN: its reads go to reconstruction, its programs wait to be written elsewhere. -/
def State.failLun (s : State) (ch l : Nat) : State :=
  let u := s.lun ch l
  let ops := u.rd.toList ++ u.op.toList ++ u.queue ++ u.ready
  let t := s.lunFailed ch l
  let w := t.setLun ch l { t.lun ch l with queue := (t.lun ch l).queue.filter (fun o => decide (o.kind = .program)) }
  (ops.filter (fun o => decide (o.kind = .read))).foldl (fun x o => x.stepFour ch l o) w

/-- Begin a LUN reset: it ends a suspended operation without resuming it (R123). -/
def State.lunReset (s : State) (ch l : Nat) : State :=
  let u := s.lun ch l
  s.setLun ch l { u with state := .resetting, op := none, rd := none, feats := [] }

/-! ### Calibration (R111 to R113) -/

/-- The channel asks for 6,400 MT/s (R112), calibration apart. -/
def State.wantsXr (s : State) (ch : Nat) : Bool :=
  match s.profile? ch with
  | some p =>
    p.xr && bitOf (s.reg (Reg.MED_CH_CTL ch)).toNat 1 && !(s.chan ch).xrFailed &&
      (s.usedOn ch).all (fun l => (s.lun ch l).xrDeclared)
  | none => false

/-- Start a calibration; a RECAL or POR lets 6,400 MT/s be tried again (R113). -/
def State.calibrate (s : State) (ch : Nat) (again : Bool) : State :=
  let c := s.chan ch
  let c1 := { c with cal := true, xrFailed := c.xrFailed && !again }
  let t := s.setChan ch c1
  t.setChan ch { t.chan ch with xrOn := t.wantsXr ch }

/-- MED_RECAL: MED_CH_CTL.RECAL. -/
def execMedRecal (ch : Nat) (s : State) : Result :=
  .next (if ch < 32 then s.calibrate ch true else s)

/-- CALIBRATION_COMPLETE (R113): with a good eye margin on every bit the rate stands; a failure at 6,400
MT/s recalibrates at the NV-LPDDR4 rate, one there fails every LUN of the channel. `margin` is the
smallest eye margin found, in 1/64 UI, `pass` whether calibration succeeded at the rate tried. -/
def execCalibrationComplete (ch margin : Nat) (pass : Bool) (s : State) : Result :=
  .next (
    let c := s.chan ch
    match s.profile? ch with
    | some p =>
      if !c.cal then s
      else if c.xrOn then
        if pass && decide (p.xrMargin ≤ margin) then s.setChan ch { c with cal := false, rate := 6400 }
        else (s.setChan ch { c with xrOn := false, xrFailed := true }).raise (Reg.MED_ERR ch) 7
      else if pass then s.setChan ch { c with cal := false, rate := c.base }
      else
        let t := (s.setChan ch { c with cal := false, rate := 0 }).raise (Reg.MED_ERR ch) 6
        (((s.usedOn ch).filter (fun l => decide ((s.lun ch l).state ≠ .failed))).foldl (fun u l => u.failLun ch l) t).recompute
    | none => s)

/-! ### The soft-decode pool (R127) -/

/-- Codewords the pool holds. -/
def softPool : Nat := 1024

/-- The codeword served first: class 1 before class 2, else the earliest. -/
def nextSoft (l : List SoftCw) : Option SoftCw :=
  match l.find? (fun c => decide (c.cls = 1)) with
  | some c => some c
  | none => l.head?

/-! ### Stripes (R129) -/

def State.stripe? (s : State) (id : Nat) : Option Stripe := s.ftl.stripes.find? (fun x => decide (x.id = id))

def State.setStripe (s : State) (v : Stripe) : State :=
  if (s.stripe? v.id).isSome then
    s.setFtl { s.ftl with stripes := s.ftl.stripes.map (fun x => if x.id = v.id then v else x) }
  else s.setFtl { s.ftl with stripes := s.ftl.stripes ++ [v] }

/-- A stripe may take one more page of a channel: not closed, 16 pages at most, on distinct channels, of one mode, one superblock
and one number of codewords (R129, R164). -/
def State.stripeTakes (s : State) (v : Stripe) (a : PageAt) : Bool :=
  let r := s.row a.ch a.lun a.block
  !v.closed && decide (v.slc = r.slc) && decide (v.super = r.superblock) && decide (v.pages.length < 16) &&
    v.pages.all (fun x => decide (x.ch ≠ a.ch) && decide (s.cwOf x.ch = s.cwOf a.ch))

/-- The page is a member of the stripe, or may become one; it is in no other. -/
def State.mayJoin (s : State) (a : PageAt) (id : Nat) : Bool :=
  s.ftl.stripes.all (fun v => decide (v.id = id) || !v.pages.contains a) &&
    (match s.stripe? id with
      | some v => v.pages.contains a || s.stripeTakes v a
      | none => true)

/-- The pages join their stripes, one each. -/
def State.joinStripes (s : State) (stream : Nat) : List (PageAt × Nat) → Option State
  | [] => some s
  | (a, id) :: t =>
    if !s.mayJoin a id then none
    else
      let r := s.row a.ch a.lun a.block
      let v := (s.stripe? id).getD { id := id, slc := r.slc, stream := stream, super := r.superblock, pages := [] }
      if v.pages.contains a then State.joinStripes s stream t
      else State.joinStripes (s.setStripe { v with pages := v.pages ++ [a], closed := decide (v.pages.length = 15) }) stream t

/-- The pages join stripes as they come: the first that takes each, or a new one. -/
def State.joinAny (s : State) (stream : Nat) : List PageAt → List Nat
  | [] => []
  | a :: t =>
    let id := match s.ftl.stripes.find? (fun v => v.pages.contains a || s.stripeTakes v a) with
      | some v => v.id
      | none => (s.ftl.stripes.map (·.id)).foldl max 0 + 1
    id :: State.joinAny ((s.joinStripes stream [(a, id)]).getD s) stream t

/-! ### Superblocks and their rows (R164, Table 7-2) -/

/-- Rows of a LUN in a state and mode. -/
def State.rowsIn (s : State) (ch l : Nat) (st : RowState) (slc : Bool) : List (Nat × Row) :=
  s.ftl.rows.filter (fun e => decide (e.1 / 65536 = lunKey ch l) && decide (e.2.state = st) && decide (e.2.slc = slc) && !e.2.closing)

/-- FTL_GC_CTL.RESERVE in force. -/
def State.reserve (s : State) : Nat := s.fieldNow Reg.FTL_GC_CTL 31 24

/-- The open superblock of a stream: those of Table 7-2 in order, 7 flush, 8 system namespace (Table 8-3). A stream that writes
both modes keeps its SLC superblock under its number plus 16. -/
def State.superOf (s : State) (stream : Nat) : Nat := Sparse.get (fun _ => 0) s.ftl.supers stream

/-- A stream takes its free rows by least wear; the others take the most worn (Table 7-2). -/
def leastWear (stream : Nat) : Bool := decide (stream % 16 < 3) || decide (stream % 16 = 6) || decide (stream = 7)

/-- The free row that a stream takes from a LUN, the lowest block among equal wear (log 185); none where the LUN has none, or
only rows of the reserve that a host stream may not take. -/
def State.pickRow (s : State) (stream ch l : Nat) (slc : Bool) : Option (Nat × Row) :=
  let free := s.rowsIn ch l .free slc
  if !slc && decide (stream < 2) && decide (free.length ≤ s.reserve) then none
  else free.foldl (fun (b : Option (Nat × Row)) e => match b with
    | none => some e
    | some x =>
      if (if leastWear stream then decide (s.wear ch e.2 < s.wear ch x.2) else decide (s.wear ch x.2 < s.wear ch e.2)) then some e
      else b) none

/-- Record codewords that the next image's record calls for: every 127 records one codeword of the row (R188, log 184). -/
def Row.recordDue (r : Row) : Bool := decide (127 ≤ r.recs)

/-- The first unit of the next image of a row. -/
def Row.nextUnit (r : Row) : Nat := if r.recordDue then (cdiv r.written 8 + 1) * 8 else r.written

/-- A row with an image of `len` units behind those written, its record codeword first where one is due. -/
def Row.take (r : Row) (len : Nat) : Row :=
  if r.recordDue then
    { r with written := r.nextUnit + len, extra := r.extra + 8, recs := 1, rcw := r.rcw ++ [cdiv r.written 8] }
  else { r with written := r.written + len, recs := r.recs + 1 }

/-- Open rows of a superblock on a channel that an image of `len` units still enters. -/
def State.rowsWithRoom (s : State) (sb ch len : Nat) : List (Nat × Row) :=
  match s.profile? ch with
  | some p => (s.rowsOf ch).filter (fun e =>
      decide (e.2.superblock = sb) && decide (e.2.state = .opened) && !e.2.closing && !e.2.marked &&
        decide ((e.2.take len).written ≤ p.room e.2.slc) && decide ((s.lun ch (keyLun e.1)).state = .active))
  | none => []

/-- Rows of it where a whole page is left. -/
def State.rowsWithPage (s : State) (sb ch : Nat) : List (Nat × Row) :=
  match s.profile? ch with
  | some p => (s.rowsOf ch).filter (fun e =>
      decide (e.2.superblock = sb) && decide (e.2.state = .opened) && !e.2.closing && !e.2.marked &&
        decide ((cdiv e.2.written p.pageUnits + 1) * p.pageUnits ≤ p.room e.2.slc) && decide ((s.lun ch (keyLun e.1)).state = .active))
  | none => []

/-- Give the next whole page of an open row away. -/
def State.takePage (s : State) (k : Nat) : Option (State × PageAt) :=
  match s.profile? (keyCh k) with
  | some p =>
    let r := s.row (keyCh k) (keyLun k) (keyBlock k)
    let g := cdiv r.written p.pageUnits
    some (s.setRow (keyCh k) (keyLun k) (keyBlock k) { r with written := (g + 1) * p.pageUnits, extra := r.extra + p.pageUnits },
      ⟨keyCh k, keyLun k, keyBlock k, g⟩)
  | none => none

/-! ### Parity pages (R129, R171) -/

/-- The channel of a stripe's parity page in a superblock: the next present one, from the rotation's on, that has no page of
the stripe, as many codewords in its pages, and a row with a page left (R129, log 181). -/
def State.parityChan (s : State) (v : Stripe) (sb : Nat) : Option Nat :=
  ((List.range 32).map (fun i => (s.ftl.parityAt + i) % 32)).find? (fun c =>
    s.present c && v.pages.all (fun x => decide (x.ch ≠ c) && decide (s.cwOf x.ch = s.cwOf c)) && !(s.rowsWithPage sb c).isEmpty)

/-- The program of a parity page. -/
def State.parityOp (s : State) (v : Stripe) (a : PageAt) (by_ : Mover) : LunOp :=
  { id := 0, kind := .program, cls := 4, block := a.block, slc := (s.row a.ch a.lun a.block).slc, by_ := by_, parity := some v.id
    page := a.page, cw := s.cwOf a.ch, rank := if by_ = .reloc then 1 else 0 }

/-- A page for the parity of a stripe in a superblock, on the channel whose turn it is; which of the rows there is a free
value. -/
def State.parityPage (s : State) (v : Stripe) (sb : Nat) : Option (State × PageAt) :=
  match s.parityChan v sb with
  | some c =>
    let l := s.rowsWithPage sb c
    match l[s.freeVal % max 1 l.length]? with
    | some e => (s.setFtl { s.ftl with parityAt := (c + 1) % 32 }).tick.takePage e.1
    | none => none
  | none => none

/-- A stripe that is closed gets its parity page in its own superblock; where no row of that has a page left, in the stream of
relocation and re-parity (log 182). -/
def State.placeParity (s : State) (id : Nat) : State :=
  match s.stripe? id with
  | some v =>
    if v.closed && v.parity.isNone && !v.done && s.dieParity then
      match (s.parityPage v v.super).or (s.parityPage v (s.superOf 5)) with
      | some (t, a) => (t.setStripe { v with parity := some a }).enqueue a.ch a.lun (s.parityOp v a .host)
      | none => s
    else s
  | none => s

/-- What a parity page holds: the XOR of the data bytes of the stripe's data pages as they stand after LDPC decode. -/
def State.parityData (s : State) (v : Stripe) (ch : Nat) : List Byte :=
  xorPages (4096 * s.cwOf ch) (v.pages.map s.pageOf)

/-- Pad units fill the last page that is given away of the rows of a stripe closed early. -/
def State.padPages (s : State) (l : List PageAt) : State :=
  l.foldl (fun t a =>
    let r := t.row a.ch a.lun a.block
    match t.profile? a.ch with
    | some p =>
      if r.state = .opened ∧ r.written < (a.page + 1) * p.pageUnits then
        t.setRow a.ch a.lun a.block { r with written := (a.page + 1) * p.pageUnits }
      else t
    | none => t) s

/-- Close a stripe early: its missing slots count as zero pages (R129); a STRIPE record says so. -/
def State.closeStripe (s : State) (id : Nat) : State :=
  match s.stripe? id with
  | some v => if v.closed then s
    else (((s.padPages v.pages).setStripe { v with closed := true }).issue (.stripe id none)).placeParity id
  | none => s

/-- The stripes that have taken their sixteenth page get their parity pages. -/
def State.placeParities (s : State) (ids : List Nat) : State := ids.foldl State.placeParity s

/-- The parity of every stripe of the list is programmed, or die parity writes none. -/
def State.parityDone (s : State) (ids : List Nat) : Bool :=
  ids.all (fun i => match s.stripe? i with
    | some v => v.done || (v.parity.isNone && !s.dieParity)
    | none => true)

/-! ### Opening superblocks (R164) -/

/-- The superblock that a stream leaves: its stripes are closed early, then its rows. -/
def State.leaveSuper (s : State) (sb : Nat) : State :=
  let t := ((s.ftl.stripes.filter (fun v => decide (v.super = sb) && !v.closed)).map (·.id)).foldl State.closeStripe s
  (t.ftl.rows.filter (fun e => decide (e.2.superblock = sb) && decide (e.2.state = .opened))).foldl
    (fun u e => u.closeRow (keyCh e.1) (keyLun e.1) (keyBlock e.1)) t

/-- One LUN's row joins the superblock that opens. -/
def State.joinSuper (s : State) (stream n ch l : Nat) (slc : Bool) : State :=
  match s.pickRow stream ch l slc with
  | some e => s.setRow ch l (keyBlock e.1) { e.2 with state := .opened, superblock := n, stream := stream, written := 0, recs := 0, rcw := [], extra := 0 }
  | none => s

/-- A stream opens its next superblock: a free row of each ACTIVE LUN that has one, together. -/
def State.openSuper (s : State) (stream : Nat) (slc : Bool) : State :=
  let t := if s.superOf stream = 0 then s else s.leaveSuper (s.superOf stream)
  let n := t.ftl.nextSuper
  let u := t.setFtl { t.ftl with supers := Sparse.set (fun _ => 0) t.ftl.supers stream n, nextSuper := n + 1 }
  channels.foldl (fun x ch => (x.activeLuns ch).foldl (fun y l => y.joinSuper stream n ch l slc) x) u

/-- Before an image of `len` units goes to a channel: its rows of the open superblock that the image does not enter are filled
and closed (R134), and with none left that it enters the next superblock opens. -/
def State.advance (s : State) (stream : Nat) (slc : Bool) (ch len : Nat) : State :=
  let sb := s.superOf stream
  let fits := s.rowsWithRoom sb ch len
  let t := ((s.rowsOf ch).filter (fun e =>
      decide (e.2.superblock = sb) && decide (e.2.state = .opened) && !e.2.closing && !fits.contains e)).foldl
    (fun u e => u.closeRow ch (keyLun e.1) (keyBlock e.1)) s
  if fits.isEmpty && (t.activeLuns ch).any (fun l => (t.pickRow stream ch l slc).isSome) then t.openSuper stream slc else t

/-! ### Liveness (R159) -/

/-- A stripe is live while a data page of it holds a referenced image (R159). -/
def State.stripeLive (s : State) (id : Nat) : Bool :=
  s.ftl.imgs.any (fun i => i.stripes.contains id && s.imgRef i)

/-- A row holds a page of a live stripe. -/
def State.rowHeld (s : State) (ch l block : Nat) : Bool :=
  s.ftl.stripes.any (fun v =>
    (v.pages ++ v.parity.toList).any (fun a => decide ((a.ch, a.lun, a.block) = (ch, l, block))) && s.stripeLive v.id)

/-- Referenced units of a row. -/
def State.rowUnits (s : State) (ch l block : Nat) : Nat :=
  ((s.ftl.imgs.filter (fun i => i.inRow ch l block && s.imgRef i)).map (·.len)).sum

/-- The committed count is not 0 (R159). -/
def State.rowCounted (s : State) (ch l block : Nat) : Bool :=
  decide (s.rowUnits ch l block ≠ 0) || s.rowHeld ch l block

end Sys2Proof.Machine
end

