-- ==== Sys2Proof/Machine/Cmds.lean ====
section
/-!
DEFINITION. What I/O commands share (spec/04): failures with their Error Information entry, data pointers,
Chest records, admission checks, waits for partitions and segments, and the plaintext of spans and grains.
-/

namespace Sys2Proof.Machine

/-! ### Completion -/

/-- The phase of a command. -/
def State.setPhase (s : State) (c : Cmd) (p : Phase) : State := s.setCmd { c with phase := p }

/-- The namespace of a command when it has one of that kind. -/
def State.kindNs (s : State) (c : Cmd) (k : NsKind) : Option Namespace :=
  match s.nsOf c.nsid with
  | some n => if n.kind = k then some n else none
  | none => none

/-- The status of a decompression fault (R241). -/
def Dcmp.status : Dcmp → Status
  | .illegal => .dcmpIllegal
  | .distance => .dcmpDistance
  | .overrun => .dcmpOverrun
  | .checksum => .dcmpChecksum
  | .truncated => .dcmpTruncated
  | .length => .lengthMismatch

/-- A decompression fault of a Press, with the kind of work as PRS_STAT.KIND and the code of Table 4-22 (R241,
Table 10-10). -/
def State.dcmpFault (s : State) (ch kind code : Nat) : State :=
  (s.raiseAt (Reg.PRS_ERR ch) 0 (Reg.PRS_ERR_LOC ch) (kind * 2 ^ 25 + code)).bump (Reg.PRS_DCMP_CNT ch)

/-- The statuses a stored image that does not decode gives. -/
def Status.decodeFault (st : Status) : Bool :=
  [Status.dcmpIllegal, .dcmpDistance, .dcmpOverrun, .dcmpChecksum, .dcmpTruncated, .lengthMismatch].contains st

/-- Complete a command with a read failure: its log entry names the span's first LBA, 0 on a KV namespace,
and the span (R107). -/
def State.failRead (s : State) (c : Cmd) (e : RdErr) : State :=
  let lba := match s.nsOf c.nsid with
    | some n => if n.kind = .nvm then e.span * 64 else 0
    | none => 0
  let t := if e.st.decodeFault then s.dcmpFault (eCh (s.spanEntry c.nsid e.span)) 1 (e.st.code % 256)
    else s
  t.post c e.st e.dw0 e.dw1 (some (lba, e.span))

/-! ### Data pointers -/

/-- Bytes that the segments of a data pointer describe: (address, length), as read from the PRP or SGL list. -/
def segLen (segs : List (Nat × Nat)) : Nat := (segs.map (·.2)).sum

/-- Write data to the segments of a data pointer, in order. -/
def State.scatter (s : State) (c : Cmd) : List (Nat × Nat) → List Byte → State
  | [], _ => s
  | (a, n) :: t, data =>
    State.scatter (s.dmaWrite c.inst c.gen a (data.take n) (s.port c.port).relaxed) c t (data.drop n)

/-- PSDT says SGL. -/
def Cmd.sgl (c : Cmd) : Bool := decide (c.f 0 15 14 ≠ 0)

/-! ### Chest records (R184) -/

/-- The command a record belongs to. -/
def Change.tag? : Change → Option Nat
  | .trim t _ _ _ => t
  | .slot _ t => some t
  | _ => none

/-- A record of the command waits for its commit. -/
def State.recordsOf (s : State) (tag : Nat) : Bool :=
  s.chest.pending.any (fun r => decide (r.change.tag? = some tag))

/-! ### Admission (R16, R54, R177, R186) -/

/-- Dirty bytes the write buffer may hold (R16, R191). -/
def State.dirtyMax (s : State) : Nat :=
  min (s.fieldNow Reg.CHS_PLP_CFG 9 0 * 2 ^ 26) (s.ftl.wbGib * 2 ^ 30)

/-- Orders 1 and 2 of Table 7-5. -/
def State.writeCheck (s : State) (c : Cmd) : Option Status :=
  if s.health = .failed then some .internalError
  else if decide (s.health = .readOnly) || s.chest.failed || c.ro then some .writeProtected
  else none

/-- Units of a span that data received and not yet held will map. -/
def State.recvUnits (s : State) (n sp : Nat) : List Nat :=
  (((s.ftl.slots.filter (fun v => decide (v.nsid = n) && decide (v.span = sp))).flatMap
    (fun v => v.recv.filterMap (fun r => if r.2.2.isEmpty then none else some r.2.1))).dedup).filter
      (fun g => !(s.maskOf n sp).testBit g)

/-- NUSE of an NVM namespace: mapped units, with those of data received and not yet held, each once (R177). -/
def State.nuseNvm (s : State) (n : Nat) : Nat :=
  ((s.ftl.mask.filter (fun e => decide (e.1 / 2 ^ 40 = n))).map (fun e => popMask e.2)).sum +
    ((((s.ftl.slots.filter (fun v => decide (v.nsid = n))).map (·.span)).dedup).map (fun sp => (s.recvUnits n sp).length)).sum

/-- Units of a range that are neither mapped nor about to be. -/
def State.newUnits (s : State) (n : Nat) (spans : List (Nat × List Nat)) : Nat :=
  (spans.map (fun p => (p.2.filter (fun g => !(s.maskOf n p.1).testBit g && !(s.recvUnits n p.1).contains g)).length)).sum

/-! ### Ranges of an NVM namespace -/

/-- Spans and grains of LBAs `[a, a + k)`. -/
def lbaSpans (a k : Nat) : List (Nat × List Nat) :=
  if k = 0 then []
  else (List.range ((a + k - 1) / 64 - a / 64 + 1)).map (fun i =>
    let sp := a / 64 + i
    (sp, (List.range 64).filter (fun g => decide (a ≤ sp * 64 + g) && decide (sp * 64 + g < a + k))))

/-! ### Waits for partitions under rebuild and for segments (R28, R156, R199) -/

/-- Segments that a lookup of these spans uses. -/
def State.segsFor (s : State) (n : Nat) (spans : List Nat) : List Nat :=
  (spans.flatMap (fun sp =>
    let g := if s.splintered n sp then [grainSeg (eMaddr (s.spanEntry n sp))] else []
    s.segOf n sp :: g)).dedup

/-- A directory record; the default is a resident segment with no home. -/
def State.seg (s : State) (k : Nat) : Segment := Sparse.get (fun _ => {}) s.ftl.segs k

def State.setSeg (s : State) (k : Nat) (v : Segment) : State :=
  s.setFtl { s.ftl with segs := Sparse.set (fun _ => {}) s.ftl.segs k v }

/-- Configured user capacity, and the span map of it (R29). -/
def State.userBytes (s : State) : Nat := (s.spaces.map (fun e => e.2.ncap * 4096)).sum
def State.spanMapBytes (s : State) : Nat := cdiv s.userBytes 32768

/-- The segments of the map: those of the span map, and those of the grain blocks in use. -/
def State.mapSegs (s : State) : List Nat :=
  List.range (cdiv s.spanMapBytes 65536) ++ (s.ftl.grain.map (fun e => grainSeg e.1)).dedup

/-- Those in the map space in DRAM. -/
def State.residentSegs (s : State) : List Nat := s.mapSegs.filter (fun k => (s.seg k).resident)

/-- A dirty segment without a home. -/
def Segment.homeless (v : Segment) : Bool := v.dirty && (v.slot.isNone || v.bad)

/-- Resident segments that the map space holds are limited: a further one needs a segment that may leave. -/
def State.evictable (s : State) : Bool :=
  match s.ftl.drawer.room with
  | none => true
  | some r => decide (s.residentSegs.length < r) || s.residentSegs.any (fun k => !(s.seg k).homeless)

/-- The segment is neither resident nor homed and cannot be made resident (R156). -/
def State.segLost (s : State) (k : Nat) : Bool := !(s.seg k).resident && !(s.seg k).homed && !s.evictable

/-- Set a FTL_MAP_ERR bit with its segment (Table 6-7). -/
def State.mapRaise (s : State) (bit seg : Nat) : State :=
  s.raiseAt Reg.FTL_MAP_ERR bit Reg.FTL_MAP_ERR_LOC (bit * 2 ^ 28 + seg % 2 ^ 20)

/-- A partition, map (0) or index (1), is not rebuilt yet. -/
def State.unbuilt (s : State) (p : Nat × Nat) : Bool :=
  decide (s.rebuild.phase = 1) ||
    (decide (s.rebuild.phase = 2) && (if p.1 = 0 then s.rebuild.mapLeft else s.rebuild.idxLeft).contains p.2) ||
    (decide (p.1 = 1) && s.idx.damaged.contains p.2)

/-- Promote a partition (R199). -/
def State.promote (s : State) (p : Nat × Nat) : State :=
  if s.rebuild.promo.contains p then s
  else { s with rebuild := { s.rebuild with promo := s.rebuild.promo ++ [p] } }.bump Reg.CHS_REBUILD_PROMO

/-- The segments are in use now: the cache replaces the least recently used (R150). -/
def State.useSegs (s : State) (segs : List Nat) : State :=
  if s.ftl.drawer.room.isNone then s else segs.foldl (fun t k => t.setSeg k { t.seg k with used := t.beat }) s

/-- Run `f` when every partition the command needs is rebuilt and every segment resident; else the command
waits for the first partition (R28), for a segment, or ends with DRAWER_UNAVAILABLE (R156). -/
def State.gate (s : State) (c : Cmd) (parts : List (Nat × Nat)) (segs : List Nat) (f : State → State) : State :=
  match parts.find? s.unbuilt with
  | some p =>
    if c.phase = .waitRebuild ∧ c.partition = p then s
    else (s.setCmd { c with
      phase := .waitRebuild, partition := p
      waitMs := if c.waited.isSome then c.waitMs else s.fieldNow Reg.CHS_REBUILD_WAIT 13 0 }).promote p
  | none =>
    match segs.find? s.segLost with
    | some k => (s.mapRaise 0 k).err c .drawerUnavailable
    | none => if segs.any (fun k => !(s.seg k).resident) then s else f (s.useSegs segs)

/-- Map partitions that the lookups of these spans use. -/
def State.partsOf (s : State) (n : Nat) (spans : List Nat) : List (Nat × Nat) :=
  ((s.segsFor n spans).map (fun k => (0, segPart k))).dedup

/-- `gate` for the spans of a namespace. -/
def State.gateSpans (s : State) (c : Cmd) (n : Nat) (spans : List Nat) (f : State → State) : State :=
  s.gate c (s.partsOf n spans) (s.segsFor n spans) f

/-! ### Plaintext of grains and spans (R133, R135, R138) -/

/-- Bytes of a grain with its metadata, and of an NVM span's plaintext. -/
def grainLen (ms : Nat) : Nat := 4096 + ms
def spanLen (ms : Nat) : Nat := 262144 + 64 * ms

/-- Grain `g` of an NVM span's plaintext: its data, then its metadata. -/
def grainOfPlain (ms g : Nat) (p : List Byte) : List Byte := slice p (4096 * g) 4096 ++ slice p (262144 + ms * g) ms

/-- The plaintext of a span from its grains. -/
def plainOfGrains (gs : List (List Byte)) : List Byte := gs.flatMap (·.take 4096) ++ gs.flatMap (·.drop 4096)

/-- A block never written or deallocated (R86, R133). -/
def zeroGrain (n : Namespace) : List Byte :=
  List.replicate 4096 0 ++ List.replicate (metaSize n.lbaf) (if n.pi = 0 then 0 else 0xFF)

/-- An image is unreadable for a command: its codewords reached step 5, or its key is gone (R128, R325). -/
def State.imgBad (bad : List (Nat × Nat)) (n : Namespace) (i : Img) : Bool :=
  i.unreadable || bad.contains (i.ch, i.maddr) || decide (i.keyGen ≠ n.keyGen)

/-- Plaintext of a stored image that must hold `plen` bytes. -/
def State.imgPlain (s : State) (bad : List (Nat × Nat)) (n : Namespace) (ch m plen sp : Nat) :
    Except RdErr (List Byte) :=
  match s.img? ch m with
  | none => .error ⟨.unrecoveredRead, 0, 0, sp⟩
  | some i =>
    if State.imgBad bad n i then .error ⟨.unrecoveredRead, 0, 0, sp⟩
    else match spanDecode i.raw plen i.len i.bytes with
      | .ok p => .ok p
      | .error e => .error ⟨e.why.status, e.inp, if e.why = .length then 0 else e.out, sp⟩

/-- What one grain of an NVM span holds: data and metadata. -/
def State.storedGrain (s : State) (bad : List (Nat × Nat)) (n : Namespace) (nsid sp g : Nat) : Except RdErr (List Byte) :=
  let ms := metaSize n.lbaf
  match s.resolve nsid sp g with
  | .zeros => .ok (zeroGrain n)
  | .bytes b => .ok b
  | .stored ch m none => s.imgPlain bad n ch m (grainLen ms) sp
  | .stored ch m (some k) => (s.imgPlain bad n ch m (spanLen ms) sp).map (grainOfPlain ms k)

/-- What a read of one grain returns: a grain of the poisoned list is unreadable (R386). -/
def State.readGrain (s : State) (bad : List (Nat × Nat)) (n : Namespace) (nsid sp g : Nat) : Except RdErr (List Byte) :=
  if s.dram.grains.contains (nsid, sp, g) then .error ⟨.unrecoveredRead, 0, 0, sp⟩ else s.storedGrain bad n nsid sp g

/-- The grains of one span as they are stored, in order. -/
def State.storedGrains (s : State) (n : Namespace) (nsid sp : Nat) : List Nat → Except RdErr (List (List Byte))
  | [] => .ok []
  | g :: t =>
    match s.storedGrain [] n nsid sp g with
    | .error e => .error e
    | .ok b => match State.storedGrains s n nsid sp t with
      | .error e => .error e
      | .ok r => .ok (b :: r)

/-- The grains of several spans, in order. -/
def State.readGrains (s : State) (bad : List (Nat × Nat)) (n : Namespace) (nsid : Nat) :
    List (Nat × Nat) → Except RdErr (List (List Byte))
  | [] => .ok []
  | (sp, g) :: t =>
    match s.readGrain bad n nsid sp g with
    | .error e => .error e
    | .ok b => match State.readGrains s bad n nsid t with
      | .error e => .error e
      | .ok r => .ok (b :: r)

/-- Pairs (span, grain) of a range. -/
def grainPairs (l : List (Nat × List Nat)) : List (Nat × Nat) := l.flatMap (fun p => p.2.map (fun g => (p.1, g)))

/-- Value bytes that span `i` of a KV value of `len` bytes holds. -/
def kvSpanLen (len i : Nat) : Nat := min 262144 (len - 262144 * i)

/-- The bytes of a KV span: from its slot, or from its image. -/
def State.readKvSpan (s : State) (bad : List (Nat × Nat)) (n : Namespace) (nsid sp len : Nat) : Except RdErr (List Byte) :=
  let e := s.spanEntry nsid sp
  if s.dram.grains.any (fun g => decide (g.1 = nsid) && decide (g.2.1 = sp)) then .error ⟨.unrecoveredRead, 0, 0, sp⟩
  else if eWbuf e then
    match s.slotAt (eMaddr e) with
    | some v => .ok ((v.grains.flatMap (·.2)).take len)
    | none => .error ⟨.unrecoveredRead, 0, 0, sp⟩
  else if eImage e then s.imgPlain bad n (eCh e) (eMaddr e) len sp
  else .ok (List.replicate len 0)

/-! ### Media reads of commands -/

/-- Images that a list of grains needs, each once. -/
def State.imagesFor (s : State) (nsid : Nat) (gs : List (Nat × Nat)) : List (Nat × Nat) :=
  (gs.filterMap (fun p => match s.resolve nsid p.1 p.2 with
    | .stored ch m _ => some (ch, m)
    | _ => none)).dedup

/-- The image that a whole span's entry names. -/
def State.imageOfSpan (s : State) (nsid sp : Nat) : List (Nat × Nat) :=
  let e := s.spanEntry nsid sp
  if eImage e && !eSplit e then [(eCh e, eMaddr e)] else []

/-- The read of one image, from what its purpose gives: class, command, engine, use, rank. -/
def State.readOp (s : State) (o : LunOp) (i : Img) : LunOp :=
  let p := s.profile? i.ch
  let u := match p with
    | some q => q.unit i.maddr
    | none => 0
  { o with
    kind := .read, block := maBlock i.maddr, slc := i.shelf, maddr := i.maddr, units := i.len, cw := cwsOf u i.len
    pages := match p with
      | some q => q.pagesOf u i.len
      | none => 1 }

/-- A read of an image: on its LUN, or by reconstruction where the LUN is FAILED (R130). -/
def State.queueRead (s : State) (o : LunOp) (im : Nat × Nat) : State :=
  match s.img? im.1 im.2 with
  | none => s
  | some i =>
    let l := maLun i.maddr
    let r := s.readOp o i
    if (s.lun i.ch l).state = .failed ∨ (s.lun i.ch l).state = .absent then s.toRecon (s.stripeWork i.ch l r)
    else s.enqueue i.ch l r

def State.queueReads (s : State) (o : LunOp) (l : List (Nat × Nat)) : State := l.foldl (fun t im => t.queueRead o im) s

/-- A class 1 read for a command (Table 5-6). -/
def Cmd.readFor (c : Cmd) : LunOp := { id := 0, kind := .read, cls := 1, block := 0, tag := some c.tag, inst := c.inst }

/-- The read that a read-modify-write makes for a slot, for the command that wrote to it last: class 1, by elimination from
Table 5-6, and charged to the command's instance (R70, log 186). -/
def Slot.readFor (v : Slot) : LunOp :=
  { id := 0, kind := .read, cls := 1, block := 0, tag := (v.tags ++ v.flight).getLast?, inst := v.inst, use := .rmw v.idx }

/-- Operations and codewords of some kind are outstanding: on a LUN, in the soft-decode pool, in reconstruction. -/
def State.outstanding (s : State) (op : LunOp → Bool) (cw : SoftCw → Bool) : Bool :=
  s.luns.any (fun e => e.2.queue.any op || e.2.ready.any op || e.2.op.any op || e.2.rd.any op) || s.soft.any cw || s.recon.any cw

/-- No read that returns data to the command is outstanding. -/
def State.ioDone (s : State) (tag : Nat) : Bool :=
  !s.outstanding (fun o => decide (o.tag = some tag) && decide (o.kind = .read) && decide (o.use = .host))
    (fun c => decide (c.tag = some tag) && decide (c.use = .host))

/-- Reads made for that use are outstanding. -/
def State.reading (s : State) (u : ReadUse) : Bool :=
  s.outstanding (fun o => decide (o.kind = .read) && decide (o.use = u)) (fun c => decide (c.use = u))

/-- Images decoded: bytes in and out of their Presses (Table 10-9). -/
def State.countDecode (s : State) (ims : List (Nat × Nat)) : State :=
  ims.foldl (fun t im => match t.img? im.1 im.2 with
    | some i => (t.bump64 (Reg.PRS_IN_LO i.ch) i.bytes.length).bump64 (Reg.PRS_OUT_LO i.ch) (highField i.bytes 4 4)
    | none => t) s

/-- Reads in flight that resolved into a block row (R142). -/
def State.readsInto (s : State) (ch l block : Nat) : Bool :=
  let u := s.lun ch l
  let here (o : LunOp) : Bool := decide (o.kind = .read) && decide (o.block = block)
  let cw (c : SoftCw) : Bool := decide (c.ch = ch) && decide (c.lun = l) && decide (c.block = block)
  u.queue.any here || u.ready.any here || u.op.any here || u.rd.any here || s.soft.any cw || s.recon.any cw

/-! ### Reserved fields (R13, R88) -/

/-- All the data of a write-class command lies in the write buffer (R105): a command on LBAs is then `received`; one on a KV
namespace has received its values from its first step on, and waits for its commit point. -/
def State.gotAll (s : State) (c : Cmd) : Bool :=
  decide (c.phase = .received) ||
    (decide (c.phase = .active) && [0x01, 0x81, 0x8D].contains c.opcode && (s.kindNs c .kv).isSome)

/-- Dwords `l` of the entry are all 0. -/
def Cmd.zero (c : Cmd) (l : List Nat) : Bool := l.all (fun i => decide (c.d i = 0))

/-- The common layout of a vendor command: FUSE 0, PSDT not reserved, CDW0[13:10] and MPTR 0. -/
def Cmd.vendorOk (c : Cmd) : Bool := decide (c.f 0 13 8 = 0) && decide (c.f 0 15 14 < 2) && c.zero [4, 5]

end Sys2Proof.Machine
end

