-- ==== Sys2Proof/Machine/Protect.lean ====
section
/-!
DEFINITION. Protection information of NVM blocks (R86, Table 4-2): the 64-bit guard of types 1 to 3. The manual names the
guard and the types and leaves their layout and checks to the NVM Command Set specification; the model follows that (PRESUMED,
log 200): 16 bytes of the metadata hold the guard, the application tag and a 48-bit reference tag, each high byte first.
-/

namespace Sys2Proof.Machine

/-- PRACT of a Read, Write, Compare, Verify or Write Zeroes; its checks of guard, application tag and reference tag. -/
def Cmd.pract (c : Cmd) : Bool := bitOf (c.d 12).toNat 29
def Cmd.checksGuard (c : Cmd) : Bool := bitOf (c.d 12).toNat 28
def Cmd.checksApp (c : Cmd) : Bool := bitOf (c.d 12).toNat 27
def Cmd.checksRef (c : Cmd) : Bool := bitOf (c.d 12).toNat 26

/-- Application tag and its mask (CDW15). -/
def Cmd.appTag (c : Cmd) : Nat := c.f 15 15 0
def Cmd.appMask (c : Cmd) : Nat := c.f 15 31 16

/-- The initial reference tag: CDW14, with bits 47 to 32 in CDW3. -/
def Cmd.refTag (c : Cmd) : Nat := c.f 3 15 0 * 2 ^ 32 + (c.d 14).toNat

/-- The reference tag of block `i`: it counts with the blocks but for type 3. -/
def Cmd.refOf (c : Cmd) (n : Namespace) (i : Nat) : Nat := (c.refTag + if n.pi = 3 then 0 else i) % 2 ^ 48

/-- Where the information stands in a block with its metadata: the first or the last 16 bytes of the metadata. -/
def Namespace.piAt (n : Namespace) : Nat := 4096 + if n.piFirst then 0 else metaSize n.lbaf - 16

/-- What the guard covers: the data, and the metadata before the information. -/
def Namespace.guardOf (n : Namespace) (b : List Byte) : Nat := (crc64 (b.take n.piAt)).toNat

/-- Generate the information of a block. -/
def Namespace.protect (n : Namespace) (app ref : Nat) (b : List Byte) : List Byte :=
  b.take n.piAt ++ highFirst 8 (n.guardOf b) ++ highFirst 2 app ++ highFirst 6 ref ++ b.drop (n.piAt + 16)

/-- Check the information of block `i`, and say which check fails first. An application tag of 0xFFFF, for type 3 with a
reference tag of all ones, turns the checks of its block off. -/
def Cmd.piFault (c : Cmd) (n : Namespace) (i : Nat) (b : List Byte) : Option Status :=
  let at_ := n.piAt
  let app := highField b (at_ + 8) 2
  let ref := highField b (at_ + 10) 6
  if app = 0xFFFF ∧ (n.pi ≠ 3 ∨ ref = 2 ^ 48 - 1) then none
  else if c.checksGuard ∧ highField b at_ 8 ≠ n.guardOf b then some .guardCheck
  else if c.checksApp ∧ app &&& c.appMask ≠ c.appTag &&& c.appMask then some .appTagCheck
  else if c.checksRef ∧ n.pi ≠ 3 ∧ ref ≠ c.refOf n i then some .refTag
  else none

/-- The first check that fails in blocks from number `i` on. -/
def Cmd.piFaults (c : Cmd) (n : Namespace) : Nat → List (List Byte) → Option Status
  | _, [] => none
  | i, b :: t =>
    match c.piFault n i b with
    | some e => some e
    | none => c.piFaults n (i + 1) t

/-- The blocks of a command pass its checks; a namespace without protection information has none. -/
def Cmd.piCheck (c : Cmd) (n : Namespace) (l : List (List Byte)) : Option Status :=
  if n.pi = 0 then none else c.piFaults n 0 l

/-- A reference tag check of type 1 needs the initial tag to be that of the first LBA. -/
def Cmd.piBad (c : Cmd) (n : Namespace) (slba : Nat) : Bool :=
  decide (n.pi = 1) && c.checksRef && decide (c.refTag ≠ slba % 2 ^ 48)

/-- The host's buffers leave the information out: PRACT, with no other metadata. -/
def Cmd.strips (c : Cmd) (n : Namespace) : Bool := decide (n.pi ≠ 0) && c.pract && decide (metaSize n.lbaf = 16)

/-- The namespace as the host's buffers see it. -/
def Cmd.hostNs (c : Cmd) (n : Namespace) : Namespace := if c.strips n then { n with lbaf := 0 } else n

/-- Blocks as the host's buffers hold them. -/
def Cmd.toHost (c : Cmd) (n : Namespace) (l : List (List Byte)) : List (List Byte) :=
  if c.strips n then l.map (·.take 4096) else l

/-- Information generated for the blocks of a write, from block `i` on. -/
def Cmd.generate (c : Cmd) (n : Namespace) : Nat → List (List Byte) → List (List Byte)
  | _, [] => []
  | i, b :: t => n.protect c.appTag (c.refOf n i) b :: c.generate n (i + 1) t

/-- Blocks that a write stores, from those of the host's buffers. -/
def Cmd.fromHost (c : Cmd) (n : Namespace) (l : List (List Byte)) : List (List Byte) :=
  if n.pi ≠ 0 ∧ c.pract then c.generate n 0 l else l

end Sys2Proof.Machine
end

