-- ==== Sys2Proof/Machine/Nvm.lean ====
section
/-!
DEFINITION. NVM Read, Compare and Verify (R86, R128, R138, R156): the first step checks and queues the
media reads, a later one, when they have ended, moves or checks the data.
-/

namespace Sys2Proof.Machine

/-- SLBA and the number of blocks. -/
def Cmd.slba (c : Cmd) : Nat := c.q 10
def Cmd.blocks (c : Cmd) : Nat := c.f 12 15 0 + 1

/-- Blocks that one transfer may move: MDTS (Table 4-1). -/
def mdtsBlocks : Nat := 2048

/-- Bytes of the data buffer, metadata included where it is interleaved; bytes of the metadata buffer. -/
def bufLen (n : Namespace) (k : Nat) : Nat := k * (4096 + if n.ext then metaSize n.lbaf else 0)
def metaLen (n : Namespace) (k : Nat) : Nat := if n.ext then 0 else k * metaSize n.lbaf

/-- Check the range, resolve the blocks and queue their media reads. What the command returns is what its grains
resolve to now (R142, R146). -/
def State.beginRead (s : State) (c : Cmd) (n : Namespace) (transfer sglBad : Bool) : State :=
  let k := c.blocks
  if s.health = .failed then s.err c .internalError
  else if transfer && decide (mdtsBlocks < k) then s.err c .invalidField
  else if n.size < c.slba + k then s.err c .lbaRange
  else if sglBad then s.err c .sglLength
  else if c.piBad n c.slba then s.err c .invalidProt
  else
    let r := lbaSpans c.slba k
    s.gateSpans c c.nsid (r.map (·.1)) (fun t =>
      let c1 := { c with phase := .active, issued := true, imgs := t.imagesFor c.nsid (grainPairs r) }
      (t.queueReads c.readFor c1.imgs).setCmd
        (match t.readGrains [] n c.nsid (grainPairs r) with
          | .ok l => { c1 with data := l.flatten }
          | .error e => { c1 with rd := some e }))

/-- Span of an image that a command's reads found unreadable. -/
def State.badSpan (s : State) (c : Cmd) : Option Nat :=
  match c.badImgs with
  | [] => none
  | (ch, m) :: _ => match s.img? ch m with
    | some i => some i.span
    | none => some 0

/-- Cut data into blocks. -/
def cutBlocks (len k : Nat) (d : List Byte) : List (List Byte) := (List.range k).map (fun i => slice d (len * i) len)

/-- Once no read of the command is outstanding: `f` takes the data, unless an image was unreadable or did not
decode. -/
def State.whenRead (s : State) (c : Cmd) (f : State → List Byte → State) : State :=
  if c.issued && s.ioDone c.tag then
    match s.badSpan c, c.rd with
    | some sp, _ => s.failRead c ⟨.unrecoveredRead, 0, 0, sp⟩
    | none, some e => s.failRead c e
    | none, none => f (s.countDecode c.imgs) c.data
  else s

/-- Finish a command that reads LBAs: `f` takes the blocks read, once their protection information has been checked. -/
def State.endRead (s : State) (c : Cmd) (n : Namespace) (f : State → List (List Byte) → State) : State :=
  s.whenRead c (fun t d =>
    let l := cutBlocks (grainLen (metaSize n.lbaf)) c.blocks d
    match c.piCheck n l with
    | some st => t.err c st
    | none => f t l)

/-- A command on LBAs: its first step, or its last. -/
def State.readCmd (s : State) (tag : Nat) (op : Nat) (transfer : Bool) (bad : Cmd → Namespace → Bool)
    (f : Cmd → Namespace → State → List (List Byte) → State) : State :=
  s.onCmd tag false [op] (fun c =>
    match s.kindNs c .nvm with
    | none => s
    | some n =>
      if c.phase = .fetched then s.beginRead c n transfer (bad c n)
      else if c.phase = .active then s.endRead c n (f c n)
      else s)

/-- Blocks as the data buffer, and as the metadata buffer, hold them. -/
def dataOf (n : Namespace) (l : List (List Byte)) : List Byte := if n.ext then l.flatten else l.flatMap (·.take 4096)
def metaOf (n : Namespace) (l : List (List Byte)) : List Byte := if n.ext then [] else l.flatMap (·.drop 4096)

/-- NVM_READ (R86): data to the host's buffer, metadata interleaved or to its own. -/
def execNvmRead (tag : Nat) (segs mseg : List (Nat × Nat)) (s : State) : Result :=
  .next (s.readCmd tag 0x02 true (fun c n => c.sgl && decide (segLen segs < bufLen (c.hostNs n) c.blocks))
    (fun c n t l =>
      let h := c.hostNs n
      let b := c.toHost n l
      ((t.scatter c segs (dataOf h b)).scatter c mseg (metaOf h b)).ok c))

/-- NVM_COMPARE (R86). -/
def execNvmCompare (tag : Nat) (data mdata : List Byte) (s : State) : Result :=
  .next (s.readCmd tag 0x05 true (fun c n => c.sgl && decide (data.length < bufLen (c.hostNs n) c.blocks))
    (fun c n t l =>
      let h := c.hostNs n
      let b := c.toHost n l
      if dataOf h b = data.take (bufLen h c.blocks) ∧ metaOf h b = mdata.take (metaLen h c.blocks) then t.ok c
      else t.err c .compareFailure))

/-- NVM_VERIFY (R86): no transfer, so MDTS does not limit it. -/
def execNvmVerify (tag : Nat) (s : State) : Result :=
  .next (s.readCmd tag 0x0C false (fun _ _ => false) (fun c _ t _ => t.ok c))

end Sys2Proof.Machine
end

