-- ==== Sys2Proof/Machine/Index.lean ====
section
/-!
DEFINITION. The key index table (R250 to R254, R259): places, lookup, insertion with displacement, span
numbers of KV namespaces, and the directory entries of NVM spans.
-/

namespace Sys2Proof.Machine

def State.setIdx (s : State) (i : Idx) : State := { s with idx := i }

/-- Buckets of a partition for a region of `gib` GiB (R252). -/
def idxBuckets (gib : Nat) : Nat := gib * 4096 / 3

/-- IDX_CAP of the size in force. -/
def State.idxCap (s : State) : Nat := if s.idx.placed then 32768 * idxBuckets s.idx.gib else 0

/-- IDX_USED and IDX_DIR_USED. -/
def State.idxUsed (s : State) : Nat := s.idx.table.length + s.idx.stash.length

def isDir : IdxEntry → Bool
  | .dir _ _ _ _ _ _ _ => true
  | _ => false

def State.dirUsed (s : State) : Nat := ((s.idx.table ++ s.idx.stash).filter (fun e => isDir e.2)).length

/-- Hash input of an item (R251). -/
def IdxEntry.hashInput : IdxEntry → List Byte
  | .key ns k _ _ => [1, BitVec.ofNat 8 ns, BitVec.ofNat 8 (k.length - 1)] ++ k
  | .dir n sp _ _ _ _ _ => [2, BitVec.ofNat 8 (n - 1)] ++ leBytes 8 sp
  | .free => []

/-- Partition and the two buckets of an item (R251). -/
def Idx.placeOf (x : Idx) (e : IdxEntry) : Nat × Nat × Nat :=
  let h := (siphash24 (x.hashKey.extractLsb' 0 64) (x.hashKey.extractLsb' 64 64) e.hashInput).toNat
  let bp := max 1 (idxBuckets x.gib)
  let b1 := bits h 51 26 % bp
  let b2 := bits h 25 0 % bp
  (bits h 63 52, b1, if b2 = b1 then (b1 + 1) % bp else b2)

def tableKey (p b i : Nat) : Nat := p * 2 ^ 32 + b * 8 + i
def stashKey (p i : Nat) : Nat := p * 64 + i

def Idx.slot (x : Idx) (p b i : Nat) : IdxEntry := Sparse.get (fun _ => .free) x.table (tableKey p b i)
def Idx.stashSlot (x : Idx) (p i : Nat) : IdxEntry := Sparse.get (fun _ => .free) x.stash (stashKey p i)

def Idx.put (x : Idx) (p : Nat) (pl : IdxPlace) (e : IdxEntry) : Idx :=
  match pl with
  | .bucket b i => { x with table := Sparse.set (fun _ => .free) x.table (tableKey p b i) e }
  | .stash i => { x with stash := Sparse.set (fun _ => .free) x.stash (stashKey p i) e }

/-- Two items with the same name: the same key, or the directory of the same span. -/
def IdxEntry.same : IdxEntry → IdxEntry → Bool
  | .key a k _ _, .key b j _ _ => decide (a = b) && decide (k = j)
  | .dir n s _ _ _ _ _, .dir m t _ _ _ _ _ => decide (n = m) && decide (s = t)
  | _, _ => false

/-- Find an item of that name: first bucket, second bucket, stash (R251). -/
def Idx.find (x : Idx) (e : IdxEntry) : Option (Nat × IdxPlace × IdxEntry) :=
  let h := x.placeOf e
  let inB (b : Nat) : Option (Nat × IdxPlace × IdxEntry) :=
    ((List.range 8).find? (fun i => e.same (x.slot h.1 b i))).map (fun i => (h.1, .bucket b i, x.slot h.1 b i))
  match inB h.2.1 with
  | some r => some r
  | none => match inB h.2.2 with
    | some r => some r
    | none => ((List.range 64).find? (fun i => e.same (x.stashSlot h.1 i))).map (fun i => (h.1, .stash i, x.stashSlot h.1 i))

/-- The first free slot of a bucket, and of a stash. -/
def Idx.freeSlot (x : Idx) (p b : Nat) : Option Nat := (List.range 8).find? (fun i => decide (x.slot p b i = .free))
def Idx.freeStash (x : Idx) (p : Nat) : Option Nat := (List.range 64).find? (fun i => decide (x.stashSlot p i = .free))

/-- Displace from a full bucket: the victim's slot is a free value; it goes to its other bucket (R253). -/
def Idx.displace (x : Idx) (p : Nat) (seed : Nat) : Nat → Nat → IdxEntry → Option Idx
  | 0, _, _ => none
  | k + 1, b, e =>
    let i := Config.freeNat (seed + k) % 8
    let v := x.slot p b i
    let h := x.placeOf v
    let other := if h.2.1 = b then h.2.2 else h.2.1
    let y := x.put p (.bucket b i) e
    match y.freeSlot p other with
    | some j => some (y.put p (.bucket other j) v)
    | none => y.displace p seed k other v

/-- An item of KV namespace slot `ns`. -/
def IdxEntry.ofSlot (ns : Nat) : IdxEntry → Bool
  | .key a _ _ _ => decide (a = ns)
  | _ => false

/-- A List of a namespace with keys in partition `p` stands between two commands (R257, log 225). -/
def Idx.listed (x : Idx) (p : Nat) : Bool :=
  x.seqs.any (fun q => q.live &&
    (x.table.any (fun e => decide (e.1 / 2 ^ 32 = p) && e.2.ofSlot q.kvns) ||
      x.stash.any (fun e => decide (e.1 / 64 = p) && e.2.ofSlot q.kvns)))

/-- Insert an item whose name is not in the table; none where it is refused, and the table then stands as it was
(R253). In a partition with keys of an open List sequence nothing is displaced (R257). -/
def Idx.insert (x : Idx) (seed : Nat) (e : IdxEntry) : Option Idx :=
  let h := x.placeOf e
  let stash : Option Idx := (x.freeStash h.1).map (fun i => x.put h.1 (.stash i) e)
  if x.gib = 0 || !x.placed then none
  else match x.freeSlot h.1 h.2.1 with
    | some i => some (x.put h.1 (.bucket h.2.1 i) e)
    | none => match x.freeSlot h.1 h.2.2 with
      | some i => some (x.put h.1 (.bucket h.2.2 i) e)
      | none =>
        if x.listed h.1 then stash
        else match x.displace h.1 seed 500 h.2.1 e with
          | some y => some y
          | none => stash

/-- Delete the item of that name. -/
def Idx.erase (x : Idx) (e : IdxEntry) : Idx :=
  match x.find e with
  | some (p, pl, _) => x.put p pl .free
  | none => x

/-- Replace the item of that name, or insert it. -/
def Idx.store (x : Idx) (seed : Nat) (e : IdxEntry) : Option Idx :=
  match x.find e with
  | some (p, pl, _) => some (x.put p pl e)
  | none => x.insert seed e

/-- Free values that an insertion may take. -/
def State.tick500 (s : State) : State := { s with free := s.free + 500 }

/-- Set an IDX_ERR bit with the partition and namespace (Table 11-7). -/
def State.idxRaise (s : State) (bit part nsid : Nat) : State :=
  s.raiseAt Reg.IDX_ERR bit Reg.IDX_ERR_LOC (bit * 2 ^ 28 + part * 2 ^ 9 + nsid)

/-- An insertion is refused (R253). -/
def State.idxFull (s : State) (part nsid : Nat) : State := (s.bump Reg.IDX_FULL_CNT).idxRaise 1 part nsid

/-! ### KV namespaces (R254) -/

/-- KV namespace slot of a namespace. -/
def State.kvSlot (s : State) (nsid : Nat) : Option Nat :=
  (s.idx.kvns.find? (fun e => decide (e.2 = nsid))).map (·.1)

/-- A key's item. -/
def keyItem (ns : Nat) (k : List Byte) : IdxEntry := .key ns k 0 0

/-- Value length and first span of a key. -/
def State.lookup (s : State) (ns : Nat) (k : List Byte) : Option (Nat × Nat) :=
  match s.idx.find (keyItem ns k) with
  | some (_, _, .key _ _ len first) => some (len, first)
  | _ => none

/-- Partition of a key. -/
def State.keyPart (s : State) (ns : Nat) (k : List Byte) : Nat := (s.idx.placeOf (keyItem ns k)).1

/-- Spans of a value. -/
def spansOfLen (n : Nat) : Nat := cdiv n 262144

/-- Runs of span numbers in use in a KV namespace: values, values that commands still read, values not yet
committed (R256). -/
def State.usedRuns (s : State) (ns nsid : Nat) : List (Nat × Nat) :=
  let ents := (s.idx.table ++ s.idx.stash).filterMap (fun e => match e.2 with
    | .key a _ len first => if a = ns then some (first, spansOfLen len) else none
    | _ => none)
  let live := s.idx.held.filter (fun h => decide (h.2.1 = nsid) && s.cmds.any (fun c => decide (c.tag = h.1)))
  let take := s.idx.taken.filter (fun h => decide (h.2.1 = nsid))
  ents ++ (live ++ take).map (fun h => (h.2.2.1, h.2.2.2))

/-- The first run of `k` free numbers, from the lowest up: no gap before an end of a run in use is missed. -/
def firstFit (used : List (Nat × Nat)) (size k : Nat) : Option Nat :=
  let cand := 0 :: used.map (fun r => r.1 + r.2)
  let ok (a : Nat) : Bool := decide (a + k ≤ size) && used.all (fun r => decide (r.2 = 0) || decide (a + k ≤ r.1) || decide (r.1 + r.2 ≤ a))
  (cand.filter ok).min?

/-- Span numbers of a KV namespace's run. -/
def kvSpans (n : Namespace) : Nat := cdiv (n.cap * 4096) 262144

/-- NUSE of a KV namespace (R177). -/
def State.nuseKv (s : State) (ns : Nat) : Nat :=
  ((s.idx.table ++ s.idx.stash).map (fun e => match e.2 with
    | .key a _ len _ => if a = ns then cdiv len 4096 else 0
    | _ => 0)).sum

/-! ### Directory entries (R259) -/

/-- The directory item of a span. -/
def dirItem (nsid sp : Nat) : IdxEntry := .dir nsid sp 0 0 0 false false

def State.dirOf (s : State) (nsid sp : Nat) : Option IdxEntry := (s.idx.find (dirItem nsid sp)).map (·.2.2)

/-- Drop a span's directory. -/
def State.dropDir (s : State) (nsid sp : Nat) : State := s.setIdx (s.idx.erase (dirItem nsid sp))

/-- Install a span's directory; a refused insertion leaves the span without one (R253). -/
def State.putDir (s : State) (e : IdxEntry) (nsid sp : Nat) : State :=
  let t := s.dropDir nsid sp
  match t.idx.store s.free e with
  | some x => (t.setIdx x).tick500
  | none => ((t.idxFull (t.idx.placeOf e).1 nsid).idxRaise 2 (t.idx.placeOf e).1 nsid).tick500

end Sys2Proof.Machine
end

