-- ==== Sys2Proof/Machine/Journal.lean ====
section
/-!
DEFINITION. The journal of the Chest (R184 to R187): what a record is, its place in the journal, the fill trigger, the hold, and
the segments that a commit leaves to be checkpointed.
-/

namespace Sys2Proof.Machine

/-! ### Records (Tables 8-1 and 8-2) -/

/-- Chest regions (Table 8-1). -/
inductive ChestRegion where
  | root | persist | rowtab | erase | opensum | wbdesc | journal
deriving DecidableEq, Repr

/-- The region of a Chest byte address. -/
def regionOf (a : Nat) : ChestRegion :=
  if a < 0x40000 then .root
  else if a < 0x400000 then .persist
  else if a < 0x3400000 then .rowtab
  else if a < 0x3500000 then .erase
  else if a < 0x6D00000 then .opensum
  else if a < 0xB500000 then .wbdesc
  else .journal

/-- Type, region and length in bytes of a change's record (Table 8-2). -/
def Change.form : Change → Nat × ChestRegion × Nat
  | .spanCommit _ => (0x01, .journal, 32)
  | .sysCommit _ _ _ _ => (0x01, .journal, 32)
  | .copyCommit _ _ _ _ _ _ _ => (0x02, .journal, 48)
  | .trim _ _ _ _ => (0x03, .journal, 32)
  | .splinter _ _ => (0x04, .journal, 32)
  | .coalesced _ _ _ _ _ => (0x04, .journal, 80)
  | .stripe _ _ => (0x07, .journal, 32)
  | .row _ _ _ _ => (0x08, .journal, 32)
  | .ckpt _ _ => (0x09, .journal, 32)
  | .seal _ => (0x0A, .journal, 32)
  | .slot _ _ => (0x10, .wbdesc, 576)
  | .slotFree _ => (0x10, .wbdesc, 576)
  | .eraseStart _ _ _ => (0x11, .erase, 16)
  | .move _ _ _ _ => (0x12, .erase, 16)
  | .image _ _ => (0x13, .opensum, 32)

/-- Bytes that a change takes in the journal; the other records lie in regions of their own. A coalesced span takes a COPY_COMMIT
and a GRAIN_BLOCK record, committed as one (log 207). -/
def Change.bytes (c : Change) : Nat := if c.form.2.1 = .journal then c.form.2.2 else 0

/-! ### Occupancy (R185, R186) -/

/-- Set a CHS_ERR bit and capture the event (Table 8-11). -/
def State.chsRaise (s : State) (bit addr : Nat) : State :=
  s.raiseAt Reg.CHS_ERR bit Reg.CHS_ERR_LOC (bit * 2 ^ 28 + addr % 2 ^ 28)

/-- Bytes of the journal ring (Table 8-1). -/
def journalSize : Nat := 78643200

def State.journalUsed (s : State) : Nat := (s.chest.journal.map (fun r => r.2.1)).sum

/-- Start a checkpoint, or another after the one that runs (R185). -/
def State.ckptStart (s : State) : State :=
  let c := s.chest
  if c.ckptActive then s.setChest { c with ckptAgain := true }
  else
    let t := s.setChest { c with ckptActive := true, ckptLeft := c.dirty, dirty := [], ckptTimer := 0, ckptFrom := c.seq }
    if c.dirty.isEmpty then t else t.wakeBy 4

/-- Journal occupancy has grown: the fill trigger of a checkpoint, and the hold at 15/16 (R185, R186). -/
def State.journalTest (s : State) (before : Nat) : State :=
  let now := s.journalUsed
  let fill := s.fieldNow Reg.CHS_CKPT_CTL 3 0 * journalSize
  let t := if before * 16 < fill ∧ fill ≤ now * 16 then s.ckptStart else s
  if 15 * journalSize ≤ now * 16 ∧ !t.jhold then { t with jhold := true }.chsRaise 0 0 else t

/-! ### What a commit changes (R185, R187) -/

/-- Journal number of an index partition, behind those of the segments. -/
def idxSeg (p : Nat) : Nat := 524288 + p

/-- Segments and partitions that hold what is mapped for a span. -/
def State.spanSegs (s : State) (n sp : Nat) : List Nat :=
  let b := s.spanEntry n sp
  let g := if eSplit b && eImage b then [grainSeg (eMaddr b)] else []
  let d := if (s.dirOf n sp).isSome then [idxSeg (s.idx.placeOf (dirItem n sp)).1] else []
  if n = 0 then [] else s.segOf n sp :: (g ++ d)

/-- A map entry refers to the image, or the old entry of a slot that is not MAPPED yet. -/
def State.mapRef (s : State) (i : Img) : Bool :=
  s.entryNames i (s.spanEntry i.nsid i.span) || s.dirNames i ||
    s.ftl.slots.any (fun v => decide (v.nsid = i.nsid) && decide (v.span = i.span) && !v.done &&
      (s.entryNames i v.old || v.oldGrains.any (fun g => i.named (eCh g.2) g.2)))

/-- Rows that a commit has taken a reference from keep the segments that referred to them, with its SEQ (R187). -/
def State.noteFreed (before s : State) (seq : Nat) (segs : List Nat) : State :=
  if segs.isEmpty then s
  else (before.ftl.imgs.filter (fun i => before.mapRef i && !s.mapRef i)).foldl (fun t i =>
    let l := bits i.maddr 42 37
    let b := bits i.maddr 36 21
    let r := t.row i.ch l b
    t.setRow i.ch l b { r with freed := r.freed.filter (fun e => !segs.contains e.1) ++ segs.map (fun k => (k, seq)) }) s

/-- A record of `bytes` whose change has altered segments `segs` stands in the journal; it ends a CLEAN SEAL's effect (R192). -/
def State.journaled (before s : State) (seq bytes : Nat) (segs : List Nat) : State :=
  let c := s.chest
  let t := s.setChest { c with
    sealed := none
    journal := if bytes = 0 then c.journal else c.journal ++ [(seq, bytes, segs)]
    dirty := c.dirty ++ segs.filter (fun k => !c.dirty.contains k) }
  let u := if t.ftl.drawer.room.isNone then t
    else segs.foldl (fun x k => x.setFtl { x.ftl with
      segs := Sparse.set (fun _ => {}) x.ftl.segs k { Sparse.get (fun _ => {}) x.ftl.segs k with dirty := true } }) t
  (State.noteFreed before u seq segs).journalTest before.journalUsed

/-- A record that is committed in this step takes the next SEQ. -/
def State.journalNow (before s : State) (bytes : Nat) (segs : List Nat) : State :=
  State.journaled before (s.setChest { s.chest with seq := s.chest.seq + 1 }) s.chest.seq bytes segs

/-- Number, first SEQ and next SEQ are as the journal stands: the root copy with the lower sequence number is written (R183). -/
def State.writeRoot (s : State) (kind : BootKind) (us : Nat) : State :=
  let c := s.chest
  let r : Root :=
    { seq := max c.rootA.seq c.rootB.seq + 1, kind := kind, flushUs := us, head := (c.journal.head?.map (·.1)).getD c.seq, tail := c.seq
      ckpt := c.ckptDone, pseq := s.ftl.pseq }
  if c.rootA.seq ≤ c.rootB.seq then s.setChest { c with rootA := r } else s.setChest { c with rootB := r }

/-- A SEAL record closes the journal, and the root says how (R189, R192). -/
def State.sealWith (s : State) (clean : Bool) (us : Nat) : State :=
  let c := s.chest
  (s.setChest { c with sealed := some clean, seq := c.seq + 1, journal := c.journal ++ [(c.seq, (Change.seal clean).bytes, [])] }).writeRoot
    (if clean then .clean else .flushed) us

end Sys2Proof.Machine
end

