-- ==== Sys2Proof/Machine/Store.lean ====
section
/-!
DEFINITION. The write path (R137, R139, R143 to R149, R164): placement, write-buffer slots, partial rewrites,
deallocation, image encode, and the commands that change NVM data.
-/

namespace Sys2Proof.Machine

/-! ### Free rows and placement (R137, R147, R149, R164) -/

/-- Free native rows of a channel, and its free level (R166). -/
def State.nativeFree (s : State) (ch : Nat) : Nat :=
  ((s.activeLuns ch).map (fun l => (s.rowsIn ch l .free false).length)).sum

def State.freeLevel (s : State) (ch : Nat) : Nat := s.nativeFree ch / max 1 (s.activeLuns ch).length

/-- The channel's Shelf has a free block (R149). -/
def State.shelfFree (s : State) (ch : Nat) : Bool := (s.activeLuns ch).any (fun l => !(s.rowsIn ch l .free true).isEmpty)

/-- A host stream finds a free native row beyond the reserve (R164). -/
def State.nativeRoom (s : State) (ch : Nat) : Bool :=
  (s.activeLuns ch).any (fun l => decide (s.reserve < (s.rowsIn ch l .free false).length))

/-- The channel is in direct mode: its Shelf has no free block, or has had none since the last epoch (R149). -/
def State.directNow (s : State) (ch : Nat) : Bool := (s.chan ch).direct || !s.shelfFree ch

/-- The rotation of R137 does not skip the channel. -/
def State.rotOk (s : State) (ch : Nat) : Bool :=
  s.present ch && (if s.directNow ch then s.nativeRoom ch else true) &&
    !((s.chan ch).urgent && decide ((s.chan ch).credit ≤ 0))

/-- The rotation pointer of a namespace: NSID mod 32 at its creation (R137). -/
def State.rotPtr (s : State) (nsid : Nat) : Nat := Sparse.get (fun n => n % 32) s.ftl.rot nsid

def State.setRot (s : State) (nsid v : Nat) : State :=
  s.setFtl { s.ftl with rot := Sparse.set (fun n => n % 32) s.ftl.rot nsid (v % 32) }

/-- A namespace starts at NSID mod 32 (R137). -/
def State.rotStart (s : State) (nsid : Nat) : State := s.setRot nsid nsid

/-- The pointer's channel, or the next that is not skipped; none while every channel is skipped. -/
def State.nextChan (s : State) (nsid : Nat) : Option Nat :=
  ((List.range 32).map (fun i => (s.rotPtr nsid + i) % 32)).find? s.rotOk

/-- Take a channel for a whole-span image; none while every channel is skipped. -/
def State.rotate (s : State) (nsid : Nat) : Option Nat × State :=
  match s.nextChan nsid with
  | some ch => (some ch, s.setRot nsid (ch + 1))
  | none => (none, s)

/-- Place an image of `len` units in the open superblock of a stream: its row, the next unit of it, the stripes of its pages
(R129, R134, R164). Its image record goes to OPENSUM (Table 8-2). Answers its media address. -/
def State.placeImage (s : State) (stream : Nat) (p : Place) (len : Nat) : Option (State × Nat) :=
  match s.profile? p.ch with
  | none => none
  | some q =>
    let t := s.advance stream p.slc p.ch len
    let r := t.row p.ch p.lun p.block
    let pages := (q.pagesTouched p.unit len).map (fun g => (⟨p.ch, p.lun, p.block, g⟩ : PageAt))
    if (t.rowsWithRoom (t.superOf stream) p.ch len).any (fun e => decide (e.1 = rowKey p.ch p.lun p.block)) ∧
        r.slc = p.slc ∧ p.unit = r.nextUnit ∧ p.stripes.length = (if s.dieParity then pages.length else 0) then
      match (t.setRow p.ch p.lun p.block (r.take len)).joinStripes stream (pages.zip p.stripes) with
      | some u =>
        let m := q.maddr p.lun p.block p.unit
        some ((u.placeParities p.stripes.dedup).issue (.image p.ch m), m)
      | none => none
    else none

/-- The program of an image. -/
def State.progOp (s : State) (p : Place) (m len cls : Nat) (by_ : Mover) : LunOp :=
  { id := 0, kind := .program, cls := cls, block := p.block, slc := p.slc, maddr := m, units := len, by_ := by_
    cw := cwsOf p.unit len
    pages := match s.profile? p.ch with
      | some q => q.pagesOf p.unit len
      | none => 1 }

/-! ### Receiving data into slots (R139, R144) -/

/-- A grain block is free, blocks that records not yet committed will take apart (R139). -/
def State.blockFree (s : State) : Bool :=
  decide (s.grainUsed + (s.chest.pending.filter (fun r => match r.change with
    | .splinter _ _ => true
    | _ => false)).length < s.grainCap)

/-- The span is whole and its image known to be unreadable (R167). -/
def State.knownBad (s : State) (nsid sp : Nat) : Bool :=
  let e := s.spanEntry nsid sp
  eImage e && !eSplit e && (match s.img? (eCh e) (eMaddr e) with
    | some i => i.unreadable
    | none => false)

/-- The partial rewrite must fail at admission (R167). -/
def State.partialBad (s : State) (nsid sp : Nat) : Bool := s.knownBad nsid sp && !s.blockFree

/-- Splinter a span (R139 step 2): the block is allocated at the commit of its record. -/
def State.splinter (s : State) (nsid sp : Nat) : State := (s.issue (.splinter nsid sp)).bump Reg.FTL_SPLINTER_CNT

/-- A partial rewrite of a span (R139): it counts, and the answer says whether its grains are stored as grain
images. -/
def State.partialRewrite (s : State) (nsid sp : Nat) : State × Bool :=
  let c := min 255 (s.rewriteCount nsid sp + 1)
  let t := s.setRewrites nsid sp c
  if s.splintered nsid sp then (t, true)
  else match s.slotOf nsid sp with
    | some v => (t, v.grainImages)
    | none =>
      if s.knownBad nsid sp then (t.splinter nsid sp, true)
      else if s.fieldNow Reg.FTL_SPLINTER_THR 7 0 < c then
        if s.blockFree then (t.splinter nsid sp, true)
        else ((t.bump Reg.FTL_RMW_CNT).mapRaise 4 0, false)
      else (t.bump Reg.FTL_RMW_CNT, false)

/-- The slot's next image takes a channel of the rotation, unless every channel is skipped (R137); the WBUF entry names it. -/
def State.takeChan (s : State) (v : Slot) : State × Slot :=
  match s.rotate v.nsid with
  | (some ch, t) =>
    let e := t.spanEntry v.nsid v.span
    (if eWbuf e && decide (eMaddr e = v.idx) then t.setSpan v.nsid v.span (slotEntry ch v.idx) else t,
      { v with ch := ch, unplaced := false })
  | (none, t) => (t, { v with ch := s.rotPtr v.nsid, unplaced := true })

/-- Data of one command for one span enters its slot, taken if the span has none; the SLOT record is issued. Bytes of a
deallocated grain are empty. A slot that gathered grain images of a splintered span and now takes the whole span takes a channel
of the rotation. -/
def State.receive (s : State) (tag inst nsid sp : Nat) (grainMode : Bool) (kvLen : Option Nat)
    (data : List (Nat × List Byte)) : State :=
  let recv := data.map (fun d => (tag, d.1, d.2))
  match s.slotOf nsid sp with
  | some v =>
    let r := if v.grainImages && !grainMode then s.takeChan v else (s, v)
    (r.1.putSlot { r.2 with recv := v.recv ++ recv, inst := inst, grainImages := v.grainImages && grainMode, dir := none
                            kvLen := if kvLen.isSome then kvLen else v.kvLen }).issue (.slot v.idx tag)
  | none =>
    let v : Slot := { idx := s.newSlot, nsid := nsid, span := sp, recv := recv, grainImages := grainMode, kvLen := kvLen, inst := inst }
    let r := if grainMode && eImage (s.spanEntry nsid sp) then (s, { v with ch := eCh (s.spanEntry nsid sp) }) else s.takeChan v
    (r.1.tick.putSlot r.2).issue (.slot v.idx tag)

/-- Store grains of one span for a command (R137, R139). -/
def State.storeSpan (s : State) (tag inst nsid sp : Nat) (data : List (Nat × List Byte)) : State :=
  if data.length = 64 then (s.setRewrites nsid sp 0).receive tag inst nsid sp false none data
  else
    let r := s.partialRewrite nsid sp
    r.1.receive tag inst nsid sp r.2 none data

/-- Deallocate grains of one span for a command (R143). -/
def State.deallocSpan (s : State) (tag inst nsid sp : Nat) (grains : List Nat) : State :=
  if grains.length = 64 then s.issue (.trim (some tag) nsid sp grains)
  else if s.splintered nsid sp then
    (s.partialRewrite nsid sp).1.issue (.trim (some tag) nsid sp grains)
  else
    let r := s.partialRewrite nsid sp
    r.1.receive tag inst nsid sp r.2 none (grains.map (fun g => (g, [])))

/-! ### What commits do to slots and entries -/

/-- Replace or add a keyed element. -/
def upsert {α : Type} (l : List (Nat × α)) (k : Nat) (v : α) : List (Nat × α) :=
  l.filter (fun e => decide (e.1 ≠ k)) ++ [(k, v)]

/-- The grains of a slot take the data of a command; deallocated grains become zeros (R143, R146). -/
def mergeRecv (zero : List Byte) (gs : List (Nat × List Byte)) : List (Nat × List Byte) → List (Nat × List Byte)
  | [] => gs
  | (g, b) :: t => mergeRecv zero (upsert gs g (if b.isEmpty then zero else b)) t

/-- Mapped units after a command's data is held. -/
def maskAfter (m : Nat) : List (Nat × List Byte) → Nat
  | [] => m
  | (g, b) :: t =>
    let bit := if m.testBit g then 2 ^ g else 0
    maskAfter (if b.isEmpty then m - bit else if m.testBit g then m else m + 2 ^ g) t

/-- The span entry carries WBUF for the slot; the slot keeps the entry it replaces. -/
def State.claimSpan (s : State) (v : Slot) : State :=
  let e := s.spanEntry v.nsid v.span
  if eWbuf e && decide (eMaddr e = v.idx) then s.putSlot { v with grainImages := false }
  else (s.putSlot { v with old := e, oldGrains := [], grainImages := false }).setSpan v.nsid v.span (slotEntry v.ch v.idx)

/-- A grain entry carries WBUF for the slot. -/
def State.claimGrain (s : State) (idx g : Nat) : State :=
  match s.slotAt idx with
  | none => s
  | some v =>
    let x := s.grainEntry v.nsid v.span g
    if eWbuf x && decide (eMaddr x = idx) then s
    else (s.putSlot { v with oldGrains := upsert v.oldGrains g x }).setGrain v.nsid v.span g (slotEntry v.ch idx)

/-- A SLOT record is committed: the command's data of that slot is HELD (Table 6-4). -/
def State.commitSlot (s : State) (idx tag : Nat) : State :=
  match s.slotAt idx with
  | none => s
  | some v =>
    let mine := (v.recv.filter (fun r => decide (r.1 = tag))).map (·.2)
    let zero := match s.nsOf v.nsid with
      | some n => zeroGrain n
      | none => []
    let gs := mine.map (·.1)
    let v1 := { v with
      recv := v.recv.filter (fun r => decide (r.1 ≠ tag)), grains := mergeRecv zero v.grains mine
      fresh := (v.fresh ++ gs).dedup, state := .held, done := false, dumped := false, tags := (v.tags ++ [tag]).dedup
      oldMask := if v.grains.isEmpty then s.maskOf v.nsid v.span else v.oldMask }
    let t := (s.putSlot v1).setMask v.nsid v.span (maskAfter (s.maskOf v.nsid v.span) mine)
    let t1 := { t with dram := { t.dram with
      grains := t.dram.grains.filter (fun p => !(decide (p.1 = v.nsid) && decide (p.2.1 = v.span) && gs.contains p.2.2)) } }
    let t2 := if v.dir.isSome then t1 else t1.dropDir v.nsid v.span
    if v.grainImages && t2.splintered v.nsid v.span then gs.foldl (fun u g => u.claimGrain idx g) t2
    else t2.claimSpan v1

/-- Free the grain block an entry names. -/
def State.freeBlock (s : State) (e : BitVec 64) : State := if eSplit e && eImage e then s.setBlock (eMaddr e) none else s

/-- Stripes of images at a slot's locations. -/
def State.slotStripes (s : State) (v : Slot) : List Nat :=
  v.imgs.flatMap (fun l => match s.img? v.ch l.maddr with
    | some i => i.stripes
    | none => [])

/-- Every MAPPED slot whose parity pages are programmed is released, by a SLOT record (R129, Table 8-2). -/
def State.releaseSlots (s : State) : State :=
  s.ftl.slots.foldl (fun t v =>
    if v.done && !v.freeing && t.parityDone (t.slotStripes v) then (t.putSlot { v with freeing := true }).issue (.slotFree v.idx) else t) s

/-- The record of a release is committed. -/
def State.commitSlotFree (s : State) (idx : Nat) : State :=
  match s.slotAt idx with
  | some v => if v.done && v.freeing then s.dropSlot idx else s
  | none => s

/-- One grain image of a slot's commit. -/
def State.commitGrain (s : State) (v : Slot) (l : Loc) (g : Nat) : State :=
  let x := s.grainEntry v.nsid v.span g
  if eWbuf x && decide (eMaddr x = v.idx) then
    if v.fresh.contains g then
      match s.slotAt v.idx with
      | some w => s.putSlot { w with oldGrains := upsert w.oldGrains g (imgEntry v.ch l false) }
      | none => s
    else s.setGrain v.nsid v.span g (imgEntry v.ch l false)
  else s

/-- The whole image of a slot's commit (R141, R144). -/
def State.commitWhole (s : State) (v : Slot) (l : Loc) : State :=
  let e := s.spanEntry v.nsid v.span
  if eWbuf e && decide (eMaddr e = v.idx) then
    let t := s.freeBlock v.old
    if v.fresh.isEmpty then
      match v.imgs.find? (fun x => decide (x.grain = some 64)) with
      | some d => (t.setSpan v.nsid v.span (imgEntry v.ch l false)).putDir
          (.dir v.nsid v.span v.ch d.len d.maddr d.raw d.shelf) v.nsid v.span
      | none => t.setSpan v.nsid v.span (imgEntry v.ch l false)
    else match t.slotAt v.idx with
      | some w => t.putSlot { w with old := imgEntry v.ch l false }
      | none => t
  else s

/-- A SPAN_COMMIT of a slot is committed: the entries point to media (MAPPED). -/
def State.commitSpan (s : State) (idx : Nat) : State :=
  match s.slotAt idx with
  | none => s
  | some v =>
    let t := v.imgs.foldl (fun u l => match l.grain with
      | none => u.commitWhole v l
      | some g => if g = 64 then u else u.commitGrain v l g) s
    match t.slotAt idx with
    | none => t
    | some w =>
      if v.fresh.isEmpty && v.recv.isEmpty then
        (t.putSlot { w with state := .mapped, done := true, tags := [], flight := [], grains := [], programs := 0 }).releaseSlots
      else
        let kept := grainMask ((w.grains.map (·.1)).filter (fun g => !w.fresh.contains g))
        t.putSlot { w with state := .held, imgs := [], flight := [], oldMask := w.oldMask ||| kept }

/-- A GRAIN_BLOCK record of a splinter is committed (R138, R139): every entry INSPAN on the old image, or 0. A span in a slot
splinters on the entry that the slot keeps, and its grains in the slot carry WBUF. The grains of a span that no image names a
channel of go to its slot's channel, or to the rotation's (log 187). -/
def State.commitSplinter (s0 : State) (nsid sp : Nat) : State :=
  let s := s0.dropDir nsid sp
  let e := s.spanEntry nsid sp
  let b := s.newBlock
  let inspan (o : BitVec 64) : BitVec 64 :=
    if eImage o && !eSplit o then mkEntry false (eShelf o) false true (eRaw o) (eCh o) (eLen o) (eMaddr o) else 0
  if eSplit e && !eWbuf e then s
  else if eWbuf e then
    match s.slotAt (eMaddr e) with
    | none => s
    | some v =>
      if eSplit v.old && eImage v.old then s
      else
        let ent := (List.range 64).map (fun g =>
          if v.grains.any (fun x => decide (x.1 = g)) then slotEntry v.ch v.idx else inspan v.old)
        let ch := if eImage v.old then eCh v.old else v.ch
        ((s.tick.setBlock b (some { nsid := nsid, span := sp, entries := ent })).setSpan nsid sp (splitEntry ch b)).putSlot
          { v with ch := ch, grainImages := true, stuck := false
                   oldGrains := v.grains.map (fun x => (x.1, inspan v.old)) }
  else
    let ch := if eImage e then eCh e else match s.slotOf nsid sp with
      | some v => v.ch
      | none => s.rotPtr nsid
    (s.tick.setBlock b (some { nsid := nsid, span := sp, entries := List.replicate 64 (inspan e) })).setSpan nsid sp
      (splitEntry ch b)

/-- Take grains out of a slot: what is deallocated needs no program. -/
def State.slotForget (s : State) (idx : Nat) (grains : List Nat) : State :=
  match s.slotAt idx with
  | none => s
  | some v =>
    let keep := v.grains.filter (fun x => !grains.contains x.1)
    if keep.isEmpty && v.recv.isEmpty then s.dropSlot idx
    else s.putSlot { v with grains := keep, fresh := v.fresh.filter (fun g => !grains.contains g) }

/-- A TRIM record is committed (R143). -/
def State.commitTrim (s0 : State) (nsid sp : Nat) (grains : List Nat) : State :=
  let s := s0.dropDir nsid sp
  let e := s.spanEntry nsid sp
  let unmapped := (List.range 64).filter (fun g => (s.maskOf nsid sp).testBit g && !grains.contains g)
  let t := { s with dram := { s.dram with
    grains := s.dram.grains.filter (fun p => !(decide (p.1 = nsid) && decide (p.2.1 = sp) && grains.contains p.2.2)) } }
  let u := match t.slotOf nsid sp with
    | some v => t.slotForget v.idx grains
    | none => t
  if 64 ≤ grains.length then
    let old := match s.slotOf nsid sp with
      | some v => v.old
      | none => 0
    (((u.freeBlock e).freeBlock (if eWbuf e then old else 0)).setSpan nsid sp trimEntry).setMask nsid sp 0
  else (grains.foldl (fun w g => if w.splintered nsid sp then w.setGrain nsid sp g trimEntry else w) u).setMask nsid sp
    (grainMask unmapped)

/-! ### Image encode (R135, R137, R239) -/

/-- Bytes of the plaintext of a slot's whole image: its own grains, and for the others the old image (R139 step
3); a KV span's value bytes. -/
def State.slotPlain (s : State) (v : Slot) (n : Namespace) : Except RdErr (List Byte) :=
  match v.kvLen with
  | some k => .ok ((v.grains.flatMap (·.2)).take k)
  | none =>
    match s.storedGrains n v.nsid v.span (List.range 64) with
    | .error e => .error e
    | .ok l => .ok (plainOfGrains l)

/-- The slot's whole image needs the old image. -/
def State.needsOld (s : State) (v : Slot) : List (Nat × Nat) :=
  if v.kvLen.isSome || v.grainImages then []
  else s.imagesFor v.nsid ((List.range 64).map (fun g => (v.span, g)))

/-- Grains of a span that a PIPE_WRITE to an NVM namespace covers. -/
def pipeCovers (c : Cmd) (sp : Nat) : List Nat :=
  (lbaSpans (c.q 10) ((c.d 12).toNat / 4096)).flatMap (fun p => if p.1 = sp then p.2 else [])

/-- Bytes that STORED counts of one slot for a PIPE_WRITE (R90): the image where the command covers the span in
full, else the grain images of the grains it covers. -/
def storedBytes (c : Cmd) (v : Slot) (save : Nat) (whole : Nat) (parts : List (Nat × List Byte)) : Nat :=
  if v.kvLen.isSome || decide ((pipeCovers c v.span).length = 64) then whole
  else ((pipeCovers c v.span).map (fun g =>
    let b := match parts.find? (fun p => decide (p.1 = g)) with
      | some p => p.2
      | none => []
    let d := match v.grains.find? (fun x => decide (x.1 = g)) with
      | some x => x.2
      | none => []
    (encodeImage save b d).2.length)).sum

/-- An image of a slot has been encoded: STORED of the commands whose data it carries (R90). A grain image adds its length where
the command covers the grain; the span is done with its last image. An image that is encoded again counts nothing. -/
def State.countStored (s : State) (v : Slot) (save : Nat) (grain : Option Nat) (len : Nat) (last : Bool)
    (parts : List (Nat × List Byte)) : State :=
  let g := grain.getD 64
  let t : State := { s with cmds := s.cmds.map (fun c =>
      if c.encodes ≠ 0 ∧ v.tags.contains c.tag ∧ !v.counted.contains (c.tag, g) then
        let n := match grain with
          | none => storedBytes c v save len parts
          | some g => if (pipeCovers c v.span).contains g then len else 0
        { c with stored := c.stored + n, encodes := c.encodes - b2n (last && !v.counted.contains (c.tag, 65)) }
      else c) }
  match t.slotAt v.idx with
  | some w => t.putSlot { w with counted := (w.counted ++ v.tags.flatMap (fun x => (x, g) :: if last then [(x, 65)] else [])).dedup }
  | none => t

/-- A Press has worked: bytes in and out, and a RAW output (Table 10-10). -/
def State.pressCount (s : State) (strand inp out : Nat) (raw : Bool) : State :=
  let t := (s.bump64 (Reg.PRS_IN_LO strand) inp).bump64 (Reg.PRS_OUT_LO strand) out
  if raw then t.bump (Reg.PRS_RAW_CNT strand) else t

/-- Write an encoded image: placed, programmed as class 3 work, its record pending (R137, R164). -/
def State.writeImage (s : State) (v : Slot) (n : Namespace) (grain : Option Nat) (enc : Bool × List Byte) (p : Place) :
    Option State :=
  let len := unitsOf enc.2.length
  match s.placeImage (if p.slc then 0 else 1) p len with
  | none => none
  | some (t, m) =>
    let img : Img :=
      { ch := p.ch, maddr := m, len := len, shelf := p.slc, raw := enc.1, nsid := v.nsid, span := v.span, grain := grain
        bytes := enc.2, keyGen := n.keyGen, stripes := p.stripes }
    let loc : Loc := { grain := grain, maddr := m, len := len, raw := enc.1, shelf := p.slc }
    let op := { t.progOp p m len 3 .host with slot := some v.idx, tag := (v.flight ++ v.tags).getLast?, inst := v.inst }
    let u := (t.putImg img).enqueue p.ch p.lun op
    let c := u.chan p.ch
    let w := if c.urgent then u.setChan p.ch { c with credit := c.credit - (len : Int) } else u
    some (w.putSlot { v with programs := v.programs + 1, imgs := v.imgs ++ [loc], ch := p.ch, unplaced := grain.isNone })

/-- An image whose codewords reach step 5 when internal work needs it: it counts once, and a ROW record pins its row (R167). -/
def State.pinImg (s : State) (ch m : Nat) : State :=
  match s.img? ch m with
  | none => s
  | some i =>
    if i.unreadable then s
    else (s.dataError.setFtl { s.dataError.ftl with
        imgs := s.ftl.imgs.map (fun x => if x.ch = ch ∧ x.maddr = m then { x with unreadable := true } else x) }).issue
      (.row ch (maLun m) (maBlock m) .pin)

/-- A read-modify-write whose old image is unreadable is given up: the span splinters, whatever its count; with
no grain block free the slot stays HELD until one is (R139, R167). -/
def State.giveUpRmw (s : State) (v : Slot) (ims : List (Nat × Nat)) : State :=
  let u := ims.foldl (fun t im => t.pinImg im.1 im.2) s
  if u.blockFree then (u.splinter v.nsid v.span).putSlot { v with grainImages := true, stuck := false, rmwAsked := false, rmwBad := false }
  else (u.putSlot { v with stuck := true, rmwAsked := false, rmwBad := false }).mapRaise 4 0

/-- A grain block is free again: a slot that waits for one splinters its span (R167). -/
def State.unstick (s : State) : State :=
  match s.ftl.slots.find? (fun v => v.stuck) with
  | some v => if s.blockFree then (s.splinter v.nsid v.span).putSlot { v with grainImages := true, stuck := false } else s
  | none => s

/-- The place lies where the rotation puts the slot's image (R137, R138, R149); a grain image or a directory goes to the span's
channel. In flush mode no image is placed (R189). -/
def State.placeOk (s : State) (v : Slot) (whole : Bool) (p : Place) : Bool :=
  let ch := if !whole || (!v.unplaced && s.rotOk v.ch) then some v.ch else s.nextChan v.nsid
  decide (ch = some p.ch) && (p.slc == !(s.directNow p.ch)) && !s.flushMode

/-- One image of a slot, whole or of one grain. -/
def State.encodeSlot (s : State) (v : Slot) (n : Namespace) (grain : Option Nat) (body : List Byte)
    (parts : List (Nat × List Byte)) (p : Place) (plain : List Byte) : State :=
  let save := s.fieldNow (Reg.PRS_MIN_SAVING p.ch) 7 0
  let enc := encodeImage save body plain
  let v1 := match grain with
    | none => { v with fresh := [], flight := v.flight ++ v.tags, tags := [] }
    | some g =>
      let f := v.fresh.filter (fun x => decide (x ≠ g))
      if f.isEmpty then { v with fresh := [], flight := v.flight ++ v.tags, tags := [] } else { v with fresh := f }
  let s0 := if grain.isNone && (v.unplaced || !s.rotOk v.ch) then s.setRot v.nsid (p.ch + 1) else s
  match s0.writeImage { v1 with tags := v.tags, rmwAsked := false } n grain enc p with
  | none => s
  | some t =>
    let w := (t.pressCount p.ch plain.length enc.2.length enc.1).countStored v save grain enc.2.length v1.tags.isEmpty parts
    match w.slotAt v.idx with
    | some x =>
      let e := w.spanEntry v.nsid v.span
      (if grain.isNone && eWbuf e && decide (eMaddr e = v.idx) then w.setSpan v.nsid v.span (slotEntry p.ch v.idx) else w).putSlot
        { x with tags := v1.tags, flight := v1.flight }
    | none => w

/-- The directory image of a slot, on the channel of its span (R259). -/
def State.encodeDir (s : State) (v : Slot) (n : Namespace) (body : List Byte) (p : Place) (d : List Byte) : State :=
  let enc := encodeImage (s.fieldNow (Reg.PRS_MIN_SAVING p.ch) 7 0) body d
  match s.writeImage v n (some 64) enc p with
  | none => s
  | some t => t.pressCount p.ch d.length enc.2.length enc.1

/-- The whole image of a slot: the old image that a read-modify-write needs is read first (R139 step 3). -/
def State.encodeWhole (s : State) (v : Slot) (n : Namespace) (body : List Byte) (parts : List (Nat × List Byte)) (p : Place) : State :=
  let old := s.needsOld v
  if !old.isEmpty && !v.rmwAsked then (s.putSlot { v with rmwAsked := true }).queueReads v.readFor old
  else if s.reading (.rmw v.idx) then s
  else if v.rmwBad then s.giveUpRmw v old
  else match s.slotPlain v n with
    | .ok d => s.encodeSlot v n none body parts p d
    | .error e =>
      if e.st = .unrecoveredRead then s.giveUpRmw v old
      else (s.raiseAt (Reg.PRS_ERR v.ch) 0 (Reg.PRS_ERR_LOC v.ch) (2 * 2 ^ 25 + e.st.code % 256)).giveUpRmw v old

/-- IMAGE_ENCODE (R135, R137 to R139, R239, R259): the Press encodes a slot's span, one of its grains, or its directory
(64), and the image is placed and queued for its program. `body` is the TBLZ body that the encoder formed, `parts` those of
the grain images that STORED counts (R90). -/
def execImageEncode (slot : Nat) (grain : Option Nat) (body : List Byte) (parts : List (Nat × List Byte)) (spot : Spot)
    (stripes : List Nat) (s : State) : Result :=
  let place : Place := { spot with stripes := stripes }
  .next (match s.slotAt slot with
    | none => s
    | some v =>
      match s.nsOf v.nsid with
      | none => s
      | some n =>
        if v.state ≠ .held ∨ v.done ∨ (v.fresh.isEmpty ∧ grain ≠ some 64) ∨ !s.placeOk v grain.isNone place then s
        else match grain with
          | some g =>
            if g = 64 then
              match v.dir with
              | some d =>
                if v.imgs.any (fun l => decide (l.grain = some 64)) then s else s.encodeDir v n body place d
              | none => s
            else match v.grains.find? (fun x => decide (x.1 = g)) with
            | some x =>
              if v.grainImages && v.fresh.contains g && s.splintered v.nsid v.span then
                s.encodeSlot v n grain body parts place x.2
              else s
            | none => s
          | none =>
            if v.grainImages ∨ v.stuck ∨ v.imgs.any (fun l => decide (l.grain ≠ some 64)) then s
            else s.encodeWhole v n body parts place)

/-- The program of a slot's image has ended with a pass. When the last one has, every page of the images is
programmed, and their SPAN_COMMIT is issued (Table 6-4). -/
def State.slotProgrammed (s : State) (idx : Nat) : State :=
  match s.slotAt idx with
  | none => s
  | some v =>
    let k := v.programs - 1
    let all := decide (k = 0) && v.imgs.any (fun l => decide (l.grain ≠ some 64)) &&
      (v.dir.isNone || v.imgs.any (fun l => decide (l.grain = some 64)))
    let t := s.putSlot { v with programs := k, state := if all && v.fresh.isEmpty then .programmed else v.state }
    if all then t.issue (.spanCommit idx) else t

/-- The program of a slot's image has failed: the image is written again from the write buffer (Table 5-8). -/
def State.slotFailed (s : State) (idx maddr : Nat) : State :=
  match s.slotAt idx with
  | none => s
  | some v =>
    let lost := v.imgs.filter (fun l => decide (l.maddr = maddr))
    let again := lost.flatMap (fun l => match l.grain with
      | some g => if g = 64 then [] else [g]
      | none => v.grains.map (·.1))
    s.putSlot { v with programs := v.programs - 1, imgs := v.imgs.filter (fun l => decide (l.maddr ≠ maddr))
                       fresh := (v.fresh ++ again).dedup, tags := v.flight ++ v.tags, flight := [], state := .held
                       unplaced := false }

/-! ### Commands -/

/-- Blocks of a host buffer: data and metadata, for `k` blocks. -/
def blocksOf (n : Namespace) (data mdata : List Byte) (k : Nat) : List (List Byte) :=
  let ms := metaSize n.lbaf
  (List.range k).map (fun i =>
    if n.ext then slice data ((4096 + ms) * i) (4096 + ms) else slice data (4096 * i) 4096 ++ slice mdata (ms * i) ms)

/-- Store consecutive blocks from LBA `a` for a command. -/
def State.storeBlocks (s : State) (c : Cmd) (a : Nat) (bs : List (List Byte)) : State :=
  (lbaSpans a bs.length).foldl (fun t p =>
    t.storeSpan c.tag c.inst c.nsid p.1 (p.2.map (fun g => (g, nth [] bs (p.1 * 64 + g - a))))) s

/-- Orders 1 to 3 of Table 7-5 and the check of R167 for a write of LBAs. -/
def State.nvmAdmit (s : State) (c : Cmd) (n : Namespace) (a k : Nat) : Option Status :=
  match s.writeCheck c with
  | some st => some st
  | none =>
    let r := lbaSpans a k
    if n.cap < s.nuseNvm c.nsid + s.newUnits c.nsid r then some .capacityExceeded
    else if r.any (fun p => decide (p.2.length < 64) && s.partialBad c.nsid p.1) then some .unrecoveredRead
    else none

/-- NVM_WRITE (R15, R86, R145): all its data is received, and a SLOT record issued for each span it touches. -/
def execNvmWrite (tag : Nat) (data mdata : List Byte) (s : State) : Result :=
  .next (s.onCmd tag false [0x01] (fun c =>
    match s.kindNs c .nvm with
    | none => s
    | some n =>
      let k := c.blocks
      let h := c.hostNs n
      let bs := blocksOf h data mdata k
      if c.phase ≠ .fetched then s
      else if mdtsBlocks < k then s.err c .invalidField
      else if n.size < c.slba + k then s.err c .lbaRange
      else if c.sgl && decide (data.length < bufLen h k) then s.err c .sglLength
      else if c.piBad n c.slba then s.err c .invalidProt
      else if data.length < bufLen h k ∨ mdata.length < metaLen h k then s
      else match if c.pract then none else c.piCheck n bs with
      | some st => s.err c st
      | none => match s.nvmAdmit c n c.slba k with
        | some st => if st = .unrecoveredRead then s.failRead c ⟨st, 0, 0, c.slba / 64⟩ else s.err c st
        | none => s.gateSpans c c.nsid ((lbaSpans c.slba k).map (·.1)) (fun t =>
            (t.storeBlocks c c.slba (c.fromHost n bs)).setCmd { c with phase := .received })))

/-- Bytes of zeros that a Write Zeroes or a deallocation puts into the write buffer for one span: none where the whole span,
or grains of a splintered span, are deallocated (R143). -/
def State.zeroNeed (s : State) (n : Namespace) (deac : Bool) (nsid : Nat) (p : Nat × List Nat) : Nat :=
  if deac && (decide (p.2.length = 64) || s.splintered nsid p.1) then 0 else p.2.length * grainLen (metaSize n.lbaf)

/-- One span of a Write Zeroes, or of a deallocation. -/
def State.zeroSpan (s : State) (c : Cmd) (n : Namespace) (deac : Bool) (p : Nat × List Nat) : State :=
  if deac then s.deallocSpan c.tag c.inst c.nsid p.1 p.2
  else
    let z := List.replicate (grainLen (metaSize n.lbaf)) (0 : Byte)
    s.storeSpan c.tag c.inst c.nsid p.1 (p.2.map (fun g => (g,
      if n.pi ≠ 0 ∧ c.pract then n.protect c.appTag (c.refOf n (p.1 * 64 + g - c.slba)) z else z)))

/-- Go through the spans from the first that the command has not acted on, as long as the dirty data stays within its limit
(R16); with the last one it has received its data. The rest follow when the command is taken up again (log 188). -/
def State.zeroSpans (s : State) (c : Cmd) (n : Namespace) (deac : Bool) (k : Nat) : List (Nat × List Nat) → State
  | [] => s.setCmd { c with phase := .received, at_ := k }
  | p :: t =>
    if s.dirtyMax < s.dirtyBytes + s.zeroNeed n deac c.nsid p then s.setCmd { c with phase := .active, at_ := k }
    else State.zeroSpans (s.zeroSpan c n deac p) c n deac (k + 1) t

/-- The checks of Table 7-5 and R167, at the first take-up of the command; a deallocation raises no NUSE. -/
def State.zeroAdmit (s : State) (c : Cmd) (n : Namespace) (deac : Bool) (r : List (Nat × List Nat)) : Option Status :=
  if c.phase = .active then none
  else match s.writeCheck c with
    | some st => some st
    | none =>
      if !deac && decide (n.cap < s.nuseNvm c.nsid + s.newUnits c.nsid r) then some .capacityExceeded
      else if r.any (fun p => decide (p.2.length < 64) && s.partialBad c.nsid p.1) then some .unrecoveredRead
      else none

/-- Act on the spans of a Write Zeroes or a deallocation. -/
def State.zeroRun (s : State) (c : Cmd) (n : Namespace) (deac : Bool) (lba : Nat) (r : List (Nat × List Nat)) : State :=
  match s.zeroAdmit c n deac r with
  | some st => if st = .unrecoveredRead then s.failRead c ⟨st, 0, 0, lba / 64⟩ else s.err c st
  | none => s.gateSpans c c.nsid (r.map (·.1)) (fun t => t.zeroSpans c n deac c.at_ (r.drop c.at_))

/-- WRITE_ZEROES (R86, R143): stores zeros, under PRACT with protection information for them, or with DEAC deallocates. -/
def execWriteZeroes (tag : Nat) (s : State) : Result :=
  .next (s.onCmd tag false [0x08] (fun c =>
    match s.kindNs c .nvm with
    | none => s
    | some n =>
      if c.phase ≠ .fetched ∧ c.phase ≠ .active then s
      else if n.size < c.slba + c.blocks then s.err c .lbaRange
      else s.zeroRun c n (bitOf (c.d 12).toNat 25) c.slba (lbaSpans c.slba c.blocks)))

/-- Join the ranges of a Dataset Management into spans with their grains. -/
def mergeRanges (l : List (Nat × Nat)) : List (Nat × List Nat) :=
  let all := l.flatMap (fun r => lbaSpans r.1 r.2)
  ((all.map (·.1)).dedup).map (fun sp =>
    (sp, (List.range 64).filter (fun g => all.any (fun p => decide (p.1 = sp) && p.2.contains g))))

/-- DATASET_MANAGEMENT (R86, R143): `ranges` are the LBA ranges read from the host's list. Without Deallocate
it has no effect. -/
def execDatasetManagement (tag : Nat) (ranges : List (Nat × Nat)) (s : State) : Result :=
  .next (s.onCmd tag false [0x09] (fun c =>
    match s.kindNs c .nvm with
    | none => s
    | some n =>
      let l := ranges.take (c.f 10 7 0 + 1)
      let r := mergeRanges l
      if c.phase ≠ .fetched ∧ c.phase ≠ .active then s
      else if !bitOf (c.d 11).toNat 2 then s.ok c
      else if l.any (fun x => decide (n.size < x.1 + x.2)) then s.err c .lbaRange
      else s.zeroRun c n true 0 r))

/-- Every write the Flush waits for is MAPPED in every span it touched. -/
def State.flushed (s : State) (tags : List Nat) : Bool :=
  !s.ftl.slots.any (fun v => (v.tags ++ v.flight).any tags.contains || v.recv.any (fun r => tags.contains r.1))

/-- FLUSH (R145): completes when every write completed before it was fetched is MAPPED. -/
def execFlush (tag : Nat) (s : State) : Result :=
  .next (s.onCmd tag false [0x00] (fun c =>
    if s.flushed c.waits && !(c.waits.any s.recordsOf) then s.ok c else s))

/-- The command completes only when what it wrote is MAPPED: Force Unit Access, and a deallocation, which survives power loss on
any board from its completion (R143, R145). -/
def Cmd.fua (c : Cmd) : Bool :=
  if c.opcode = 0x81 then bitOf (c.d 13).toNat 28
  else if c.opcode = 0x01 then bitOf (c.d 12).toNat 30
  else if c.opcode = 0x08 then bitOf (c.d 12).toNat 30 || bitOf (c.d 12).toNat 25
  else decide (c.opcode = 0x09)

/-- Every record the command needs is in the Chest, and its index, encode and shard work has ended (R15, R90). -/
def State.ackReady (s : State) (c : Cmd) (nvm : Bool) : Bool :=
  decide (c.phase = .received) && !s.recordsOf c.tag && decide (c.encodes = 0) && decide (c.shards = 0) &&
    !(s.ftl.slots.any (fun v => v.recv.any (fun r => decide (r.1 = c.tag)))) &&
    (!(c.fua && nvm) || s.flushed [c.tag])

/-- WRITE_COMMAND_ACK (R15, R143, R145): a media-changing command completes. -/
def execWriteCommandAck (tag : Nat) (s : State) : Result :=
  .next (match s.cmd? tag with
    | none => s
    | some c =>
      if !c.admin && s.ackReady c (decide (c.opcode = 0x81) || (s.kindNs c .nvm).isSome) then
        match c.fail with
        | some (st, a, b) => s.post c st a b none
        | none => s.post c .success (if c.opcode = 0x81 then c.stored else c.dw0) c.dw1 none
      else s)

end Sys2Proof.Machine
end

