-- ==== Sys2Proof/Machine/Kv.lean ====
section
/-!
DEFINITION. The Key Value commands (R87, R100, R101, R254 to R257): Store, Retrieve, Delete, Exist, List,
KV_BATCH_COMMIT, and the commit point of a KEY or BATCH record.
-/

namespace Sys2Proof.Machine

/-! ### Fields -/

/-- Key bytes of dwords `lo`, `lo + 1` and `hi`, `hi + 1`, byte 0 first. -/
def cmdKey (c : Cmd) (lo hi n : Nat) : List Byte := (leBytes 8 (c.q lo) ++ leBytes 8 (c.q hi)).take n

/-- Key length of a Key Value command. -/
def Cmd.kl (c : Cmd) : Nat := c.f 11 7 0

/-- The key of a Key Value command, or of a PIPE_WRITE to a KV namespace. -/
def Cmd.key (c : Cmd) : List Byte :=
  if c.opcode = 0x81 then cmdKey c 2 10 (c.f 13 3 0 + 1) else cmdKey c 2 14 c.kl

/-- Value length of a Store or PIPE_WRITE. -/
def Cmd.vlen (c : Cmd) : Nat := if c.opcode = 0x81 then (c.d 12).toNat else (c.d 10).toNat

/-- Largest value: 8 MiB. -/
def maxValue : Nat := 8388608

/-- Store options: the key must exist, must not exist (R87). -/
def Cmd.mustExist (c : Cmd) : Bool := decide (c.opcode = 0x01) && bitOf (c.d 11).toNat 8
def Cmd.mustNotExist (c : Cmd) : Bool := decide (c.opcode = 0x01) && bitOf (c.d 11).toNat 9

/-! ### Storing values -/

/-- Take span numbers for a value of a command; none where no run is long enough (R254). -/
def State.takeSpans (s : State) (c : Cmd) (n : Namespace) (ns len : Nat) : Option (State × Nat) :=
  if len = 0 then some (s, 0)
  else match firstFit (s.usedRuns ns c.nsid) (kvSpans n) (spansOfLen len) with
    | some a => some (s.setIdx { s.idx with taken := s.idx.taken ++ [(c.tag, c.nsid, a, spansOfLen len)] }, a)
    | none => none

/-- Span numbers a command has taken, given back. -/
def State.untake (s : State) (tag : Nat) : State :=
  s.setIdx { s.idx with taken := s.idx.taken.filter (fun h => decide (h.1 ≠ tag)) }

/-- A value goes to the write buffer under new span entries (R255 stage 2). -/
def State.storeValue (s : State) (c : Cmd) (first : Nat) (v : List Byte) : State :=
  (List.range (spansOfLen v.length)).foldl (fun t i =>
    let p := slice v (262144 * i) 262144
    t.receive c.tag c.inst c.nsid (first + i) false (some p.length)
      ((List.range (cdiv p.length 4096)).map (fun g => (g, slice p (4096 * g) 4096)))) s

/-- A store refused or ended before its commit: its spans are released, its slots never become visible (R255). -/
def State.dropValue (s : State) (tag : Nat) : State :=
  let mine := s.idx.taken.filter (fun h => decide (h.1 = tag))
  let hit (nsid sp : Nat) : Bool := mine.any (fun h => decide (h.2.1 = nsid) && decide (h.2.2.1 ≤ sp) && decide (sp < h.2.2.1 + h.2.2.2))
  let t := mine.foldl (fun u h => (List.range h.2.2.2).foldl (fun w i => w.setSpan h.2.1 (h.2.2.1 + i) 0) u) s
  (t.setFtl { t.ftl with slots := t.ftl.slots.filter (fun v => !hit v.nsid v.span) }).untake tag

/-- Units of a key's value. -/
def State.keyUnits (s : State) (ns : Nat) (k : List Byte) : Nat :=
  match s.lookup ns k with
  | some (len, _) => cdiv len 4096
  | none => 0

/-- Check 3 of Table 7-5 for stores of lengths under keys (R177). -/
def State.kvOver (s : State) (n : Namespace) (ns : Nat) (new : List (List Byte × Nat)) : Bool :=
  let plus := (new.map (fun e => cdiv e.2 4096)).sum
  let minus := (new.map (fun e => s.keyUnits ns e.1)).sum
  decide (n.cap < s.nuseKv ns + plus - minus)

/-- Stages 1 and 2 of R255 for a Store or a PIPE_WRITE of one value. -/
def State.beginStore (s : State) (c : Cmd) (n : Namespace) (ns : Nat) (data : List Byte) (f : State → State) : State :=
  match s.writeCheck c with
  | some st => s.err c st
  | none =>
    if s.kvOver n ns [(c.key, c.vlen)] then s.err c .capacityExceeded
    else s.gate c [(1, s.keyPart ns c.key)] [] (fun t0 =>
      let t := t0.bump Reg.IDX_LOOKUP_CNT
      match t.takeSpans c n ns c.vlen with
      | none => (t.idxRaise 3 (t.keyPart ns c.key) c.nsid).err c .capacityExceeded
      | some (u, a) => f ((u.storeValue c a (data.take c.vlen)).setCmd { c with phase := .active, waits := [a] }))

/-- KV_STORE (R87, R177, R255): the value is received under new span numbers. -/
def execKvStore (tag : Nat) (data : List Byte) (s : State) : Result :=
  .next (s.onCmd tag false [0x01] (fun c =>
    match s.kindNs c .kv, s.kvSlot c.nsid with
    | some n, some ns =>
      if c.phase ≠ .fetched then s
      else if c.kl = 0 ∨ 16 < c.kl then s.err c .invalidKeySize
      else if maxValue < c.vlen then s.err c .invalidValueSize
      else if c.sgl && decide (data.length < c.vlen) then s.err c .sglLength
      else if data.length < c.vlen then s
      else s.beginStore c n ns data id
    | _, _ => s))

/-! ### The commit point (R100, R101, R255) -/

/-- An entry of a batch list (Table 4-18). -/
structure BatchEntry where
  op : Nat
  key : List Byte
  vlen : Nat
  voff : Nat
  ok : Bool
deriving DecidableEq, Repr

/-- Read the entries of a batch list. -/
def batchEntries (l : List Byte) (n : Nat) : List BatchEntry :=
  (List.range n).map (fun i =>
    let e := slice l (32 * i) 32
    let kl := leField e 1 1 % 16 + 1
    let op := leField e 0 1
    { op := op, key := slice e 16 kl, vlen := leField e 4 4, voff := leField e 8 4
      ok := decide (1 ≤ op) && decide (op ≤ 4) && decide (leField e 1 1 < 16) && zeroBytes (slice e 2 2) &&
        zeroBytes (slice e 12 4) && zeroBytes (slice e (16 + kl) (16 - kl)) &&
        !(decide (op = 4) && decide (leField e 4 4 ≠ 0)) })

/-- Trim a whole span, by a TRIM record (Table 8-2). -/
def State.trimSpan (s : State) (nsid sp : Nat) : State :=
  State.journalNow s (s.commitTrim nsid sp (List.range 64)) 32 (s.spanSegs nsid sp)

/-- Trim the spans of a value (R255). -/
def State.trimValue (s : State) (nsid : Nat) (v : Nat × Nat) : State :=
  (List.range (spansOfLen v.1)).foldl (fun t i => t.trimSpan nsid (v.2 + i)) s

/-- Replace or insert a key's entry and trim the old value; none where the insertion is refused. -/
def State.putKey (s : State) (nsid ns : Nat) (k : List Byte) (len first : Nat) : Option State :=
  let old := s.lookup ns k
  match s.idx.store s.free (.key ns k len first) with
  | none => none
  | some x =>
    let t := (s.setIdx x).tick500
    some (match old with
      | some v => t.trimValue nsid v
      | none => t)

/-- Free a key's entry and trim its value. -/
def State.delKey (s : State) (nsid ns : Nat) (k : List Byte) : State :=
  match s.lookup ns k with
  | some v => (s.setIdx (s.idx.erase (keyItem ns k))).trimValue nsid v
  | none => s

/-- The KEY or BATCH record of a change of the keys `ks` stands in the journal, for every partition that it alters. -/
def State.journalKeys (s : State) (ns bytes : Nat) (ks : List (List Byte)) : State :=
  State.journalNow s s bytes ((ks.map (fun k => idxSeg (s.keyPart ns k))).dedup)

/-- The first failing condition of a batch: entry and reason (R100 orders 4 and 5). -/
def State.batchConflict (s : State) (ns : Nat) (i : Nat) : List BatchEntry → Option (Nat × Nat)
  | [] => none
  | e :: t =>
    let here := (s.lookup ns e.key).isSome
    if e.op = 2 ∧ here then some (i, 2)
    else if (e.op = 3 ∨ e.op = 4) ∧ !here then some (i, 3)
    else s.batchConflict ns (i + 1) t

/-- Apply a batch: `firsts` are the span numbers of the entries with a value, in order; or the partition whose insertion is
refused. -/
def State.applyBatch (s : State) (nsid ns : Nat) : List Nat → List BatchEntry → Except Nat State
  | _, [] => .ok s
  | fs, e :: t =>
    if e.op = 4 then State.applyBatch (s.delKey nsid ns e.key) nsid ns fs t
    else
      let f := if e.vlen = 0 then 0 else fs.headD 0
      match s.putKey nsid ns e.key e.vlen f with
      | none => .error (s.keyPart ns e.key)
      | some u => State.applyBatch u nsid ns (if e.vlen = 0 then fs else fs.tail) t

/-- A store ends before its commit: with a status unless its completion has been posted (R105, R255); a digest or shard
write that failed before sets it (R90). -/
def State.failStore (s : State) (c : Cmd) (st : Status) (dw0 dw1 : Nat) : State :=
  let f := c.fail.getD (st, dw0, dw1)
  (s.dropValue c.tag).post c f.1 f.2.1 f.2.2 none

/-- The value, or values, of a command are HELD: no record of it is pending and no data of it unheld. -/
def State.valueHeld (s : State) (c : Cmd) : Bool :=
  decide (c.phase = .active) && !s.recordsOf c.tag && !(s.ftl.slots.any (fun v => v.recv.any (fun r => decide (r.1 = c.tag))))

/-- The commit of one Store or PIPE_WRITE. -/
def State.commitStore (s : State) (c : Cmd) (n : Namespace) (ns : Nat) : State :=
  let here := (s.lookup ns c.key).isSome
  if c.mustNotExist && here then s.failStore c .keyExists 0 0
  else if c.mustExist && !here then s.failStore c .keyAbsent 0 0
  else if s.kvOver n ns [(c.key, c.vlen)] then s.failStore c .capacityExceeded 0 0
  else match s.putKey c.nsid ns c.key c.vlen (c.waits.headD 0) with
    | none => (s.idxFull (s.keyPart ns c.key) c.nsid).failStore c .capacityExceeded 0 0
    | some t => ((t.untake c.tag).journalKeys ns 48 [c.key]).setCmd { c with phase := .received, waits := [] }

/-- The commit of a Delete. -/
def State.commitDelete (s : State) (c : Cmd) (ns : Nat) : State :=
  if (s.lookup ns c.key).isNone then s.err c .keyAbsent
  else ((s.delKey c.nsid ns c.key).journalKeys ns 48 [c.key]).setCmd { c with phase := .received }

/-- Key units that a batch adds and frees. -/
def State.batchOver (s : State) (n : Namespace) (ns : Nat) (es : List BatchEntry) : Bool :=
  s.kvOver n ns (es.map (fun e => (e.key, e.vlen)))

/-- The commit of a batch. -/
def State.commitBatch (s : State) (c : Cmd) (n : Namespace) (ns : Nat) : State :=
  let es := batchEntries c.data (c.f 12 5 0 + 1)
  match s.batchConflict ns 0 es with
  | some (i, r) => s.failStore c .batchConflict i r
  | none =>
    if s.batchOver n ns es then s.failStore c .capacityExceeded 0 0
    else match s.applyBatch c.nsid ns c.waits es with
      | .error p => (s.idxFull p c.nsid).failStore c .capacityExceeded 0 0
      | .ok t =>
        ((t.untake c.tag).journalKeys ns (32 + 48 * es.length) (es.map (·.key))).setCmd
          { c with phase := .received, waits := [] }

/-- KV_COMMIT_POINT (R101, R177, R255): once its values are HELD the command's record commits: the conditions and
the capacity are tested against the keys as they stand, the entry is installed, the old value trimmed. -/
def execKvCommitPoint (tag : Nat) (s : State) : Result :=
  .next (match s.cmd? tag with
    | none => s
    | some c =>
      match s.kindNs c .kv, s.kvSlot c.nsid with
      | some n, some ns =>
        if c.admin || !s.valueHeld c then s
        else if c.opcode = 0x01 ∨ c.opcode = 0x81 then s.commitStore c n ns
        else if c.opcode = 0x10 then s.commitDelete c ns
        else if c.opcode = 0x8D then s.commitBatch c n ns
        else s
      | _, _ => s)

/-- KV_DELETE (R256): looked up at dispatch; its KEY record commits at the commit point. -/
def execKvDelete (tag : Nat) (s : State) : Result :=
  .next (s.onCmd tag false [0x10] (fun c =>
    match s.kindNs c .kv, s.kvSlot c.nsid with
    | some _, some ns =>
      if c.phase ≠ .fetched then s
      else if c.kl = 0 ∨ 16 < c.kl then s.err c .invalidKeySize
      else match s.writeCheck c with
        | some st => s.err c st
        | none => s.gate c [(1, s.keyPart ns c.key)] [] (fun t =>
            let u := t.bump Reg.IDX_LOOKUP_CNT
            if (u.lookup ns c.key).isNone then u.err c .keyAbsent else u.setPhase c .active)
    | _, _ => s))

/-- KV_EXIST (R256). -/
def execKvExist (tag : Nat) (s : State) : Result :=
  .next (s.onCmd tag false [0x14] (fun c =>
    match s.kindNs c .kv, s.kvSlot c.nsid with
    | some _, some ns =>
      if c.phase ≠ .fetched then s
      else if c.kl = 0 ∨ 16 < c.kl then s.err c .invalidKeySize
      else if s.health = .failed then s.err c .internalError
      else s.gate c [(1, s.keyPart ns c.key)] [] (fun t =>
        let u := t.bump Reg.IDX_LOOKUP_CNT
        if (u.lookup ns c.key).isSome then u.ok c else u.err c .keyAbsent)
    | _, _ => s))

/-- Bytes of a value, span by span. -/
def State.readValue (s : State) (n : Namespace) (nsid first len : Nat) : Nat → Nat → Except RdErr (List Byte)
  | 0, _ => .ok []
  | k + 1, i =>
    match s.readKvSpan [] n nsid (first + i) (kvSpanLen len i) with
    | .error e => .error { e with span := first + i }
    | .ok b => match State.readValue s n nsid first len k (i + 1) with
      | .error e => .error e
      | .ok r => .ok (b ++ r)

/-- Hold the span numbers of an entry for a command that has resolved it (R256). -/
def State.holdRun (s : State) (c : Cmd) (first k : Nat) : State :=
  s.setIdx { s.idx with held := (s.idx.held.filter (fun h => s.cmds.any (fun x => decide (x.tag = h.1)))) ++ [(c.tag, c.nsid, first, k)] }

/-- KV_RETRIEVE (R87, R256): the smaller of the buffer and the value; DW0 is the value's length. -/
def execKvRetrieve (tag : Nat) (segs : List (Nat × Nat)) (s : State) : Result :=
  .next (s.onCmd tag false [0x02] (fun c =>
    match s.kindNs c .kv, s.kvSlot c.nsid with
    | some n, some ns =>
      if c.phase = .fetched then
        if c.kl = 0 ∨ 16 < c.kl then s.err c .invalidKeySize
        else if s.health = .failed then s.err c .internalError
        else s.gate c [(1, s.keyPart ns c.key)] [] (fun t0 =>
          let t := t0.bump Reg.IDX_LOOKUP_CNT
          match t.lookup ns c.key with
          | none => t.err c .keyAbsent
          | some (len, first) =>
            let k := spansOfLen (min len (c.d 10).toNat)
            let sp := (List.range k).map (fun i => first + i)
            t.gateSpans c c.nsid sp (fun u =>
              let c1 := { c with phase := .active, issued := true, dw0 := len, imgs := sp.flatMap (u.imageOfSpan c.nsid) }
              ((u.holdRun c first (spansOfLen len)).queueReads c.readFor c1.imgs).setCmd
                (match u.readValue n c.nsid first len k 0 with
                  | .ok d => { c1 with data := d }
                  | .error e => { c1 with rd := some e })))
      else if c.phase = .active then
        s.whenRead c (fun t d => (t.scatter c segs (d.take (c.d 10).toNat)).post c .success c.dw0 0 none)
      else s
    | _, _ => s))

/-! ### List (R257) -/

/-- Position of an entry in the walk: partitions, in each the buckets and then the stash. -/
def walkPos (part : Nat) (pl : IdxPlace) : Nat :=
  match pl with
  | .bucket b i => part * 2 ^ 33 + b * 8 + i
  | .stash i => part * 2 ^ 33 + 2 ^ 32 + i

/-- Merge two lists whose keys rise. -/
def mergeRising {α : Type} : Nat → List (Nat × α) → List (Nat × α) → List (Nat × α)
  | 0, _, _ => []
  | _, [], b => b
  | _, a, [] => a
  | k + 1, (i, x) :: a, (j, y) :: b =>
    if i ≤ j then (i, x) :: mergeRising k a ((j, y) :: b) else (j, y) :: mergeRising k ((i, x) :: a) b

/-- Keys of a KV namespace slot in walk order. -/
def Idx.walk (x : Idx) (ns : Nat) : List (Nat × List Byte) :=
  let pick (pos : Nat) (e : IdxEntry) : Option (Nat × List Byte) := match e with
    | .key a k _ _ => if a = ns then some (pos, k) else none
    | _ => none
  let t := x.table.filterMap (fun e => pick (e.1 / 2 ^ 32 * 2 ^ 33 + e.1 % 2 ^ 32) e.2)
  let u := x.stash.filterMap (fun e => pick (e.1 / 64 * 2 ^ 33 + 2 ^ 32 + e.1 % 64) e.2)
  mergeRising (t.length + u.length + 1) t u

/-- A returned key: its length, its bytes, padding to 4 bytes. -/
def listItem (k : List Byte) : List Byte :=
  leBytes 2 k.length ++ k ++ List.replicate ((4 - (2 + k.length) % 4) % 4) 0

/-- Items of a walk that fit in a buffer, after its 4-byte count. -/
def listFit : Nat → List (Nat × List Byte) → List (Nat × List Byte)
  | _, [] => []
  | room, (p, k) :: t => if (listItem k).length ≤ room then (p, k) :: listFit (room - (listItem k).length) t else []

/-- Where the walk of a List starts: the first position it may return. After the key last returned it goes on behind the place that
key was returned from, wherever the key stands now; a key that is neither present nor that one gives slot 0 of its bucket b1. -/
def State.listStart (s : State) (c : Cmd) (ns : Nat) : Nat :=
  if c.kl = 0 then 0
  else match s.idx.seqs.find? (fun q => decide (q.kvns = ns) && decide (q.lastKey = c.key)) with
    | some q => walkPos q.part q.place + 1
    | none => match s.idx.find (keyItem ns c.key) with
      | some (p, pl, _) => walkPos p pl + 1
      | none => let h := s.idx.placeOf (keyItem ns c.key); walkPos h.1 (.bucket h.2.1 0)

/-- The place at a walk position. -/
def posPlace (pos : Nat) : Nat × IdxPlace :=
  let r := pos % 2 ^ 33
  (pos / 2 ^ 33, if r < 2 ^ 32 then .bucket (r / 8) (r % 8) else .stash (r - 2 ^ 32))

/-- Keep the key last returned and its place, and whether its sequence goes on (R257). -/
def State.listMark (s : State) (ns : Nat) (got : List (Nat × List Byte)) (ended : Bool) : State :=
  match got.getLast? with
  | some (pos, k) =>
    let p := posPlace pos
    s.setIdx { s.idx with
      seqs := s.idx.seqs.filter (fun q => decide (q.kvns ≠ ns)) ++ [{ kvns := ns, lastKey := k, part := p.1, place := p.2, live := !ended }] }
  | none => s.setIdx { s.idx with seqs := s.idx.seqs.map (fun q => if q.kvns = ns then { q with live := q.live && !ended, idle := 0 } else q) }

/-- Deliver a List's answer. -/
def State.listAnswer (s : State) (c : Cmd) (ns : Nat) (segs : List (Nat × Nat)) (start : Nat) : State :=
  let room := (c.d 10).toNat
  let left := (s.idx.walk ns).filter (fun e => decide (start ≤ e.1))
  let got := listFit (room - 4) left
  let ended := decide (got.length = left.length)
  let bytes := leBytes 4 got.length ++ got.flatMap (fun e => listItem e.2)
  ((s.scatter c segs (bytes.take room)).listMark ns got ended).ok c

/-- KV_LIST (R87, R257, R258): keys in walk order, as many as the buffer holds. The partition it has reached and
those before its end must be rebuilt. -/
def execKvList (tag : Nat) (segs : List (Nat × Nat)) (s : State) : Result :=
  .next (s.onCmd tag false [0x06] (fun c =>
    match s.kindNs c .kv, s.kvSlot c.nsid with
    | some _, some ns =>
      if c.phase ≠ .fetched then s
      else if 16 < c.kl then s.err c .invalidKeySize
      else if s.health = .failed then s.err c .internalError
      else
        let st := s.listStart c ns
        let left := (s.idx.walk ns).filter (fun e => decide (st ≤ e.1))
        let got := listFit ((c.d 10).toNat - 4) left
        let last := if got.length = left.length then 4095 else match left[got.length]? with
          | some e => e.1 / 2 ^ 33
          | none => 4095
        let parts := (s.rebuild.idxLeft ++ s.idx.damaged).filter (fun p => decide (st / 2 ^ 33 ≤ p) && decide (p ≤ last))
        let need := if s.rebuild.phase = 1 then [(1, st / 2 ^ 33)] else parts.map (fun p => (1, p))
        s.gate c need [] (fun t => (if c.kl = 0 then t else t.bump Reg.IDX_LOOKUP_CNT).listAnswer c ns segs st)
    | _, _ => s))

/-! ### KV_BATCH_COMMIT (R100, R101) -/

/-- The later of two entries that name the same key. -/
def dupEntry (i : Nat) (seen : List (List Byte)) : List BatchEntry → Option Nat
  | [] => none
  | e :: t => if seen.contains e.key then some i else dupEntry (i + 1) (e.key :: seen) t

/-- Receive the values of a batch, entry by entry; or the partition of the key whose value finds no run of span numbers. -/
def State.batchValues (s : State) (c : Cmd) (n : Namespace) (ns : Nat) (data : List Byte) :
    List BatchEntry → List Nat → Except Nat (State × List Nat)
  | [], fs => .ok (s, fs)
  | e :: t, fs =>
    if e.op = 4 ∨ e.vlen = 0 then State.batchValues s c n ns data t fs
    else match s.takeSpans c n ns e.vlen with
      | none => .error (s.keyPart ns e.key)
      | some (u, a) => State.batchValues (u.storeValue c a (slice data e.voff e.vlen)) c n ns data t (fs ++ [a])

/-- KV_BATCH_COMMIT (R88, R89, R100, R101, R177): `list` is the batch list, `data` the value buffer. -/
def execKvBatchCommit (tag : Nat) (list data : List Byte) (s : State) : Result :=
  .next (s.onCmd tag false [0x8D] (fun c =>
    match s.kindNs c .kv, s.kvSlot c.nsid with
    | some n, some ns =>
      let count := c.f 12 5 0 + 1
      let tlen := (c.d 13).toNat
      let es := batchEntries list count
      if c.phase ≠ .fetched then s
      else if !c.vendorOk || !c.zero [2, 3, 14, 15] || decide (c.f 12 31 6 ≠ 0) || decide (c.q 10 % 32 ≠ 0) ||
          (decide (tlen = 0) && !c.zero [6, 7, 8, 9]) then s.err c .invalidField
      else if list.length < 32 * count then s
      else if es.any (fun e => !e.ok) then s.err c .invalidField
      else if maxValue < tlen ∨ es.any (fun e => decide (maxValue < e.vlen)) then s.err c .invalidValueSize
      else if es.any (fun e => decide (tlen < e.voff + e.vlen)) then s.err c .invalidField
      else match dupEntry 0 [] es with
        | some i => s.post c .batchConflict i 1 none
        | none =>
          if c.sgl && decide (data.length < tlen) then s.err c .sglLength
          else if data.length < tlen then s
          else match s.writeCheck c with
            | some st => s.err c st
            | none =>
              if s.batchOver n ns es then s.err c .capacityExceeded
              else s.gate c ((es.map (fun e => (1, s.keyPart ns e.key))).dedup) [] (fun t =>
                let b := t.count Reg.IDX_LOOKUP_CNT 31 0 es.length
                match b.batchValues c n ns data es [] with
                | .error p => (b.idxRaise 3 p c.nsid).err c .capacityExceeded
                | .ok (u, fs) => u.setCmd { c with phase := .active, waits := fs, data := list.take (32 * count) })
    | _, _ => s))

end Sys2Proof.Machine
end

