-- ==== Sys2Proof/Machine/Records.lean ====
section
/-!
DEFINITION. Leaves, records, predicates and key directories as functions of plaintext (R206 to R212, R260 to
R262): what the predicate unit computes, and the words of a leaf slot.
-/

namespace Sys2Proof.Machine

/-! ### Records (R207) -/

/-- How records are delimited: format 0 fixed, 1 delimited. -/
structure RecFmt where
  fmt : Nat
  reclen : Nat
  delim : Nat
deriving DecidableEq, Repr

/-- A record: start, length, and whether it is a cut record. -/
structure RecPos where
  start : Nat
  len : Nat
  cut : Bool
deriving DecidableEq, Repr

/-- Delimited records from byte `at_`: `cur` bytes of the open record are passed. -/
def delimited (d : Nat) : Nat → Nat → List Byte → List RecPos
  | at_, cur, [] => if cur = 0 then [] else [⟨at_, cur, true⟩]
  | at_, cur, b :: t =>
    if b.toNat = d then ⟨at_, cur + 1, false⟩ :: delimited d (at_ + cur + 1) 0 t
    else delimited d at_ (cur + 1) t

/-- The records of a data section. -/
def recordsIn (f : RecFmt) (data : List Byte) : List RecPos :=
  if f.fmt = 0 then (List.range (data.length / max 1 f.reclen)).map (fun i => ⟨i * f.reclen, f.reclen, false⟩)
  else delimited f.delim 0 0 data

/-- An over-long record: delimited, above 4,096 bytes. -/
def RecPos.overLong (r : RecPos) : Bool := decide (4096 < r.len)

/-! ### Predicates (R94, R209, R210) -/

/-- A predicate table entry (Table 9-3). -/
def parsePred (e : List Byte) : Pred :=
  { op := leField e 0 1, typ := leField e 1 1, foff := leField e 2 2, flen := leField e 4 1, plen := leField e 5 1
    missing := bitOf (leField e 6 1) 0, a := slice e 16 64, b := slice e 80 64, m := slice e 144 64 }

/-- The checks of R13 and R209 on an entry. Bytes of B and M beyond FLEN count as reserved like those of A (log 204). -/
def predOk (f : RecFmt) (e : List Byte) : Bool :=
  let p := parsePred e
  decide (e.length = 256) && decide (1 ≤ p.op) && decide (p.op ≤ 10) && decide (p.typ ≤ 4) && decide (p.foff ≤ 4095) &&
    decide (1 ≤ p.flen) && decide (p.flen ≤ 64) &&
    (if p.op = 8 then decide (1 ≤ p.plen) && decide (p.plen ≤ p.flen) else decide (p.plen = 0)) &&
    decide (leField e 6 1 < 2) && zeroBytes (slice e 7 9) && zeroBytes (p.a.drop p.flen) &&
    (if p.op = 7 then zeroBytes (p.b.drop p.flen) else zeroBytes p.b) &&
    (if p.op = 9 ∨ p.op = 10 then zeroBytes (p.m.drop p.flen) else zeroBytes p.m) && zeroBytes (slice e 208 48) &&
    (decide (f.fmt ≠ 0) || decide (p.foff + p.flen ≤ f.reclen)) &&
    (decide (p.typ = 0) || ([1, 2, 4, 8].contains p.flen)) &&
    (!([8, 9, 10].contains p.op) || decide (p.typ = 0))

/-- The integer a field of type 1 to 4 holds. -/
def fieldInt (typ : Nat) (l : List Byte) : Int :=
  let u := if typ ≤ 2 then leNat l else beNat l
  if typ = 2 ∨ typ = 4 then (if 2 ^ (8 * l.length - 1) ≤ u then (u : Int) - 2 ^ (8 * l.length) else u) else u

/-- Byte strings in order, byte 0 first; a proper prefix comes first. -/
def bytesLt : List Byte → List Byte → Bool
  | [], [] => false
  | [], _ :: _ => true
  | _ :: _, [] => false
  | a :: s, b :: t => decide (a.toNat < b.toNat) || (decide (a = b) && bytesLt s t)

/-- A field is below another under TYPE. -/
def fieldLt (typ : Nat) (x y : List Byte) : Bool :=
  if typ = 0 then bytesLt x y else decide (fieldInt typ x < fieldInt typ y)

/-- Bytewise AND. -/
def andBytes (x y : List Byte) : List Byte := List.zipWith (fun a b => a &&& b) x y

/-- The value of a predicate on a record's bytes. -/
def Pred.value (p : Pred) (rec : List Byte) : Bool :=
  if rec.length < p.foff + p.flen then p.missing
  else
    let f := slice rec p.foff p.flen
    let a := p.a.take p.flen
    let b := p.b.take p.flen
    let m := p.m.take p.flen
    match p.op with
    | 1 => decide (f = a)
    | 2 => decide (f ≠ a)
    | 3 => fieldLt p.typ f a
    | 4 => !fieldLt p.typ a f
    | 5 => fieldLt p.typ a f
    | 6 => !fieldLt p.typ f a
    | 7 => !fieldLt p.typ f a && !fieldLt p.typ b f
    | 8 => decide (f.take p.plen = a.take p.plen)
    | 9 => decide (andBytes f m = a)
    | _ => !zeroBytes (andBytes f m)

/-- Index into the truth table: p0 + 2 p1 + … -/
def truthIndex : List Pred → List Byte → Nat
  | [], _ => 0
  | p :: t, rec => b2n (p.value rec) + 2 * truthIndex t rec

/-- The selection bit of a record (R94, R207). -/
def Pipe.selects (p : Pipe) (data : List Byte) (r : RecPos) : Bool :=
  let v := truthIndex p.preds (slice data r.start r.len)
  !r.overLong && (nth 0 p.truth (v / 8)).getLsbD (v % 8)

/-! ### Leaves (R206, R208, R211, R212) -/

/-- Leaves of a data section of `n` bytes, and those that a range `[lo, hi)` forms. -/
def leavesOf (n : Nat) : Nat := cdiv n 16384
def leafFormed (k lo hi : Nat) : Bool := decide (lo < hi) && decide (lo < 16384 * (k + 1)) && decide (16384 * k < hi)

/-- A leaf as the predicate unit leaves it. -/
structure LeafData where
  /-- bytes of the leaf window and of the overhang -/
  window : List Byte
  overhang : List Byte
  /-- records that start in the leaf and in the range, with their selection bits -/
  recs : List (RecPos × Bool)
  rstart : Nat
  rend : Nat
  first : Bool
  last : Bool
  compacted : Bool
deriving DecidableEq, Repr

/-- Bytes of the overhang of leaf `k` (R208). -/
def overhangOf (data : List Byte) (k : Nat) : List Byte := slice data (16384 * (k + 1)) 8192

/-- Leaf `k` of a data section under a pipeline. Without a PREDICATE stage no records are delimited. -/
def formLeaf (p : Pipe) (data : List Byte) (k lo hi : Nat) : LeafData :=
  let w := slice data (16384 * k) 16384
  let here (r : RecPos) : Bool := decide (16384 * k ≤ r.start) && decide (r.start < 16384 * (k + 1)) &&
    decide (lo ≤ r.start) && decide (r.start < hi)
  { window := w, overhang := overhangOf data k
    recs := if p.hasPred then
        ((recordsIn ⟨p.recfmt, p.reclen, p.delim⟩ data).filter here).map (fun r => (r, p.selects data r))
      else []
    rstart := max lo (16384 * k) - 16384 * k, rend := min (min hi (16384 * (k + 1))) data.length - 16384 * k
    first := decide (k = 0), last := decide (k + 1 = leavesOf data.length), compacted := false }

def LeafData.selected (l : LeafData) : List RecPos := (l.recs.filter (·.2)).map (·.1)
def LeafData.nsel (l : LeafData) : Nat := l.selected.length

/-- The selected records of a leaf, whole (R211, R216). -/
def LeafData.chosen (l : LeafData) (data : List Byte) : List (List Byte) :=
  l.selected.map (fun r => slice data r.start r.len)

/-- Running sums of lengths. -/
def startsFrom : Nat → List Nat → List Nat
  | _, [] => []
  | a, n :: t => a :: startsFrom (a + n) t

/-- Words of bytes, the byte at the lower address in bits [15:8] (R4). -/
def packWords : List Byte → List Word
  | [] => []
  | [a] => [a ++ (0 : Byte)]
  | a :: b :: t => (a ++ b) :: packWords t

/-- Bits as words, the first in the most significant place (R212). -/
def bitmapWords : Nat → List Bool → List Word
  | 0, _ => []
  | k + 1, l =>
    BitVec.ofNat 16 (((List.range 16).map (fun i => b2n (l.getD i false) * 2 ^ (15 - i))).sum) :: bitmapWords k (l.drop 16)

/-- Words with their offsets from `base` on. -/
def placeWords (base : Nat) (ws : List Word) : List (Nat × Word) :=
  ((List.range ws.length).map (base + ·)).zip ws

/-- The leaf descriptor page (Table 9-4, R441: each word is written once, before a Bead can read it): word offsets and values. `span`, `k` name the leaf; `starts` are the
record starts in the leaf window, `sel` their selection bits. FLAGS[10] and FLAGS[9] of a compacted leaf speak of the stored leaf's
records (log 205). -/
def descriptor (p : Pipe) (span k len ohang : Nat) (l : LeafData) (starts : List Nat) (sel : List Bool) :
    List (Nat × Word) :=
  let w (n : Nat) : Word := BitVec.ofNat 16 n
  let flags := b2n l.first * 2 ^ 15 + b2n l.last * 2 ^ 14 + b2n (p.hasPred && decide (p.recfmt = 1)) * 2 ^ 13 +
    b2n l.compacted * 2 ^ 12 + b2n (!p.hasPred) * 2 ^ 11 + b2n (l.recs.any (fun r => r.1.overLong)) * 2 ^ 10 +
    b2n ((l.recs.getLast?.map (fun r => r.1.cut)).getD false) * 2 ^ 9
  placeWords 0 ([w len, w ohang, w starts.length, w (sel.filter id).length,
    if starts.isEmpty then 0xFFFF else w (starts.headD 0), if p.hasPred && decide (p.recfmt = 0) then w p.reclen else 0,
    w flags, w k, w (span / 2 ^ 48), w (span / 2 ^ 32), w (span / 2 ^ 16), w span,
    if p.hasPred && decide (p.recfmt = 1) then w p.delim else 0, w l.rstart, w l.rend, 0] ++
    (List.range 16).map (fun i => nth 0 p.args i)) ++
  placeWords 0x020 (bitmapWords 1024 sel) ++
  placeWords 0x420 (bitmapWords 1280 ((List.range 20480).map starts.contains))

/-- The words of a leaf slot, 16 Ki of them: leaf, overhang, descriptor page (Table 9-2, R211). What lies beyond the
bytes of a window reads 0 (R277): `loadRegion` clears the region first, and `packWords` pads an odd last byte. -/
def leafWords (p : Pipe) (data : List Byte) (span k : Nat) (l : LeafData) : List (Nat × Word) :=
  if l.compacted then
    let rs := l.chosen data
    let all := rs.flatten
    placeWords 0 (packWords all) ++
      (descriptor p span k all.length 0 { l with rstart := 0, rend := all.length }
        (startsFrom 0 (rs.map (·.length))) (rs.map (fun _ => true))).map (fun e => (0x3000 + e.1, e.2))
  else
    placeWords 0 (packWords l.window) ++ placeWords 0x2000 (packWords l.overhang) ++
      (descriptor p span k l.window.length l.overhang.length l (l.recs.map (fun r => r.1.start - 16384 * k))
        (l.recs.map (·.2))).map (fun e => (0x3000 + e.1, e.2))

/-- Put words at `base` and after, in place of everything in a region of `n` words that read 0. -/
def loadRegion (m : Sparse Word) (base n : Nat) (ws : List (Nat × Word)) : Sparse Word :=
  let kept := m.filter (fun e => decide (e.1 < base) || decide (base + n ≤ e.1))
  ws.foldl (fun t e => Sparse.set (fun _ => 0) t (base + e.1) e.2) kept

/-! ### Key directories (R259 to R262) -/

/-- The ingest layout of a directory: record format, key offset and key bytes (Table 4-6). -/
structure DirFmt where
  recs : RecFmt
  koff : Nat
  klen : Nat
deriving DecidableEq, Repr

/-- Insert a key into a rising list, once. -/
def insertKey (k : List Byte) : List (List Byte) → List (List Byte)
  | [] => [k]
  | j :: t => if k = j then j :: t else if bytesLt k j then k :: j :: t else j :: insertKey k t

/-- The distinct keys of a data section, ascending. -/
def dirKeys (f : DirFmt) (data : List Byte) : List (List Byte) :=
  (recordsIn f.recs data).foldl (fun l r =>
    if r.len < f.koff + f.klen then l else insertKey (slice data (r.start + f.koff) f.klen) l) []

/-- The seven Bloom filter bits of a key (R261). -/
def bloomBits (nbits : Nat) (key : List Byte) : List Nat :=
  let h := (siphash24 0 0 key).toNat
  let h1 := h % 2 ^ 32
  let h2 := if h / 2 ^ 32 % 2 = 0 then h / 2 ^ 32 + 1 else h / 2 ^ 32
  (List.range 7).map (fun t => (h1 + t * h2) % 2 ^ 32 % nbits)

/-- BITS of a directory of `n` keys. -/
def bloomSize (n : Nat) : Nat := max 64 (cdiv (10 * n) 64 * 64)

/-- Bytes of a filter with those bits set. -/
def bloomBytes (nbits : Nat) (set : List Nat) : List Byte :=
  (List.range (nbits / 8)).map (fun i =>
    BitVec.ofNat 8 (((List.range 8).map (fun j => b2n (set.contains (8 * i + j)) * 2 ^ j)).sum))

/-- The plaintext of a directory image (Table 11-2). -/
def dirPlain (f : DirFmt) (span : Nat) (data : List Byte) : List Byte :=
  let keys := dirKeys f data
  let nbits := bloomSize keys.length
  let noList := decide (131072 < 32 + nbits / 8 + keys.length * f.klen)
  leBytes 4 0x5249444B ++ leBytes 4 keys.length ++ leBytes 4 nbits ++
    [BitVec.ofNat 8 (f.klen - 1), BitVec.ofNat 8 (b2n noList + 2 * f.recs.fmt)] ++ leBytes 2 f.koff ++
    leBytes 2 (if f.recs.fmt = 0 then f.recs.reclen else 0) ++
    [BitVec.ofNat 8 (if f.recs.fmt = 1 then f.recs.delim else 0)] ++ List.replicate 5 0 ++ leBytes 8 span ++
    bloomBytes nbits (keys.flatMap (bloomBits nbits)) ++ (if noList then [] else keys.flatten)

/-- The directory matches predicate 0 of the pipeline (R262). -/
def dirApplies (p : Pipe) (d : List Byte) : Bool :=
  match p.preds with
  | q :: _ =>
    p.hasPred && decide (q.op = 1) && decide (q.typ = 0) && !q.missing && decide (q.foff = leField d 14 2) &&
      decide (q.flen = leField d 12 1 + 1) && decide (p.recfmt = b2n (bitOf (leField d 13 1) 1)) &&
      decide ((if p.recfmt = 0 then p.reclen else 0) = leField d 16 2) &&
      decide ((if p.recfmt = 1 then p.delim else 0) = leField d 18 1) &&
      (List.range 128).all (fun v => !(nth 0 p.truth (2 * v / 8)).getLsbD (2 * v % 8))
  | [] => false

/-- Cut a key list. -/
def cutKeys (n : Nat) : Nat → List Byte → List (List Byte)
  | 0, _ => []
  | k + 1, l => l.take n :: cutKeys n k (l.drop n)

/-- What a directory says of predicate 0's operand: 0 the span is read, 1 the filter excludes it, 2 the list
does (R262). -/
def dirSkip (p : Pipe) (d : List Byte) : Nat :=
  match p.preds with
  | q :: _ =>
    if !dirApplies p d then 0
    else
      let a := q.a.take q.flen
      let nbits := leField d 8 4
      let hit (i : Nat) : Bool := (nth 0 d (32 + i / 8)).getLsbD (i % 8)
      if !((bloomBits nbits a).all hit) then 1
      else if bitOf (leField d 13 1) 0 then 0
      else if (cutKeys q.flen (leField d 4 4) (d.drop (32 + nbits / 8))).contains a then 0 else 2
  | [] => 0

end Sys2Proof.Machine
end

