-- ==== Sys2Proof/Machine/Strands.lean ====
section
/-!
DEFINITION. Strands, cores and Subsystem Local Memory as parts of State (R103, R203, R204): how they are reached.
-/

namespace Sys2Proof.Machine

def State.strand (s : State) (n : Nat) : Strand := Sparse.get (fun _ => {}) s.strands n

def State.setStrand (s : State) (n : Nat) (v : Strand) : State :=
  { s with strands := Sparse.set (fun _ => {}) s.strands n v }

/-- Core `k`: Bead b of Strand t is 8 t + b, control core c is 256 + c. -/
def State.core (s : State) (k : Nat) : Core := Sparse.get Core.atReset s.cores k

def State.setCore (s : State) (k : Nat) (v : Core) : State := { s with cores := Sparse.set Core.atReset s.cores k v }

/-- Key of a byte of an SLM namespace. -/
def slmKey (nsid b : Nat) : Nat := nsid * 2 ^ 40 + b

def State.slmByte (s : State) (nsid b : Nat) : Byte := Sparse.get (fun _ => 0) s.dram.slm (slmKey nsid b)

def State.setSlm (s : State) (nsid b : Nat) (v : Byte) : State :=
  { s with dram := { s.dram with slm := Sparse.set (fun _ => 0) s.dram.slm (slmKey nsid b) v } }

/-- Bytes of SLM. -/
def State.slmRead (s : State) (nsid a n : Nat) : List Byte := (List.range n).map (fun i => s.slmByte nsid (a + i))

/-- Bytes of SLM from byte `a` on, one by one. -/
def State.slmBytes (s : State) (nsid : Nat) : Nat → List Byte → State
  | _, [] => s
  | a, b :: t => State.slmBytes (s.setSlm nsid a b) nsid (a + 1) t

/-- Write bytes to SLM: a line that the write covers whole is no longer poisoned, one that it covers in part stays so
(R369, R381, R386). Lines are 64 bytes. -/
def State.slmWrite (s : State) (nsid a : Nat) (data : List Byte) : State :=
  let t := s.slmBytes nsid a data
  let k := slmKey nsid a
  let l := t.dram.slmPoison.filter (fun l => !(decide (k ≤ l * 64) && decide (l * 64 + 64 ≤ k + data.length)))
  { t with dram := { t.dram with slmPoison := l } }

/-- An SLM namespace that holds bytes `[a, a + n)`. -/
def State.slmHolds (s : State) (nsid a n : Nat) : Bool :=
  match s.nsOf nsid with
  | some v => decide (v.kind = .slm) && decide (a + n ≤ v.size)
  | none => false

/-- The instance has the namespace attached (R67). -/
def State.attached (s : State) (i nsid : Nat) : Bool := (s.inst i).attach.any (fun a => decide (a.1 = nsid))

/-- The SLM region got DRAM (R373). -/
def State.slmPlaced (s : State) : Bool := nth true s.dram.placed 3

/-- A line of SLM that the range touches is poisoned (R103, R386): lines of 64 bytes by their key. -/
def State.slmBad (s : State) (nsid a n : Nat) : Bool :=
  decide (0 < n) && s.dram.slmPoison.any (fun l => decide (slmKey nsid a / 64 ≤ l) && decide (l ≤ slmKey nsid (a + n - 1) / 64))

/-- An output-slot word as a Bead reads it: what the job wrote, else undefined since the dispatch (Table 9-6). -/
def Strand.outWord (t : Strand) (w : Nat) : Word :=
  match Sparse.get (fun _ => none) t.outw w with
  | some v => v
  | none => BitVec.ofNat 16 (Config.freeNat (Sparse.get (fun _ => 0) t.seeds ((w - 0x40000) / 8192) + (w - 0x40000) % 8192))

/-- A word of the Strand buffer (Table 9-2). -/
def Strand.word (t : Strand) (w : Nat) : Word :=
  if 0x40000 ≤ w ∧ w < 0x60000 then t.outWord w else Sparse.get (fun _ => 0) t.sbuf w

def Strand.setWord (t : Strand) (w : Nat) (v : Word) : Strand :=
  if 0x40000 ≤ w ∧ w < 0x60000 then { t with outw := Sparse.set (fun _ => none) t.outw w (some v) }
  else { t with sbuf := Sparse.set (fun _ => 0) t.sbuf w v }

end Sys2Proof.Machine
end

