-- ==== Sys2Proof/Machine/Pipes.lean ====
section
/-!
DEFINITION. Pipelines (R91 to R98, R203 to R229): the descriptor and its checks, dispatch with a Clasp context,
leaves, jobs of Beads, the mover, the Clasp, the sink and the result header.
-/

namespace Sys2Proof.Machine

/-! ### The descriptor (R91 to R97, R209) -/

/-- A stage record of 64 bytes. -/
def stageAt (d : List Byte) (i : Nat) : List Byte := slice d (64 + 64 * i) 64

/-- The stage record of a type, if the descriptor has one. -/
def stageOf (d : List Byte) (n ty : Nat) : Option (List Byte) :=
  ((List.range n).map (stageAt d)).find? (fun r => decide (leField r 0 1 = ty))

/-- Types rise strictly, from SOURCE to SINK: the order of R92. -/
def stageOrder (d : List Byte) (n : Nat) : Bool :=
  let ts := (List.range n).map (fun i => leField (stageAt d i) 0 1)
  ts.all (fun t => decide (1 ≤ t) && decide (t ≤ 5)) && ts.Pairwise (· < ·) && ts.contains 1 && ts.contains 5

/-- Table 4-10, R93: layout and KIND of a SOURCE record. -/
def sourceOk (r : List Byte) (kind : Nat) : Bool :=
  let lk := leField r 2 1
  let hk := leField r 3 1
  decide (leField r 1 1 = kind) && decide (lk < 16) && decide (hk < 16) && zeroBytes (slice r 4 4) && zeroBytes (slice r 24 8) &&
    (decide (kind = 0) || zeroBytes (slice r 8 16)) &&
    (if kind = 1 ∨ kind = 2 then zeroBytes (slice r (32 + lk + 1) (15 - lk)) else decide (lk = 0) && zeroBytes (slice r 32 16)) &&
    (if kind = 2 then zeroBytes (slice r (48 + hk + 1) (15 - hk)) else decide (hk = 0) && zeroBytes (slice r 48 16))

/-- Table 4-11 and R209: a PREDICATE record with its table. -/
def predicateOk (r table : List Byte) : Bool :=
  let fmt := leField r 1 1
  let len := leField r 2 2
  let n := leField r 5 1
  decide (fmt ≤ 1) && (if fmt = 0 then decide (16 ≤ len) && decide (len ≤ 4096) && decide (leField r 4 1 = 0) else decide (len = 0)) &&
    decide (1 ≤ n) && decide (n ≤ 8) && zeroBytes (slice r 6 2) && decide (leField r 8 8 % 64 = 0) && zeroBytes (slice r 48 16) &&
    (List.range n).all (fun i => predOk ⟨fmt, len, leField r 4 1⟩ (slice table (256 * i) 256))

/-- Table 4-12: a PROGRAM record. -/
def programOk (r : List Byte) : Bool :=
  decide (leField r 1 1 < 64) && decide (leField r 3 1 < 4) && zeroBytes (slice r 4 4) && zeroBytes (slice r 40 24)

/-- Table 4-13 and R96: a CLASP record. -/
def claspOk (r : List Byte) : Bool :=
  let op := leField r 1 1
  let rlen := leField r 2 2
  let koff := leField r 4 2
  let klen := leField r 6 1
  let voff := leField r 8 2
  let count := leField r 12 2
  let values := decide (voff = 0) && zeroBytes (slice r 10 2)
  zeroBytes (slice r 14 50) &&
    (if op = 1 then zeroBytes (slice r 2 12)
     else
      decide (2 ≤ op) && decide (op ≤ 4) && decide (8 ≤ rlen) && decide (rlen ≤ 4096) && decide (klen ≤ 31) &&
        decide (leField r 7 1 < 2) && decide (koff + klen + 1 ≤ rlen) &&
        (if op = 2 then values && decide (count = 0)
         else if op = 4 then values && decide (1 ≤ count) && decide (count ≤ 1024)
         else decide (leField r 10 1 < 2) && decide (1 ≤ leField r 11 1) && decide (leField r 11 1 < 16) &&
           decide (1 ≤ count) && decide (count ≤ 4096) && decide (voff + 8 ≤ rlen)))

/-- Table 4-14: a SINK record under DLEN. -/
def sinkOk (r : List Byte) (dlen : Nat) : Bool :=
  let target := leField r 1 1
  let limit := leField r 16 8
  decide (target ≤ 2) && decide (leField r 3 1 ≤ 2) && decide (64 ≤ limit) && decide (limit ≤ 2 ^ 40) && zeroBytes (slice r 25 39) &&
    (if target = 2 then decide (leField r 2 1 < 128) else decide (leField r 2 1 = 0)) &&
    (decide (target = 1) || decide (leField r 4 4 = 0)) &&
    (if target = 0 then decide (leField r 8 8 = 0) && decide (64 ≤ dlen) && decide (limit = dlen)
     else decide (leField r 8 8 % 64 = 0) && decide (dlen = 0)) &&
    (if leField r 3 1 = 0 then decide (leField r 24 1 = 0) else decide (leField r 24 1 ≤ 1))

/-- The descriptor as the device uses it. -/
def parsePipe (d table : List Byte) (n : Nat) : Pipe :=
  let src := (stageOf d n 1).getD []
  let prd := stageOf d n 2
  let prg := stageOf d n 3
  let clp := (stageOf d n 4).getD []
  let snk := (stageOf d n 5).getD []
  let p := prd.getD []
  let g := prg.getD []
  { kind := leField src 1 1, slba := leField src 8 8, lbacnt := leField src 16 8
    lkey := slice src 32 (leField src 2 1 + 1), hkey := slice src 48 (leField src 3 1 + 1)
    hasPred := prd.isSome, recfmt := leField p 1 1, reclen := leField p 2 2, delim := leField p 4 1, npred := leField p 5 1
    ptable := BitVec.ofNat 64 (leField p 8 8), truth := slice p 16 32
    preds := (List.range (leField p 5 1)).map (fun i => parsePred (slice table (256 * i) 256))
    hasProg := prg.isSome, pind := leField g 1 1, budget := leField g 2 1, skipEmpty := bitOf (leField g 3 1) 0
    skipOverrun := bitOf (leField g 3 1) 1
    args := (List.range 16).map (fun i => BitVec.ofNat 16 (leField g (8 + 2 * i) 2))
    op := if (stageOf d n 4).isSome then leField clp 1 1 else 1
    rlen := leField clp 2 2, koff := leField clp 4 2, klen := leField clp 6 1 + 1, desc := bitOf (leField clp 7 1) 0
    voff := leField clp 8 2, vfmt := leField clp 10 1, agg := leField clp 11 1, count := leField clp 12 2
    target := leField snk 1 1, peer := leField snk 2 1, format := leField snk 3 1, nsid := leField snk 4 4
    offset := leField snk 8 8, limit := leField snk 16 8, expandFail := decide (leField snk 24 1 = 1) }

/-- The KIND that an opcode and a namespace kind allow (R93). -/
def kindAllowed (opcode : Nat) (k : NsKind) (kind : Nat) : Bool :=
  match k with
  | .nvm => decide (kind = if opcode = 0x82 then 0 else 3)
  | .kv => if opcode = 0x82 then decide (kind = 1) else decide (kind = 2) || decide (kind = 3)
  | _ => false

/-- Every check on the descriptor and the predicate table. -/
def pipeOk (opcode dlen : Nat) (k : NsKind) (d table : List Byte) (n : Nat) : Bool :=
  let p := parsePipe d table n
  let ok (ty : Nat) (f : List Byte → Bool) : Bool := match stageOf d n ty with
    | some r => f r
    | none => true
  decide (2 ≤ n) && decide (n ≤ 5) && stageOrder d n && kindAllowed opcode k p.kind && ok 1 (fun r => sourceOk r p.kind) &&
    ok 2 (fun r => predicateOk r table) && ok 3 programOk && ok 4 claspOk && ok 5 (fun r => sinkOk r dlen) &&
    (decide (p.format = 0) || decide (p.op = 1)) &&
    (decide (p.op = 1) || p.hasProg || (p.hasPred && decide (p.recfmt = 0) && decide (p.reclen = p.rlen)))

/-- Working memory of a pipeline (Table 9-10). -/
def Pipe.memory (p : Pipe) : Nat :=
  match p.op with
  | 2 => cdiv (64 * p.rlen) 64 * 64
  | 3 => 64 * p.count
  | 4 => cdiv (p.count * p.rlen) 64 * 64
  | _ => 0

/-! ### The sink (R97, R98) -/

/-- Write bytes at an offset of the buffer that segments describe. -/
def State.segWrite (s : State) (c : Cmd) : List (Nat × Nat) → Nat → List Byte → State
  | [], _, _ => s
  | (a, n) :: t, off, data =>
    if data.isEmpty then s
    else if n ≤ off then State.segWrite s c t (off - n) data
    else
      State.segWrite (s.dmaWrite c.inst c.gen (a + off) (data.take (n - off)) (s.port c.port).relaxed) c t 0
        (data.drop (n - off))

/-- Entry `n` of the peer table of a port. -/
def State.peerEntry (s : State) (p : Bool) (n : Nat) : PeerEntry := Sparse.get (fun _ => {}) s.peers (128 * b2n p + n)

/-- A peer write is not refused (R82). -/
def State.peerOk (s : State) (p : Bool) (inst n addr len : Nat) : Bool :=
  let e := s.peerEntry p n
  e.valid && (e.any || decide (e.owner = inst)) && decide (e.base ≤ addr) && decide (addr + len ≤ e.base + (e.pages + 1) * 4096)

/-- A peer write of an instance at a window offset; none where it is refused, and the refusal is recorded in
INS_EVENTS.PEER_REFUSED (R82). -/
def State.peerWrite (s : State) (p : Bool) (inst gen n off : Nat) (data : List Byte) : Option State :=
  let e := s.peerEntry p n
  if !s.peerOk p inst n (e.base + off) data.length then none
  else if data.isEmpty then some s
  else if s.alive inst gen then some (s.send p (.peer p (e.base + off) data e.relaxed e.atTranslated))
  else some (s.fenced inst)

/-- Write to the sink at a byte offset; none where a peer write is refused. -/
def State.sinkWrite (s : State) (c : Cmd) (p : Pipe) (segs : List (Nat × Nat)) (off : Nat) (data : List Byte) : Option State :=
  if p.target = 0 then some (s.segWrite c segs off data)
  else if p.target = 1 then some (if s.alive c.inst c.gen then s.slmWrite p.nsid (p.offset + off) data else s.fenced c.inst)
  else s.peerWrite c.port c.inst c.gen p.peer (p.offset + off) data

/-- The result header (Table 4-15). -/
def Run.header (r : Run) : List Byte :=
  leBytes 8 r.rbytes ++ leBytes 8 r.records ++ leBytes 8 r.leaves ++ leBytes 8 r.skipped ++ leBytes 4 r.overrun ++
    leBytes 4 r.flags ++ List.replicate 24 0

/-! ### Runs -/

def State.run? (s : State) (tag : Nat) : Option Run := s.runs.find? (fun r => decide (r.tag = tag))

def State.setRun (s : State) (r : Run) : State :=
  { s with runs := s.runs.map (fun x => if x.tag = r.tag then r else x) }

/-- Outputs of a command leave a Strand's mover, and their slots are free. -/
def Strand.dropOut (t : Strand) (tag : Nat) : Strand :=
  let gone := (t.mover.filter (fun o => decide (o.tag = tag))).flatMap (·.slots)
  { t with mover := t.mover.filter (fun o => decide (o.tag ≠ tag)), leaves := t.leaves.filter (fun l => decide (l.tag ≠ tag))
           outUsed := t.outUsed.filter (fun j => !gone.contains j) }

/-- A pipeline ends: its context and memory are free; its leaves and outputs go, and its jobs are cancelled at the
next boundary (R219, R223). -/
def State.dropRun (s : State) (tag : Nat) : State :=
  { s with runs := s.runs.filter (fun r => decide (r.tag ≠ tag))
           strands := s.strands.filterMap (fun e =>
             let t := e.2.dropOut tag
             if t = {} then none else some (e.1, t)) }

/-- A zero-length read of the peer precedes the completion of a command that wrote to it (R55). -/
def State.confirm (s : State) (c : Cmd) (p : Pipe) : State :=
  if p.target = 2 then s.send c.port (.zeroRead c.port none ((s.peerEntry c.port p.peer).base + p.offset)) else s

/-- The same where the pipeline of a command ends early, once results have gone to its peer. -/
def State.confirmRun (s : State) (c : Cmd) : State :=
  match s.run? c.tag with
  | some r => if r.rbytes = 0 then s else s.confirm c r.pipe
  | none => s

/-- A pipeline ends with a status: no header (R98). -/
def State.failRun (s : State) (c : Cmd) (st : Status) (dw0 dw1 : Nat) : State :=
  ((s.confirmRun c).dropRun c.tag).post c st dw0 dw1 none

/-- A sink write was refused: PEER_WRITE_FAILED with the entry (R82, R97). -/
def State.sinkRefused (s : State) (c : Cmd) (p : Pipe) : State :=
  (s.instErr c.inst 13).failRun c .peerFailed 0 p.peer

/-- A pipeline completes: header, confirmation, completion entry (R97). -/
def State.endRun (s : State) (c : Cmd) (r : Run) (st : Status) : State :=
  match s.sinkWrite c r.pipe r.segs 0 r.header with
  | none => (s.setRun r).sinkRefused c r.pipe
  | some t =>
    ((t.confirm c r.pipe).dropRun c.tag).post c st (min r.rbytes 0xFFFFFFFF) (min r.records 0xFFFFFFFF) none

/-- Deliver pieces, each whole with the records it counts, as long as they fit (R98, R228). The run is stored
with what was delivered; where the sink is full or a write refused the command ends. -/
def State.deliver (s : State) (c : Cmd) : Run → List (List Byte × Nat) → State
  | r, [] => s.setRun r
  | r, (b, n) :: t =>
    if r.pipe.limit - 64 < r.rbytes + b.length then
      s.endRun c { r with flags := r.flags ||| 1 } .chainExhausted
    else match s.sinkWrite c r.pipe r.segs (64 + r.rbytes) b with
      | none => (s.setRun r).sinkRefused c r.pipe
      | some u => State.deliver u c { r with rbytes := r.rbytes + b.length, records := r.records + n } t

/-- Set a Clasp condition (Table 9-16). -/
def State.clpRaise (s : State) (bit inst : Nat) : State :=
  s.raiseAt Reg.CLP_ERR bit Reg.CLP_ERR_LOC (bit * 2 ^ 28 + inst)

/-- Set a Strand error (Table 9-14). -/
def State.strRaise (s : State) (t bit bead pc : Nat) : State :=
  s.raiseAt (Reg.STR_ERR t) bit (Reg.STR_ERR_LOC t) (bit * 2 ^ 28 + bead * 2 ^ 25 + pc)

/-! ### Dispatch (R206, R223, R262) -/

/-- The next channel from `c` up whose Strand serves spans with nothing stored. -/
def State.presentFrom (s : State) (c : Nat) : Nat :=
  (((List.range 32).map (fun i => (c + i) % 32)).find? s.present).getD (c % 32)

/-- The Strand that processes a span (R206). -/
def State.spanStrand (s : State) (nsid sp : Nat) : Nat :=
  let e := s.spanEntry nsid sp
  if e = 0 ∨ eTrim e then s.presentFrom ((nsid + sp) % 32) else eCh e

/-- A span of an LBA range as a pipeline reads it: what its grains hold now. -/
def State.nvmRunSpan (s : State) (p : Pipe) (n : Namespace) (nsid sp lo hi : Nat) : RunSpan :=
  let gs := (List.range 64).map (fun g => (sp, g))
  let base : RunSpan := { obj := 0, span := sp, strand := s.spanStrand nsid sp, lo := lo, hi := hi
                          imgs := s.imagesFor nsid gs }
  let a := match s.readGrains [] n nsid gs with
    | .ok l => { base with data := l.flatMap (·.take 4096) }
    | .error e => { base with bad := some e }
  if eWbuf (s.spanEntry nsid sp) then a
  else match s.dirOf nsid sp with
    | some (.dir _ _ ch len m raw _) =>
      match s.img? ch m with
      | some i =>
        match (if i.unreadable then none else (spanDecode raw (highField i.bytes 4 4) len i.bytes).toOption) with
        | some d => if dirApplies p d then { a with dir := [(ch, m)], skip := dirSkip p d } else a
        | none => a
      | none => a
    | _ => a

/-- Spans of LBAs `[a, a + k)`. -/
def State.nvmRunSpans (s : State) (p : Pipe) (n : Namespace) (nsid a k : Nat) : List RunSpan :=
  (lbaSpans a k).map (fun e =>
    let lo := max a (64 * e.1) - 64 * e.1
    let hi := min (a + k) (64 * e.1 + 64) - 64 * e.1
    s.nvmRunSpan p n nsid e.1 (4096 * lo) (4096 * hi))

/-- The spans of one KV value. -/
def State.kvRunSpans (s : State) (n : Namespace) (nsid : Nat) (v : Nat × Nat) : List RunSpan :=
  (List.range (spansOfLen v.1)).map (fun i =>
    let sp := v.2 + i
    let len := kvSpanLen v.1 i
    let base : RunSpan := { obj := v.2, span := sp, strand := s.spanStrand nsid sp, lo := 0, hi := len
                            imgs := s.imageOfSpan nsid sp }
    match s.readKvSpan [] n nsid sp len with
    | .ok d => { base with data := d }
    | .error e => { base with bad := some { e with span := sp } })

/-- Values of a KV namespace whose keys lie in a range. -/
def State.valuesIn (s : State) (ns : Nat) (inRange : List Byte → Bool) : List (Nat × Nat) :=
  ((s.idx.table ++ s.idx.stash).filterMap (fun e => match e.2 with
    | .key a k len first => if a = ns ∧ inRange k then some (len, first) else none
    | _ => none))

/-- The map segments that a span's lookup uses are in DRAM. -/
def State.spanResident (s : State) (nsid sp : Nat) : Bool := (s.segsFor nsid [sp]).all (fun k => (s.seg k).resident)

/-- Media reads that a span's first step queues: its directory, or its own images. A span whose map segments are not resident is
resolved when it comes to it (R156). -/
def State.askSpan (s : State) (c : Cmd) (r : RunSpan) : State × RunSpan :=
  if !s.spanResident c.nsid r.span then (s, r)
  else
    let t := s.useSegs (s.segsFor c.nsid [r.span])
    if r.dir.isEmpty then (t.queueReads c.readFor r.imgs, { r with asked := true })
    else (t.queueReads c.readFor r.dir, r)

def State.askSpans (s : State) (c : Cmd) : List RunSpan → State × List RunSpan
  | [] => (s, [])
  | r :: t =>
    let a := s.askSpan c r
    let b := State.askSpans a.1 c t
    (b.1, a.2 :: b.2)

/-- What a dispatch finds of a pipeline: it ends at once, or it runs. -/
inductive PipeStart where
  | ends (st : Status) (dw0 : Nat)
  | success
  /-- an empty range: a header with zero counts -/
  | empty (p : Pipe)
  | runs (p : Pipe) (prog : Option ProgInfo)
deriving DecidableEq, Repr

/-- The layout checks of the command itself (Table 4-7). -/
def Cmd.pipeCmdOk (c : Cmd) : Bool :=
  let dlen := (c.d 12).toNat
  c.vendorOk && c.zero [2, 3, 13, 14, 15] && decide (c.q 10 % 64 = 0) &&
    (decide (dlen = 0) || (decide (64 ≤ dlen) && decide (dlen ≤ 8388608))) && (decide (dlen ≠ 0) || c.zero [6, 7, 8, 9])

/-- The checks of a dispatch (R91 to R97, R209, R216, R373). -/
def State.pipeStart (s : State) (c : Cmd) (n : Namespace) (d table : List Byte) (segs : List (Nat × Nat)) : PipeStart :=
  let k := leField d 1 1
  let dlen := (c.d 12).toNat
  if leField d 0 1 ≠ 1 ∨ zeroBytes (slice d 2 62) = false then .ends .invalidField 0
  else if k = 0 then (if dlen = 0 then .success else .ends .invalidField 0)
  else if !pipeOk c.opcode dlen n.kind d table k then .ends .invalidField 0
  else
    let p := parsePipe d table k
    let prog := c.active.find? (fun i => decide (i.pind = p.pind))
    if p.target = 0 ∧ c.sgl ∧ segLen segs < dlen then .ends .sglLength 0
    else if p.target = 1 ∧ !(c.att.contains p.nsid && (match s.nsOf p.nsid with
        | some v => decide (v.kind = .slm)
        | none => false)) then .ends .invalidNamespace 0
    else if p.target = 1 ∧ !s.slmHolds p.nsid p.offset p.limit then .ends .invalidField 0
    else if p.target = 1 ∧ !s.slmPlaced then .ends .nsNotReady 0
    else if p.hasProg ∧ prog.isNone then .ends .notActive p.pind
    else if (p.kind = 0 ∧ p.lbacnt = 0) ∨ (p.kind = 2 ∧ bytesLt p.hkey p.lkey) then .empty p
    else if p.kind = 0 ∧ n.size < p.slba + p.lbacnt then .ends .lbaRange 0
    else .runs p (if p.hasProg then prog else none)

/-- Contexts and memory of the Clasp are free for a pipeline (R223). -/
def State.claspRoom (s : State) (mem : Nat) : Bool :=
  decide (s.runs.length < 64) && decide ((s.runs.map (·.mem)).sum + mem ≤ 8388608)

/-- A command waits for the Clasp in order of fetch. -/
def State.claspWaiting (s : State) : List Cmd := s.cmds.filter (fun c => decide (c.phase = .waitClasp) && !c.dead)

/-- Wait for the Clasp; a wait is counted once. -/
def State.waitClasp (s : State) (c : Cmd) : State :=
  if c.phase = .waitClasp then s.setCmd c else (s.setCmd { c with phase := .waitClasp }).bump Reg.CLP_WAIT_CNT

/-- Start a pipeline on its spans. -/
def State.beginRun (s : State) (c : Cmd) (p : Pipe) (prog : Option ProgInfo) (segs : List (Nat × Nat)) (l : List RunSpan) :
    State :=
  let a := s.askSpans c l
  let r : Run := { tag := c.tag, inst := c.inst, pipe := p, prog := prog, mem := p.memory, segs := segs, spans := a.2 }
  { a.1.setCmd { c with phase := .active, issued := true } with runs := a.1.runs ++ [r] }

/-- Dispatch a pipeline (R91 to R98, R199, R223): its checks, then a context and its spans. Partitions under rebuild are waited
for first; segments are resolved span by span (R156). -/
def State.pipeDispatch (s : State) (c : Cmd) (d table : List Byte) (segs : List (Nat × Nat)) : State :=
  match s.nsOf c.nsid with
  | none => s.err c .invalidNamespace
  | some n =>
    if s.health = .failed then s.err c .internalError
    else match s.pipeStart c n d table segs with
    | .ends st a => s.post c st a 0 none
    | .success => s.ok c
    | .empty p =>
      match s.sinkWrite c p segs 0 (List.replicate 64 0) with
      | some t => (t.confirm c p).ok c
      | none => (s.instErr c.inst 13).post c .peerFailed 0 p.peer none
    | .runs p prog =>
      let c1 := { c with desc := some (d, table) }
      if !s.claspRoom p.memory then s.waitClasp c1
      else match n.kind with
        | .nvm =>
          let a := if p.kind = 0 then p.slba else 0
          let k := if p.kind = 0 then p.lbacnt else n.size
          s.gate c1 (s.partsOf c.nsid ((lbaSpans a k).map (·.1))) [] (fun t => t.beginRun c1 p prog segs (t.nvmRunSpans p n c.nsid a k))
        | _ =>
          match s.kvSlot c.nsid with
          | none => s.err c .invalidNamespace
          | some ns =>
            let parts := if p.kind = 1 then [(1, s.keyPart ns p.lkey)] else (s.rebuild.idxLeft ++ s.idx.damaged).map (fun q => (1, q))
            s.gate c1 parts [] (fun t0 =>
              let t := t0.bump Reg.IDX_LOOKUP_CNT
              let go (vs : List (Nat × Nat)) : State :=
                t.gate c1 (t.partsOf c.nsid (vs.flatMap (fun v => (List.range (spansOfLen v.1)).map (v.2 + ·)))) [] (fun u =>
                  (vs.foldl (fun w v => w.holdRun c v.2 (spansOfLen v.1)) u).beginRun c1 p prog segs
                    (vs.flatMap (u.kvRunSpans n c.nsid)))
              if p.kind = 1 then
                match t.lookup ns p.lkey with
                | none => t.err c .keyAbsent
                | some v => go [v]
              else if p.kind = 2 then go (t.valuesIn ns (fun k => !bytesLt k p.lkey && !bytesLt p.hkey k))
              else go (t.valuesIn ns (fun _ => true)))

/-- PIPE_READ and PIPE_SCAN at their first step: with the Clasp free the descriptor is read at once, else the command
waits in order of fetch; one with no stages takes no context and completes at once (R92). `desc` and `table` are what the device reads at PDESC and PTABLE. -/
def State.pipeCommand (s : State) (tag op : Nat) (desc table : List Byte) (segs : List (Nat × Nat)) : State :=
  s.onCmd tag false [op] (fun c =>
    if c.phase ≠ .fetched then s
    else if !c.pipeCmdOk then s.err c .invalidField
    else if decide (leField desc 1 1 ≠ 0) && (!s.claspWaiting.isEmpty || decide (64 ≤ s.runs.length)) then s.waitClasp c
    else match c.desc with
      | some (d, t) => s.pipeDispatch c d t segs
      | none => s.pipeDispatch c desc table segs)

/-- PIPE_READ (R91 to R98): a pipeline over an LBA range or one KV value. -/
def execPipeRead (tag : Nat) (desc table : List Byte) (segs : List (Nat × Nat)) (s : State) : Result :=
  .next (s.pipeCommand tag 0x82 desc table segs)

/-- PIPE_SCAN (R93): a pipeline over a key range or a whole namespace. -/
def execPipeScan (tag : Nat) (desc table : List Byte) (segs : List (Nat × Nat)) (s : State) : Result :=
  .next (s.pipeCommand tag 0x86 desc table segs)

/-- CLASP_CONTEXT_GRANT (R223): the earliest waiting command is dispatched when a context and its memory are free;
its descriptor is read now unless it has been. -/
def execClaspContextGrant (desc table : List Byte) (segs : List (Nat × Nat)) (s : State) : Result :=
  .next (match s.claspWaiting with
    | [] => s
    | c :: _ =>
      if 64 ≤ s.runs.length then s
      else match c.desc with
        | some (d, t) => s.pipeDispatch c d t segs
        | none => s.pipeDispatch c desc table segs)

/-! ### Leaf and output slots -/

/-- Jobs of a Strand's Beads. -/
def State.jobsOf (s : State) (t : Nat) : List (Nat × Job) :=
  (List.range 8).filterMap (fun b => (s.core (8 * t + b)).job.map (fun j => (8 * t + b, j)))

/-- Leaf slots in use, and those that are free. -/
def State.leafUsed (s : State) (t : Nat) : List Nat := (s.strand t).leaves.map (·.slot) ++ (s.jobsOf t).map (·.2.leafSlot)
def State.leafFree (s : State) (t : Nat) : List Nat := (List.range 16).filter (fun i => !(s.leafUsed t).contains i)
def Strand.outFree (t : Strand) : List Nat := (List.range 16).filter (fun i => !t.outUsed.contains i)

/-- `k` consecutive free output slots. -/
def Strand.outRun (t : Strand) (k : Nat) : Option (List Nat) :=
  ((List.range (17 - k)).map (fun i => (List.range k).map (i + ·))).find? (fun l => l.all (fun j => t.outFree.contains j))

/-- One of a list of free slots: which is a free value. -/
def State.pick (s : State) (l : List Nat) : Option Nat := l[s.freeVal % max 1 l.length]?

/-! ### Jobs (R213 to R220, R436) -/

/-- The runtime windows of a job in leaf slot `i` and output slot `j` (R436). -/
def jobWindows (i j : Nat) : Sparse Win :=
  let sb (page : Nat) (wr : Bool) : Win := ⟨BitVec.ofNat 16 page, BitVec.ofNat 16 (0x1000 + b2n wr * 0x800), 0, 4096⟩
  [(1, sb (4 * i) false), (2, sb (4 * i + 1) false), (3, sb (4 * i + 2) false), (4, sb (4 * i + 3) false),
   (5, sb (0x40 + 2 * j) true), (6, sb (0x41 + 2 * j) true), (15, ⟨0, 0x2800, 0, 4096⟩)]

/-- A local memory that holds an image from word 0 on, and 0 elsewhere. -/
def imageMem (ws : List Word) : Sparse Word :=
  (((List.range ws.length)).zip ws).filter (fun e => decide (e.2 ≠ 0))

/-- A Bead takes a leaf: Tables 9-5 and 9-6 with reference boundary `ref`. -/
def State.startJob (s : State) (k : Nat) (l : Leaf) (r : Run) (g : ProgInfo) (j ref : Nat) : State :=
  let n := k / 8
  let t := s.strand n
  let old := s.core k
  let job : Job := { tag := l.tag, inst := r.inst, prog := g, leafSlot := l.slot, outSlot := j, span := l.span, k := l.k
                     seq := l.seq, ref := ref, skipOverrun := r.pipe.skipOverrun
                     budget := if r.pipe.budget = 0 then s.fieldNow (Reg.STR_BUDGET_DFLT n) 7 0 else r.pipe.budget }
  let c : Core := { run := .running, pc := BitVec.ofNat 16 g.entry, x := 0x1000, y := 0x4000, win := jobWindows l.slot j
                    mem := imageMem g.image, job := some job, lastCause := old.lastCause, lastTrapPc := old.lastTrapPc }
  let u : Strand := { t with
    leaves := t.leaves.filter (fun x => decide (x ≠ l)), outUsed := t.outUsed ++ [j]
    outw := t.outw.filter (fun e => decide (e.1 < 0x40000 + 8192 * j) || decide (0x40000 + 8192 * (j + 1) ≤ e.1))
    seeds := Sparse.set (fun _ => 0) t.seeds j s.free }
  { (s.setStrand n u).setCore k c with free := s.free + 8192 }

/-- The ready leaf that is dispatched next: commands in order of fetch, leaves in the order formed (R217). -/
def Strand.nextLeaf (t : Strand) : Option Leaf :=
  match (t.leaves.map (·.tag)).min? with
  | some m => t.leaves.find? (fun l => decide (l.tag = m))
  | none => none

/-- An idle Bead takes the next ready leaf, if there is one and an output slot is free (R217). -/
def State.takeLeaf (s : State) (ref k : Nat) : State :=
  let t := s.strand (k / 8)
  match t.nextLeaf with
  | none => s
  | some l =>
    match s.run? l.tag, s.pick t.outFree with
    | some r, some j =>
      match r.prog with
      | some g => if (s.core k).job.isSome then s else s.tick.startJob k l r g j ref
      | none => s
    | _, _ => s

/-- A Bead's job ends and its slots are free. -/
def State.endJob (s : State) (k : Nat) (keepOut : Bool) : State :=
  match (s.core k).job with
  | none => s
  | some j =>
    let t := s.strand (k / 8)
    let u := if keepOut then t else { t with outUsed := t.outUsed.filter (fun x => decide (x ≠ j.outSlot)) }
    (s.setStrand (k / 8) u).setCore k { s.core k with job := none, run := .off }

/-- HALT of a Bead (R215, R217): the output slot goes to the mover, and the Bead takes the next ready leaf. The output
of a command that has ended is discarded. -/
def State.jobHalt (s : State) (k : Nat) : State :=
  match (s.core k).job with
  | none => s
  | some j =>
    let t := s.strand (k / 8)
    let n := bits j.jobOut.toNat 14 0
    let bytes := ((List.range (cdiv n 2)).flatMap (fun w =>
      let v := t.outWord (0x40000 + 8192 * j.outSlot + w)
      [v.extractLsb' 8 8, v.extractLsb' 0 8])).take n
    let u : State := match s.run? j.tag with
      | none => s.endJob k false
      | some _ =>
        let e := s.endJob k true
        let o : OutSlot := { tag := j.tag, slots := [j.outSlot], seq := j.seq, bytes := bytes, cuts := [n]
                             records := bits j.jobOut.toNat 30 16 }
        e.setStrand (k / 8) { e.strand (k / 8) with mover := (e.strand (k / 8)).mover ++ [o] }
    u.takeLeaf (s.beat + 1) k

/-- DW0 of a failing job: cause, Strand, Bead (R95). -/
def jobDw0 (cause k : Nat) : Nat := cause + k / 8 * 2 ^ 8 + k % 8 * 2 ^ 13

/-- A job's failure sets the status of its command, if nothing has (R219). -/
def State.jobFail (s : State) (tag : Nat) (st : Status) (dw0 dw1 : Nat) : State :=
  match s.run? tag, s.cmd? tag with
  | some _, some c => s.failRun c st dw0 dw1
  | _, _ => s

/-- A trap ends a Bead's job (R95, R219, R290). -/
def State.beadTrap (s : State) (k cause : Nat) (pc : Word) : State :=
  match (s.core k).job with
  | none => s
  | some j =>
    let t := ((s.setCore k { s.core k with lastCause := cause, lastTrapPc := pc }).strRaise (k / 8) 0 (k % 8) pc.toNat).bump
      (Reg.STR_TRAP_CNT (k / 8))
    (t.endJob k false).jobFail j.tag .programTrap (jobDw0 cause k) pc.toNat

/-- A job overruns its budget (R25, R95, R218, R290): the leaf is discarded, or the command ends. -/
def State.overrunJob (s : State) (k : Nat) : State :=
  match (s.core k).job with
  | none => s
  | some j =>
    let pc := (s.core k).pc
    let t := ((s.setCore k { s.core k with lastCause := 9, lastTrapPc := pc }).strRaise (k / 8) 1 (k % 8) pc.toNat).bump
      (Reg.STR_OVERRUN_CNT (k / 8))
    let u := t.endJob k false
    if j.skipOverrun then
      match u.run? j.tag with
      | some r => u.setRun { r with overrun := min (r.overrun + 1) 0xFFFFFFFF }
      | none => u
    else u.jobFail j.tag .beatOverrun (jobDw0 9 k) pc.toNat

/-- The job has run out of budget at boundary `b`: running past it, or with nothing left at its redispatch. -/
def Job.overruns (j : Job) (b : Nat) : Bool :=
  match j.waiting with
  | none => decide (j.ref + j.budget ≤ b)
  | some m => decide (m + 1 ≤ b) && decide (j.ref ≤ m) && decide (j.budget ≤ m - j.ref)

/-- BEAT_OVERRUN (R25, R218): a job that has not executed HALT or WAIT in time ends. -/
def execBeatOverrun (strand bead : Nat) (s : State) : Result :=
  .next (
    let k := 8 * strand + bead
    if decide (strand < 32) && decide (bead < 8) then
      match (s.core k).job with
      | some j => if j.overruns s.beat then s.overrunJob k else s
      | none => s
    else s)

/-- A waiting job goes on at boundary `b` with what is left of its budget (R218). -/
def State.redispatch (s : State) (b k : Nat) : State :=
  match (s.core k).job with
  | some j =>
    match j.waiting with
    | some m =>
      let left := if j.ref ≤ m then j.budget - (m - j.ref) else j.budget
      if m + 1 ≤ b then
        s.setCore k { s.core k with run := .running, job := some { j with waiting := none, ref := b, budget := left } }
      else s
    | none => s
  | none => s

/-- The 256 Beads. -/
def beads : List Nat := List.range 256

/-- Order 5 of Table 1-5: jobs of instances under reset, and of commands that have ended, are cancelled (R220). -/
def State.cancelJobs (s : State) : State :=
  beads.foldl (fun t k => match (t.core k).job with
    | some j =>
      if (t.run? j.tag).isNone || decide ((t.inst j.inst).state ≠ .active) then t.endJob k false else t
    | none => t) s

/-- Order 6: overruns end, waiting jobs go on, idle Beads take ready leaves (R217). -/
def State.dispatchJobs (s : State) : State :=
  let late (t : State) (k : Nat) : State := match (t.core k).job with
    | some j => if j.overruns t.beat then t.overrunJob k else t
    | none => t
  let t := beads.foldl late s
  let u := beads.foldl (fun v k => v.redispatch s.beat k) t
  beads.foldl (fun v k => v.takeLeaf s.beat k) u

/-! ### Span decode (R206 to R212, R216, R217, R235) -/

/-- No read of these images is outstanding for a command. -/
def State.imgsDone (s : State) (tag : Nat) (ims : List (Nat × Nat)) : Bool :=
  ims.all (fun im => !s.outstanding
    (fun o => decide (o.tag = some tag) && decide (o.kind = .read) && decide (o.use = .host) && decide (o.maddr = im.2))
    (fun c => decide (c.tag = some tag) && decide (c.use = .host) && decide (c.ch = im.1) && decide (c.maddr = im.2)))

/-- Count a formed leaf and its records; an over-long record is reported (R206, R207). -/
def State.countLeaf (s : State) (t : Nat) (r : Run) (l : LeafData) : State × Run :=
  let s1 := ((s.bump (Reg.STR_LEAF_CNT t)).count (Reg.STR_PRED_REC t) 31 0 l.recs.length).count (Reg.STR_PRED_SEL t) 31 0 l.nsel
  let r1 := { r with leaves := r.leaves + 1 }
  if l.recs.any (fun x => x.1.overLong) then (s1.strRaise t 4 0 0, { r1 with flags := r1.flags ||| 32 }) else (s1, r1)

/-- Without a PROGRAM stage: the output of a leaf (R216), with the lengths of its records. -/
def leafOutput (p : Pipe) (data : List Byte) (l : LeafData) : List Byte × List Nat × Nat :=
  if p.hasPred then
    let rs := l.chosen data
    (rs.flatten, rs.map (·.length), rs.length)
  else
    let b := slice l.window l.rstart (l.rend - l.rstart)
    (b, [b.length], 0)

/-- Form one leaf; none where the slots it needs are not free. -/
def State.formOne (s : State) (r : Run) (x : RunSpan) (k : Nat) : Option (State × Run) :=
  let p := r.pipe
  let l := formLeaf p x.data k x.lo x.hi
  let n := x.strand
  let t := s.strand n
  let a := s.countLeaf n r l
  match r.prog with
  | some g =>
    if p.skipEmpty && p.hasPred && decide (l.nsel = 0) then
      some (a.1.bump (Reg.STR_SKIP_CNT n), { a.2 with skipped := r.skipped + 1 })
    else match s.pick (s.leafFree n) with
      | none => none
      | some i =>
        let l1 := { l with compacted := p.hasPred && !g.bitmap }
        let u := { t with
          sbuf := loadRegion t.sbuf (0x4000 * i) 0x4000 (leafWords p x.data x.span k l1)
          leaves := t.leaves ++ [{ tag := r.tag, span := x.span, k := k, seq := r.leaves, slot := i }] }
        some ((a.1.setStrand n u).tick, a.2)
  | none =>
    let o := leafOutput p x.data l
    if o.1.isEmpty then some a
    else match t.outRun (cdiv o.1.length 16384) with
      | none => none
      | some js =>
        let u := { t with outUsed := t.outUsed ++ js
                          mover := t.mover ++ [{ tag := r.tag, slots := js, seq := r.leaves, bytes := o.1, cuts := o.2.1
                                                 records := o.2.2 }] }
        some (a.1.setStrand n u, a.2)

/-- Form leaves from `k` on, as long as slots are free; the next leaf to form. -/
def State.formLeaves (s : State) (r : Run) (x : RunSpan) : Nat → Nat → State × Run × Nat
  | 0, k => (s, r, k)
  | f + 1, k =>
    if leavesOf x.data.length ≤ k then (s, r, k)
    else if !leafFormed k x.lo (min x.hi x.data.length) then State.formLeaves s r x f (k + 1)
    else match s.formOne r x k with
      | none => (s, r, k)
      | some (t, q) => State.formLeaves t q x f (k + 1)

/-- The next span of its Strand and object in a run. -/
def Run.nextSpan (r : Run) (sp : Nat) : Option RunSpan :=
  match r.spans.find? (fun x => decide (x.span = sp)) with
  | none => none
  | some x =>
    match r.spans.find? (fun y => decide (y.strand = x.strand) && decide (y.obj = x.obj)) with
    | some y => if y.span = sp then some x else none
    | none => none

def Run.putSpan (r : Run) (x : RunSpan) : Run :=
  { r with spans := r.spans.map (fun y => if y.span = x.span then x else y) }

def Run.dropSpan (r : Run) (sp : Nat) : Run := { r with spans := r.spans.filter (fun y => decide (y.span ≠ sp)) }

/-- A span whose directory has been read: passed over, or its own images are asked for (R262). -/
def State.spanDir (s : State) (c : Cmd) (r : Run) (x : RunSpan) : State :=
  let bad := x.dir.any c.badImgs.contains
  if x.skip = 1 ∧ !bad then (s.setRun (r.dropSpan x.span)).bump Reg.IDX_BLOOM_SKIP
  else if x.skip = 2 ∧ !bad then (s.setRun (r.dropSpan x.span)).bump Reg.IDX_DIR_SKIP
  else
    let a := s.askSpan c { x with dir := [] }
    a.1.setRun (r.putSpan a.2)

/-- A span whose images have been read: checked, decoded and cut into leaves as far as slots are free. -/
def State.spanLeaves (s : State) (c : Cmd) (r : Run) (x : RunSpan) : State :=
  if x.imgs.any c.badImgs.contains then ((s.confirmRun c).dropRun c.tag).failRead c ⟨.unrecoveredRead, 0, 0, x.span⟩
  else match x.bad with
    | some e => ((s.confirmRun c).dropRun c.tag).failRead c e
    | none =>
      let s1 := if x.next = 0 then s.countDecode x.imgs else s
      let a := s1.formLeaves r x 17 x.next
      a.1.setRun (if leavesOf x.data.length ≤ a.2.2 then a.2.1.dropSpan x.span
        else a.2.1.putSpan { x with next := a.2.2 })

/-- SPAN_DECODE (R17, R206 to R212, R216, R235, R262): the next step of a span of a pipeline in its Strand. -/
def execSpanDecode (tag span : Nat) (s : State) : Result :=
  .next (match s.cmd? tag, s.run? tag with
    | some c, some r =>
      match r.nextSpan span with
      | none => s
      | some x =>
        if !x.asked then
          match (s.segsFor c.nsid [span]).find? s.segLost with
          | some k => (s.mapRaise 0 k).failRun c .drawerUnavailable 0 0
          | none => if s.spanResident c.nsid span && s.imgsDone tag x.dir then s.spanDir c r x else s
        else if s.imgsDone tag x.imgs then s.spanLeaves c r x
        else s
    | _, _ => s)

/-! ### Sink frames (R97, R236 to R240) -/

/-- The Table 10-2 code of a sink FORMAT: Zstandard, gzip. -/
def sinkFormat (f : Nat) : Nat := if f = 1 then 1 else 4

/-- An output that the Press has still to make a frame of. -/
def State.wantsFrame (s : State) (o : OutSlot) : Bool :=
  !o.framed && !o.bytes.isEmpty && (match s.run? o.tag with
    | some r => decide (r.pipe.format ≠ 0)
    | none => false)

/-- The first element that a test holds for, replaced or dropped. -/
def mapFirst {α : Type} (p : α → Bool) (f : α → List α) : List α → List α
  | [] => []
  | a :: t => if p a then f a ++ t else a :: mapFirst p f t

/-- SINK_FRAME (R97, R238): the Press compresses the oldest output that waits for it; `body` is what its encoder
formed. -/
def execSinkFrame (strand : Nat) (body : List Byte) (s : State) : Result :=
  .next (
    let t := s.strand strand
    match t.mover.find? s.wantsFrame with
    | none => s
    | some o =>
      match s.run? o.tag, s.cmd? o.tag with
      | some r, some c =>
        let f := sinkFormat r.pipe.format
        let frame := wrapFormat f o.bytes body
        let keep := decide (frame.length ≤ keepLimit o.bytes.length (s.fieldNow (Reg.PRS_MIN_SAVING strand) 7 0)) &&
          decide ((inflateAny f frame none).1 = o.bytes) && decide ((inflateAny f frame none).2.1 = 0)
        let put (b : List Byte) (u : State) : State :=
          (u.setStrand strand { u.strand strand with
            mover := mapFirst u.wantsFrame (fun x => [{ x with bytes := b, cuts := [b.length], framed := true }])
              (u.strand strand).mover }).pressCount strand o.bytes.length b.length false
        if keep then put frame s
        else if r.pipe.expandFail then
          (s.bump (Reg.PRS_NC_CNT strand)).failRun c .notCompressible (min r.rbytes 0xFFFFFFFF) 0
        else put (storedForm f o.bytes) (s.bump (Reg.PRS_RAW_CNT strand))
      | _, _ => s)

/-! ### The Clasp (R224 to R228) -/

/-- Key bytes of a record. -/
def Pipe.key (p : Pipe) (rec : List Byte) : List Byte := slice rec p.koff p.klen

/-- A record's key comes before another's (R224). -/
def Pipe.before (p : Pipe) (a b : List Byte) : Bool :=
  if p.desc then bytesLt (p.key b) (p.key a) else bytesLt (p.key a) (p.key b)

/-- A 64-bit value, signed. -/
def wrap64 (x : Int) : Int := (x + 2 ^ 63) % 2 ^ 64 - 2 ^ 63

/-- The value of a record under AGGREGATE. -/
def Pipe.value (p : Pipe) (rec : List Byte) : Int :=
  let b := slice rec p.voff 8
  wrap64 (if p.vfmt = 0 then leNat b else beNat b)

/-- One record into the groups: the groups and the flags it sets (R226). -/
def Run.aggregate (r : Run) (rec : List Byte) : Run :=
  let p := r.pipe
  let k := p.key rec
  let v := p.value rec
  match r.groups.find? (fun g => decide (g.key = k)) with
  | some g =>
    let sum := g.sum + v
    let g1 := { g with sum := wrap64 sum, min := min g.min v, max := max g.max v, count := (g.count + 1) % 2 ^ 64 }
    { r with groups := r.groups.map (fun x => if x.key = k then g1 else x)
             flags := if wrap64 sum = sum then r.flags else r.flags ||| 4 }
  | none =>
    if r.groups.length < p.count then { r with groups := r.groups ++ [⟨k, v, v, v, 1⟩] }
    else { r with flags := r.flags ||| 2 }

/-- The output record of a group (Table 9-11). -/
def Pipe.groupRecord (p : Pipe) (g : Group) : List Byte :=
  let w (x : Int) : List Byte := leBytes 8 (x % 2 ^ 64).toNat
  fit 32 g.key ++ (if bitOf p.agg 0 then w g.sum else []) ++ (if bitOf p.agg 1 then w g.min else []) ++
    (if bitOf p.agg 2 then w g.max else []) ++ (if bitOf p.agg 3 then leBytes 8 g.count else [])

/-- A record into the k that TOPK keeps: behind its equals of the same or a lower Strand; where room is short, which of
those equal to the last key goes is a free value (R224, R227). -/
def Run.keepTop (r : Run) (seed strand : Nat) (rec : List Byte) : Run :=
  let p := r.pipe
  let lt (a b : Nat × List Byte) : Bool := p.before a.2 b.2 || (!p.before b.2 a.2 && decide (a.1 < b.1))
  let l := insertBy lt (strand, rec) r.top
  if l.length ≤ p.count then { r with top := l }
  else
    let last := (l.getLast?.map (fun e => p.key e.2)).getD []
    let ties := (l.filter (fun e => decide (p.key e.2 = last))).length
    { r with top := l.eraseIdx (l.length - 1 - Config.freeNat seed % max 1 ties) }

/-- A Strand's stream of a command has not ended: it has a span, a leaf, a job or an output (R222). -/
def State.streamLive (s : State) (r : Run) (t : Nat) : Bool :=
  r.spans.any (fun x => decide (x.strand = t)) || (s.strand t).leaves.any (fun l => decide (l.tag = r.tag)) ||
    (s.jobsOf t).any (fun j => decide (j.2.tag = r.tag)) || (s.strand t).mover.any (fun o => decide (o.tag = r.tag))

/-- The records queued of a Strand, and the one it had last. -/
def headsOf (l : List (Nat × List (List Byte))) (t : Nat) : List (List Byte) :=
  match l.find? (fun e => decide (e.1 = t)) with
  | some e => e.2
  | none => []

/-- The Strand whose head comes first (R224). -/
def Run.bestHead (r : Run) : Option Nat :=
  (List.range 32).foldl (fun b t => match headsOf r.heads t, b with
    | [], _ => b
    | x :: _, none => if x.isEmpty then b else some t
    | x :: _, some u => if r.pipe.before x ((headsOf r.heads u).headD []) then some t else b) none

/-- MERGE writes records while every stream that has not ended has a head (R225). -/
def State.mergeOut (s : State) (r : Run) : Nat → Run × List (List Byte)
  | 0 => (r, [])
  | f + 1 =>
    if (List.range 32).any (fun t => (headsOf r.heads t).isEmpty && s.streamLive r t) then (r, [])
    else match r.bestHead with
      | none => (r, [])
      | some t =>
        let q := headsOf r.heads t
        let x := q.headD []
        let broken := match r.lasts.find? (fun e => decide (e.1 = t)) with
          | some e => r.pipe.before x e.2
          | none => false
        let r1 := { r with heads := upsert r.heads t q.tail, lasts := upsert r.lasts t x
                           flags := if broken then r.flags ||| 8 else r.flags }
        let a := State.mergeOut s r1 f
        (a.1, x :: a.2)

/-- Clasp conditions that a run has newly met. -/
def State.claspFlags (s : State) (old new inst : Nat) : State :=
  let hit (b : Nat) : Bool := bitOf new b && !bitOf old b
  let s1 := if hit 1 then s.clpRaise 0 inst else s
  let s2 := if hit 2 then s1.clpRaise 1 inst else s1
  if hit 3 then s2.clpRaise 2 inst else s2

/-- Whole records of RLEN bytes of an output. -/
def cutRecords (n : Nat) (l : List Byte) : List (List Byte) := (List.range (l.length / max 1 n)).map (fun i => slice l (n * i) n)

/-- Pieces of a concatenated output: its records, each whole, or the whole of it. -/
def concatPieces (o : OutSlot) : List (List Byte × Nat) :=
  if o.cuts.length = 1 then (if o.bytes.isEmpty ∧ o.records = 0 then [] else [(o.bytes, o.records)])
  else ((startsFrom 0 o.cuts).zip o.cuts).map (fun e => (slice o.bytes e.1 e.2, 1))

/-- Take records of a Strand into the Clasp's operation. -/
def State.claspTake (s : State) (c : Cmd) (r : Run) (t : Nat) (recs : List (List Byte)) : State :=
  let s1 := s.bump64 Reg.CLP_REC_LO recs.length
  match r.pipe.op with
  | 2 =>
    let r1 := { r with heads := upsert r.heads t (headsOf r.heads t ++ recs) }
    let a := s1.mergeOut r1 ((r1.heads.map (·.2.length)).sum + 1)
    ((s1.claspFlags r.flags a.1.flags r.inst).setRun a.1).deliver c a.1 (a.2.map (fun x => (x, 1)))
  | 3 =>
    let r1 := recs.foldl Run.aggregate r
    (s1.claspFlags r.flags r1.flags r.inst).setRun r1
  | _ =>
    let a := recs.foldl (fun (q : Run × Nat) x => (q.1.keepTop q.2 t x, q.2 + 1)) (r, s1.free)
    { s1.setRun a.1 with free := a.2 }

/-! ### The mover (R222) -/

/-- An output may be forwarded: framed where a frame is due, and under MERGE the first of its command (R222). -/
def State.mayForward (s : State) (t : Nat) (o : OutSlot) : Bool :=
  match s.run? o.tag with
  | none => true
  | some r =>
    !s.wantsFrame o && (decide (r.pipe.op ≠ 2) ||
      (!(s.strand t).leaves.any (fun l => decide (l.tag = o.tag) && decide (l.seq < o.seq)) &&
        !(s.jobsOf t).any (fun j => decide (j.2.tag = o.tag) && decide (j.2.seq < o.seq)) &&
        !(s.strand t).mover.any (fun x => decide (x.tag = o.tag) && decide (x.seq < o.seq))))

/-- MOVER_FORWARD (R98, R215, R222, R225 to R228): the first output that may go leaves its slots, for the Clasp or the
sink. -/
def execMoverForward (strand : Nat) (s : State) : Result :=
  .next (
    let t := s.strand strand
    match t.mover.find? (s.mayForward strand) with
    | none => s
    | some o =>
      let u := { t with mover := mapFirst (fun x => decide (x = o)) (fun _ => []) t.mover
                        outUsed := t.outUsed.filter (fun j => !o.slots.contains j) }
      let s1 := (s.setStrand strand u).bump64 (Reg.STR_MOV_LO strand) o.bytes.length
      match s.run? o.tag, s.cmd? o.tag with
      | some r, some c =>
        if r.pipe.op = 1 then s1.deliver c r (concatPieces o)
        else
          let part := decide (o.bytes.length % max 1 r.pipe.rlen ≠ 0)
          let r1 := if part then { r with flags := r.flags ||| 16 } else r
          let s2 := if part then s1.strRaise strand 3 0 0 else s1
          s2.claspTake c r1 strand (cutRecords r.pipe.rlen o.bytes)
      | _, _ => s1)

/-! ### The end of a pipeline (R97, R98, R226 to R228) -/

/-- Results that the Clasp holds back until every stream has ended. -/
def State.rest (s : State) (r : Run) : Run × List (List Byte) :=
  match r.pipe.op with
  | 2 => s.mergeOut r ((r.heads.map (·.2.length)).sum + 1)
  | 3 =>
    let lt (a b : Group) : Bool := if r.pipe.desc then bytesLt b.key a.key else bytesLt a.key b.key
    (r, (r.groups.foldl (fun l g => insertBy lt g l) []).map r.pipe.groupRecord)
  | 4 => (r, r.top.map (·.2))
  | _ => (r, [])

/-- CLASP_STREAM_END (R97, R228): every stream has ended; the remaining results and the header are written and the
command completes. -/
def execClaspStreamEnd (tag : Nat) (s : State) : Result :=
  .next (match s.cmd? tag, s.run? tag with
    | some c, some r =>
      if (List.range 32).any (s.streamLive r) then s
      else
        let a := s.rest r
        let t := (s.claspFlags r.flags a.1.flags r.inst).deliver c a.1 (a.2.map (fun x => (x, 1)))
        match t.cmd? tag, t.run? tag with
        | some d, some q => t.endRun d q .success
        | _, _ => t
    | _, _ => s)

end Sys2Proof.Machine
end

