-- ==== Sys2Proof/Machine/Shard.lean ====
section
/-!
DEFINITION. The shard engine (R99, R263 to R269) and PIPE_WRITE (R88 to R90, R255, R259, R260).
-/

namespace Sys2Proof.Machine

/-! ### The shard descriptor (R265, R266) -/

/-- The object bytes' stripes for k data shards of unit `u`. -/
def stripesOf (len k u : Nat) : Nat := cdiv len (k * u)

/-- Pad bytes (R264). -/
def padOf (len k u : Nat) : Nat := stripesOf len k u * k * u - len

/-- Destination entry `j` (Table 11-4). -/
def shardDest (d : List Byte) (j : Nat) : ShardDest :=
  let e := slice d (64 + 16 * j) 16
  { addr := leField e 0 8, kind := leField e 8 1, peer := leField e 9 1, present := bitOf (leField e 10 1) 0
    rebuild := bitOf (leField e 10 1) 1, nsid := leField e 12 4 }

/-- Destinations of a descriptor. -/
def shardDests (d : List Byte) : List ShardDest := (List.range (leField d 1 1 + leField d 2 1)).map (shardDest d)

/-- Layout of the header and the entries (Tables 11-3 and 11-4, R13, R266). -/
def shardLayout (d : List Byte) (rebuild : Bool) : Bool :=
  let k := leField d 1 1
  let m := leField d 2 1
  let u := leField d 3 1
  let len := leField d 4 4
  decide (leField d 0 1 = 1) && decide (1 ≤ k) && decide (k ≤ 32) && decide (1 ≤ m) && decide (m ≤ 8) && decide (12 ≤ u) &&
    decide (u ≤ 20) && zeroBytes (slice d 8 56) && decide (k + m ≤ 40) &&
    (if rebuild then decide (len % 2 ^ u = 0) && decide (4096 ≤ len) && decide (len ≤ 8388608) else decide (len = 0)) &&
    (List.range (k + m)).all (fun j =>
      let e := slice d (64 + 16 * j) 16
      let x := shardDest d j
      decide (x.kind ≤ 3) && (if x.kind = 3 then decide (x.peer < 128) else decide (x.peer = 0)) && decide (leField e 11 1 = 0) &&
        decide (leField e 10 1 < 4) && (decide (x.kind = 2) || decide (x.nsid = 0)) &&
        (if rebuild then !(x.present && x.rebuild) && (!x.present || decide (x.kind = 1) || decide (x.kind = 2))
         else decide (leField e 10 1 = 0)))

/-- The checks of R266 that look at State; an SLM destination is one of the namespaces attached at the fetch (R67). -/
def State.shardTargets (s : State) (c : Cmd) (shlen : Nat) (l : List ShardDest) : Bool :=
  l.all (fun x =>
    (decide (x.kind ≠ 2) || (c.att.contains x.nsid && s.slmHolds x.nsid x.addr shlen)) &&
      (decide (x.kind ≠ 3) || (s.peerEntry c.port x.peer).valid))

/-- An SLM destination or source without DRAM (R373). -/
def State.shardNotReady (s : State) (l : List ShardDest) : Bool := l.any (fun x => decide (x.kind = 2)) && !s.slmPlaced

/-! ### The code (R263, R264, R269) -/

/-- Unit `i` of shard `j` of an object, zero padded. -/
def dataUnit (k u : Nat) (data : List Byte) (stripe j : Nat) : List Byte := fit u (slice data ((stripe * k + j) * u) u)

/-- Add `c` times one list of bytes to another. -/
def addScaled (c : Byte) (x y : List Byte) : List Byte := List.zipWith (fun a b => a ^^^ gfMul c b) y x

/-- Parity unit `i` of a stripe from its data units. -/
def parityUnit (k u i : Nat) (ds : List (List Byte)) : List Byte :=
  ((List.range k).zip ds).foldl (fun acc e => addScaled (cauchy k i e.1) e.2 acc) (List.replicate u 0)

/-- Unit `stripe` of shard `j` of an encode. -/
def encodeUnit (k u : Nat) (data : List Byte) (stripe j : Nat) : List Byte :=
  if j < k then dataUnit k u data stripe j
  else parityUnit k u (j - k) ((List.range k).map (dataUnit k u data stripe))

/-- The coefficients of shard `j` over the data shards. -/
def shardRow (k j : Nat) : List Byte :=
  if j < k then (List.range k).map (fun i => if i = j then 1 else 0) else (List.range k).map (fun i => cauchy k (j - k) i)

/-- An equation: coefficients of the data shards, and the shard. -/
abbrev GfRow := List Byte × List Byte

def GfRow.scale (c : Byte) (r : GfRow) : GfRow := (r.1.map (gfMul c), r.2.map (gfMul c))

/-- Subtract the multiple of the pivot that clears column `col`. -/
def GfRow.clear (col : Nat) (p r : GfRow) : GfRow :=
  let c := nth 0 r.1 col
  (addScaled c p.1 r.1, addScaled c p.2 r.2)

/-- Solve for the data shards, column by column from `col`. -/
def gfSolve : Nat → Nat → List GfRow → List GfRow → List (List Byte)
  | 0, _, done, _ => done.map (·.2)
  | f + 1, col, done, rest =>
    match rest.find? (fun r => decide (nth 0 r.1 col ≠ 0)) with
    | none => done.map (·.2)
    | some r =>
      let p := GfRow.scale (gfInv (nth 0 r.1 col)) r
      gfSolve f (col + 1) (done.map (GfRow.clear col p) ++ [p]) ((mapFirst (fun x => decide (x = r)) (fun _ => []) rest).map (GfRow.clear col p))

/-- The data shards that k source shards determine (R263). -/
def solveShards (k : Nat) (srcs : List (Nat × List Byte)) : List (List Byte) :=
  gfSolve k 0 [] (srcs.map (fun s => (shardRow k s.1, s.2)))

/-- Shard `j` from the data shards. -/
def shardFrom (k j len : Nat) (ds : List (List Byte)) : List Byte :=
  if j < k then nth [] ds j else parityUnit k len (j - k) ds

/-! ### Writes of a job (R267) -/

/-- Shards that a job writes. -/
def ShardJob.targets (j : ShardJob) : List Nat :=
  (List.range (j.k + j.m)).filter (fun i =>
    let d := nth ⟨0, 0, 0, false, false, 0⟩ j.dests i
    decide (d.kind ≠ 0) && (!j.rebuild || d.rebuild))

def ShardJob.dest (j : ShardJob) (i : Nat) : ShardDest := nth ⟨0, 0, 0, false, false, 0⟩ j.dests i

/-- The writes of a job in order: shard, offset in the shard, bytes. -/
def ShardJob.writes (j : ShardJob) : List (Nat × Nat × List Byte) :=
  let ds := if j.rebuild then solveShards j.k j.srcs else []
  (List.range (j.shlen / max 1 j.unit)).flatMap (fun st => j.targets.map (fun i =>
    (i, st * j.unit,
      if j.rebuild then slice (shardFrom j.k i j.shlen ds) (st * j.unit) j.unit else encodeUnit j.k j.unit j.data st i)))

/-- Writes of a job may leave the device (R74, R104). -/
def State.jobAlive (s : State) (j : ShardJob) : Bool := !j.suppressed && s.alive j.inst j.gen

/-- Issue one write; none where a peer write is refused (R82), or an SLM destination has no DRAM: Table 4-23 gives a
PIPE_WRITE no other status for it (R108, log 171). -/
def State.shardWrite (s : State) (j : ShardJob) (w : Nat × Nat × List Byte) : Option State :=
  let d := j.dest w.1
  if d.kind = 3 then
    if s.jobAlive j then s.peerWrite j.port j.inst j.gen d.peer (d.addr + w.2.1) w.2.2
    else some (if s.alive j.inst j.gen then s else s.fenced j.inst)
  else if !s.jobAlive j then some (if s.alive j.inst j.gen then s else s.fenced j.inst)
  else if d.kind = 2 then (if s.slmPlaced then some (s.slmWrite d.nsid (d.addr + w.2.1) w.2.2) else none)
  else some (s.dmaWrite j.inst j.gen (d.addr + w.2.1) w.2.2 (s.port j.port).relaxed)

/-- What a job's fault is of. -/
inductive ShardFault where
  | peer | host | source | timeout | memory
deriving DecidableEq, Repr

def ShardFault.bit : ShardFault → Nat
  | .peer => 0
  | .host => 1
  | .source => 2
  | .timeout => 3
  | .memory => 4

/-- DW1 of PEER_WRITE_FAILED for a shard: its peer entry, 0xFFFF_FFFF for a host address; for SLM the spec states none. -/
def State.shardDw1 (s : State) (d : ShardDest) : Nat :=
  if d.kind = 3 then d.peer else if d.kind = 1 then 0xFFFFFFFF else s.freeVal % 2 ^ 32

/-- Take a job out of the engine. -/
def State.dropShard (s : State) (tag : Nat) : State := { s with shd := s.shd.filter (fun j => decide (j.tag ≠ tag)) }

/-- Zero-length reads of the peers that a job has written to precede its command's completion (R55). -/
def State.shardConfirm (s : State) (j : ShardJob) : State :=
  let peers := ((j.targets.map j.dest).filter (fun d => decide (d.kind = 3))).map (fun d => (s.peerEntry j.port d.peer).base + d.addr)
  if s.jobAlive j then peers.dedup.foldl (fun t a => t.send j.port (.zeroRead j.port none a)) s else s

/-- A job ends with PEER_WRITE_FAILED at shard `i` (R267, R268). -/
def State.shardFail (s : State) (j : ShardJob) (i : Nat) (f : ShardFault) : State :=
  let d := j.dest i
  let s1 := (((((s.shardConfirm j).dropShard j.tag).raiseAt Reg.SHD_ERR f.bit Reg.SHD_ERR_LOC
    (f.bit * 2 ^ 28 + i * 2 ^ 22 + (if d.kind = 3 then d.peer else 0) * 2 ^ 10 + j.inst)).bump Reg.SHD_JOB_CNT).bump
      Reg.SHD_FAIL_CNT)
  match s1.cmd? j.tag with
  | none => s1.tick
  | some c =>
    if j.fromPipe then
      s1.tick.setCmd { c with shards := 0, fail := c.fail.orElse (fun _ => some (.peerFailed, i, s.shardDw1 d)) }
    else s1.tick.post c .peerFailed i (s.shardDw1 d) none

/-- A job ends with all its shards written. -/
def State.shardDone (s : State) (j : ShardJob) : State :=
  let s1 := ((s.shardConfirm j).dropShard j.tag).bump Reg.SHD_JOB_CNT
  match s1.cmd? j.tag with
  | none => s1
  | some c =>
    if j.fromPipe then s1.setCmd { c with shards := 0 }
    else s1.post c .success (if j.rebuild then 0 else padOf j.data.length j.k j.unit) j.targets.length none

/-- Issue the writes of a job from `n` on, up to `stop`: the writes left, or the state after a refusal. -/
def State.shardIssue (s : State) (j : ShardJob) : Nat → List (Nat × Nat × List Byte) → State × Bool
  | _, [] => (s, true)
  | 0, _ :: _ => (s, true)
  | f + 1, w :: t =>
    match s.shardWrite j w with
    | none =>
      if (j.dest w.1).kind = 3 then ((s.instErr j.inst 13).shardFail j w.1 .peer, false) else (s.shardFail j w.1 .memory, false)
    | some u => State.shardIssue (u.bump64 Reg.SHD_OUT_LO w.2.2.length) j f t

/-- SHARD_JOB_START (R263 to R269): the next job starts and its writes are issued. `stall` says after how many of them
link flow control holds the rest, or, past the last, that confirmation reads are outstanding; `none`: the job ends. -/
def execShardJobStart (stall : Option Nat) (s : State) : Result :=
  .next (match s.shd.find? (fun j => j.started), s.shd with
    | none, j :: _ =>
      let ws := j.writes
      let n := stall.getD ws.length
      let s1 := s.bump64 Reg.SHD_IN_LO (if j.rebuild then j.k * j.shlen else j.data.length)
      let a := s1.shardIssue j n ws
      if !a.2 then a.1
      else match stall with
        | none => a.1.shardDone j
        | some m => { a.1 with shd := a.1.shd.map (fun x => if x.tag = j.tag then { x with started := true, issued := min m ws.length } else x) }
    | _, _ => s)

/-- Shard of the first write of a job that has not been issued. -/
def ShardJob.nextShard (j : ShardJob) : Option Nat := (j.writes[j.issued]?).map (·.1)

/-- SHARD_JOB_TIMEOUT (R268): 2 ms after its start the running job issues nothing more; with all its writes issued the
shard it names is a free value. -/
def execShardJobTimeout (s : State) : Result :=
  .next (match s.shd.find? (fun j => j.started) with
    | some j => s.shardFail j (j.nextShard.getD (s.freeVal % max 1 (j.k + j.m))) .timeout
    | none => s)

/-! ### Commands -/

/-- The engine's queue has room (R268). -/
def State.shardRoom (s : State) : Bool := decide ((s.shd.filter (fun j => !j.started)).length < 64)

/-- An encode job of a command. -/
def shardJob (c : Cmd) (d data : List Byte) (fromPipe : Bool) : ShardJob :=
  let k := leField d 1 1
  let u := 2 ^ leField d 3 1
  { tag := c.tag, inst := c.inst, port := c.port, gen := c.gen, rebuild := false, fromPipe := fromPipe, k := k, m := leField d 2 1
    unit := u, shlen := stripesOf data.length k u * u, dests := shardDests d, data := data }

/-- What the descriptor of an encode of `len` bytes makes the command end with, if anything. An SLM destination without DRAM
ends a SHARD_ENCODE with Namespace Not Ready, a status that Table 4-23 does not give a PIPE_WRITE. -/
def State.encodeCheck (s : State) (c : Cmd) (d : List Byte) (len : Nat) : Option Status :=
  let k := leField d 1 1
  let u := 2 ^ leField d 3 1
  if !shardLayout d false || !s.shardTargets c (stripesOf len k u * u) (shardDests d) then some .invalidField
  else if decide (c.opcode = 0x85) && s.shardNotReady (shardDests d) then some .nsNotReady
  else none

/-- SHARD_ENCODE (R88, R89, R99, R264 to R268): `desc` is the shard descriptor, `data` the host data of DPTR. -/
def execShardEncode (tag : Nat) (desc data : List Byte) (s : State) : Result :=
  .next (s.onCmd tag false [0x85] (fun c =>
    let len := (c.d 12).toNat
    let slm := bitOf (c.d 13).toNat 0
    if c.phase ≠ .fetched then s
    else if !c.vendorOk || !c.zero [2, 3] || decide (c.q 10 % 64 ≠ 0) || decide (8388608 < len) || decide (2 ≤ (c.d 13).toNat) ||
        (if slm then !c.zero [6, 7, 8, 9] else decide (c.nsid ≠ 0) || !c.zero [14, 15]) then s.err c .invalidField
    else if len = 0 then s.ok c
    else if slm && !s.slmHolds c.nsid (c.q 14) len then s.err c .invalidField
    else if !slm && c.sgl && decide (data.length < len) then s.err c .sglLength
    else if !slm && decide (data.length < len) then s
    else match s.encodeCheck c desc len with
      | some st => s.err c st
      | none =>
        if slm && !s.slmPlaced then s.err c .nsNotReady
        else if slm && s.slmBad c.nsid (c.q 14) len then s.err c .unrecoveredRead
        else if !s.shardRoom then s
        else
          let bytes := if slm then s.slmRead c.nsid (c.q 14) len else data.take len
          { s.setCmd { c with phase := .active } with shd := s.shd ++ [shardJob c desc bytes false] }))

/-- Indices of the entries marked PRESENT. -/
def presentOf (d : List Byte) : List Nat :=
  (List.range (leField d 1 1 + leField d 2 1)).filter (fun j => (shardDest d j).present)

/-- SHARD_REBUILD (R99, R265 to R269): `srcs` are the host-memory sources among the first K PRESENT entries, in index
order. -/
def execShardRebuild (tag : Nat) (desc : List Byte) (srcs : List (List Byte)) (s : State) : Result :=
  .next (s.onCmd tag false [0x89] (fun c =>
    let k := leField desc 1 1
    let len := leField desc 4 4
    let ds := shardDests desc
    let use := (presentOf desc).take k
    if c.phase ≠ .fetched then s
    else if !c.vendorOk || decide (c.nsid ≠ 0) || !c.zero [2, 3, 6, 7, 8, 9, 12, 13, 14, 15] || decide (c.q 10 % 64 ≠ 0) ||
        !shardLayout desc true || !s.shardTargets c len ds then s.err c .invalidField
    else if s.shardNotReady ds then s.err c .nsNotReady
    else if use.length < k then s.err c .unrecoveredRead
    else if ds.all (fun d => !d.rebuild) then s.ok c
    else if use.any (fun j => let d := shardDest desc j; decide (d.kind = 2) && s.slmBad d.nsid d.addr len) then
      s.err c .unrecoveredRead
    else if !s.shardRoom then s
    else
      let host := use.filter (fun j => decide ((shardDest desc j).kind = 1))
      let get (j : Nat) : List Byte :=
        let d := shardDest desc j
        if d.kind = 2 then s.slmRead d.nsid d.addr len else fit len (nth [] srcs (host.idxOf j))
      let job : ShardJob :=
        { shardJob c desc [] false with rebuild := true, shlen := len, srcs := use.map (fun j => (j, get j)) }
      { s.setCmd { c with phase := .active } with shd := s.shd ++ [job] }))

/-! ### PIPE_WRITE (R90) -/

/-- Flags of a PIPE_WRITE. -/
def Cmd.shd (c : Cmd) : Bool := bitOf (c.d 13).toNat 31
def Cmd.dirFlag (c : Cmd) : Bool := bitOf (c.d 13).toNat 30
def Cmd.digest (c : Cmd) : Bool := bitOf (c.d 13).toNat 29

/-- The directory layout of an ingest descriptor (Table 4-6). -/
def ingestDir (d : List Byte) : DirFmt := ⟨⟨leField d 16 1, leField d 18 2, leField d 17 1⟩, leField d 20 2, leField d 22 1 + 1⟩

/-- The checks on the ingest descriptor. -/
def ingestOk (c : Cmd) (d : List Byte) : Bool :=
  let f := ingestDir d
  zeroBytes (slice d 23 41) && (!c.shd || decide (leField d 0 8 % 64 = 0)) && (!c.digest || decide (leField d 8 8 % 8 = 0)) &&
    (!c.dirFlag ||
      (decide (f.recs.fmt ≤ 1) && decide (f.koff ≤ 4095) && decide (f.klen ≤ 16) &&
        (decide (f.recs.fmt = 1) || (decide (16 ≤ f.recs.reclen) && decide (f.recs.reclen ≤ 4096) && decide (f.koff + f.klen ≤ f.recs.reclen)))))

/-- Layout of a PIPE_WRITE (Table 4-5). -/
def pipeWriteOk (c : Cmd) (kv : Bool) (idesc : List Byte) : Bool :=
  let len := (c.d 12).toNat
  let any := c.shd || c.dirFlag || c.digest
  c.vendorOk && decide (c.f 13 27 4 = 0) && decide (c.q 14 % 64 = 0) && (any || decide (c.q 14 = 0)) &&
    (if kv then !c.dirFlag else c.zero [2, 3] && decide (c.f 13 3 0 = 0) && decide (len % 4096 = 0) && decide (len ≤ 8388608)) &&
    (!any || ingestOk c idesc)

/-- Directories of the spans that a PIPE_WRITE with DIR covers in full (R259). -/
def State.formDirs (s : State) (c : Cmd) (f : DirFmt) (a : Nat) (data : List Byte) : State :=
  (lbaSpans a (data.length / 4096)).foldl (fun t p =>
    if p.2.length = 64 then
      match t.slotOf c.nsid p.1 with
      | some v => t.putSlot { v with dir := some (dirPlain f p.1 (slice data (4096 * (64 * p.1 - a)) 262144)) }
      | none => t
    else t) s

/-- Digest, shards and what the acknowledgement waits for, once a PIPE_WRITE's data is received (R90, R268). -/
def State.pipeIngest (s : State) (c : Cmd) (idesc shdesc data : List Byte) (spans : Nat) : State :=
  let s1 := if c.digest then s.dmaWrite c.inst c.gen (leField idesc 8 8) (hash 0 data) (s.port c.port).relaxed else s
  let sh := c.shd && decide (data ≠ [])
  let pad := if sh then padOf data.length (leField shdesc 1 1) (2 ^ leField shdesc 3 1) else 0
  let s2 := if sh then { s1 with shd := s1.shd ++ [shardJob c shdesc data true] } else s1
  match s2.cmd? c.tag with
  | some d => s2.setCmd { d with encodes := spans, shards := b2n sh, dw1 := pad }
  | none => s2

/-- PIPE_WRITE (R15, R88 to R90, R177, R255, R259): `idesc` and `shdesc` are the descriptors read, `data` the object. -/
def execPipeWrite (tag : Nat) (idesc shdesc data : List Byte) (s : State) : Result :=
  .next (s.onCmd tag false [0x81] (fun c =>
    match s.nsOf c.nsid with
    | none => s
    | some n =>
      let kv := decide (n.kind = .kv)
      let len := (c.d 12).toNat
      let bytes := data.take len
      if c.phase ≠ .fetched then s
      else if !(kv || (decide (n.kind = .nvm) && decide (n.lbaf = 0))) || !pipeWriteOk c kv idesc then s.err c .invalidField
      else if kv && decide (maxValue < len) then s.err c .invalidValueSize
      else if c.sgl && decide (data.length < len) then s.err c .sglLength
      else if data.length < len then s
      else match (if c.shd && decide (len ≠ 0) then s.encodeCheck c shdesc len else if c.shd && !shardLayout shdesc false then some .invalidField else none) with
        | some st => s.err c st
        | none =>
          if c.shd && decide (len ≠ 0) && !s.shardRoom then s
          else if kv then
            match s.kvSlot c.nsid with
            | none => s
            | some ns => s.beginStore c n ns bytes (fun t => t.pipeIngest c idesc shdesc bytes (spansOfLen len))
          else if len = 0 then (s.pipeIngest c idesc shdesc [] 0).ok c
          else if n.size < c.q 10 + len / 4096 then s.err c .lbaRange
          else match s.nvmAdmit c n (c.q 10) (len / 4096) with
            | some st => if st = .unrecoveredRead then s.failRead c ⟨st, 0, 0, c.q 10 / 64⟩ else s.err c st
            | none => s.gateSpans c c.nsid ((lbaSpans (c.q 10) (len / 4096)).map (·.1)) (fun t =>
                let u := (t.storeBlocks c (c.q 10) (cutBlocks 4096 (len / 4096) bytes)).setCmd { c with phase := .received }
                let w := if c.dirFlag then u.formDirs c (ingestDir idesc) (c.q 10) bytes else u
                w.pipeIngest c idesc shdesc bytes (lbaSpans (c.q 10) (len / 4096)).length)))

end Sys2Proof.Machine
end

