-- ==== Sys2Proof/Machine/Press.lean ====
section
/-!
DEFINITION. Press direct jobs (R243 to R248): submission, descriptor and chains, slices, completion record.
-/

namespace Sys2Proof.Machine

/-- A submission or job event of a Press: its sticky bit, and the first-event capture with work kind 4 (Table 10-10). -/
def State.prsRaise (s : State) (t bit status : Nat) : State :=
  s.raiseAt (Reg.PRS_ERR t) bit (Reg.PRS_ERR_LOC t) (bit * 2 ^ 28 + 4 * 2 ^ 25 + status)

def State.setPress (s : State) (t : Nat) (l : List PressJob) : State :=
  s.setStrand t { s.strand t with press := l }

/-- The port whose function a submission belongs to: a control core's is the owning port's (R41). -/
def State.pressPort (s : State) : Src → Bool
  | .host p => p
  | .page p _ => p
  | .cc _ => s.ownerPort

/-- A write of PRS_JOB_HI (R244): queue the job, or drop it and say why. -/
def State.pressSubmit (s : State) (p : Bool) (t lo hi : Nat) : State :=
  if lo % 64 ≠ 0 then s.prsRaise t 3 0x80
  else if s.field (Reg.PRS_CTL t) 0 0 = 0 || decide (4 ≤ (s.strand t).press.length) then s.prsRaise t 2 0
  else (s.setPress t ((s.strand t).press ++ [{ desc := BitVec.ofNat 64 (hi * 2 ^ 32 + lo), port := p }])).wakeBy 2

/-- PRESS_JOB_SUBMIT (R244): in DUAL mode the owning port and the control cores submit; an instance page does not
reach the register. -/
def execPressJobSubmit (src : Src) (strand : Nat) (hi : DWord) (s : State) : Result :=
  .next (match src with
    | .page _ _ => s
    | .host p =>
      if s.pins.dual && decide (p ≠ s.ownerPort) then s.hifErr p 7
      else s.pressSubmit p strand (s.staged src (Reg.PRS_JOB_LO strand)).toNat hi.toNat
    | .cc _ => s.pressSubmit (s.pressPort src) strand (s.staged src (Reg.PRS_JOB_LO strand)).toNat hi.toNat)

/-- Chain entries of Table 10-7: address, length, NSID. -/
def chainOf (l : List Byte) : Nat → List (Nat × Nat × Nat)
  | 0 => []
  | k + 1 => (leField l 0 8, leField l 8 4, leField l 12 4) :: chainOf (l.drop 16) k

def chainLen (l : List (Nat × Nat × Nat)) : Nat := (l.map (fun e => e.2.1)).sum

/-- A descriptor within the ranges of Table 10-6, reserved bits 0 (R13). -/
def pressDescOk (d : List Byte) : Bool :=
  let op := leField d 0 1
  let fl := leField d 3 1
  let irq := bitOf fl 1
  let olen := bitOf fl 2
  decide (d.length = 64) && (decide (op = 1) || decide (op = 2)) && decide (leField d 1 1 ≤ 4) &&
  decide (leField d 2 1 ≤ 1) && (decide (op = 1) || decide (leField d 2 1 = 0)) &&
  decide (fl < 8) && (!olen || decide (op = 2)) &&
  decide (leField d 4 4 < 2 ^ 20) &&
  decide (leField d 8 8 % 16 = 0) && decide (leField d 24 8 % 16 = 0) && decide (leField d 32 8 % 32 = 0) &&
  decide (1 ≤ leField d 16 2) && decide (leField d 16 2 ≤ 256) &&
  decide (1 ≤ leField d 18 2) && decide (leField d 18 2 ≤ 256) &&
  (olen || decide (leField d 20 4 = 0)) &&
  (!irq || decide (leField d 40 2 < 2048)) && zeroBytes (slice d 42 22)

/-- A chain within R246: lengths, and SLM entries inside a namespace attached to instance `i`. -/
def State.chainOk (s : State) (i : Option Nat) (limit : Nat) (l : List (Nat × Nat × Nat)) : Bool :=
  decide (chainLen l ≤ limit) && l.all (fun e => decide (e.2.1 ≤ 16777216) && (decide (e.2.2 = 0) ||
    (s.slmHolds e.2.2 e.1 e.2.1 && (match i with
      | some n => s.attached n e.2.2
      | none => false))))

/-- The instance whose SLM a job may use: the manager, or with PV the holder of the PASID (R246). -/
def State.pressInst (s : State) (j : PressJob) : Option Nat :=
  if j.pv then
    (s.insts.find? (fun e => decide (e.2.state ≠ .free) && decide (e.2.pasid = some j.pasid) &&
      decide (s.portOf e.1 = j.port))).map (fun e => e.1)
  else some (s.manager j.port)

/-- A direct job's write to host memory: no fence and no dirty-page log (R247). -/
def State.pressHost (s : State) (j : PressJob) (a : Nat) (data : List Byte) (ro : Bool) : State :=
  if data.isEmpty then s
  else s.send j.port (.write j.port (if j.pv then some j.pasid else none) a data ro (s.port j.port).cfg.ido)

/-- Write output bytes into a chain in order (R243). -/
def State.chainWrite (s : State) (j : PressJob) : List (Nat × Nat × Nat) → List Byte → State
  | [], _ => s
  | (a, n, ns) :: t, data =>
    let u := if ns = 0 then s.pressHost j a (data.take n) (s.port j.port).relaxed else s.slmWrite ns a (data.take n)
    State.chainWrite u j t (data.drop n)

/-- The completion record (Table 10-8). -/
def pressRecord (status raw inp out check beat : Nat) : List Byte :=
  leBytes 2 status ++ leBytes 1 raw ++ [1] ++ leBytes 4 inp ++ leBytes 4 out ++ leBytes 4 check ++ leBytes 8 beat ++
    List.replicate 8 0

/-- The running job of a Press leaves it. -/
def State.dropPress (s : State) (t : Nat) : State := s.setPress t ((s.strand t).press.drop 1)

/-- The sticky event of a final status (Table 10-10); decompression faults are counted (R242). -/
def State.pressEvent (s : State) (t status : Nat) : State :=
  if status = 7 then s.prsRaise t 1 7
  else if status = 0x80 then s.prsRaise t 3 0x80
  else if status = 0x81 then s.prsRaise t 4 0x81
  else if 2 ≤ status ∧ status ≤ 8 then s.dcmpFault t 4 status
  else s

/-- End the running job with its record and message; neither follows a DMA fault on the record (R247). -/
def State.pressEnd (s : State) (t : Nat) (j : PressJob) (status raw inp out check : Nat) (recordFault : Bool) : State :=
  let s1 := ((s.dropPress t).bump (Reg.PRS_DIRECT_CNT t)).pressEvent t status
  if recordFault then s1.prsRaise t 4 0x81
  else
    let s2 := s1.pressHost j j.status.toNat (pressRecord status raw inp out check s.beat) false
    if j.irq then s2.msix j.port j.vector else s2

/-- End a job whose input, output and check values the spec does not state. -/
def State.pressAbort (s : State) (t : Nat) (j : PressJob) (status : Nat) : State :=
  let s1 := s.tick.tick.tick
  s1.pressEnd t j status 0 s.freeVal s.tick.freeVal s.tick.tick.freeVal false

/-- PRESS_JOB_START (R245, R246): the descriptor and both chains, as read. The record of a descriptor with a misaligned STATUS goes to
the address with bits [4:0] cleared (log 206). -/
def execPressJobStart (strand : Nat) (desc src dst : List Byte) (s : State) : Result :=
  .next (match (s.strand strand).press with
    | [] => s
    | j :: rest =>
      if j.started then s
      else
        let d := desc
        let fl := leField d 3 1
        let j1 : PressJob := { j with
          started := true, op := leField d 0 1, format := leField d 1 1, expandFail := decide (leField d 2 1 = 1)
          pv := bitOf fl 0, irq := bitOf fl 1, pasid := leField d 4 4 % 2 ^ 20
          olen := if bitOf fl 2 then some (leField d 20 4) else none
          status := BitVec.ofNat 64 (leField d 32 8 / 32 * 32), vector := leField d 40 2 % 2048
          src := chainOf src (leField d 16 2), dst := chainOf dst (leField d 18 2)
          saving := s.fieldNow (Reg.PRS_MIN_SAVING strand) 7 0
          left := chainLen (chainOf src (leField d 16 2)) }
        let i := s.pressInst j1
        if pressDescOk d && s.chainOk i (2 ^ 26) j1.src && s.chainOk i (2 ^ 28) j1.dst then
          s.setPress strand (j1 :: rest)
        else
          let s1 := s.tick
          s1.pressEnd strand j1 0x80 0 0 0 s.freeVal false)

/-- Bytes `[p, p + n)` of a source chain, cut at its entries: address, length, NSID. -/
def chainCut : List (Nat × Nat × Nat) → Nat → Nat → List (Nat × Nat × Nat)
  | [], _, _ => []
  | (a, len, ns) :: t, p, n =>
    let k := min n (len - p)
    if k = 0 then chainCut t (p - len) n else (a + p, k, ns) :: chainCut t (p - len) (n - k)

/-- The bytes of the pieces: `host` supplies those of host memory, in order. -/
def State.gather (s : State) : List (Nat × Nat × Nat) → List Byte → List Byte
  | [], _ => []
  | (a, n, ns) :: t, host =>
    if ns = 0 then fit n host ++ s.gather t (host.drop n) else s.slmRead ns a n ++ s.gather t host

/-- The frame that a compression keeps, if it keeps one (R238): the format's header and checks around the encoder's
body, no longer than the limit, and reading back as the plaintext. -/
def pressFrame (fmt save : Nat) (p body : List Byte) : Option (List Byte) :=
  let f := if fmt = 0 then tblzFrame p body else wrapFormat fmt p body
  let r := inflateAny fmt f none
  if f.length ≤ keepLimit p.length save ∧ r.1 = p ∧ r.2.1 = 0 then some f else none

/-- The output that a job keeps goes to its chain: success, or OUTPUT_CHAIN_EXHAUSTED (R243). -/
def State.pressOut (s : State) (t : Nat) (j : PressJob) (inp : Nat) (out : List Byte) (raw : Nat) (check : Nat)
    (recordFault : Bool) : State :=
  let room := chainLen j.dst
  let s1 := (s.chainWrite j j.dst (out.take room)).pressCount t inp (min out.length room) (decide (raw = 1))
  if out.length ≤ room then s1.pressEnd t j 0 raw inp out.length check recordFault
  else
    let s2 := s1.tick.tick
    s2.pressEnd t j 7 raw s1.freeVal room s1.tick.freeVal recordFault

/-- The end of a COMPRESS job over its whole input. -/
def State.pressCompress (s : State) (t : Nat) (j : PressJob) (p body : List Byte) (recordFault : Bool) : State :=
  let check := (crc32c p).toNat
  if p.isEmpty then s.pressOut t j 0 (emptyForm j.format) 0 check recordFault
  else match pressFrame j.format j.saving p body with
    | some f => s.pressOut t j p.length f 0 check recordFault
    | none =>
      if j.expandFail then
        let s1 := s.tick.tick.tick
        let junk := freeBytes s.free (min (keepLimit p.length j.saving) (chainLen j.dst))
        let s2 := ((s1.chainWrite j j.dst junk).bump (Reg.PRS_NC_CNT t)).bump64 (Reg.PRS_IN_LO t) p.length
        s2.pressEnd t j 1 0 s.tick.freeVal 0 s.tick.tick.freeVal recordFault
      else s.pressOut t j p.length (storedForm j.format p) 1 check recordFault

/-- The end of a DECOMPRESS job: a fault is reported before a full chain (R243). -/
def State.pressExpand (s : State) (t : Nat) (j : PressJob) (l : List Byte) (recordFault : Bool) : State :=
  let r := inflateAny j.format l j.olen
  let room := chainLen j.dst
  if r.2.1 = 0 then s.pressOut t j l.length r.1 0 (crc32c r.1).toNat recordFault
  else if r.1.length ≤ room then
    let s1 := ((s.chainWrite j j.dst r.1).pressCount t r.2.2.1 r.2.2.2 false).tick
    s1.pressEnd t j r.2.1 0 r.2.2.1 r.2.2.2 s.freeVal recordFault
  else s.pressOut t j l.length r.1 0 0 recordFault

/-- PRESS_JOB_SLICE (R248): the running job takes up to 64 KiB of input, `data` being the bytes that its reads of host
memory returned; the last slice ends it. `body` is what the encoder formed of the whole input. A poisoned SLM line is a
DMA fault (Table 16-9). -/
def execPressJobSlice (strand : Nat) (data body : List Byte) (recordFault : Bool) (s : State) : Result :=
  .next (match (s.strand strand).press with
    | [] => s
    | j :: rest =>
      if !j.started then s
      else
        let n := min 65536 j.left
        let cut := chainCut j.src j.input.length n
        if cut.any (fun e => decide (e.2.2 ≠ 0) && s.slmBad e.2.2 e.1 e.2.1) then s.pressAbort strand j 0x81
        else
          let j1 : PressJob := { j with input := j.input ++ s.gather cut data, left := j.left - n }
          if 0 < j1.left then s.setPress strand (j1 :: rest)
          else if j1.op = 1 then s.pressCompress strand j1 j1.input body recordFault
          else s.pressExpand strand j1 j1.input recordFault)

/-- The running job of a Press meets a DMA fault (0x81) or uncorrectable Press memory (0x82). -/
def State.pressFault (s : State) (t status : Nat) : State :=
  match (s.strand t).press with
  | [] => s
  | j :: _ => if j.started then s.pressAbort t j status else s

/-- Discard the jobs of a port, or all (R248). -/
def State.discardPress (s : State) (keep : PressJob → Bool) : State :=
  (List.range 32).foldl (fun u t =>
    if (u.strand t).press.isEmpty then u else u.setPress t ((u.strand t).press.filter keep)) s

end Sys2Proof.Machine
end

