-- ==== Sys2Proof/Machine/Programs.lean ====
section
/-!
DEFINITION. Bead programs (R102, R205, R435) and the Memory Read and Memory Write commands of Subsystem Local
Memory (R103).
-/

namespace Sys2Proof.Machine

/-- MDTS in bytes (Table 4-1). -/
def mdtsBytes : Nat := 8388608

/-- Key of a program slot: 64 slots for each function. -/
def progKey (p : Bool) (pind : Nat) : Nat := (if p then 64 else 0) + pind

def State.prog (s : State) (p : Bool) (pind : Nat) : ProgSlot := Sparse.get (fun _ => {}) s.progs (progKey p pind)

def State.setProg (s : State) (p : Bool) (pind : Nat) (v : ProgSlot) : State :=
  { s with progs := Sparse.set (fun _ => {}) s.progs (progKey p pind) v }

/-- A command of either queue, with one of the opcodes given. -/
def State.onAny (s : State) (tag op : Nat) (f : Cmd → State) : State :=
  match s.cmd? tag with
  | some c => if c.opcode = op ∧ !c.expired then f c else s
  | none => s

/-- The Computational Programs namespace of a program command, attached to the issuing instance (R67, R435); an I/O command was
checked for that in its fetch. -/
def State.progNs (s : State) (c : Cmd) : Option Namespace :=
  if c.admin && !(s.inst c.inst).attach.any (fun a => decide (a.1 = c.nsid)) then none else s.kindNs c .cprog

/-- TOTLEN of the bytes delivered to a slot. -/
def totLen (l : List Byte) : Nat := leField l 8 4

/-- LOAD_PROGRAM (R102, R435): `data` is the piece that DPTR carries. On an I/O queue opcode 0x85 with another NSID is a
SHARD_ENCODE. -/
def execLoadProgram (tag : Nat) (data : List Byte) (s : State) : Result :=
  .next (s.onAny tag 0x85 (fun c =>
    let sel := c.f 10 3 0
    let pind := c.f 11 5 0
    let n := (c.d 13).toNat
    let slot := s.prog c.port pind
    match s.progNs c with
    | none => if c.admin then s.err c .invalidNamespace else s
    | some _ =>
      if 1 < sel || decide (c.f 10 31 4 ≠ 0) || decide (c.f 11 31 6 ≠ 0) || !c.zero [2, 3, 4, 5, 14, 15] ||
          decide (c.f 0 13 8 ≠ 0) then s.err c .invalidField
      else if sel = 1 then
        if !c.zero [6, 7, 8, 9, 12, 13] then s.err c .invalidField
        else if slot.active then s.err c .sequenceError
        else (s.setProg c.port pind {}).ok c
      else if n = 0 ∨ mdtsBytes < n then s.err c .invalidField
      else if c.sgl && decide (data.length < n) then s.err c .sglLength
      else if slot.active ∨ (c.d 12).toNat ≠ slot.bytes.length then s.err c .sequenceError
      else
        let l := slot.bytes ++ fit n data
        if 64 ≤ l.length ∧ totLen l < l.length then s.err c .lengthMismatch
        else (s.setProg c.port pind { slot with bytes := l }).ok c))

/-- Words of a byte string in Gleluris packing (R4). -/
def wordsOf (l : List Byte) : List Word := packWords l

/-- What commands keep of the image in a slot (Table 4-19). -/
def progInfo (pind base : Nat) (l : List Byte) : ProgInfo :=
  let cw := leField l 12 2
  let lw := leField l 14 2
  { pind := pind, base := base, codeWords := cw, ldWords := lw, entry := leField l 16 2, winMask := leField l 18 2
    bitmap := bitOf (leField l 20 4) 0, dramWin := bitOf (leField l 20 4) 1
    image := wordsOf (slice l (64 + 2 * cw) (2 * lw)) }

/-- ASCII bytes, padded with 0 bytes. -/
def nameOk (l : List Byte) : Bool :=
  let body := l.takeWhile (fun b => decide (b ≠ 0))
  body.all (fun b => decide (b.toNat < 128)) && zeroBytes (l.drop body.length)

/-- The header rules of Table 4-19 and the CRC. -/
def skovzitOk (l : List Byte) : Bool :=
  let cw := leField l 12 2
  let lw := leField l 14 2
  let wm := leField l 18 2
  decide (slice l 0 4 = [0x53, 0x4B, 0x56, 0x5A]) && decide (leField l 4 2 = 1) && decide (leField l 6 2 = 64) &&
  decide (totLen l = 64 + 2 * (cw + lw)) && decide (1 ≤ cw) && decide (cw ≤ 63488) && decide (lw ≤ 4096) &&
  decide (leField l 16 2 < cw) && decide (bits wm 6 0 = 0) && !bitOf wm 15 && decide (leField l 20 4 < 4) &&
  decide (leField l 28 4 = 1) && nameOk (slice l 32 32) &&
  decide (leField l 24 4 = (crc32c (l.take 24 ++ [0, 0, 0, 0] ++ l.drop 28)).toNat)

/-- Active programs of both functions. -/
def State.activeProgs (s : State) : List ProgInfo :=
  (s.progs.filter (fun e => e.2.active)).map (fun e => progInfo (e.1 % 64) e.2.base e.2.bytes)

/-- Active programs of one function: what a command keeps at its fetch (R95). -/
def State.portProgs (s : State) (p : Bool) : List ProgInfo :=
  (s.progs.filter (fun e => e.2.active && decide (e.1 / 64 = b2n p))).map (fun e => progInfo (e.1 % 64) e.2.base e.2.bytes)

/-- Runs of code RAM words in use: active programs, and programs whose jobs still run (R102). -/
def State.codeRuns (s : State) : List (Nat × Nat) :=
  (s.activeProgs ++ s.cores.filterMap (fun e => e.2.job.map (·.prog))).map (fun i => (i.base, i.codeWords))

/-- The base of a program of `n` words, which firmware chooses (R205): a free value among the places that are free; where the free
words lie apart, any place. -/
def State.progBase (s : State) (n : Nat) : Nat :=
  let room := 63489 - n
  let fits := (List.range room).filter (fun b => s.codeRuns.all (fun r => decide (b + n ≤ r.1) || decide (r.1 + r.2 ≤ b)))
  nth (s.freeVal % max 1 room) fits (s.freeVal % max 1 fits.length)

/-- Place code in the code RAM of every Strand: the words written read correctly again. -/
def State.placeCode (s : State) (b : Nat) (ws : List Word) : State :=
  (List.range 32).foldl (fun u t =>
    let v := u.strand t
    u.setStrand t { v with
      code := ((List.range ws.length).zip ws).foldl (fun c e => Sparse.set (fun _ => 0) c (b + e.1) e.2) v.code
      badCode := v.badCode.filter (fun w => decide (w < b) || decide (b + ws.length ≤ w)) }) s

/-- PROGRAM_ACTIVATION_MANAGEMENT (R102, R205, R435). -/
def execProgramActivationManagement (tag : Nat) (s : State) : Result :=
  .next (s.onAny tag 0x88 (fun c =>
    let sel := c.f 10 3 0
    let pind := c.f 11 5 0
    let slot := s.prog c.port pind
    match s.progNs c with
    | none => s.err c .invalidNamespace
    | some _ =>
      if 1 < sel || decide (c.f 10 31 4 ≠ 0) || decide (c.f 11 31 6 ≠ 0) || decide (c.f 0 13 8 ≠ 0) ||
          !c.zero [2, 3, 4, 5, 6, 7, 8, 9, 12, 13, 14, 15] then s.err c .invalidField
      else if sel = 0 then (s.setProg c.port pind { slot with active := false }).ok c
      else if slot.active then s.ok c
      else if slot.bytes.length < 64 ∨ slot.bytes.length ≠ totLen slot.bytes then s.err c .lengthMismatch
      else
        let i := progInfo pind 0 slot.bytes
        let a := s.activeProgs
        if !skovzitOk slot.bytes || decide (63488 < (a.map (·.codeWords)).sum + i.codeWords) ||
            decide (32768 < (a.map (·.ldWords)).sum + i.ldWords) then s.err c .invalidField
        else
          let b := s.progBase i.codeWords
          (((s.tick.setProg c.port pind { slot with active := true, base := b }).placeCode b
            (wordsOf (slice slot.bytes 64 (2 * i.codeWords))))).ok c))

/-- Common checks of Memory Read and Memory Write: start byte CDW11:10, length CDW12. -/
def State.memCheck (s : State) (c : Cmd) (n : Namespace) (given : Nat) : Option Status :=
  let len := (c.d 12).toNat
  if mdtsBytes < len then some .invalidField
  else if n.size < c.q 10 + len then some .lbaRange
  else if c.sgl && decide (given < len) then some .sglLength
  else if !s.slmPlaced then some .nsNotReady
  else none

/-- MEMORY_READ (R103): SLM bytes to the host's buffer. -/
def execMemoryRead (tag : Nat) (segs : List (Nat × Nat)) (s : State) : Result :=
  .next (s.onCmd tag false [0x02] (fun c =>
    match s.kindNs c .slm with
    | none => s
    | some n =>
      let len := (c.d 12).toNat
      match s.memCheck c n (segLen segs) with
      | some st => s.err c st
      | none =>
        if s.slmBad c.nsid (c.q 10) len then s.err c .unrecoveredRead
        else (s.scatter c segs (s.slmRead c.nsid (c.q 10) len)).ok c))

/-- MEMORY_WRITE (R103): the host's bytes into SLM. -/
def execMemoryWrite (tag : Nat) (data : List Byte) (s : State) : Result :=
  .next (s.onCmd tag false [0x05] (fun c =>
    match s.kindNs c .slm with
    | none => s
    | some n =>
      match s.memCheck c n data.length with
      | some st => s.err c st
      | none =>
        if c.ro then s.err c .writeProtected
        else (s.slmWrite c.nsid (c.q 10) (fit (c.d 12).toNat data)).ok c))

end Sys2Proof.Machine
end

