-- ==== Sys2Proof/Machine/Nand.lean ====
section
/-!
DEFINITION. Ends of array operations, the retry flow, the soft-decode pool, die-parity reconstruction, operation
timeouts and LUN resets (R123 to R131, R160).
-/

namespace Sys2Proof.Machine

/-! ### The retry flow (R127, R128, R130) -/

/-- Retry entries of a mode. -/
def Profile.nretry (p : Profile) (slc : Bool) : Nat := if slc then p.nretrySlc else p.nretryNative

/-- Times a codeword moved on the bus, the first read included: one for each retry entry tried, seven for soft decode. -/
def CwOut.moves (nretry : Nat) : CwOut → Nat
  | .hard _ => 1
  | .retry e _ => 1 + e
  | .soft => 8 + nretry

def CwOut.isSoft : CwOut → Bool
  | .soft => true
  | _ => false

/-- The retry entry of a success at step 2. -/
def CwOut.entry? : CwOut → Option Nat
  | .retry e _ => some e
  | _ => none

/-- The hard decode corrected FLIP_REFRESH bits or more, or step 2 was needed. -/
def CwOut.worn (flip : Nat) : CwOut → Bool
  | .hard b => decide (flip ≤ b)
  | .retry _ _ => true
  | .soft => true

/-- An outcome within the profile: retry entries 1 to NRETRY. -/
def CwOut.fits (nretry : Nat) : CwOut → Bool
  | .retry e _ => decide (1 ≤ e) && decide (e ≤ nretry)
  | _ => true

/-- The row of a read becomes a refresh candidate where R170 says so: step 3, else step 2 or FLIP_REFRESH; a patrol
finding counts as such. -/
def State.readFinding (s : State) (ch l : Nat) (o : LunOp) (flip : Nat) (cws : List CwOut) : State :=
  if !(cws.any (CwOut.worn flip)) then s
  else if o.use = .patrol then s.candidate ch l o.block 3
  else if cws.any CwOut.isSoft then s.candidate ch l o.block 2
  else s.candidate ch l o.block 1

/-- The outcomes of a read by page, in the order of its codewords. -/
def splitPages : List (Nat × Nat) → List CwOut → List (Nat × List CwOut)
  | [], _ => []
  | (g, n) :: t, l => (g, l.take n) :: splitPages t (l.drop n)

/-- Page read commands that the retry flow adds to the first read: for each multi-plane page, the entries tried and the seven
sensing reads that its worst codeword needed (R128, R169). -/
def extraReads (nretry planes : Nat) (pages : List (Nat × List CwOut)) : Nat :=
  let words := (pages.map (fun p => p.1 / max 1 planes)).dedup
  (words.map (fun w => (((pages.filter (fun p => decide (p.1 / max 1 planes = w))).flatMap (fun p =>
    p.2.map (CwOut.moves nretry))).foldl max 1) - 1)).sum

/-- Counts of a read that has ended: codewords on the bus, those that reached steps 2 and 3, the charge to the instance, the
row's read counter and its limit. -/
def State.countRead (s : State) (ch l : Nat) (o : LunOp) (nretry : Nat) (cws : List CwOut) : State :=
  let soft := (cws.filter CwOut.isSoft).length
  let late := (cws.filter (fun w => decide (CwOut.moves nretry w ≠ 1))).length
  let s1 := s.bump64 (Reg.MED_CW_READ_LO ch) cws.length
  let s2 := (s1.count (Reg.MED_RETRY_CNT ch) 31 0 late).count (Reg.MED_SOFT_CNT ch) 31 0 soft
  let s3 := s2.charge o (cws.map (CwOut.moves nretry)).sum
  (s3.countReads ch l o.block (extraReads nretry (s.planesOf ch) (splitPages (s.opPages ch o) cws))).disturbTest ch l o.block

/-- Counts of a verify read: it has no steps beyond the first. -/
def State.countVerify (s : State) (ch l : Nat) (o : LunOp) (cws : List CwOut) : State :=
  (s.bump64 (Reg.MED_CW_READ_LO ch) cws.length).disturbTest ch l o.block

/-- The read that runs on a LUN: during a suspension, the one it serves. -/
def Lun.running (u : Lun) : Option LunOp :=
  match u.rd with
  | some r => some r
  | none => match u.op with
    | some o => if o.suspended then none else some o
    | none => none

/-- Take the running operation off its LUN. -/
def Lun.ended (u : Lun) : Lun := if u.rd.isSome then { u with rd := none } else { u with op := none }

/-! ### What a read was for (R128, R130, R139, R140, R160, R167, R170) -/

def State.copy? (s : State) (n : Nat) : Option Copy := s.ftl.copies.find? (fun c => decide (c.id = n))

def State.setCopy (s : State) (c : Copy) : State :=
  s.setFtl { s.ftl with copies := s.ftl.copies.map (fun x => if x.id = c.id then c else x) }

/-- Give up a copy: the image at its destination counts as invalid data (R141). -/
def State.dropCopy (s : State) (c : Copy) : State :=
  s.setFtl { s.ftl with
    copies := s.ftl.copies.filter (fun x => decide (x.id ≠ c.id))
    imgs := s.ftl.imgs.filter (fun i => !(decide (i.ch = c.ch) && decide (i.maddr = c.loc.maddr))) }

/-- Step 5 of Table 5-11, for what the read serves: a command takes note of the image; a copy's source is pinned and its copy
given up, with RELOC_LOSS in a relocation; a read-modify-write and a coalescing are given up, their image pinned; a patrol read
has found what it looked for; a read for a reconstruction or a verify does not come here. -/
def State.lostImage (s : State) (c : SoftCw) : State :=
  match c.use with
  | .host => match c.tag.bind s.cmd? with
    | some d => s.setCmd { d with badImgs := (d.badImgs ++ [(c.ch, c.maddr)]).dedup }
    | none => s
  | .copy n =>
    let t := s.pinImg c.ch c.maddr
    match t.copy? n with
    | some k =>
      let u := t.dropCopy k
      if k.by_ = .reloc then u.careRaise 5 c.ch c.lun c.block else u
    | none => t
  | .rmw i =>
    let t := s.pinImg c.ch c.maddr
    match t.slotAt i with
    | some v => t.putSlot { v with rmwBad := true }
    | none => t
  | .coalesce _ _ => s.pinImg c.ch c.maddr
  | _ => s

/-- The codewords of a page have reached step 5. -/
def State.stepFive (s : State) (c : SoftCw) : State :=
  ((s.medRaise c.ch 5 0 c.lun c.block).count (Reg.MED_UNCORR_CNT c.ch) 31 0 c.n).lostImage c

/-- Queue the verify reads of a copy that is programmed: its pages, class 2, not charged (R160 step 2). -/
def State.startVerify (s : State) (c : Copy) : State :=
  match s.img? c.ch c.loc.maddr with
  | some i => (s.setCopy { c with stage := .verifying }).enqueue c.ch (maLun c.loc.maddr)
      (s.readOp { id := 0, kind := .read, cls := 2, block := 0, by_ := c.by_, use := .verify c.id, rank := c.rank } i)
  | none => s.dropCopy c

/-- The source of a copy has been read: its program is queued as class 4 work (R160 step 1). -/
def State.startCopyProgram (s : State) (c : Copy) : State :=
  match s.profile? c.ch with
  | some q =>
    let l := maLun c.loc.maddr
    (s.setCopy { c with stage := .programming }).enqueue c.ch l
      { id := 0, kind := .program, cls := 4, block := maBlock c.loc.maddr, slc := c.loc.shelf, maddr := c.loc.maddr, units := c.loc.len
        by_ := c.by_, copy := some c.id, rank := c.rank
        cw := cwsOf (q.unit c.loc.maddr) c.loc.len, pages := q.pagesOf (q.unit c.loc.maddr) c.loc.len }
  | none => s

/-- A read made for some use has ended: a copy whose source is read goes on to its program. -/
def State.readEnded (s : State) (u : ReadUse) : State :=
  match u with
  | .copy n => match s.copy? n with
    | some c => if c.stage = .reading ∧ !s.reading u then s.startCopyProgram c else s
    | none => s
  | _ => s

/-- Index of a mover in bytes 72–111 of log page 0xD2. -/
def Mover.column : Mover → Option Nat
  | .gc => some 0
  | .fold => some 1
  | .refresh => some 2
  | .wear => some 3
  | .reloc => some 4
  | _ => none

/-- The record that commits a copy (Table 8-2). -/
def Copy.change (c : Copy) : Change :=
  match c.by_ with
  | .coalesce => .coalesced c.nsid c.span c.ents c.ch c.loc
  | _ => .copyCommit c.nsid c.span c.ents c.ch c.loc c.by_ c.src

/-- The entry still holds what the copy was read from (R141). -/
def State.entryHolds (s : State) (nsid sp : Nat) (e : Option Nat × BitVec 64) : Bool :=
  match e.1 with
  | none => decide (s.spanEntry nsid sp = e.2)
  | some g =>
    if g = 64 then
      match s.dirOf nsid sp with
      | some (.dir _ _ ch _ m _ _) => decide (ch = eCh e.2) && decide (m = eMaddr e.2)
      | _ => false
    else decide (s.grainEntry nsid sp g = e.2)

/-- The commit of a copy takes effect: for a coalesced span only if every entry still holds (R140, R141). -/
def State.commits (s : State) (c : Change) : Bool :=
  match c with
  | .copyCommit n sp ents _ _ _ _ => ents.any (s.entryHolds n sp)
  | .coalesced n sp ents _ _ => ents.all (s.entryHolds n sp)
  | _ => true

/-- The outcome of a copy's verify reads: its commit record is issued, unless a newer mapping stands; or VERIFY_FAIL, the copy is
given up, and the image goes to another row next time. The row's second failure in its life retires it (R160, R174). -/
def State.verified (s : State) (c : Copy) (pass : Bool) : State :=
  let l := maLun c.loc.maddr
  let b := maBlock c.loc.maddr
  if pass then
    let col := match c.by_.column with
      | some k => setNth (nth 0 s.ftl.copied k + c.loc.len) s.ftl.copied k
      | none => s.ftl.copied
    let t := s.setFtl { s.ftl with copied := col }
    if t.commits c.change then (t.setCopy { c with stage := .issued }).issue c.change else t.dropCopy c
  else
    let r := s.row c.ch l b
    let s1 := ((s.setRow c.ch l b { r with verifyFails := r.verifyFails + 1 }).careRaise 3 c.ch l b).dropCopy c
    let s2 := s1.setFtl { s1.ftl with imgs := s1.ftl.imgs.map (fun i =>
      if i.ch = c.src.1 ∧ i.maddr = c.src.2 then { i with avoid := i.avoid ++ [(c.ch, l, b)] } else i) }
    if 1 ≤ r.verifyFails then s2.retire c.ch l b 3 else s2

/-- Every codeword decodes at step 1 with fewer than FLIP_REFRESH corrected bits (R160 step 2). -/
def CwOut.clean (flip : Nat) : CwOut → Bool
  | .hard b => decide (b < flip)
  | _ => false

/-- The codewords of a read that go to the soft-decode pool, one entry each. -/
def State.softWork (s : State) (ch lun : Nat) (o : LunOp) (cws : List CwOut) : List SoftCw :=
  (splitPages (s.opPages ch o) cws).flatMap (fun p => (p.2.filter CwOut.isSoft).map (fun _ =>
    { tag := o.tag, cls := o.cls, ch := ch, lun := lun, block := o.block, maddr := o.maddr, page := p.1, by_ := o.by_, use := o.use
      slc := o.slc }))

/-- A retry entry is applied to a LUN before the page is read again, and entry 0 after it: SET FEATURES of all its thresholds,
four to an address (R119, R128). What the LUN holds at the end is entry 0 again. -/
def Profile.retryFeatures (p : Profile) (e : Nat) : List (Nat × List Byte) :=
  let off := nth [] p.retry e
  (List.range (cdiv p.levels 4)).map (fun i => (p.retryFa + i, slice off (4 * i) 4))

/-- A read of a command, or an internal one other than a verify, ends (R128). -/
def State.endHostRead (s : State) (ch lun : Nat) (o : LunOp) (p : Profile) (cws : List CwOut) : State :=
  let u := s.lun ch lun
  let k := p.nretry o.slc
  let soft := s.softWork ch lun o cws
  if !cws.all (CwOut.fits k) || decide (softPool < s.soft.length + soft.length) then s
  else
    let last := ((cws.filterMap CwOut.entry?).getLast?).getD u.lastRetry
    let s1 := s.setLun ch lun { u.ended with timeouts := 0, lastRetry := last }
    let s2 := (s1.countRead ch lun o k cws).readFinding ch lun o p.flipRefresh cws
    let s3 : State := { s2 with soft := s2.soft ++ soft }
    let s4 := if o.limited && decide (s.readTarget ch * 1000 < (s.beat - o.arrival) * 2048) then s3.raise (Reg.MED_ERR ch) 4 else s3
    s4.readEnded o.use

/-- A verify read ends. -/
def State.endVerify (s : State) (ch lun n : Nat) (o : LunOp) (p : Profile) (cws : List CwOut) : State :=
  let u := s.lun ch lun
  let t := (s.setLun ch lun { u.ended with timeouts := 0 }).countVerify ch lun o cws
  match t.copy? n with
  | some c => t.verified c (cws.all (CwOut.clean p.flipRefresh))
  | none => t

/-- NAND_READ_COMPLETE (R128): each codeword of the pages read, in order. Those that step 2 did not decode enter the
soft-decode pool; while it has no room for them the channel holds its request (R127). No transfer runs while the channel
calibrates (R113). -/
def execNandReadComplete (ch lun : Nat) (cws : List CwOut) (s : State) : Result :=
  .next (
    match (s.lun ch lun).running, s.profile? ch with
    | some o, some p =>
      if o.kind ≠ .read ∨ cws.length ≠ o.cw ∨ (s.chan ch).cal then s
      else match o.use with
        | .verify n => s.endVerify ch lun n o p cws
        | _ => s.endHostRead ch lun o p cws
    | _, _ => s)

/-- A codeword fails step 3: a read made for a reconstruction fails that; the other failing codewords of its page join it at step
4, which rebuilds the page once. -/
def State.softFailed (s : State) (c : SoftCw) : State :=
  match c.use with
  | .rebuild n _ => s.rebuildFailed n
  | _ =>
    let same (x : SoftCw) : Bool :=
      decide (x.tag = c.tag) && decide (x.use = c.use) && decide (x.ch = c.ch) && decide (x.maddr = c.maddr) && decide (x.page = c.page)
    if s.recon.any same then { s with recon := s.recon.map (fun x => if same x then { x with n := x.n + 1 } else x) }
    else s.toRecon [c]

/-- SOFT_DECODE_COMPLETE (R127): the pool finishes the codeword it serves; a failure sends its page to step 4. -/
def execSoftDecodeComplete (pass : Bool) (s : State) : Result :=
  .next (match nextSoft s.soft with
    | none => s
    | some c =>
      let t : State := { s with soft := s.soft.erase c }
      (if pass then t else t.softFailed c).readEnded c.use)

/-! ### Reconstruction (R129, R130, R172) -/

/-- A page's LUN can give no data: it is FAILED, or gone. -/
def State.pageGone (s : State) (a : PageAt) : Bool :=
  decide ((s.lun a.ch a.lun).state = .failed) || decide ((s.lun a.ch a.lun).state = .absent)

/-- The page that a reconstruction rebuilds. -/
def SoftCw.at_ (c : SoftCw) : PageAt := ⟨c.ch, c.lun, c.block, c.page⟩

/-- The other pages of a stripe, its parity page among them. -/
def Stripe.others (v : Stripe) (a : PageAt) : List PageAt := (v.pages ++ v.parity.toList).filter (fun x => decide (x ≠ a))

/-- The stripe that can give a page back: its parity page is programmed, and no other page of it is gone. -/
def State.stripeFor (s : State) (a : PageAt) : Option Stripe :=
  s.ftl.stripes.find? (fun v => v.pages.contains a && v.done && !((v.others a).any s.pageGone))

/-- The read of one page for a reconstruction, in the class of the read that it serves, not charged. -/
def State.rebuildRead (s : State) (c : SoftCw) (a : PageAt) : State :=
  match s.profile? a.ch with
  | some p =>
    let m := p.maddr a.lun a.block (a.page * p.pageUnits)
    let inst := ((c.tag.bind s.cmd?).map (·.inst)).getD 0
    s.enqueue a.ch a.lun
      { id := 0, kind := .read, cls := c.cls, block := a.block, slc := c.slc, maddr := m, units := p.pageUnits, cw := p.cwPerPage
        inst := inst, by_ := c.by_, use := .rebuild c.id c.ch }
  | none => s.rebuildFailed c.id

/-- The page has been rebuilt, or cannot be. -/
def State.endRebuild (s : State) (n : Nat) (c : SoftCw) (ok : Bool) : State :=
  let t : State := { s with recon := s.recon.eraseIdx n }
  (if ok then t.bump (Reg.MED_PARITY_CNT c.ch) else t.stepFive c).readEnded c.use

/-- STRIPE_RECONSTRUCTION (R130): the page of channel `ch` that waits in place `n`. Its partners are read, each through steps 1 to 3; when none of
those reads is outstanding the page is delivered, or the result is step 5. With fewer than 17 channels step 4 is skipped
(R129). -/
def execStripeReconstruction (ch n : Nat) (s : State) : Result :=
  .next (match s.recon[n]? with
    | none => s
    | some c =>
      if c.ch ≠ ch then s
      else if !s.dieParity then s.endRebuild n c false
      else if c.asked then
        if s.reading (.rebuild c.id c.ch) then s else s.endRebuild n c (!c.failed)
      else match s.stripeFor c.at_ with
        | none => s.endRebuild n c false
        | some v =>
          let t : State := { s with recon := s.recon.set n { c with asked := true } }
          (v.others c.at_).foldl (fun u a => u.rebuildRead c a) t)

/-! ### Programs (R123, R129, R160) -/

/-- Units that a program writes: those of its image, or the whole parity page. -/
def LunOp.written (o : LunOp) : Nat := if o.parity.isSome then o.cw * 8 else o.units

/-- Count a program: codewords on the bus, units of host or internal work (Table 7-9). -/
def State.countProgram (s : State) (ch : Nat) (o : LunOp) : State :=
  let n := o.written
  let t := (s.bump64 (Reg.MED_CW_PROG_LO ch) o.cw).charge o o.cw
  if o.slot.isSome then (t.bump64 Reg.FTL_HOST_PROG_LO n).setFtl { t.ftl with hostUnits := t.ftl.hostUnits + n }
  else (t.bump64 Reg.FTL_INT_PROG_LO n).setFtl { t.ftl with intUnits := t.ftl.intUnits + n }

/-- An image that was to be programmed is not: its units count as invalid data. -/
def State.dropImg (s : State) (ch maddr : Nat) : State :=
  s.setFtl { s.ftl with imgs := s.ftl.imgs.filter (fun i => !(decide (i.ch = ch) && decide (i.maddr = maddr))) }

/-- The data of a program that did not succeed is programmed again from its source (Table 5-8): a slot's image, a parity page, a
checkpoint image, a copy. -/
def State.progLost (s : State) (ch : Nat) (o : LunOp) : State :=
  match o.slot, o.parity with
  | some i, _ => (s.slotFailed i o.maddr).dropImg ch o.maddr
  | none, some id => match s.stripe? id with
    | some v => if v.next.isSome then s.setStripe { v with next := none } else (s.setStripe { v with parity := none }).placeParity id
    | none => s
  | none, none => match o.copy.bind s.copy? with
    | some c => s.dropCopy c
    | none => (s.dropImg ch o.maddr).setChest { s.chest with
      ckptBusy := s.chest.ckptBusy.filter (fun e => decide (some e.1 ≠ o.ckpt)) }

/-- The first `n` pages of a program's image stand on the media. -/
def State.progSome (s : State) (ch l : Nat) (o : LunOp) (n : Nat) : State :=
  match s.img? ch o.maddr with
  | some i => s.programImage i ((s.row ch l o.block).stream % 16) n
  | none => s

/-- Program timeout or status fail: the block is closed and marked for retirement (Table 5-8, Table 7-4). -/
def State.progFail (s : State) (ch l : Nat) (o : LunOp) : State :=
  ((s.medRaise ch 2 2 l o.block).retire ch l o.block 2).progLost ch o

/-- Programs that wait for a row that is marked are made from their sources elsewhere: it is never programmed again (R174). -/
def State.unqueueRow (s : State) (ch l block : Nat) : State :=
  let u := s.lun ch l
  let hit (o : LunOp) : Bool := decide (o.kind = .program) && decide (o.block = block)
  ((u.queue ++ u.ready).filter hit).foldl (fun t o => t.progLost ch o)
    (s.setLun ch l { u with queue := u.queue.filter (fun o => !hit o), ready := u.ready.filter (fun o => !hit o) })

/-- A parity page is programmed: its stripe is protected and slots may be released; one of a re-parity takes effect with its
STRIPE record (R129, R171). -/
def State.parityPassed (s : State) (v : Stripe) (a : PageAt) : State :=
  let t := s.programPage a (s.pageHdr a .parity v.id 16 v.stream 0) (s.parityData v a.ch)
  if v.next = some a then t.issue (.stripe v.id (some a))
  else if v.parity = some a then (t.setStripe { v with done := true }).releaseSlots
  else t

/-- What a program that passed serves: a slot's image, a parity page, a copy or a checkpoint image. Its pages stand on the
media. -/
def State.progPassed (s : State) (ch l : Nat) (o : LunOp) : State :=
  match o.parity with
  | some id => match s.stripe? id with
    | some v => s.parityPassed v ⟨ch, l, o.block, o.page⟩
    | none => s
  | none =>
    let t := s.progSome ch l o o.units
    match o.slot, o.copy.bind t.copy?, o.ckpt with
    | some i, _, _ => t.slotProgrammed i
    | none, some c, _ => t.startVerify c
    | none, none, some seg => match t.chest.ckptBusy.find? (fun e => decide (e.1 = seg)) with
      | some e => (t.issue (.sysCommit seg ch o.maddr o.units)).issue (.ckpt seg e.2)
      | none => t
    | none, none, none => t

/-- NAND_PROGRAM_COMPLETE (R123): `pass` is the status; of an image whose program fails `done` pages stand on the media. -/
def execNandProgramComplete (ch lun : Nat) (pass : Bool) (done : Nat) (s : State) : Result :=
  .next (
    let u := s.lun ch lun
    match u.running with
    | some o =>
      if o.kind ≠ .program then s
      else
        let t := (s.setLun ch lun { u.ended with timeouts := 0 }).countProgram ch o
        if pass then t.progPassed ch lun o else (t.progSome ch lun o done).progFail ch lun o
    | none => s)

/-! ### Erases (R131, R147, R168) -/

/-- Shelf rows that a channel should have: PERMIL thousandths of its rows (R147). -/
def State.shelfTarget (s : State) (ch : Nat) : Nat := (s.rowsOf ch).length * s.fieldNow Reg.FTL_SHELF_CFG 6 0 / 1000

/-- A row that has been erased joins the Shelf while the channel has fewer Shelf rows than its target. -/
def State.joinsShelf (s : State) (ch l block : Nat) : Bool :=
  decide (((s.rowsOf ch).filter (fun e => e.2.slc && decide (e.1 ≠ rowKey ch l block))).length < s.shelfTarget ch)

/-- The credit of an urgent channel gains the row's capacity less the units copied out of its superblock on that channel, which
are counted against the first of its rows there to be erased (R168, log 189). -/
def State.creditErase (s : State) (ch : Nat) (r : Row) : State :=
  let c := s.chan ch
  let cap := match s.profile? ch with
    | some p => p.rowUnits r.slc
    | none => 0
  let same (e : Nat × Row) : Bool := decide (keyCh e.1 = ch) && decide (e.2.superblock = r.superblock) && decide (r.superblock ≠ 0)
  let out := ((s.ftl.rows.filter same).map (fun e => e.2.copied)).sum
  if c.urgent then
    (s.setFtl { s.ftl with rows := s.ftl.rows.map (fun e => if same e then (e.1, { e.2 with copied := 0 }) else e) }).setChan ch
      { c with credit := c.credit + (cap : Int) - (out : Int) }
  else s

/-- A row after a passing erase. -/
def State.rowErased (s : State) (ch l block : Nat) : State :=
  let s1 := (s.creditErase ch (s.row ch l block)).erasePages ch l block
  let r := s1.row ch l block
  let here (a : PageAt) : Bool := decide ((a.ch, a.lun, a.block) = (ch, l, block))
  let t := s1.setRow ch l block { r with
    state := .free, slc := s.joinsShelf ch l block, nativeErases := r.nativeErases + b2n (!r.slc)
    slcErases := r.slcErases + b2n r.slc, reads := 0, written := 0, closing := false, superblock := 0, stream := 0, pinned := false
    eraseOpen := false, owner := none, candidate := false, soft := false, recs := 0, rcw := [], extra := 0, copied := 0
    copyStripes := [], freed := [] }
  t.setFtl { t.ftl with
    imgs := t.ftl.imgs.filter (fun i => !i.inRow ch l block)
    stripes := t.ftl.stripes.filter (fun v => !((v.pages ++ v.parity.toList).any here)) }

/-- Erase timeout or status fail: the block is retired, under the cause of a SUSPECT row where it was one. -/
def State.eraseFail (s : State) (ch l : Nat) (o : LunOp) (suspect : Bool) : State :=
  (s.medRaise ch 3 3 l o.block).retire ch l o.block (if suspect then 1 else 0)

/-- NAND_ERASE_COMPLETE (R121, R131): a passing erase clears its erase-start record; where the profile allows no multi-plane
erase, the next plane's follows first. -/
def execNandEraseComplete (ch lun : Nat) (pass : Bool) (s : State) : Result :=
  .next (
    let u := s.lun ch lun
    match u.running with
    | some o =>
      if o.kind ≠ .erase then s
      else
        let t := s.setLun ch lun { u.ended with timeouts := 0 }
        if pass && decide (1 < o.pages) then
          t.setLun ch lun { t.lun ch lun with queue := { o with pages := o.pages - 1, ran := 0, ranSince := 0, suspends := 0 } :: (t.lun ch lun).queue }
        else if pass then t.rowErased ch lun o.block
        else t.eraseFail ch lun o (decide ((t.row ch lun o.block).state = .suspect))
    | none => s)

/-! ### Timeouts and LUN resets (R123, Table 5-8) -/

/-- An operation that a LUN reset ends: a suspended erase leaves its block SUSPECT, a program is written elsewhere. -/
def State.killOp (s : State) (ch l : Nat) (o : LunOp) : State :=
  match o.kind with
  | .program => s.progFail ch l o
  | _ => s.abandonErase ch l o

/-- What a timeout does for its operation: a read is reissued once, then each codeword of it goes to step 4; its row is a refresh
candidate, its codewords having needed step 2 or later (R170). A verify read that does not end fails its copy. -/
def State.timeoutOp (s : State) (ch l : Nat) (o : LunOp) : State :=
  match o.kind with
  | .read =>
    let u := s.lun ch l
    if o.reissued then
      match o.use with
      | .verify n => match s.copy? n with
        | some c => s.verified c false
        | none => s
      | _ => ((s.stepFour ch l o).candidate ch l o.block (if o.use = .patrol then 3 else 2)).readEnded o.use
    else s.setLun ch l { u with queue := { o with reissued := true, ran := 0, ranSince := 0 } :: u.queue }
  | .program => s.progFail ch l o
  | .erase => (s.abandonErase ch l o).eraseFail ch l o (decide ((s.row ch l o.block).state = .suspect))

/-- MED_OP_TIMEOUT (R123): the operation that runs has exceeded its limit, suspended time apart. A third consecutive
timeout makes the LUN FAILED. -/
def execMedOpTimeout (ch lun : Nat) (s : State) : Result :=
  .next (
    let u := s.lun ch lun
    match u.running with
    | some o =>
      if u.state ≠ .active ∨ o.ran ≤ o.limit then s
      else
        let other := if u.rd.isSome then u.op.toList else []
        let n := u.timeouts + 1
        let s1 := ((s.medRaise ch 1 1 lun o.block).setLun ch lun { u.ended with timeouts := n }).lunReset ch lun
        let s2 := other.foldl (fun t x => t.killOp ch lun x) (s1.timeoutOp ch lun o)
        if 3 ≤ n then s2.failLun ch lun else s2
    | none => s)

/-- The features of Table 5-5 are applied in order after a reset, before calibration (R119). -/
def Profile.features (p : Profile) : Sparse (List Byte) :=
  p.feats.foldl (fun m e => Sparse.set (fun _ => []) m e.1 e.2) []

/-- LUN_RESET_COMPLETE: the LUN takes its features, works again, and its channel calibrates (R113, R119), or tRST has been
exceeded and the LUN is FAILED (Table 5-8). -/
def execLunResetComplete (ch lun : Nat) (pass : Bool) (s : State) : Result :=
  .next (
    let u := s.lun ch lun
    if u.state ≠ .resetting then s
    else if pass then
      (s.setLun ch lun { u with
        state := .active
        feats := match s.profile? ch with
          | some p => p.features
          | none => [] }).calibrate ch false
    else s.failLun ch lun)

end Sys2Proof.Machine
end

