-- ==== Sys2Proof/Machine/Care.lean ====
section
/-!
DEFINITION. Media care (R140, R141, R148, R159 to R174): the engines that move images, the conditional commits of
their copies, the erase gate, wear levelling and patrol.
-/

namespace Sys2Proof.Machine

/-! ### Copies (R160, R163) -/

/-- The committed entries that name an image: the span's, grain entries, its directory's (number 64). An entry that
stands in a write-buffer slot is not among them: the slot's commit moves it. -/
def State.imgEntries (s : State) (i : Img) : List (Option Nat × BitVec 64) :=
  let e := s.spanEntry i.nsid i.span
  let own := if eWbuf e then []
    else if eSplit e && eImage e then
      (List.range 64).filterMap (fun g =>
        let x := s.grainEntry i.nsid i.span g
        if i.named (eCh x) x then some (some g, x) else none)
    else if i.named (eCh e) e then [(none, e)] else []
  let dir := match s.dirOf i.nsid i.span with
    | some (.dir _ _ ch len m raw shelf) =>
      if ch = i.ch ∧ m = i.maddr then [(some 64, mkEntry false shelf false false raw ch len m)] else []
    | _ => []
  own ++ dir

/-- Internal work runs (R177): not while MEDIA_HEALTH is FAILED, the device is not in SERVICE, or PWR_FAIL_N is low. -/
def State.internalOk (s : State) : Bool :=
  decide (s.health ≠ .failed) && decide (s.dev = .service) && !s.flushMode && !s.pwr.flush

/-- The image has a copy under way. -/
def State.copying (s : State) (i : Img) : Bool := s.ftl.copies.any (fun c => decide (c.src = (i.ch, i.maddr)))

/-- Stream of Table 7-2 that an engine writes, by mode. -/
def moverStream (by_ : Mover) (slc : Bool) : Nat :=
  match by_ with
  | .fold => 2
  | .wear => 4
  | .reloc => 5
  | .coalesce => if slc then 22 else 6
  | _ => if slc then 19 else 3

/-- Modes that an engine may write an image in (Table 7-2). -/
def moverMode (by_ : Mover) (i : Img) (slc : Bool) : Bool :=
  match by_ with
  | .gc => !slc || i.shelf
  | .refresh => !slc || i.shelf
  | .evac => !slc || i.shelf
  | _ => !slc

/-- The channel a copy of the image may go to: its own; in a relocation, one of the rotation while the image's channel
has no other ACTIVE LUN with free rows (R171). -/
def State.moverChannel (s : State) (by_ : Mover) (i : Img) (ch : Nat) : Bool :=
  if by_ = .reloc then
    let room (c : Nat) : Bool :=
      !(s.rowsWithRoom (s.superOf 5) c i.len).isEmpty || (s.activeLuns c).any (fun l => (s.pickRow 5 c l false).isSome)
    if room i.ch then decide (ch = i.ch) else decide (s.nextChan i.nsid = some ch)
  else decide (ch = i.ch)

/-- Rank of an engine's work on a row (Table 7-3). -/
def State.moverRank (s : State) (by_ : Mover) (ch l block : Nat) : Nat :=
  match by_ with
  | .reloc => 1
  | .evac => 2
  | .refresh => if (s.row ch l block).soft then 3 else 5
  | .gc => if (s.chan ch).urgent then 4 else 7
  | .fold => 6
  | .coalesce => 8
  | .wear => 9
  | _ => 0

/-- Copy one image (R160 step 1): its place is taken, and its source read as class 2 work, by reconstruction where its LUN is
FAILED. One of the system namespace stays in its stream (R185). An image goes to no row in which a copy of it has failed its
verify. -/
def State.moveImage (s : State) (by_ : Mover) (m : Move) : State :=
  match s.img? m.ch m.maddr with
  | none => s
  | some i =>
    let ents := s.imgEntries i
    let p := m.place
    if ents.isEmpty || i.unreadable || s.copying i || i.avoid.contains (p.ch, p.lun, p.block) || !moverMode by_ i p.slc ||
        !s.moverChannel by_ i p.ch then s
    else match s.placeImage (if i.nsid = 0 then 8 else moverStream by_ p.slc) p i.len with
      | none => s
      | some (t, a) =>
        let n := t.ftl.nextOp
        let rank := s.moverRank by_ i.ch (maLun i.maddr) (maBlock i.maddr)
        let loc : Loc := { grain := i.grain, maddr := a, len := i.len, raw := i.raw, shelf := p.slc }
        let c : Copy := { id := n, nsid := i.nsid, span := i.span, ents := ents, ch := p.ch, loc := loc, by_ := by_
                          src := (i.ch, i.maddr), rank := rank }
        let u := t.putImg { i with ch := p.ch, maddr := a, shelf := p.slc, stripes := p.stripes, avoid := [] }
        let w := u.setFtl { u.ftl with copies := u.ftl.copies ++ [c], nextOp := n + 1 }
        (if by_ = .reloc && p.ch ≠ i.ch then w.setRot i.nsid (p.ch + 1) else w).queueRead
          { id := 0, kind := .read, cls := 2, block := 0, by_ := by_, use := .copy n, rank := rank } (i.ch, i.maddr)

/-- Copy the images of a list that lie in rows the engine has selected. -/
def State.moveAll (s : State) (by_ : Mover) (mine : State → Nat → Nat → Nat → Bool) (l : List Move) : State :=
  l.foldl (fun t m => if mine t m.ch (maLun m.maddr) (maBlock m.maddr) then t.moveImage by_ m else t) s

/-- No readable referenced image is left in a row. -/
def State.emptied (s : State) (ch l block : Nat) : Bool :=
  !(s.ftl.imgs.any (fun i => i.inRow ch l block && !i.unreadable && s.imgRef i))

/-- Rows of a superblock. -/
def State.superRows (s : State) (sb : Nat) : List (Nat × Row) := s.ftl.rows.filter (fun e => decide (e.2.superblock = sb))

def keyEmptied (s : State) (k : Nat) : Bool := s.emptied (keyCh k) (keyLun k) (keyBlock k)

/-- An engine has finished with a row that it selected. -/
def State.rowDone (s : State) (k : Nat) (r : Row) : State :=
  let put (t : State) (v : Row) : State := t.setFtl { t.ftl with rows := Sparse.set (fun _ => {}) t.ftl.rows k v }
  match r.owner with
  | some .refresh => put (s.bump Reg.FTL_REFRESH_CNT) { r with owner := none, candidate := false }
  | some .wear => put (s.bump Reg.FTL_WL_CNT) { r with owner := none }
  | _ => put s { r with owner := none, candidate := r.candidate && decide (r.owner ≠ some .gc) }

/-- The collection of a superblock ends when its rows have been erased, but for those that are pinned or have left the pool: it
is counted as reclaimed (R166). -/
def State.gcDone (s : State) : State :=
  match s.ftl.gcSel with
  | none => s
  | some sb =>
    let rows := s.superRows sb
    if rows.all (fun e => (e.2.pinned && keyEmptied s e.1) || decide (e.2.state = .retired)) then
      let t := rows.foldl (fun u e => u.rowDone e.1 e.2) s
      (t.setFtl { t.ftl with gcSel := none, reclaimed := t.ftl.reclaimed + 1 }).bump Reg.FTL_GC_CNT
    else s

/-- Rows whose engines have finished; pinned rows that the host has emptied are released (R167). -/
def State.careSweep (s : State) : State :=
  let t := (s.ftl.rows.filter (fun e => e.2.owner.isSome && decide (e.2.owner ≠ some .gc) && keyEmptied s e.1)).foldl
    (fun u e => u.rowDone e.1 e.2) s
  let free (k : Nat) : Bool := !(t.ftl.imgs.any (fun i => i.inRow (keyCh k) (keyLun k) (keyBlock k) && t.imgRef i))
  let asked (k : Nat) : Bool := t.chest.pending.any (fun x => decide (x.change = .row (keyCh k) (keyLun k) (keyBlock k) .unpin))
  ((t.ftl.rows.filter (fun e => e.2.pinned && free e.1 && !asked e.1)).foldl
    (fun u e => u.issue (.row (keyCh e.1) (keyLun e.1) (keyBlock e.1) .unpin)) t).gcDone

/-- An engine may select the row: no other has it (R163), and it is no open or free row. -/
def Row.selectable (r : Row) (by_ : Mover) : Bool :=
  (r.owner.isNone || decide (r.owner = some by_)) && decide (r.state = .closed)

/-- An engine selects a row, by a MOVE record (R163, Table 8-2). -/
def State.selectRow (s : State) (by_ : Mover) (ch l block : Nat) : State :=
  let r := s.row ch l block
  if r.owner = some by_ then s else (s.setRow ch l block { r with owner := some by_ }).issue (.move ch l block by_)

/-! ### Commits of copies (R141) -/

/-- Point one entry at the copy; a relocation to another channel moves the span's CH with it (R171). -/
def State.pointAt (s : State) (nsid sp ch : Nat) (loc : Loc) (e : Option Nat × BitVec 64) : State :=
  if !s.entryHolds nsid sp e then s
  else match e.1 with
    | none => s.setSpan nsid sp (imgEntry ch loc false)
    | some g =>
      if g = 64 then s.putDir (.dir nsid sp ch loc.len loc.maddr loc.raw loc.shelf) nsid sp
      else
        let x := s.spanEntry nsid sp
        let t := s.setGrain nsid sp g (imgEntry ch loc (eSplit e.2))
        if ch = eCh x then t else t.setSpan nsid sp (splitEntry ch (eMaddr x))

/-- The source row loses the image's units; its erase waits for the parity of the copy's stripes (R160, R161). -/
def State.leaveRow (s : State) (src : Nat × Nat) (units : Nat) (stripes : List Nat) : State :=
  let r := s.row src.1 (maLun src.2) (maBlock src.2)
  s.setRow src.1 (maLun src.2) (maBlock src.2)
    { r with copied := r.copied + units, copyStripes := (r.copyStripes ++ stripes).dedup }

/-- A copy is no longer under way. -/
def State.endCopy (s : State) (ch maddr : Nat) : State :=
  s.setFtl { s.ftl with copies := s.ftl.copies.filter (fun c => !(decide (c.ch = ch) && decide (c.loc.maddr = maddr))) }

def State.stripesAt (s : State) (ch maddr : Nat) : List Nat :=
  match s.img? ch maddr with
  | some i => i.stripes
  | none => []

/-- A COPY_COMMIT record is committed: it takes effect for the entries that still hold the old location. -/
def State.commitCopy (s : State) (nsid sp : Nat) (ents : List (Option Nat × BitVec 64)) (ch : Nat) (loc : Loc)
    (by_ : Mover) (src : Nat × Nat) : State :=
  let t := s.endCopy ch loc.maddr
  if ents.any (s.entryHolds nsid sp) then
    let u := ents.foldl (fun w e => w.pointAt nsid sp ch loc e) t
    let v := u.leaveRow src loc.len (s.stripesAt ch loc.maddr)
    (if by_ = .fold then v.bump Reg.FTL_FOLD_CNT else v).careSweep
  else (t.dropImg ch loc.maddr).careSweep

/-- A coalesced span's image is committed: the grain block is freed (R140). A change of any of its entries in the
meantime discards the image. -/
def State.commitCoalesced (s : State) (nsid sp : Nat) (ents : List (Option Nat × BitVec 64)) (ch : Nat) (loc : Loc) : State :=
  let t := s.endCopy ch loc.maddr
  if ents.all (s.entryHolds nsid sp) then
    let srcs := ((ents.filter (fun e => e.1.isSome && eImage e.2)).map (fun e => (eCh e.2, eMaddr e.2))).dedup
    let u := (t.freeBlock (s.spanEntry nsid sp)).setSpan nsid sp (imgEntry ch loc false)
    let v := srcs.foldl (fun w a => w.leaveRow a (match s.img? a.1 a.2 with
      | some i => i.len
      | none => 0) (s.stripesAt ch loc.maddr)) u
    (v.bump Reg.FTL_COALESCE_CNT).careSweep
  else (t.dropImg ch loc.maddr).careSweep

/-! ### Fold (R148) -/

/-- Shelf rows of a channel, and those in use. -/
def State.shelfRows (s : State) (ch : Nat) : Nat :=
  ((s.rowsOf ch).filter (fun e => e.2.slc && decide (e.2.state ≠ .bad) && decide (e.2.state ≠ .retired))).length

def State.shelfUsed (s : State) (ch : Nat) : Nat :=
  ((s.rowsOf ch).filter (fun e => e.2.slc && (decide (e.2.state = .opened) || decide (e.2.state = .closed) ||
    decide (e.2.state = .suspect)))).length

/-- Fold starts above START sixteenths of occupancy and runs until it falls below STOP, or START − 1. -/
def State.foldTest (s : State) (ch : Nat) : State :=
  let start := s.fieldNow Reg.FTL_FOLD_CTL 7 4
  let stop0 := s.fieldNow Reg.FTL_FOLD_CTL 3 0
  let stop := if start ≤ stop0 then start - 1 else stop0
  let used := 16 * s.shelfUsed ch
  let c := s.chan ch
  let on := if c.foldOn then !(decide (used < stop * s.shelfRows ch)) else decide (start * s.shelfRows ch < used)
  s.setChan ch { c with foldOn := on }

/-- The row is the oldest closed Shelf row of its channel that holds a referenced readable image. -/
def State.oldestShelf (s : State) (ch l block : Nat) : Bool :=
  let r := s.row ch l block
  r.slc && r.selectable .fold && (s.rowsOf ch).all (fun e =>
    !(e.2.slc && e.2.selectable .fold && decide (e.2.closeBeat < r.closeBeat) && !keyEmptied s e.1))

/-- FOLD_IMAGE (R148): one image of the oldest Shelf row goes to QLC on its channel. -/
def execFoldImage (m : Move) (s : State) : Result :=
  .next (
    let t := s.foldTest m.ch
    if s.internalOk && (t.chan m.ch).foldOn && t.oldestShelf m.ch (maLun m.maddr) (maBlock m.maddr) then
      (t.selectRow .fold m.ch (maLun m.maddr) (maBlock m.maddr)).moveImage .fold m
    else t)

/-! ### Garbage collection (R166, R168) -/

/-- URGENT' and START' (Chapter 7). -/
def State.urgentLevel (s : State) : Nat := max (s.fieldNow Reg.FTL_GC_CTL 23 12) (s.reserve + 1)
def State.startLevel (s : State) : Nat := max (s.fieldNow Reg.FTL_GC_CTL 11 0) (s.urgentLevel + 1)

/-- Garbage collection runs: some channel's free level is below START'. -/
def State.gcWanted (s : State) : Bool := channels.any (fun c => s.present c && decide (s.freeLevel c < s.startLevel))

/-- Referenced units of a superblock, those written, and the beat at which its last row closed. -/
def State.superUnits (s : State) (sb : Nat) : Nat :=
  ((s.superRows sb).map (fun e => s.rowUnits (keyCh e.1) (keyLun e.1) (keyBlock e.1))).sum

def State.superScore (s : State) (sb : Nat) : Nat :=
  let rows := s.superRows sb
  let cap := s.fieldNow Reg.FTL_GC_AGE 31 16 * 2 ^ 20
  let inv := (rows.map (fun e => e.2.written - e.2.extra)).sum - s.superUnits sb
  let age := min (s.beat - (rows.map (fun e => e.2.closeBeat)).foldl max 0) cap
  inv * (16 * cap + s.fieldNow Reg.FTL_GC_AGE 3 0 * age)

/-- A closed native superblock that no engine works in, and that is more than pinned rows. -/
def State.collectable (s : State) (sb : Nat) : Bool :=
  let rows := s.superRows sb
  decide (sb ≠ 0) && rows.all (fun e => decide (e.2.state ≠ .opened) && !e.2.slc && e.2.owner.isNone) &&
    rows.any (fun e => decide (e.2.state = .closed) && !e.2.pinned)

/-- The superblock with the highest score; the lower number where scores are equal; none with a score of 0. -/
def State.bestSuper (s : State) : Option Nat :=
  let sbs := ((s.ftl.rows.map (fun e => e.2.superblock)).dedup).filter (fun b => s.collectable b && decide (0 < s.superScore b))
  sbs.find? (fun b => sbs.all (fun x => decide (s.superScore x < s.superScore b) ||
    (decide (s.superScore x = s.superScore b) && decide (b ≤ x))))

/-- Garbage collection starts and stops with the channels' free levels; one that stops gives up its selection (R166). -/
def State.gcTest (s : State) : State :=
  if s.gcWanted then s.setFtl { s.ftl with gcOn := true }
  else s.setFtl { s.ftl with
    gcOn := false, gcSel := none
    rows := s.ftl.rows.map (fun e => if e.2.owner = some .gc then (e.1, { e.2 with owner := none }) else e) }

/-- Select a superblock for collection: its rows are the collector's. -/
def State.gcSelect (s : State) : State :=
  match s.ftl.gcSel, s.bestSuper with
  | none, some b =>
    if s.ftl.gcOn then
      (s.superRows b).foldl (fun t e => t.selectRow .gc (keyCh e.1) (keyLun e.1) (keyBlock e.1)) (s.setFtl { s.ftl with gcSel := some b })
    else s
  | _, _ => s

/-- GC_PASS (R166): the pass selects a superblock, and `moves` copies images out of it. -/
def execGcPass (moves : List Move) (s : State) : Result :=
  .next (
    if s.internalOk then
      let t := s.gcTest.gcSelect
      match t.ftl.gcSel with
      | some b => (t.moveAll .gc (fun x c l k => decide ((x.row c l k).superblock = b)) moves).gcDone
      | none => t
    else s)

/-! ### Refresh, evacuation, wear levelling, patrol (R170, R173, R174) -/

/-- REFRESH_ROW (R170): the referenced images of a refresh candidate are copied; those of a row marked for retirement
are evacuated the same way (R174). -/
def execRefreshRow (ch lun block : Nat) (moves : List Move) (s : State) : Result :=
  .next (
    let r := s.row ch lun block
    let by_ : Mover := if r.marked then .evac else .refresh
    if s.internalOk && (r.candidate || r.marked) && r.selectable by_ then
      ((s.selectRow by_ ch lun block).moveAll by_ (fun _ c l k => decide ((c, l, k) = (ch, lun, block))) moves).careSweep
    else s)

/-- Good rows of a channel that are not pinned, and the spread of their wear (R173). -/
def State.spread (s : State) (ch : Nat) : Nat :=
  let w := (s.rowsOf ch).filterMap (fun e => if e.2.good && !e.2.pinned then some (s.wear ch e.2) else none)
  match w with
  | [] => 0
  | a :: t => t.foldl max a - t.foldl min a

/-- Less worn first, among equal wear the one that closed earlier. -/
def State.colder (s : State) (ch : Nat) (a b : Nat × Row) : Bool :=
  decide (s.wear ch a.2 < s.wear ch b.2) || (decide (s.wear ch a.2 = s.wear ch b.2) && decide (a.2.closeBeat ≤ b.2.closeBeat))

def State.insertCold (s : State) (ch : Nat) (a : Nat × Row) : List (Nat × Row) → List (Nat × Row)
  | [] => [a]
  | b :: t => if s.colder ch a b then a :: b :: t else b :: State.insertCold s ch a t

/-- Select the cold rows of a channel whose spread exceeds FTL_WL_SPREAD. -/
def State.wearSelect (s : State) (ch : Nat) : State :=
  if s.spread ch ≤ s.fieldNow Reg.FTL_WL_SPREAD 15 0 then s
  else
    let rows := (s.rowsOf ch).filter (fun e => !e.2.slc && e.2.selectable .wear && !e.2.marked && !e.2.pinned)
    let order := rows.foldl (fun l e => s.insertCold ch e l) []
    (order.take (s.fieldNow Reg.FTL_WL_BATCH 12 0)).foldl
      (fun t e => t.selectRow .wear ch (keyLun e.1) (keyBlock e.1)) s

/-- The last page programmed in a closed row: its summary page, or where it was closed without one the last that images took. -/
def State.lastPage (s : State) (p : Profile) (ch l block : Nat) : Nat :=
  let r := s.row ch l block
  let g := p.room r.slc / p.pageUnits + p.planes - 1
  if (Sparse.get (fun _ => []) s.nand (PageAt.key ⟨ch, l, block, g⟩)).isEmpty then (min r.written (p.room r.slc) - 1) / p.pageUnits else g

/-- One patrol read: the last page programmed in a closed row (R170). -/
def State.patrolRead (s : State) (ch : Nat) (k : Nat) (r : Row) : State :=
  let l := keyLun k
  match s.profile? ch with
  | some p =>
    let m := p.maddr l (keyBlock k) (s.lastPage p ch l (keyBlock k) * p.pageUnits)
    s.enqueue ch l
      { id := 0, kind := .read, cls := 2, block := keyBlock k, slc := r.slc, maddr := m, units := p.pageUnits, cw := p.cwPerPage
        by_ := .refresh, use := .patrol, rank := 5 }
  | none => s

/-- The next FTL_PATROL_ROWS closed rows of a channel, in round-robin order. -/
def State.patrol (s : State) (ch : Nat) : State :=
  let rows := (s.rowsOf ch).filter (fun e => decide (e.2.state = .closed))
  let n := min rows.length (s.fieldNow Reg.FTL_PATROL_ROWS 15 0)
  let at_ := (s.chan ch).patrol
  let turn := (rows.drop (at_ % max 1 rows.length) ++ rows.take (at_ % max 1 rows.length)).take n
  let t := turn.foldl (fun u e => u.patrolRead ch e.1 e.2) s
  t.setChan ch { t.chan ch with patrol := (at_ + n) % max 1 rows.length }

/-- Beats of FTL_WL_PERIOD, in minutes. -/
def State.wlBeats (s : State) : Nat := beatsOfMs (s.fieldNow Reg.FTL_WL_PERIOD 13 0 * 60000)

/-- The largest spread, and the lowest channel that has it. -/
def State.spreads (s : State) : Nat × Nat :=
  channels.foldl (fun b c => if b.1 < s.spread c then (s.spread c, c) else b) (0, 0)

/-- WEAR_LEVELLING_PERIOD (R170, R173): the timer has expired. Each channel checks its spread, selects cold rows, and
queues its patrol reads; `moves` copies images of the rows selected. -/
def execWearLevellingPeriod (moves : List Move) (s : State) : Result :=
  .next (
    let w (t : State) : State := t.moveAll .wear (fun x c l k => decide ((x.row c l k).owner = some .wear)) moves
    if !s.internalOk then s
    else if s.ftl.wlTimer ≤ s.wlBeats then w s
    else
      let sp := s.spreads
      let t := s.setFtl { s.ftl with wlTimer := 0, lastSpread := sp.1, lastSpreadCh := sp.2 }
      w (channels.foldl (fun u c => (u.wearSelect c).patrol c) (t.wakeBy 3)))

/-! ### Relocation and re-parity (R171, R172) -/

/-- A page of a LUN. -/
def PageAt.on (a : PageAt) (ch l : Nat) : Bool := decide (a.ch = ch) && decide (a.lun = l)

/-- A referenced image that can still be read has units in the page. -/
def State.pageNeeded (s : State) (a : PageAt) : Bool :=
  s.ftl.imgs.any (fun i => i.inRow a.ch a.lun a.block && !i.unreadable && s.imgRef i && (match s.profile? a.ch with
    | some p => (p.pagesTouched (p.unit i.maddr) i.len).contains a.page
    | none => true))

/-- The stripe has lost a page to the LUN and its re-parity may begin: what the page held has been moved. -/
def State.wantsReparity (s : State) (ch l : Nat) (v : Stripe) : Bool :=
  v.done && v.next.isNone && (v.pages ++ v.parity.toList).any (fun a => a.on ch l) &&
    (v.pages.filter (fun a => a.on ch l)).all (fun a => !s.pageNeeded a)

/-- A stripe that has lost a page gets a new parity page, the old parity XOR the rebuilt page, on a channel that holds no other
page of it, in the stream of relocation and re-parity (R171). -/
def State.reparity (s : State) (ch l : Nat) (v : Stripe) : State :=
  let w := { v with pages := v.pages.filter (fun a => !a.on ch l) }
  let t := if (s.parityChan w (s.superOf 5)).isSome then s else s.openSuper 5 false
  match t.parityPage w (t.superOf 5) with
  | some (u, a) => (u.setStripe { v with next := some a }).enqueue a.ch a.lun (u.parityOp v a .reloc)
  | none => s

/-- The new membership of a stripe takes effect with its STRIPE record: the pages left, and the new parity page; the old one is
no longer held (R171). -/
def State.commitStripe (s : State) (id : Nat) (a : PageAt) : State :=
  match s.stripe? id with
  | some v => (s.setStripe { v with
      pages := v.pages.filter (fun x => !s.pageGone x), parity := some a, next := none, done := true }).releaseSlots
  | none => s

/-- Programs that waited on a FAILED LUN are made from their sources (Table 5-8). -/
def State.redoPrograms (s : State) (ch l : Nat) : State :=
  let u := s.lun ch l
  u.queue.foldl (fun t o => t.progLost ch o) (s.setLun ch l { u with queue := [] })

/-- Relocation of a LUN is done: no readable referenced image is left on it, and every row of it is retired. -/
def State.relocDone (s : State) (ch l : Nat) : State :=
  let on (i : Img) : Bool := decide (i.ch = ch) && decide (maLun i.maddr = l) && !i.unreadable && s.imgRef i
  if s.ftl.imgs.any on then s
  else
    let t := s.setFtl { s.ftl with reloc := s.ftl.reloc.filter (fun k => decide (k ≠ lunKey ch l)) }
    ((s.ftl.rows.filter (fun e => decide (e.1 / 65536 = lunKey ch l))).foldl
      (fun u e => u.retire ch l (keyBlock e.1) 4) t).recompute

/-- One image of a FAILED LUN moves, in a row that no other engine has (R163). -/
def State.relocate (s : State) (ch l : Nat) (m : Move) : State :=
  let r := s.row m.ch (maLun m.maddr) (maBlock m.maddr)
  if m.ch = ch ∧ maLun m.maddr = l ∧ (r.owner.isNone ∨ r.owner = some .reloc) then
    (s.selectRow .reloc ch l (maBlock m.maddr)).moveImage .reloc m
  else s

/-- LUN_RELOCATION (R171): `moves` copies images of a FAILED LUN, rebuilt through their stripes; of the stripes
whose lost pages are needed no more those of `stripes` get new parity pages now. -/
def execLunRelocation (ch lun : Nat) (moves : List Move) (stripes : List Nat) (s : State) : Result :=
  .next (
    if s.internalOk && decide ((s.lun ch lun).state = .failed) then
      let t := s.redoPrograms ch lun
      let u := if t.ftl.reloc.contains (lunKey ch lun) then
          (moves.foldl (fun x m => x.relocate ch lun m) t).relocDone ch lun
        else t
      (u.ftl.stripes.filter (fun v => u.wantsReparity ch lun v && stripes.contains v.id)).foldl (fun x v => x.reparity ch lun v) u
    else s)

/-! ### The erase gate (R161) -/

/-- Rows that may be erased at all: closed or SUSPECT; not bad, retired, free or open ones. -/
def Row.erasable (r : Row) : Bool := (decide (r.state = .closed) || decide (r.state = .suspect)) && !r.closing

/-- Every segment that referred to the row has been checkpointed with a SEQ above the commit that removed its last reference
(R187). -/
def State.rowSettled (s : State) (r : Row) : Bool :=
  r.freed.all (fun e => s.chest.ckptSeq.any (fun c => decide (c.1 = e.1) && decide (e.2 < c.2)))

/-- ERASE_GATE_REQUEST (R161): a count that is not 0 refuses the request. With a count of 0 firmware asks only once the segments
that referred to the row have been checkpointed (R187). A row marked for retirement leaves the pool instead of being erased
(R174). -/
def execEraseGateRequest (ch lun block : Nat) (s : State) : Result :=
  .next (
    let r := s.row ch lun block
    if !r.erasable then s
    else if s.rowCounted ch lun block then (s.bump Reg.FTL_GATE_REFUSED).careRaise 0 ch lun block
    else if !s.rowSettled r then s
    else if r.marked then s.issue (.row ch lun block .release)
    else s.setRow ch lun block { r with gateWait := true })

/-- ERASE_GATE_ISSUE (R131, R161): once no read in flight resolved into the row and every stripe of its copies has its
parity, the erase-start record is written; once it is durable the erase is issued. Without a Chest that records it no erase is
issued. A profile that allows no multi-plane erase takes one erase for each plane (R121). -/
def execEraseGateIssue (ch lun block : Nat) (s : State) : Result :=
  .next (
    let r := s.row ch lun block
    if !s.internalOk || !r.gateWait || s.chest.failed || s.rowCounted ch lun block || s.readsInto ch lun block ||
        !s.parityDone r.copyStripes || decide ((s.lun ch lun).state ≠ .active) then s
    else if r.eraseReady then
      let n := match s.profile? ch with
        | some p => if bitOf p.mpRule 2 then 1 else p.planes
        | none => 1
      let t := (s.setRow ch lun block { r with gateWait := false, eraseReady := false }).enqueue ch lun
        { id := 0, kind := .erase, cls := 5, block := block, slc := r.slc, by_ := .gc, pages := n }
      t.setFtl { t.ftl with erases := t.ftl.erases + 1 }
    else if r.erasePend then s
    else (s.setRow ch lun block { r with erasePend := true }).issue (.eraseStart ch lun block))

/-! ### Splinter window and coalescing (R140) -/

/-- Splintered spans: (NSID, span) in ascending order. -/
def State.splinters (s : State) : List (Nat × Nat) :=
  (s.ftl.span.filter (fun e => eSplit e.2 && !eWbuf e.2 && !eTrim e.2)).map (fun e => (e.1 / 2 ^ 40, e.1 % 2 ^ 40))

def State.queueCoalesce (s : State) (l : List (Nat × Nat)) : State :=
  s.setFtl { s.ftl with coalesce := s.ftl.coalesce ++ l.filter (fun x => !s.ftl.coalesce.contains x) }

/-- SPLINTER_WINDOW_EXPIRY (R140): every rewrite count halves, and splintered spans with a low count are queued. -/
def execSplinterWindowExpiry (s : State) : Result :=
  .next (
    if s.ftl.splinterTimer ≤ s.fieldNow Reg.FTL_SPLINTER_WIN 24 0 then s
    else
      let rw := (s.ftl.rewrites.map (fun e => (e.1, e.2 / 2))).filter (fun e => decide (e.2 ≠ 0))
      let t := s.setFtl { s.ftl with splinterTimer := 0, rewrites := rw }
      let lim := min (s.fieldNow Reg.FTL_COALESCE_THR 7 0) (s.fieldNow Reg.FTL_SPLINTER_THR 7 0 - 1)
      (t.wakeBy 3).queueCoalesce (t.splinters.filter (fun x => decide (t.rewriteCount x.1 x.2 ≤ lim))))

/-- Grain pressure at a boundary: the queue takes spans in ascending order of count, NSID and span (R140). -/
def State.pressureBeat (s : State) : State :=
  let cap := s.grainCap * s.fieldNow Reg.FTL_GRAIN_HIGH 3 0
  let low := s.grainCap * (s.fieldNow Reg.FTL_GRAIN_HIGH 3 0 - 1)
  let p := if s.ftl.pressure then !(decide (16 * s.grainUsed < low)) else decide (cap < 16 * s.grainUsed)
  let t := s.setFtl { s.ftl with pressure := p }
  if p then
    t.queueCoalesce ((List.range 256).flatMap (fun c => t.splinters.filter (fun x => decide (t.rewriteCount x.1 x.2 = c))))
  else t

/-- Every entry of a splintered span as it stands: the span's, then its 64 grains'. -/
def State.spanEnts (s : State) (nsid sp : Nat) : List (Option Nat × BitVec 64) :=
  (none, s.spanEntry nsid sp) :: (List.range 64).map (fun g => (some g, s.grainEntry nsid sp g))

/-- Images that a splintered span's entries name. -/
def State.spanImages (s : State) (nsid sp : Nat) : List (Nat × Nat) :=
  ((s.spanEnts nsid sp).filterMap (fun e => if e.1.isSome && eImage e.2 then some (eCh e.2, eMaddr e.2) else none)).dedup

/-- The span leaves the coalesce queue. -/
def State.offCoalesce (s : State) (nsid sp : Nat) : State :=
  s.setFtl { s.ftl with
    coalesce := s.ftl.coalesce.filter (fun x => decide (x ≠ (nsid, sp)))
    coalRead := s.ftl.coalRead.filter (fun x => decide ((x.1, x.2.1) ≠ (nsid, sp))) }

/-- The images of a queued span are read as class 2 work, each once. -/
def State.coalesceReads (s : State) (nsid sp : Nat) (ims : List (Nat × Nat)) : State :=
  (s.setFtl { s.ftl with
    coalRead := s.ftl.coalRead.filter (fun x => decide ((x.1, x.2.1) ≠ (nsid, sp))) ++ [(nsid, sp, ims)] }).queueReads
    { id := 0, kind := .read, cls := 2, block := 0, by_ := .coalesce, use := .coalesce nsid sp, rank := 8 } ims

/-- The span's image is encoded, placed on its channel and queued as class 4 work. -/
def State.coalesceWrite (s : State) (n : Namespace) (nsid sp : Nat) (body : List Byte) (place : Place) (gs : List (List Byte)) : State :=
  let plain := plainOfGrains gs
  let enc := encodeImage (s.fieldNow (Reg.PRS_MIN_SAVING place.ch) 7 0) body plain
  let len := unitsOf enc.2.length
  match s.placeImage (moverStream .coalesce place.slc) place len with
  | none => s
  | some (t, a) =>
    let loc : Loc := { grain := none, maddr := a, len := len, raw := enc.1, shelf := place.slc }
    let c : Copy := { id := t.ftl.nextOp, nsid := nsid, span := sp, ents := s.spanEnts nsid sp, ch := place.ch, loc := loc
                      by_ := .coalesce, src := (0, 0), rank := 8 }
    let u := t.putImg
      { ch := place.ch, maddr := a, len := len, shelf := place.slc, raw := enc.1, nsid := nsid, span := sp
        bytes := enc.2, keyGen := n.keyGen, stripes := place.stripes }
    let w := (u.setFtl { u.ftl with copies := u.ftl.copies ++ [c], nextOp := u.ftl.nextOp + 1 }).pressCount place.ch plain.length
      enc.2.length enc.1
    (w.offCoalesce nsid sp).startCopyProgram c

/-- COALESCE_SPAN (R140): a queued span is read, encoded as one image and placed on its channel, in the mode of an image
it replaces. An unreadable image keeps the span as it is, its row pinned (R167, R242). -/
def execCoalesceSpan (nsid span : Nat) (body : List Byte) (spot : Spot) (stripes : List Nat) (s : State) : Result :=
  .next (
    let place : Place := { spot with stripes := stripes }
    let ents := s.spanEnts nsid span
    let ims := s.spanImages nsid span
    let modeOk := ims.isEmpty || ims.any (fun a => match s.img? a.1 a.2 with
      | some i => decide (i.shelf = place.slc)
      | none => false)
    match s.nsOf nsid with
    | none => s.offCoalesce nsid span
    | some n =>
      if !s.internalOk || !s.ftl.coalesce.contains (nsid, span) || decide (place.ch ≠ eCh (s.spanEntry nsid span)) || !modeOk then s
      else if !s.splintered nsid span then s.offCoalesce nsid span
      else if ents.any (fun e => eWbuf e.2) || s.ftl.copies.any (fun c => decide (c.nsid = nsid) && decide (c.span = span)) then s
      else if !(s.ftl.coalRead.contains (nsid, span, ims)) then s.coalesceReads nsid span ims
      else if s.reading (.coalesce nsid span) then s
      else match s.storedGrains n nsid span (List.range 64) with
        | .error e =>
          let t := if e.st = .unrecoveredRead then s else s.dcmpFault place.ch 2 (e.st.code % 256)
          (ims.foldl (fun u a => u.pinImg a.1 a.2) t).offCoalesce nsid span
        | .ok gs => s.coalesceWrite n nsid span body place gs)

/-! ### Urgency at a boundary (R168, R149) -/

/-- Channels enter and leave urgency and direct mode. -/
def State.urgentBeat (s : State) : State :=
  channels.foldl (fun t ch =>
    let c := t.chan ch
    let u := t.present ch && decide (t.freeLevel ch ≤ t.urgentLevel)
    t.setChan ch { c with urgent := u, credit := if u && c.urgent then c.credit else 0, direct := !t.shelfFree ch }) s

/-! ### Early close (R129) -/

/-- The internal stream has no work under way: no copy for it, and its engine is off. -/
def State.streamIdle (s : State) (stream : Nat) : Bool :=
  !(s.ftl.copies.any (fun c => decide (moverStream c.by_ c.loc.shelf = stream)) ||
    (decide (stream = 2) && channels.any (fun c => (s.chan c).foldOn)) ||
    (decide (stream % 16 = 3) && s.ftl.gcSel.isSome) || (decide (stream = 8) && s.chest.ckptActive))

/-- A stripe that is closed and has no parity page looks for one; where no superblock has a page left, the stream of relocation and
re-parity opens one (log 182). One that protects nothing is left alone. -/
def State.seekParity (s : State) (id : Nat) : State :=
  match s.stripe? id with
  | some v =>
    if !(v.closed && v.parity.isNone && !v.done && s.dieParity && s.stripeLive id) then s
    else
      let t := if (s.parityChan v v.super).isSome || (s.parityChan v (s.superOf 5)).isSome then s else s.openSuper 5 false
      t.placeParity id
  | none => s

/-- A fold, a collection or another internal engine that has run out of work closes its stripes early; stripes that are closed and
wait for a page for their parity look for one again. -/
def State.stripeBeat (s : State) : State :=
  let t := ((s.ftl.stripes.filter (fun v => !v.closed && decide (2 ≤ v.stream % 16) && s.streamIdle v.stream)).map (·.id)).foldl
    State.closeStripe s
  ((t.ftl.stripes.filter (fun v => v.closed && v.parity.isNone && !v.done)).map (·.id)).foldl State.seekParity t

end Sys2Proof.Machine
end

