-- ==== Sys2Proof/Machine/Chest.lean ====
section
/-!
DEFINITION. The Chest (R182 to R202): commits of its records, journal occupancy and hold, checkpoints, write failure,
rebuild by partition; and the Drawer (R150 to R157): write-out, read and rebuild of map segments.
-/

namespace Sys2Proof.Machine

/-! ### Commits (R141, R184, R185) -/

/-- The span that a change alters, as it stands when its record is committed. -/
def State.changeSpan (s : State) : Change → Option (Nat × Nat)
  | .spanCommit i => (s.slotAt i).map (fun v => (v.nsid, v.span))
  | .slot i _ => (s.slotAt i).map (fun v => (v.nsid, v.span))
  | .copyCommit n sp _ _ _ _ _ => some (n, sp)
  | .trim _ n sp _ => some (n, sp)
  | .splinter n sp => some (n, sp)
  | .coalesced n sp _ _ _ => some (n, sp)
  | _ => none

/-- Journal records that no segment needs any longer are freed, up to the first that one still needs (R185). -/
def freeJournal (seqs : List (Nat × Nat)) : List (Nat × Nat × List Nat) → List (Nat × Nat × List Nat)
  | [] => []
  | (q, n, ks) :: t =>
    if ks.all (fun k => seqs.any (fun e => decide (e.1 = k) && decide (q < e.2))) then freeJournal seqs t else (q, n, ks) :: t

/-- A segment is checkpointed at a SEQ: journal space is freed; a change that its image does not hold leaves it to the next
checkpoint (log 191). -/
def State.commitCkpt (s : State) (seg seq : Nat) : State :=
  let c := s.chest
  let seqs := upsert c.ckptSeq seg seq
  let j := freeJournal seqs c.journal
  let late := j.any (fun r => r.2.2.contains seg && decide (seq ≤ r.1)) ||
    s.ftl.rows.any (fun e => e.2.freed.any (fun x => decide (x.1 = seg) && decide (seq ≤ x.2)))
  s.setChest { c with
    ckptSeq := seqs, journal := j
    ckptLeft := c.ckptLeft.filter (fun k => decide (k ≠ seg)), ckptBusy := c.ckptBusy.filter (fun e => decide (e.1 ≠ seg))
    dirty := if late && !c.dirty.contains seg then c.dirty ++ [seg] else c.dirty }

/-- What a committed record changes. -/
def State.applyChange (s : State) : Change → State
  | .spanCommit i => (s.commitSpan i).careSweep
  | .sysCommit seg ch maddr len => s.setSpan 0 seg (mkEntry false false false false true ch len maddr)
  | .copyCommit n sp ents ch loc by_ src => s.commitCopy n sp ents ch loc by_ src
  | .trim _ n sp gs => (s.commitTrim n sp gs).careSweep
  | .splinter n sp => s.commitSplinter n sp
  | .coalesced n sp ents ch loc => s.commitCoalesced n sp ents ch loc
  | .slot i t => s.commitSlot i t
  | .slotFree i => (s.commitSlotFree i).careSweep
  | .eraseStart ch l b =>
    s.setRow ch l b { s.row ch l b with erasePend := false, eraseOpen := true, eraseReady := true }
  | .stripe id (some a) => s.commitStripe id a
  | .stripe _ none => s
  | .row ch l b (.retire cause) => (s.unqueueRow ch l b).commitRow ch l b (.retire cause)
  | .row ch l b w => s.commitRow ch l b w
  | .ckpt seg seq => s.commitCkpt seg seq
  | .seal _ => s
  | .move _ _ _ _ => s
  | .image _ _ => s

/-- The change a record carries appears in what the device serves. A copy whose entries no longer hold its source has no effect
and is not journaled (R141). A slot that waits for a grain block takes one that is freed (R167). -/
def State.commitRecord (s : State) (r : Rec) : State :=
  let t := s.setChest { s.chest with pending := s.chest.pending.drop 1 }
  let u := t.applyChange r.change
  let segs := match s.changeSpan r.change with
    | some a => (t.spanSegs a.1 a.2 ++ u.spanSegs a.1 a.2).dedup
    | none => []
  (if t.commits r.change then State.journaled t u r.seq r.change.bytes segs else u).unstick

/-- CHEST_RECORD_COMMIT (R184): the die acknowledges the oldest record; its change becomes visible. -/
def execChestRecordCommit (s : State) : Result :=
  .next (match s.chest.pending with
    | [] => s
    | r :: _ => s.commitRecord r)

/-- JOURNAL_HOLD_RELEASE (R186). -/
def execJournalHoldRelease (s : State) : Result :=
  .next (if s.jhold && decide (s.journalUsed * 16 < 14 * journalSize) then { s with jhold := false } else s)

/-- The pending image records of the open rows are written into them as record codewords (R189, R200). -/
def State.writeRecords (s : State) : State :=
  let f (k : Nat) (r : Row) : Row :=
    match s.profile? (keyCh k) with
    | some p =>
      if r.state = .opened ∧ !r.closing ∧ r.recs ≠ 0 ∧ (cdiv r.written 8 + 1) * 8 ≤ p.room r.slc then
        { r with written := (cdiv r.written 8 + 1) * 8, extra := r.extra + 8, recs := 0, rcw := r.rcw ++ [cdiv r.written 8] }
      else r
    | none => r
  s.setFtl { s.ftl with rows := Sparse.mapVal (fun _ => {}) f s.ftl.rows }

/-- CHEST_WRITE_FAIL (R200): the Chest is FAILED for good; its pending records go to NAND, so their commits follow, and those of
OPENSUM are written as record codewords. -/
def execChestWriteFail (addr : Nat) (s : State) : Result :=
  .next (if s.chest.failed || decide (s.dev ≠ .service) then s
    else ((s.setChest { s.chest with failed := true, readable := false }).writeRecords).chsRaise 5 addr)

/-! ### Checkpoints (R185) -/

/-- Span of a namespace by its number in the span map. -/
def State.spanAt (s : State) (k : Nat) : Nat × Nat :=
  match s.spaces.find? (fun e => (decide (e.2.kind = .nvm) || decide (e.2.kind = .kv)) && decide (e.2.base ≤ k) &&
      decide (k < e.2.base + cdiv e.2.ncap 64)) with
  | some e => (e.1, k - e.2.base)
  | none => (0, 2 ^ 39)

/-- The 64 KiB of a segment: its entries in the layout they have in DRAM (R150, R152). -/
def State.segBytes (s : State) (k : Nat) : List Byte :=
  if k < 262144 then (List.range 8192).flatMap (fun i =>
    let a := s.spanAt (8192 * k + i)
    leBytes 8 (s.spanEntry a.1 a.2).toNat)
  else (List.range 128).flatMap (fun b => (List.range 64).flatMap (fun g =>
    leBytes 8 (match s.block? (128 * (k - 262144) + b) with
      | some v => nth 0 v.entries g
      | none => (0 : BitVec 64)).toNat))

/-- Configuration registers obey the owning port and the control cores (R41); an instance page reaches none. -/
def State.byOwner (s : State) (src : Src) (f : State → State) : State :=
  match src with
  | .page _ _ => s
  | .host p => if s.pins.dual && decide (p ≠ s.ownerPort) then s.hifErr p 7 else f s
  | .cc _ => f s

/-- CHS_CKPT_START: CHS_CKPT_CTL.START. -/
def execChsCkptStart (src : Src) (s : State) : Result := .next (s.byOwner src State.ckptStart)

/-- CHECKPOINT_PERIOD_EXPIRY. -/
def execCheckpointPeriodExpiry (s : State) : Result :=
  .next (if s.chest.ckptTimer ≤ s.fieldNow Reg.CHS_CKPT_PERIOD 26 0 then s else s.ckptStart)

/-- The SEQ of an image of a segment made now: every change of a lower SEQ is in it. -/
def State.imageSeq (s : State) : Nat := match s.chest.pending with
  | [] => s.chest.seq
  | r :: _ => r.seq - 1

/-- What an image of a segment holds: its 64 KiB where it is stored whole; the bytes of an index partition are the table's, and
are not kept twice (log 191). -/
def State.ckptBytes (s : State) (seg units : Nat) : List Byte :=
  if units = 128 ∧ seg < 524288 then s.segBytes seg else []

/-- A checkpoint image of a segment or partition: a whole-span image of the system namespace (number 0), on the channel that the
rotation gives, programmed as class 4 work in a stream of its own (R185). Its entry is committed once it is programmed. -/
def State.ckptImage (s : State) (a : Nat × Nat × Place) : State :=
  let p := a.2.2
  let c := s.chest
  if !c.ckptLeft.contains a.1 || c.ckptBusy.any (fun e => decide (e.1 = a.1)) || p.slc || decide (s.nextChan 0 ≠ some p.ch) ||
      c.pending.any (fun r => match r.change with
        | .ckpt k _ => decide (k = a.1)
        | _ => false) then s
  else match s.placeImage 8 p a.2.1 with
    | none => s
    | some (t, m) =>
      let u := t.putImg
        { ch := p.ch, maddr := m, len := a.2.1, shelf := false, raw := true, nsid := 0, span := a.1, bytes := s.ckptBytes a.1 a.2.1
          keyGen := 0, stripes := p.stripes }
      let w := (u.setRot 0 (p.ch + 1)).enqueue p.ch p.lun { u.progOp p m a.2.1 4 .host with ckpt := some a.1 }
      w.setChest { w.chest with ckptBusy := w.chest.ckptBusy ++ [(a.1, s.imageSeq)] }

/-- The newest root copy (R183). -/
def Chest.root (c : Chest) : Root := if c.rootA.seq < c.rootB.seq then c.rootB else c.rootA

/-- The checkpoint is complete: the read counters are saved, the root notes it, and a trigger that came meanwhile starts the
next. -/
def State.ckptEnd (s : State) : State :=
  let t := s.setFtl { s.ftl with rows := Sparse.mapVal (fun _ => {}) (fun _ r => { r with saved := r.reads }) s.ftl.rows }
  let v := (t.setReg Reg.CHS_CKPT_BEAT_LO (BitVec.ofNat 32 s.beat)).setReg Reg.CHS_CKPT_BEAT_HI
    (BitVec.ofNat 32 (s.beat / 2 ^ 32))
  let w := v.setChest { v.chest with ckptActive := false, ckptAgain := false, ckptDone := v.chest.ckptFrom }
  let x := w.writeRoot w.chest.root.kind w.chest.root.flushUs
  if s.chest.ckptAgain then x.ckptStart else x

/-- CHECKPOINT_COMPLETE (R185): images of segments left (segment, units, place) are made; once the last of them is committed the
checkpoint ends. -/
def execCheckpointComplete (images : List (Nat × Nat × Place)) (s : State) : Result :=
  .next (
    if !s.chest.ckptActive then s
    else
      let t := images.foldl State.ckptImage s
      let u := t.setChest { t.chest with journal := freeJournal t.chest.ckptSeq t.chest.journal }
      if u.chest.ckptLeft.isEmpty then u.ckptEnd else u)

/-! ### Rebuild (R199, R258) -/

/-- Commands that wait for a partition go on. -/
def State.wakeWaiting (s : State) (p : Nat × Nat) : State :=
  { s with cmds := s.cmds.map (fun c =>
      if c.phase = .waitRebuild ∧ c.partition = p then { c with phase := .fetched } else c) }

/-- REBUILD_SCAN_COMPLETE (R199): commands that waited for the scan look for their partitions again. -/
def execRebuildScanComplete (s : State) : Result :=
  .next (if s.rebuild.phase = 1 then
      { s with
        rebuild := { s.rebuild with phase := 2, mapLeft := List.range 4096, idxLeft := List.range 4096 } }
    else s)

/-- The rebuild ends with its last partition: MAP_STATE READY, and a full checkpoint. -/
def State.rebuildEnd (s : State) : State :=
  if s.rebuild.mapLeft.isEmpty && s.rebuild.idxLeft.isEmpty then
    let t : State := { s with rebuild := {}, rebuilding := false }
    let used := (t.ftl.span.map (fun e => t.segOf (e.1 / 2 ^ 40) (e.1 % 2 ^ 40)) ++ t.ftl.grain.map (fun e => grainSeg e.1) ++
      t.idx.table.map (fun e => idxSeg (e.1 / 2 ^ 32)) ++ t.idx.stash.map (fun e => idxSeg (e.1 / 64))).dedup
    ((t.setChest { t.chest with dirty := (t.chest.dirty ++ used).dedup }).writeRoot .rebuilt t.chest.root.flushUs).ckptStart
  else s

/-- REBUILD_PARTITION_COMPLETE (R199): partition `part` of the map (0) or of the index (1); the promotion queue is served
first. -/
def execRebuildPartitionComplete (kind part : Nat) (s : State) : Result :=
  .next (
    let r := s.rebuild
    let left := if kind = 0 then r.mapLeft else r.idxLeft
    let live := r.promo.filter (fun p => (if p.1 = 0 then r.mapLeft else r.idxLeft).contains p.2)
    if r.phase ≠ 2 || 1 < kind || !left.contains part || !(live.isEmpty || decide (live.head? = some (kind, part))) then s
    else
      let rest := left.filter (fun k => decide (k ≠ part))
      let t : State := { s with rebuild := { r with
        mapLeft := if kind = 0 then rest else r.mapLeft
        idxLeft := if kind = 0 then r.idxLeft else rest
        promo := r.promo.filter (fun p => decide (p ≠ (kind, part))) } }
      (t.wakeWaiting (kind, part)).rebuildEnd)

/-- INDEX_PARTITION_REBUILD (R258): a partition marked after an uncorrectable word serves again. -/
def execIndexPartitionRebuild (part : Nat) (s : State) : Result :=
  .next (if s.idx.damaged.contains part then
      (s.setIdx { s.idx with damaged := s.idx.damaged.filter (fun k => decide (k ≠ part)) }).wakeWaiting (1, part)
    else s)

/-! ### The Drawer (R150 to R157) -/

def State.setDrawer (s : State) (d : Drawer) : State := s.setFtl { s.ftl with drawer := d }

/-- Segments that are not resident. -/
def State.awaySegs (s : State) : List Nat := (s.ftl.segs.filter (fun e => !e.2.resident)).map (·.1)

/-- Host address of a 64 KiB slot: the descriptor entries of the HMB cut in order, remainders unused (R151). -/
def slotAddr : List (Nat × Nat) → Nat → Option Nat
  | [], _ => none
  | (a, n) :: t, i => if i < n / 65536 then some (a + 65536 * i) else slotAddr t (i - n / 65536)

def hmbSlots (l : List (Nat × Nat)) : Nat := (l.map (fun e => e.2 / 65536)).sum

/-- The sealed message: segment number, zeros, SEQ, entries (R152). -/
def sealMessage (k seq : Nat) (data : List Byte) : List Byte := leBytes 4 k ++ leBytes 4 0 ++ leBytes 8 seq ++ data

/-- The directory record of a segment (Table 6-5). -/
def Segment.record (v : Segment) : List Byte :=
  leBytes 4 (v.slot.getD 0xFFFFFFFF) ++ leBytes 1 (b2n v.resident + b2n v.dirty * 2 + b2n v.homed * 4 + b2n v.bad * 8) ++
    List.replicate 3 0 ++ leBytes 8 v.seq ++ leBytes 16 v.tag.toNat

/-- Another segment has the slot. -/
def State.slotTaken (s : State) (seg slot : Nat) : Bool :=
  s.ftl.segs.any (fun e => decide (e.1 ≠ seg) && ((decide (e.2.slot = some slot) && e.2.homed) || decide (e.2.out = some slot)))

/-- DRAWER_WRITE_OUT (R153): a resident segment is sealed and written to a slot that no other segment has, with a zero-length
read behind; the command given again for it is that read's completion, and sets HOMED. -/
def execDrawerWriteOut (seg slot : Nat) (s : State) : Result :=
  .next (
    let d := s.ftl.drawer
    let v := s.seg seg
    let p := s.ownerPort
    match slotAddr (s.port p).hmb slot with
    | some a =>
      if d.state ≠ .active || d.room.isNone || !v.resident then s
      else if v.out = some slot then s.setSeg seg { v with out := none, homed := true }
      else if v.out.isSome || d.bad.contains slot || s.slotTaken seg slot then s
      else
        let data := s.segBytes seg
        let tag := aesCmac (Config.sealKey s.ftl.sealGen) (sealMessage seg (v.seq + 1) data)
        let t := (s.send p (.write p none a data false (s.port p).cfg.ido)).send p (.zeroRead p none a)
        t.setSeg seg { v with seq := v.seq + 1, tag := tag, homed := false, bad := false, dirty := false, slot := some slot, out := some slot }
    | none => s)

/-- The resident segment used least recently that may leave: a dirty one stays until it is written out, and until the confirming
read has completed (R153). -/
def State.lruSeg (s : State) : Option Nat :=
  (s.residentSegs.filter (fun k => !(s.seg k).dirty && (s.seg k).out.isNone)).foldl
    (fun (b : Option Nat) k => match b with
      | some x => if (s.seg k).used < (s.seg x).used then some k else b
      | none => some k) none

/-- A segment becomes resident; when the map space is full the least recently used clean segment leaves (R150). -/
def State.makeResident (s : State) (k : Nat) (dirty : Bool) : State :=
  let put (t : State) : State := t.setSeg k { t.seg k with resident := true, used := t.beat, dirty := (t.seg k).dirty || dirty }
  match s.ftl.drawer.room with
  | none => put s
  | some r =>
    if s.residentSegs.length < r then put s
    else match s.lruSeg with
      | some o => put (s.setSeg o { s.seg o with resident := false })
      | none => s

/-- A slot whose access failed is not used again; after 16 the Drawer is LOST and no segment has a home (R154). A write-out that
ran leaves its segment dirty. -/
def State.badSlot (s : State) (k : Nat) : State :=
  let d := s.ftl.drawer
  let v := s.seg k
  match v.slot with
  | none => s
  | some i =>
    let t := (s.setDrawer { d with bad := (d.bad ++ [i]).dedup }).setSeg k
      { v with homed := false, bad := true, dirty := v.dirty || v.out.isSome, out := none }
    if (t.ftl.drawer.bad.length < 16) ∨ d.state = .lost then t
    else
      let f := { t.ftl with
        drawer := { t.ftl.drawer with state := .lost }
        segs := Sparse.mapVal (fun _ => {}) (fun _ v =>
          { v with homed := false, slot := none, bad := false, dirty := v.dirty || v.out.isSome, out := none }) t.ftl.segs }
      (t.setFtl f).mapRaise 2 k

/-- DRAWER_SEGMENT_READ (R154): the whole slot is read and its tag checked before any entry is used. -/
def execDrawerSegmentRead (seg : Nat) (data : List Byte) (s : State) : Result :=
  .next (
    let v := s.seg seg
    if v.resident || !v.homed || decide (s.ftl.drawer.state ≠ .active) then s
    else
      let t := s.bump Reg.FTL_DRW_READS
      if data.length = 65536 ∧ aesCmac (Config.sealKey s.ftl.sealGen) (sealMessage seg v.seq data) = v.tag then t.makeResident seg false
      else ((t.bump Reg.FTL_DRW_SEALFAIL).mapRaise 1 seg).setSeg seg { v with homed := false })

/-- A Drawer access that faults counts among the failures, a read among the reads too; its slot is bad (R154). -/
def State.drawerFault (s : State) (k : Nat) : State :=
  let t := if (s.seg k).out.isSome then s else s.bump Reg.FTL_DRW_READS
  ((t.bump Reg.FTL_DRW_SEALFAIL).mapRaise 5 k).badSlot k

/-- MAP_SEGMENT_REBUILD (R154, R386): a segment that is neither resident nor homed is rebuilt from its checkpoint and the
journal, and is then written out again. -/
def execMapSegmentRebuild (seg : Nat) (s : State) : Result :=
  .next (
    let v := s.seg seg
    if v.resident || v.homed then s else s.makeResident seg s.ftl.drawer.room.isSome)

end Sys2Proof.Machine
end

