-- ==== Sys2Proof/Machine/Instances.lean ====
section
/-!
DEFINITION. Instances, shares and migration (spec/03): the management commands of Table 3-3 with the checks of
Table 3-5, Instance Reset and Delete, the dirty-page log, the peer table, shares and tokens.
-/

namespace Sys2Proof.Machine

/-! ### Checks -/

/-- Only the bits of the masks given by dword are set in the command, and PSDT and the reserved bits of CDW0 are 0
(R13, R64). -/
def Cmd.fits (c : Cmd) (masks : List (Nat × Nat)) : Bool :=
  decide (c.f 0 15 8 = 0) && (List.range 15).all (fun k =>
    let m := match masks.find? (fun e => decide (e.1 = k + 1)) with
      | some e => e.2
      | none => 0
    decide ((c.d (k + 1)).toNat ||| m = m))

/-- Every bit of a dword. -/
def full : Nat := 2 ^ 32 - 1

/-- PRP1 or PRP2, all bits (Table 3-3). -/
def prp1Masks : List (Nat × Nat) := [(6, full), (7, full)]
def prp2Masks : List (Nat × Nat) := [(8, full), (9, full)]

/-- PRP2, dwords 8 and 9. -/
def Cmd.prp2 (c : Cmd) : Nat := c.q 8

/-- The row that a command names. -/
def Cmd.row (c : Cmd) : Nat := c.f 10 9 0

/-- Rows of a port. -/
def State.portRows (s : State) (p : Bool) : List Nat :=
  if s.pins.dual then (List.range 512).map (fun i => if p then i + 512 else i) else List.range 1024

/-- The sum of the shares last set of a port's instances, row `but` left out (R68). -/
def State.shareSum (s : State) (p : Bool) (but : Option Nat) : Nat :=
  (s.insts.filter (fun e => decide (e.2.state ≠ .free) && decide (s.portOf e.1 = p) && decide (but ≠ some e.1))).foldl
    (fun n e => n + e.2.share) 0

/-- The largest sum of shares of a port (R68). -/
def State.shareMax (s : State) : Nat := if s.pins.dual then 32768 else 65536

/-- Orders 1 and 2 of Table 3-5 for a command other than Instance Create and Instance Query. -/
def State.rowCheck (s : State) (c : Cmd) (noManager : Bool) : Option Status :=
  let i := s.inst c.row
  if !s.inPort c.port c.row || (noManager && s.isManager c.row) || decide (i.state = .free) then some .invalidField
  else if decide (i.state = .resetting) || decide (i.state = .deleting) then some .instanceReset
  else none

/-- The layout of Table 3-3 and orders 1 and 2 of Table 3-5. -/
def State.rowRefused (s : State) (c : Cmd) (masks : List (Nat × Nat)) (noManager : Bool) : Option Status :=
  if !c.fits ((10, 0x3FF) :: masks) then some .invalidField else s.rowCheck c noManager

/-- The command has been taken: its checks and what it changes in the cycle of its fetch are done (R65). -/
def State.taken (s : State) (c : Cmd) : State := s.setCmd { c with checked := true }

/-- The effect of a command that no check refuses. -/
def State.unless (s : State) (c : Cmd) (bad : Option Status) (f : Cmd → State) : State :=
  match bad with
  | some st => s.err c st
  | none => f c

/-! ### Create, share, attach, query (R66 to R68) -/

/-- Namespaces whose bit is set in 32 bytes. -/
def nsBits (l : List Byte) : List Nat :=
  (List.range 256).filterMap (fun k => if bitOf (nth 0 l (k / 8)).toNat (k % 8) then some (k + 1) else none)

/-- Positions that a restore record holds: queue bits at byte `bitsAt`, entries at byte `at_` (Table 3-4). -/
def heldOf (rec : List Byte) (bitsAt at_ : Nat) (sq : Bool) : List HeldPos :=
  (List.range 64).filterMap (fun n =>
    if bitOf (leField rec bitsAt 8) n then
      let a := leField rec (at_ + 8 * n) 2
      let b := leField rec (at_ + 8 * n + 2) 2
      some { loc := n, head := if sq then a else b, tail := if sq then b else a
             qsize := leField rec (at_ + 8 * n + 4) 2
             phase := sq || decide (leField rec (at_ + 8 * n + 6) 1 ≠ 0) }
    else none)

/-- A command deadline in milliseconds: 0 selects 500, other values are clamped (Table 3-3, R11). -/
def deadlineOf (n : Nat) : Nat := if n = 0 then 500 else min n 60000

/-- The row that Instance Create takes: the one named, or the lowest FREE row of the port (Table 3-3); a manager
instance is never one. -/
def State.createRow (s : State) (c : Cmd) : Option Nat :=
  if bitOf (c.d 10).toNat 31 then
    (s.portRows c.port).find? (fun i => decide ((s.inst i).state = .free) && !s.isManager i)
  else some c.row

/-- Order 3 of Table 3-5. -/
def State.createBad (s : State) (c : Cmd) (i : Nat) : Bool :=
  decide ((s.inst i).state ≠ .free) ||
    s.insts.any (fun e => decide (e.2.state ≠ .free) && decide (e.2.pasid = some (c.f 11 19 0))) ||
    decide (65536 < c.f 12 16 0) || decide (s.shareMax < s.shareSum c.port none + c.f 12 16 0)

/-- Why a create is refused, with the record that PRP1 points to under RESTORE = 1 (Table 3-5). -/
def State.createRefused (s : State) (c : Cmd) (rec : List Byte) : Option Status :=
  let restore := bitOf (c.d 14).toNat 0
  let named := !bitOf (c.d 10).toNat 31
  if !c.fits ([(10, 2 ^ 31 + 0x3FF), (11, 0xFFFFF), (12, 0x1FFFF), (13, 0xFFFF), (14, 1)] ++
      if restore then prp1Masks else []) || decide (c.prp1 % 8 ≠ 0) then some .invalidField
  else if named && (!s.inPort c.port c.row || s.isManager c.row) then some .invalidField
  else if named && (decide ((s.inst c.row).state = .resetting) || decide ((s.inst c.row).state = .deleting)) then
    some .instanceReset
  else match s.createRow c with
    | none => some .invalidField
    | some i =>
      if s.createBad c i then some .invalidField
      else if restore && (nsBits (slice rec 80 32)).any (fun n => (s.nsOf n).isNone) then some .invalidNamespace
      else none

/-- The row that a create makes. -/
def State.makeInst (s : State) (c : Cmd) (rec : List Byte) : State :=
  match s.createRow c with
  | none => s
  | some i =>
    let restore := bitOf (c.d 14).toNat 0
    let att := if restore then nsBits (slice rec 80 32) else []
    let ro := nsBits (slice rec 112 32)
    let t := s.setInst i
      { state := .active, pasid := some (c.f 11 19 0), share := c.f 12 16 0, gen := (s.inst i).gen
        attach := att.map (fun n => (n, ro.contains n))
        heldSq := if restore then heldOf rec 64 1024 true else []
        heldCq := if restore then heldOf rec 72 1536 false else [] }
    (t.setReg (Reg.INS_CMD_DEADLINE i) (BitVec.ofNat 32 (deadlineOf (c.f 13 15 0)))).taken { c with dw0 := i }

/-- Instance Set Share, orders 4 and 5: the share is set now and takes effect at the next boundary (R68). -/
def State.takeShare (s : State) (c : Cmd) : State :=
  let v := c.f 11 16 0
  s.unless c (s.rowRefused c [(11, 0x1FFFF)] false) (fun c =>
    if decide (v = 0) && s.isManager c.row then s.err c .shareZero
    else if 65536 < v then s.err c .invalidField
    else if s.shareMax < s.shareSum c.port (some c.row) + v then s.err c .invalidField
    else (s.setInst c.row { s.inst c.row with share := v }).taken c)

/-- Detach a namespace that is attached, and say so (R67). -/
def State.detach (s : State) (i n : Nat) : State :=
  if (s.inst i).attach.any (fun a => decide (a.1 = n)) then
    (s.setInst i { s.inst i with attach := (s.inst i).attach.filter (fun a => decide (a.1 ≠ n)) }).instErr i 10
  else s

/-- Attach a namespace, or change the READ_ONLY flag of one attached (R67). -/
def State.attach (s : State) (i n : Nat) (ro : Bool) : State :=
  (s.setInst i { s.inst i with attach := (s.inst i).attach.filter (fun a => decide (a.1 ≠ n)) ++ [(n, ro)] }).instErr i 10

/-- Instance Attach Namespace, order 8. -/
def State.takeAttach (s : State) (c : Cmd) : State :=
  let n := c.f 11 31 0
  s.unless c (s.rowRefused c [(11, full), (12, 3)] false) (fun c =>
    if decide (n = 0) || decide (256 < n) then s.err c .invalidField
    else if bitOf (c.d 12).toNat 0 then s.taken c
    else match s.nsOf n with
      | none => s.err c .invalidNamespace
      | some ns => if ns.deleting.isSome then s.err c .invalidNamespace else s.taken c)

/-- Commands of an instance in flight, admin commands left out (INST_INFLIGHT, R437). -/
def State.instInflight (s : State) (i : Nat) : Nat :=
  (s.cmds.filter (fun c => decide (c.inst = i) && !c.admin && !c.dead)).length

/-- Instance states as numbers (Table 3-1). -/
def InstState.code : InstState → Nat
  | .free => 0
  | .active => 1
  | .resetting => 2
  | .deleting => 3

/-- DLOG_STAT (Table 3-10). -/
def DirtyLog.stat (d : DirtyLog) : Nat :=
  b2n d.running * 2 ^ 31 + b2n d.fault * 2 ^ 30 + b2n d.activeB * 2 ^ 29 + d.gen % 65536

/-- Namespace bits, 32 bytes. -/
def bitsNs (p : Nat → Bool) : List Byte :=
  (List.range 32).map (fun k => BitVec.ofNat 8 (((List.range 8).filter (fun j => p (8 * k + j + 1))).map (2 ^ ·)).sum)

/-- I/O submission and completion queue rows of an instance: local index and row. -/
def State.sqsOf (s : State) (i : Nat) : List (Nat × SqRow) :=
  s.sq.filterMap (fun e => if e.2.valid && decide (e.2.inst = i) && !s.isAdminRow e.1 then some (e.2.loc, e.2) else none)
def State.cqsOf (s : State) (i : Nat) : List (Nat × CqRow) :=
  s.cq.filterMap (fun e => if e.2.valid && decide (e.2.inst = i) && !s.isAdminRow e.1 then some (e.2.loc, e.2) else none)

/-- What a list of numbered rows holds under `n`. -/
def rowAt {α : Type} (l : List (Nat × α)) (n : Nat) : Option α := (l.find? (fun e => decide (e.1 = n))).map (·.2)

/-- The 2,048-byte record of an instance (Table 3-4). -/
def State.instRecord (s : State) (i : Nat) : List Byte :=
  let r := s.inst i
  let sqs := s.sqsOf i
  let cqs := s.cqsOf i
  let bitsOf (l : List Nat) : Nat := ((List.range 64).filter l.contains).foldl (fun n k => n + 2 ^ k) 0
  leBytes 2 i ++ leBytes 1 r.state.code ++ leBytes 1 0 ++ leBytes 4 (r.pasid.getD 0) ++ leBytes 4 r.share ++
  leBytes 4 r.carry ++ leBytes 4 r.carryCnt ++ leBytes 4 (s.instInflight i) ++
  leBytes 4 (s.reg (Reg.INS_CMD_DEADLINE i)).toNat ++ leBytes 4 r.err.toNat ++ leBytes 4 r.dlog.stat ++
  leBytes 4 r.dlog.npages ++ leBytes 8 r.dlog.first ++ leBytes 8 r.completed ++ leBytes 8 r.charged ++
  leBytes 8 (bitsOf (sqs.map (·.1))) ++ leBytes 8 (bitsOf (cqs.map (·.1))) ++
  bitsNs (fun n => r.attach.any (fun a => decide (a.1 = n))) ++ bitsNs (fun n => r.attach.contains (n, true)) ++
  List.replicate 880 (0 : Byte) ++
  (List.range 64).flatMap (fun n => match rowAt sqs n with
    | some q => leBytes 2 q.head ++ leBytes 2 q.tail ++ leBytes 2 q.qsize ++ leBytes 2 0
    | none => List.replicate 8 0) ++
  (List.range 64).flatMap (fun n => match rowAt cqs n with
    | some q => leBytes 2 q.tail ++ leBytes 2 q.head ++ leBytes 2 q.qsize ++ leBytes 1 (b2n q.phase) ++ leBytes 1 0
    | none => List.replicate 8 0)

/-- Instance Query: the record as it stands at the fetch (R66). -/
def State.takeQuery (s : State) (c : Cmd) : State :=
  if !c.fits ((10, 0x3FF) :: prp1Masks) || decide (c.prp1 % 8 ≠ 0) || !s.inPort c.port c.row then s.err c .invalidField
  else s.taken { c with data := s.instRecord c.row }

/-! ### Reset and Delete (R73 to R77) -/

/-- What an instance's reset or delete does to one command in flight (Table 3-6): a write whose data was received is
carried on and never acknowledged, anything else is dropped. Work already begun that is dropped would have written to the
host: its suppression is reported at once (R74, log 173). -/
def State.fenceCmd (s : State) (c : Cmd) : State :=
  if s.gotAll c then
    s.setCmd { c with dead := true, owed := true
                      shards := (s.shd.filter (fun j => decide (j.tag = c.tag) && j.started)).length }
  else
    let t := ((s.dropRun c.tag).untake c.tag).dropCmd c.tag
    if c.phase = .active then t.fenced c.inst else t

/-- Drop reads that wait at a LUN for a command that is gone. -/
def Lun.forget (u : Lun) (tags : List Nat) : Lun :=
  { u with queue := u.queue.filter (fun o => match o.tag with
      | some t => !(decide (o.kind = .read) && tags.contains t)
      | none => true) }

/-- Step 1 of Table 3-8: the state, the generation, held and undispatched commands, queued engine jobs, KS_LOCK. -/
def State.fence (s : State) (i : Nat) (st : InstState) (tag : Nat) : State :=
  let r := s.inst i
  let t := s.setInst i { r with state := st, gen := r.gen + 1, fenced := false, mgmtTag := tag, drain := 0 }
  let mine := t.cmds.filter (fun c => decide (c.inst = i) && !c.admin && !c.dead)
  let u := { t with shd := t.shd.filter (fun j => decide (j.inst ≠ i) || j.started) }
  let v := mine.foldl State.fenceCmd u
  let gone := (mine.filter (fun c => !t.gotAll c)).map (·.tag)
  let w := { v with luns := Sparse.mapVal (fun _ => {}) (fun _ u => u.forget gone) v.luns }
  (if mine.isEmpty then v else w).ksInstanceReset i

/-- An engine job that a reset waits for runs (R75). -/
def State.engineBusy (s : State) (i : Nat) : Bool :=
  s.shd.any (fun j => decide (j.inst = i)) ||
    match s.ksu.run with
    | some j => decide (j.req = i)
    | none => false

/-- Delete the I/O queues of an instance. -/
def State.dropQueues (s : State) (i : Nat) : State :=
  { s with
    sq := s.sq.filter (fun e => !(decide (e.2.inst = i) && e.2.valid && !s.isAdminRow e.1))
    cq := s.cq.filter (fun e => !(decide (e.2.inst = i) && e.2.valid && !s.isAdminRow e.1)) }

/-- Complete the management command that a reset or delete ends. -/
def State.mgmtDone (s : State) (i : Nat) : State :=
  match s.cmd? (s.inst i).mgmtTag with
  | some c => s.ok c
  | none => s

/-- Instance Reset and Instance Delete: the checks, then step 1 of Table 3-8 (R65, R73, R77). -/
def State.takeFence (s : State) (c : Cmd) (st : InstState) : State :=
  s.unless c (s.rowRefused c [] true) (fun c => (s.taken c).fence c.row st c.tag)

/-- INSTANCE_RESET_COMPLETE (Table 3-8, step 4). -/
def execInstanceResetComplete (i : Nat) (s : State) : Result :=
  .next (
    if decide ((s.inst i).state = .resetting) && decide (4 ≤ (s.inst i).drain) then
      let t := s.dropQueues i
      (((t.setInst i { t.inst i with state := .active }).instErr i 8).mgmtDone i)
    else s)

/-- INSTANCE_DELETE_COMPLETE (R77). The reset generation outlives the row, so that no older work can write. -/
def execInstanceDeleteComplete (i : Nat) (s : State) : Result :=
  .next (
    if decide ((s.inst i).state = .deleting) && decide (4 ≤ (s.inst i).drain) then
      let t := (s.dropQueues i).zeroizeOwned i 64
      let u := { t with imt := t.imt.filterMap (fun (e : Nat × ImtEntry) =>
        if e.2.owner = i then
          let v : ImtEntry := { e.2 with mask := true, owner := 0 }
          if v = ({} : ImtEntry) then none else some (e.1, v)
        else some e) }
      let v := u.mgmtDone i
      v.setInst i { gen := (v.inst i).gen }
    else s)

/-! ### The dirty-page log (R78 to R81) -/

/-- Dirty Log Start (R78, order 6). -/
def State.takeLogStart (s : State) (c : Cmd) : State :=
  let first := c.f 11 31 0 + 2 ^ 32 * c.f 12 19 0
  let n := c.f 13 31 0
  s.unless c (s.rowRefused c ([(11, full), (12, 0xFFFFF), (13, full)] ++ prp1Masks ++ prp2Masks) true) (fun c =>
    if decide (c.prp1 % 64 ≠ 0) || decide (c.prp2 % 64 ≠ 0) then s.err c .invalidField
    else if (s.inst c.row).dlog.running then s.err c .sequenceError
    else if 2 ^ 52 < first + n + 1 then s.err c .invalidField
    else (s.setInst c.row { s.inst c.row with dlog :=
        { running := true, first := first, npages := n
          bufA := BitVec.ofNat 64 c.prp1, bufB := BitVec.ofNat 64 c.prp2 } }).taken c)

/-- Dirty Log Stop (R81): the pending bits go to the device's buffer, and both buffers are the host's. -/
def State.takeLogStop (s : State) (c : Cmd) : State :=
  s.unless c (s.rowRefused c [] false) (fun c =>
    if !(s.inst c.row).dlog.running then s.err c .sequenceError
    else
      let t := s.flushDirty c.row
      (t.setInst c.row { t.inst c.row with dlog := { (t.inst c.row).dlog with running := false } }).taken c)

/-- Dirty Log Harvest (R80): the buffers switch at the fetch. DW1 counts the bits the device has turned to 1. -/
def State.takeHarvest (s : State) (c : Cmd) : State :=
  s.unless c (s.rowRefused c [] false) (fun c =>
    let g := (s.inst c.row).dlog
    if !g.running then s.err c .sequenceError
    else if g.fault then s.err c .dataTransfer
    else
      let t := s.flushDirty c.row
      let d := (t.inst c.row).dlog
      let n := (d.gen + 1) % 65536
      (t.setInst c.row { t.inst c.row with dlog :=
        { d with activeB := !d.activeB, gen := n, inBuf := [], pend := [] } }).taken
          { c with dw0 := n * 65536 + b2n d.activeB, dw1 := d.inBuf.length })

/-- Set Latency Tolerance (R83). -/
def State.takeLatency (s : State) (c : Cmd) : State :=
  if !c.fits [(11, 0xFFFFFF)] then s.err c .invalidField
  else (s.setReg (Reg.PWR_LAT_TOL (b2n c.port)) (BitVec.ofNat 32 (c.f 11 23 0))).taken c

/-! ### The commands (R65) -/

/-- A management command in the cycle of its fetch: every check, and what it changes then. -/
def State.takeMgmt (s : State) (c : Cmd) : State :=
  if c.opcode = 0xC0 then s.unless c (s.createRefused c []) (fun c => s.makeInst c [])
  else if c.opcode = 0xC1 then s.takeFence c .deleting
  else if c.opcode = 0xC2 then s.takeShare c
  else if c.opcode = 0xC3 then s.takeFence c .resetting
  else if c.opcode = 0xC4 then s.takeAttach c
  else if c.opcode = 0xC5 then s.takeQuery c
  else if c.opcode = 0xC8 then s.takeLogStart c
  else if c.opcode = 0xC9 then s.takeLogStop c
  else if c.opcode = 0xCA then s.takeHarvest c
  else if c.opcode = 0xCD then s.takeLatency c
  else s

/-- A management command that is taken at its fetch: all but the two that read host memory first, Peer Table Set and
Instance Create with RESTORE = 1 (log 174). -/
def Cmd.takenAtFetch (c : Cmd) : Bool :=
  [0xC1, 0xC2, 0xC3, 0xC4, 0xC5, 0xC8, 0xC9, 0xCA, 0xCD].contains c.opcode ||
    (decide (c.opcode = 0xC0) && !bitOf (c.d 14).toNat 0)

/-- The rest of a management command, up to its completion entry: one that its fetch has not taken is taken now. -/
def State.mgmtRow (s : State) (tag op : Nat) (f : State → Cmd → State) : State :=
  s.onCmd tag true [op] (fun c =>
    let t := if c.checked then s else s.takeMgmt c
    match t.cmd? tag with
    | some d => f t d
    | none => t)

/-- Complete with what the fetch has found. -/
def State.mgmtOk (s : State) (c : Cmd) : State := s.post c .success c.dw0 c.dw1 none

/-- INSTANCE_CREATE (R64 to R66, R68). `rec` is the record that PRP1 points to with RESTORE = 1. -/
def execInstanceCreate (tag : Nat) (rec : List Byte) (s : State) : Result :=
  .next (s.onCmd tag true [0xC0] (fun c =>
    let t := if c.checked then s else s.unless c (s.createRefused c rec) (fun c => s.makeInst c rec)
    match t.cmd? tag with
    | some d => t.mgmtOk d
    | none => t))

/-- INSTANCE_SET_SHARE (R68). -/
def execInstanceSetShare (tag : Nat) (s : State) : Result := .next (s.mgmtRow tag 0xC2 State.mgmtOk)

/-- INSTANCE_ATTACH_NAMESPACE (R67): it takes effect with its completion entry; a namespace deleted in between stays
detached. -/
def execInstanceAttachNamespace (tag : Nat) (s : State) : Result :=
  .next (s.mgmtRow tag 0xC4 (fun t c =>
    let n := c.f 11 31 0
    let gone := match t.nsOf n with
      | some ns => ns.deleting.isSome
      | none => true
    if bitOf (c.d 12).toNat 0 then (t.detach c.row n).mgmtOk c
    else if gone then t.mgmtOk c
    else (t.attach c.row n (bitOf (c.d 12).toNat 1)).mgmtOk c))

/-- INSTANCE_QUERY (R66): the record of the fetch goes to host memory. -/
def execInstanceQuery (tag : Nat) (s : State) : Result :=
  .next (s.mgmtRow tag 0xC5 (fun t c => (t.dmaWrite c.inst c.gen c.prp1 c.data false).mgmtOk c))

/-- INSTANCE_RESET (R73 to R76): step 1 of Table 3-8, unless the fetch has made it. -/
def execInstanceReset (tag : Nat) (s : State) : Result := .next (s.mgmtRow tag 0xC3 (fun t _ => t))

/-- INSTANCE_DELETE (R77). -/
def execInstanceDelete (tag : Nat) (s : State) : Result := .next (s.mgmtRow tag 0xC1 (fun t _ => t))

/-- DIRTY_LOG_START (R78). -/
def execDirtyLogStart (tag : Nat) (s : State) : Result := .next (s.mgmtRow tag 0xC8 State.mgmtOk)

/-- DIRTY_LOG_STOP (R81). -/
def execDirtyLogStop (tag : Nat) (s : State) : Result := .next (s.mgmtRow tag 0xC9 State.mgmtOk)

/-- DIRTY_LOG_HARVEST (R80). -/
def execDirtyLogHarvest (tag : Nat) (s : State) : Result := .next (s.mgmtRow tag 0xCA State.mgmtOk)

/-- SET_LATENCY_TOLERANCE (R83). -/
def execSetLatencyTolerance (tag : Nat) (s : State) : Result := .next (s.mgmtRow tag 0xCD State.mgmtOk)

/-! ### Peer table, latency tolerance (R82, R83) -/

/-- A peer table entry as its 16 bytes (Table 3-7). -/
def peerOf (l : List Byte) : PeerEntry :=
  let w := leField l 12 2
  let f := leField l 14 1
  { base := leField l 0 8, pages := leField l 8 4, any := bitOf w 15, owner := bits w 9 0
    relaxed := bitOf f 2, atTranslated := bitOf f 1, valid := bitOf f 0 }

/-- The reserved bits of an entry are 0 and its base is aligned (Table 3-7, R13). -/
def peerFits (l : List Byte) : Bool :=
  decide (leField l 0 8 % 4096 = 0) && decide (bits (leField l 12 2) 14 10 = 0) &&
    decide (bits (leField l 14 1) 7 3 = 0) && decide (leField l 15 1 = 0)

/-- PEER_TABLE_SET (R82): the entries take effect at the next boundary. -/
def execPeerTableSet (tag : Nat) (data : List Byte) (s : State) : Result :=
  .next (s.onCmd tag true [0xCC] (fun c =>
    let first := c.f 10 6 0
    let n := c.f 11 7 0
    let es := (List.range n).map (fun k => slice data (16 * k) 16)
    if !c.fits ([(10, 0x7F), (11, 0xFF)] ++ prp1Masks) || decide (c.prp1 % 16 ≠ 0) || decide (n = 0) ||
        decide (128 < first + n) || !es.all peerFits then s.err c .invalidField
    else
      let new := (List.range n).map (fun k => (128 * b2n c.port + first + k, peerOf (slice data (16 * k) 16)))
      ({ s with peerNext := s.peerNext.filter (fun (e : Nat × PeerEntry) => !new.any (fun (x : Nat × PeerEntry) => decide (x.1 = e.1))) ++ new }).ok c))

/-- Peer tables set since the last boundary take effect (order 2 of Table 1-5). -/
def State.peersNow (s : State) : State :=
  { s with peerNext := [], peers := s.peerNext.foldl (fun m e => Sparse.set (fun _ => {}) m e.1 e.2) s.peers }

/-! ### Shares and tokens at a boundary (R68 to R72) -/

/-- A share set since the last boundary takes effect; a decrease leaves a carry (R69). -/
def State.shareNow (s : State) (i : Nat) (r : Inst) : Inst :=
  if r.share = r.shareNow then r
  else
    let e := r.err ||| 0x200
    if r.share < r.shareNow then
      { r with shareNow := r.share, err := e, carry := max r.shareNow (if r.carryCnt = 0 then 0 else r.carry)
               carryCnt := s.instInflight i, carryTag := s.nextTag }
    else { r with shareNow := r.share, err := e }

/-- The share that a media refill uses (R69). -/
def Inst.mediaShare (r : Inst) : Nat := if decide (r.carryCnt ≠ 0) && decide (r.shareNow < r.carry) then r.carry else r.shareNow

/-- The caps of an instance's buckets (R69). -/
def State.fetchCap (s : State) (sh : Nat) : Nat :=
  min ((s.inForce Reg.INS_FETCH_BEAT).toNat * (s.inForce Reg.INS_BUCKET_DEPTH).toNat * sh) 0x7FFFFFFF
def State.mediaCap (s : State) (sh : Nat) : Nat :=
  min ((s.inForce Reg.INS_MTOK_BEAT).toNat * (s.inForce Reg.INS_BUCKET_DEPTH).toNat * sh) 0x7FFFFFFF

/-- A refill: the new balance and what the cap cut off. -/
def refill (bal : Int) (add cap : Nat) : Int × Nat :=
  let v := bal + add
  (min v cap, (v - max bal (min v cap)).toNat)

/-- The refill rate of the media bucket, scaled by the thermal throttle (R410). -/
def State.mtokBeat (s : State) : Nat := (s.inForce Reg.INS_MTOK_BEAT).toNat * (8 - s.pwr.throttle) / 8

/-- An I/O SQ row meets conditions 1, 2, 5 and 6 of R51 and has an entry to fetch. -/
def State.sqReady (s : State) (q : Nat) : Bool :=
  let r := s.sqRow q
  let c := s.cqRow r.cqid
  let i := s.inst r.inst
  r.valid && !r.error && r.deleting.isNone && c.valid && !c.error && decide (i.state = .active) &&
    decide (i.shareNow ≠ 0) && decide (1 ≤ s.cqRoom r.cqid) && !r.blocked && decide (0 < r.fetchable) &&
    decide (s.inflight < 65536 - (if s.isManager r.inst then 0 else s.fieldNow Reg.QMG_RESERVE 15 0))

/-- The instance has fetch work (R71). -/
def State.fetchWork (s : State) (i : Nat) : Bool :=
  s.sq.any (fun e => decide (e.2.inst = i) && !s.isAdminRow e.1 && s.sqReady e.1)

/-- The instance has media work: an operation of a command of it waits at a LUN (R71). -/
def State.mediaWork (s : State) (i : Nat) : Bool :=
  s.luns.any (fun e => e.2.queue.any (fun o => o.tag.isSome && decide (o.inst = i)))

/-- Divide a pool among recipients (row, share, room): floor(P × s / S), up to the room (R71). -/
def sharePool (pool : Nat) (l : List (Nat × Nat × Nat)) : List (Nat × Nat) :=
  let total := (l.map (·.2.1)).sum
  l.map (fun e => (e.1, if total = 0 then 0 else min (pool * e.2.1 / total) e.2.2))

/-- Order 3 of Table 1-5 for every row: refill, then the pools of R71. -/
def State.refillAll (s : State) : State :=
  let rows := s.insts.filter (fun e => decide (e.2.state ≠ .free))
  let fet := rows.map (fun e => (e.1, e.2, refill e.2.ftok ((s.inForce Reg.INS_FETCH_BEAT).toNat * e.2.shareNow)
    (s.fetchCap e.2.shareNow)))
  let med := rows.map (fun e => (e.1, e.2, refill e.2.mtok (s.mtokBeat * e.2.mediaShare) (s.mediaCap e.2.mediaShare)))
  let t := fet.foldl (fun u e => u.setInst e.1 { u.inst e.1 with ftok := e.2.2.1 }) s
  let u := med.foldl (fun v e => v.setInst e.1 { v.inst e.1 with mtok := e.2.2.1 }) t
  if bitOf (s.inForce Reg.INS_CTL).toNat 0 then
    let fr := (fet.filter (fun e => s.fetchWork e.1 && decide (e.2.1.shareNow ≠ 0) &&
        decide (e.2.2.1 < (s.fetchCap e.2.1.shareNow : Int)))).map
      (fun e => (e.1, e.2.1.shareNow, ((s.fetchCap e.2.1.shareNow : Int) - e.2.2.1).toNat))
    let mr := (med.filter (fun e => s.mediaWork e.1 && decide (e.2.1.shareNow ≠ 0) &&
        decide (e.2.2.1 < (s.mediaCap e.2.1.mediaShare : Int)))).map
      (fun e => (e.1, e.2.1.mediaShare, ((s.mediaCap e.2.1.mediaShare : Int) - e.2.2.1).toNat))
    let v := (sharePool (fet.map (·.2.2.2)).sum fr).foldl
      (fun w e => w.setInst e.1 { w.inst e.1 with ftok := (w.inst e.1).ftok + e.2 }) u
    (sharePool (med.map (·.2.2.2)).sum mr).foldl
      (fun w e => w.setInst e.1 { w.inst e.1 with mtok := (w.inst e.1).mtok + e.2 }) v
  else u

end Sys2Proof.Machine
end

