-- ==== Sys2Proof/Machine/Identify.lean ====
section
/-!
DEFINITION. What the device reports of itself: Identify data (R1, R146, R151, R192, R405, R438), log pages (R179, R180,
R201, R412), and features (R407, R439, R440). Fields that the manual gives a value hold it; every other byte is a free value.
The places of the fields are those of the NVMe specifications (PRESUMED, log 70).
-/

namespace Sys2Proof.Machine

/-- The list with the bytes `v` put at `at_`. -/
def putField (l : List Byte) (at_ : Nat) (v : List Byte) : List Byte := l.take at_ ++ v ++ l.drop (at_ + v.length)

def putFields (l : List Byte) (fs : List (Nat × List Byte)) : List Byte := fs.foldl (fun m f => putField m f.1 f.2) l

/-- A number in decimal ASCII. -/
def ascii (n : Nat) : List Byte := (Nat.repr n).toList.map (fun c => BitVec.ofNat 8 c.toNat)

/-- "major.minor.patch", padded with spaces to 8 bytes. -/
def revText (v : Nat) : List Byte :=
  (ascii (bits v 31 24) ++ [0x2E] ++ ascii (bits v 23 16) ++ [0x2E] ++ ascii (bits v 15 0) ++
    List.replicate 8 0x20).take 8

/-! ### Sizes of the regions of DRAM (R29, R150) -/

/-- Bytes of the working DRAM channels, and raw capacity of the media. -/
def State.dramBytesTotal (s : State) : Nat := (s.working.map (fun m => s.chLines m * 64)).sum

def State.rawBytes (s : State) : Nat :=
  (channels.map (fun ch => match s.profile? ch with
    | some p => (s.lunsIn ch .active).length * p.blocks * p.planes * p.pagesNative * p.cwPerPage * 4096
    | none => 0)).sum

/-- The firmware region (R29). -/
def State.fwBytes (s : State) : Nat := max (2 ^ 31) (s.rawBytes / 65536)

/-- Sizes of the SLM namespaces. -/
def State.slmTotal (s : State) : Nat :=
  ((s.spaces.filter (fun e => decide (e.2.kind = .slm))).map (fun e => e.2.size)).sum

/-- The configured sizes fit in the working DRAM (R29). -/
def State.dramFits (s : State) (grainGib idxGib wbGib slm : Nat) : Bool :=
  decide (s.fwBytes + s.spanMapBytes + (grainGib + idxGib + wbGib) * 2 ^ 30 + slm ≤ s.dramBytesTotal)

/-- DRAM left for the map: what the index, the write buffer, SLM and the firmware region do not take. -/
def State.mapSpace (s : State) : Nat :=
  s.dramBytesTotal - (s.fwBytes + (s.idx.gib + s.ftl.wbGib) * 2 ^ 30 + s.slmTotal)

/-- HMPRE in bytes (R151). -/
def State.hmpre (s : State) : Nat :=
  min (cdiv (s.spanMapBytes + s.ftl.grainGib * 2 ^ 30 - s.mapSpace) 65536 * 65536) (2 ^ 36)

/-! ### Identify -/

/-- Power state descriptors (Table 17-7): maximum power in centiwatts, entry and exit latency in µs, NOPS. -/
def powerStates : List (Nat × Nat × Nat × Nat) :=
  [(6500, 0, 0, 0), (4500, 5, 10, 0), (2500, 100, 200, 0), (800, 1000, 2000, 1), (300, 5000, 15000, 1)]

/-- Identify Controller (CNS 0x01). SGLS says that an SGL may describe more bytes than the command moves (R89); the bits of ONCS
are those of the commands of R34 and R86 (PRESUMED, log 175). -/
def State.identController (s : State) (p : Bool) (seed : Nat) : List Byte :=
  let base := freeBytes seed 4096
  let onc := (nth 0 base 520).toNat
  putFields base ([
    (0, leBytes 2 0x1EA7), (64, revText (s.reg Reg.GLB_FWREV).toNat), (77, [11]), (80, leBytes 4 0x20000),
    (84, leBytes 4 2000000), (88, leBytes 4 5000000), (259, [7]), (260, [4]), (263, [4]), (265, [0]),
    (266, leBytes 2 368), (268, leBytes 2 383), (272, leBytes 4 (s.hmpre / 4096)), (276, leBytes 4 (s.hmpre / 4096)),
    (319, [1]), (322, leBytes 2 0), (332, leBytes 4 16), (336, leBytes 2 1024),
    (520, leBytes 1 (setBits (setBits (setBits onc 0 0 1) 5 2 11) 7 7 1)), (536, leBytes 4 0x40001)] ++
    (if s.pins.dual then [(76, leBytes 1 (setBits (nth 0 base 76).toNat 1 0 3)), (78, leBytes 2 (1 + b2n p))] else []) ++
    (List.range 5).map (fun k =>
      let d := nth (0, 0, 0, 0) powerStates k
      (2048 + 32 * k, leBytes 3 d.1 ++ leBytes 1 (2 * d.2.2.2) ++ leBytes 4 d.2.1 ++ leBytes 4 d.2.2.1)))

/-- NUSE of a namespace in 4 KiB units (R177). -/
def State.nuse (s : State) (n : Nat) (ns : Namespace) : Nat :=
  match ns.kind with
  | .nvm => s.nuseNvm n
  | .kv => match s.kvSlot n with
    | some k => s.nuseKv k
    | none => 0
  | _ => 0

/-- Identify Namespace (CNS 0x00): the LBA formats of Table 4-2 and the atomicity fields of R146; zeros for an NSID
that names no namespace. -/
def State.identNamespace (s : State) (n seed : Nat) : List Byte :=
  match s.nsOf n with
  | none => List.replicate 4096 0
  | some ns =>
    let base := freeBytes seed 4096
    putFields base ([
      (0, leBytes 8 ns.size), (8, leBytes 8 ns.cap), (16, leBytes 8 (s.nuse n ns)), (25, [3]),
      (26, leBytes 1 (ns.lbaf + 16 * b2n ns.ext)), (29, leBytes 1 (setBits (nth 0 base 29).toNat 3 0 (ns.pi + 8 * b2n ns.piFirst))),
      (31, [0x7E]),
      (33, leBytes 1 (setBits (nth 0 base 33).toNat 2 0 1)), (34, leBytes 2 63), (36, leBytes 2 63), (40, leBytes 2 63),
      (42, leBytes 2 0), (44, leBytes 2 63)] ++
      (List.range 4).map (fun k => (128 + 4 * k, leBytes 2 (metaSize k) ++ [12])))

/-- A list of the namespaces above an NSID (CNS 0x02, 0x10). -/
def State.identList (s : State) (above : Nat) : List Byte :=
  ((((s.spaces.map (fun e => e.1)).filter (fun n => decide (above < n))).flatMap (leBytes 4)) ++
    List.replicate 4096 (0 : Byte)).take 4096

/-- IDENTIFY (R1, R151, R192, R403, R405, R438): the structure that CNS names. In RECOVERY only CNS 0x01. -/
def execIdentify (tag : Nat) (segs : List (Nat × Nat)) (s : State) : Result :=
  .next (s.onCmd tag true [0x06] (fun c =>
    let cns := c.f 10 7 0
    let send (l : List Byte) : State := (s.tick.scatter c segs l).ok c
    if decide (s.dev = .recovery) && decide (cns ≠ 1) then s.err c .invalidField
    else if cns = 1 then send (s.identController c.port s.free)
    else if cns = 0 ∨ cns = 0x11 then
      if decide (c.nsid = 0) || (decide (256 < c.nsid) && decide (c.nsid ≠ full)) then s.err c .invalidNamespace
      else send (s.identNamespace c.nsid s.free)
    else if cns = 2 ∨ cns = 0x10 then send (s.identList c.nsid)
    else if [3, 5, 6, 7, 8, 0x12, 0x13, 0x1C].contains cns then send (freeBytes s.free 4096)
    else s.err c .invalidField))

/-! ### Log pages -/

/-- Mean wear cycles of the good rows, with the smallest and largest, and PE_NATIVE of the media (R173, R179). -/
def State.wears (s : State) : List Nat := (s.ftl.rows.filter (fun e => e.2.good)).map (fun e => s.wear (keyCh e.1) e.2)

def State.peNative (s : State) : Nat :=
  match channels.findSome? s.profile? with
  | some p => p.peNative
  | none => 1

def meanOf (l : List Nat) : Nat := if l.isEmpty then 0 else l.sum / l.length

/-- Percentage Used (Table 7-7). -/
def State.pctUsed (s : State) : Nat :=
  let l := s.wears
  if l.isEmpty || decide (s.peNative = 0) then 0 else min 255 (100 * l.sum / (l.length * s.peNative))

/-- Temperature thresholds of a controller: over and under, kelvin (R412). -/
def Ctrl.over (c : Ctrl) : Nat := c.feature 4 368
def Ctrl.under (c : Ctrl) : Nat := c.feature (4 + 256 * 16) 268

/-- The image list holds data on media. -/
def State.onMedia (s : State) : Bool := s.ftl.imgs.any s.imgRef

/-- Critical Warning (R179, R201, R412). -/
def State.critical (s : State) (p : Bool) : Nat :=
  let low := s.fieldNow Reg.FTL_SPARE_CFG 15 8
  let chs := (s.reg Reg.CHS_ERR).toNat
  let hot := match s.pwr.tj with
    | some t => decide ((s.ctrl p).over ≤ kelvin t) || decide (kelvin t ≤ (s.ctrl p).under)
    | none => false
  b2n (decide (s.avail < low)) + 2 * b2n hot +
    4 * b2n (decide (s.pinnedRows ≠ 0) || !s.ftl.reloc.isEmpty || (!s.dieParity && s.onMedia)) +
    8 * b2n (decide (s.health = .readOnly) || decide (s.health = .failed) || s.chest.failed) +
    16 * b2n (bitOf chs 2 || bitOf chs 3 || bitOf chs 1 || s.chest.failed)

/-- SMART / Health Information (02h). -/
def State.logSmart (s : State) (p : Bool) (seed : Nat) : List Byte :=
  putFields (freeBytes seed 512) [
    (0, leBytes 1 (s.critical p)), (1, leBytes 2 (match s.pwr.tj with | some t => kelvin t | none => 0)),
    (3, leBytes 1 s.avail), (4, leBytes 1 (s.fieldNow Reg.FTL_SPARE_CFG 15 8)), (5, leBytes 1 s.pctUsed),
    (160, leBytes 16 s.ftl.dataErrors)]

/-- Error Information (01h): 64-byte entries, newest first. -/
def State.logError (s : State) (p : Bool) (seed : Nat) : List Byte :=
  (((s.ctrl p).errLog.take 64).flatMap (fun e =>
    putFields (freeBytes seed 64) [(8, leBytes 2 e.2.1), (12, leBytes 2 (2 * e.1)), (16, leBytes 8 e.2.2.1),
      (32, leBytes 8 e.2.2.2)])) ++ List.replicate (64 * (64 - (s.ctrl p).errLog.length)) 0

/-- Firmware Slot Information (03h): AFI, and the revision of each slot's boot block. -/
def State.logFirmware (s : State) (seed : Nat) : List Byte :=
  putFields (freeBytes seed 512) [
    (0, leBytes 1 (1 + b2n s.car.booted + 16 * (1 + b2n s.bootSelect))),
    (8, revText (leNat (s.carBytes 4 4))), (16, revText (leNat (s.carBytes (bootBase true + 4) 4)))]

/-- FAILED LUNs, and channels not present. -/
def State.failedLuns (s : State) : Nat := (channels.map (fun c => (s.lunsIn c .failed).length)).sum

/-- Media Care (0xD2, Table 7-8). -/
def State.logCare (s : State) : List Byte :=
  let f := s.ftl
  let w := s.wears
  leBytes 2 1 ++ leBytes 1 (match s.health with | .normal => 0 | .degraded => 1 | .readOnly => 2 | .failed => 3) ++
  leBytes 1 s.avail ++ leBytes 1 (s.fieldNow Reg.FTL_SPARE_CFG 15 8) ++ leBytes 1 (s.fieldNow Reg.FTL_SPARE_CFG 7 0) ++
  leBytes 1 s.pctUsed ++ leBytes 1 0 ++ leBytes 4 s.goodRows ++ leBytes 4 (s.reqRows (s.spaces.map (·.2))) ++
  leBytes 4 f.fmtRows ++ leBytes 4 (f.totalRows - f.fmtRows) ++
  ((List.range 5).flatMap (fun i => leBytes 4 (nth 0 f.retCause i))) ++
  leBytes 4 s.pinnedRows ++ leBytes 4 s.failedLuns ++ leBytes 4 (32 - s.presentCount) ++
  leBytes 8 f.hostUnits ++ leBytes 8 f.intUnits ++ ((List.range 5).flatMap (fun i => leBytes 8 (nth 0 f.copied i))) ++
  ((List.range 4).flatMap (fun i => leBytes 4 (nth 0 f.candCause i))) ++
  leBytes 4 (w.foldl min (w.headD 0)) ++ leBytes 4 (w.foldl max 0) ++ leBytes 4 (meanOf w) ++ leBytes 4 f.lastSpread ++
  leBytes 8 f.erases ++ leBytes 8 f.reclaimed ++ List.replicate 352 (0 : Byte)

/-- Media Care as of the last boundary; before the first, as of now (log 72). -/
def State.careNow (s : State) : List Byte := if s.careLog.isEmpty then s.logCare else s.careLog

/-- The bytes of a log page, where the device has it; those of 0xD2 were kept as the command was fetched. -/
def State.logPage (s : State) (p : Bool) (care : List Byte) (lid : Nat) : Option (List Byte) :=
  if lid = 1 then some (s.logError p s.free)
  else if lid = 3 then some (s.logFirmware s.free)
  else if s.dev = .recovery then none
  else if lid = 2 then some (s.logSmart p s.free)
  else if lid = 0xD2 then some care
  else none

/-- GET_LOG_PAGE (R180, R403, R438): NUMD + 1 dwords from the offset; with Retain Asynchronous Event cleared the events
that name the page are released. -/
def execGetLogPage (tag : Nat) (segs : List (Nat × Nat)) (s : State) : Result :=
  .next (s.onCmd tag true [0x02] (fun c =>
    let lid := c.f 10 7 0
    let n := 4 * (c.f 10 31 16 + 65536 * c.f 11 15 0 + 1)
    match s.logPage c.port c.data lid with
    | none => s.err c .invalidLogPage
    | some l =>
      if l.length < c.q 12 then s.err c .invalidField
      else
        let t := (s.tick.scatter c segs (slice l (c.q 12) n)).ok c
        if bitOf (c.d 10).toNat 15 then t else t.aenRead c.port lid))

/-! ### Features -/

/-- The key a feature is stored under: Temperature Threshold and Interrupt Vector Configuration hold one value for each
selection of CDW11. -/
def featKey (fid v : Nat) : Nat :=
  if fid = 4 then 4 + 256 * bits v 21 16 else if fid = 9 then 9 + 256 * bits v 15 0 else fid

/-- Features that the device stores from CDW11 (R439). -/
def stored (fid : Nat) : Bool := [1, 4, 5, 6, 8, 9, 0xA, 0xB].contains fid

/-- The default of a feature (R407, R412, R440). -/
def State.featDefault (s : State) (fid v : Nat) : Nat :=
  if fid = 2 then 4
  else if fid = 4 then (if bits v 21 20 = 0 then 368 else if bits v 21 20 = 1 then 268 else 0)
  else if fid = 7 then (if s.pins.dual then 0x1FFE1FFE else 0x3FFE3FFE)
  else if fid = 9 then bits v 15 0
  else 0

/-- Set a stored feature of a port. -/
def State.setFeature (s : State) (p : Bool) (k v : Nat) : State :=
  s.setCtrl p { s.ctrl p with features := (s.ctrl p).features.filter (fun e => decide (e.1 ≠ k)) ++ [(k, v)] }

/-- Set Features with a check of SV before the feature's own effect (R439). -/
def State.onFeature (s : State) (tag : Nat) (fids : Nat → Bool) (f : Cmd → State) : State :=
  s.onCmd tag true [0x09] (fun c =>
    if !fids (c.f 10 7 0) then s
    else if bitOf (c.d 10).toNat 31 then s.err c .notSaveable
    else f c)

/-- SET_FEATURES (R439): every feature but those with a row of their own. Features that the device does not offer, APST
among them (R407), complete with Invalid Field in Command. -/
def execSetFeatures (tag : Nat) (s : State) : Result :=
  .next (s.onFeature tag (fun f => !([2, 7, 0xD].contains f)) (fun c =>
    let fid := c.f 10 7 0
    let v := c.f 11 31 0
    if !stored fid then s.err c .invalidField
    else if decide (fid = 9) && decide (2048 ≤ bits v 15 0) then s.err c .invalidField
    else
      let t := s.setFeature c.port (featKey fid v) (if fid = 4 then bits v 15 0 else v)
      let k := t.ctrl c.port
      let off := k.noCoal.filter (fun x => decide (x ≠ bits v 15 0)) ++ if bitOf v 16 then [bits v 15 0] else []
      (if fid = 9 then t.setCtrl c.port { k with noCoal := off } else t).ok c))

/-- SET_FEATURES_NUMBER_OF_QUEUES (R440). -/
def execSetFeaturesNumberOfQueues (tag : Nat) (s : State) : Result :=
  .next (s.onFeature tag (· == 7) (fun c => s.post c .success (s.featDefault 7 0) 0 none))

/-- SET_FEATURES_POWER_MANAGEMENT (R407): PWR_PS_LIMIT of the port; its write follows R11 and R12. -/
def execSetFeaturesPowerManagement (tag : Nat) (s : State) : Result :=
  .next (s.onFeature tag (· == 2) (fun c =>
    let r := Reg.PWR_PS_LIMIT (b2n c.port)
    let t := if s.held.any (fun e => decide (e.1 = r)) then s else { s with held := s.held ++ [(r, s.reg r)] }
    (t.setReg r (BitVec.ofNat 32 (min 4 (c.f 11 4 0)))).ok c))

/-- Use of the Drawer ends: segments not resident are left without a home (R155). -/
def State.hmbOff (s : State) (p : Bool) : State :=
  let t := s.setPort p { s.port p with hmbOn := false, hmb := [] }
  t.setFtl { t.ftl with
    drawer := { t.ftl.drawer with state := .none_, slots := 0 }
    segs := t.ftl.segs.filterMap (fun (e : Nat × Segment) =>
      let v : Segment := { e.2 with slot := none, homed := false, bad := false, out := none, dirty := e.2.dirty || e.2.out.isSome }
      if v = ({} : Segment) then none else some (e.1, v)) }

/-- SET_FEATURES_HMB (R151, R155): `desc` is the descriptor list as read, addresses and sizes in memory pages. -/
def execSetFeaturesHmb (tag : Nat) (desc : List (Nat × Nat)) (s : State) : Result :=
  .next (s.onFeature tag (· == 0xD) (fun c =>
    let p := c.port
    if bitOf (c.d 11).toNat 0 then
      if (s.port p).hmbOn then s.err c .sequenceError
      else if 1024 < c.f 15 31 0 then s.err c .invalidField
      else
        let l := desc.map (fun e => (e.1, e.2 * 4096 * 2 ^ (s.ctrl p).mps))
        let t := s.setPort p { s.port p with hmbOn := true, hmb := l }
        let u := t.setFtl { t.ftl with drawer :=
          { t.ftl.drawer with state := .active, slots := min (hmbSlots l) 1048576, bad := [] } }
        ((((u.setFeature p 0xD (c.f 11 31 0)).setFeature p (0xD + 256) (c.f 12 31 0)).setFeature p (0xD + 512)
          (c.q 13)).setFeature p (0xD + 768) (c.f 15 31 0)).ok c
    else ((s.hmbOff p).setFeature p 0xD (c.f 11 31 0)).ok c))

/-- GET_FEATURES (R407, R439, R440): current, default, saved (the default) and capabilities, none saveable. -/
def execGetFeatures (tag : Nat) (segs : List (Nat × Nat)) (s : State) : Result :=
  .next (s.onCmd tag true [0x0A] (fun c =>
    let fid := c.f 10 7 0
    let v := c.f 11 31 0
    let sel := c.f 10 10 8
    let k := s.ctrl c.port
    if !(stored fid || [2, 7, 0xD].contains fid) || decide (3 < sel) then s.err c .invalidField
    else if sel = 3 then s.post c .success (4 * b2n (decide (fid ≠ 7))) 0 none
    else if sel ≠ 0 then s.post c .success (s.featDefault fid v) 0 none
    else if fid = 2 then s.post c .success ((s.reg (Reg.PWR_PS_LIMIT (b2n c.port))).toNat) 0 none
    else if fid = 7 then s.post c .success (s.featDefault 7 0) 0 none
    else if fid = 0xD then
      (s.tick.scatter c segs (putFields (freeBytes s.free 4096) [(0, leBytes 4 (k.feature (0xD + 256) 0)),
        (4, leBytes 8 (k.feature (0xD + 512) 0)), (12, leBytes 4 (k.feature (0xD + 768) 0))])).post c .success
          (k.feature 0xD 0) 0 none
    else s.post c .success (k.feature (featKey fid v) (s.featDefault fid v)) 0 none))

end Sys2Proof.Machine
end

