-- ==== Sys2Proof/Machine/Admin.lean ====
section
/-!
DEFINITION. Namespaces (R67, R85, R103, R175, R177, R254) and the firmware update (R400 to R403).
-/

namespace Sys2Proof.Machine

/-! ### Namespaces -/

def State.setNs (s : State) (n : Nat) (v : Option Namespace) : State := { s with ns := Sparse.set (fun _ => none) s.ns n v }

/-- An index entry of a namespace: keys of its slot, its directories. -/
def IdxEntry.ofNs (n : Nat) (slot : Option Nat) : IdxEntry → Bool
  | .free => false
  | .key k _ _ _ => decide (some k = slot)
  | .dir m _ _ _ _ _ _ => decide (m = n)

/-- The keys of a KV namespace slot, in table order. -/
def State.keysOf (s : State) (k : Nat) : List (List Byte) :=
  (s.idx.table ++ s.idx.stash).filterMap (fun e => match e.2 with
    | .key a b _ _ => if a = k then some b else none
    | _ => none)

/-- Every key and every span of a namespace leaves the map, by a KEY or a TRIM record each (R184). -/
def State.unmapNs (s : State) (n : Nat) : State :=
  let t : State := match s.kvSlot n with
    | some k => (s.keysOf k).foldl (fun (u : State) b => (u.delKey n k b).journalKeys k 48 [b]) s
    | none => s
  ((t.ftl.span.filter (fun e => decide (e.1 / 2 ^ 40 = n) && decide (e.2 ≠ trimEntry))).map (fun e => e.1 % 2 ^ 40)).foldl
    (fun (u : State) sp => u.trimSpan n sp) t

/-- Everything stored for a namespace is gone: its entries, slots, grain blocks, keys, directories, SLM bytes and poisoned
grains. Images on media stay and are no longer referenced. -/
def State.wipeNs (s0 : State) (n : Nat) : State :=
  let mine (k : Nat) : Bool := decide (k / 2 ^ 40 = n)
  let s := s0.unmapNs n
  let f := s.ftl
  let slot := s.kvSlot n
  let t := s.setFtl { f with
    span := f.span.filter (fun e => !mine e.1)
    rewrites := f.rewrites.filter (fun e => !mine e.1)
    mask := f.mask.filter (fun e => !mine e.1)
    grain := f.grain.filter (fun e => match e.2 with
      | some b => decide (b.nsid ≠ n)
      | none => true)
    slots := f.slots.filter (fun v => decide (v.nsid ≠ n))
    coalesce := f.coalesce.filter (fun e => decide (e.1 ≠ n))
    copies := f.copies.filter (fun c => decide (c.nsid ≠ n)) }
  let x := t.idx
  let u := t.setIdx { x with
    table := x.table.filter (fun e => !e.2.ofNs n slot)
    stash := x.stash.filter (fun e => !e.2.ofNs n slot)
    seqs := x.seqs.filter (fun q => decide (some q.kvns ≠ slot))
    held := x.held.filter (fun h => decide (h.2.1 ≠ n))
    taken := x.taken.filter (fun h => decide (h.2.1 ≠ n)) }
  u.setDram { u.dram with
    slm := u.dram.slm.filter (fun e => !mine e.1)
    slmPoison := u.dram.slmPoison.filter (fun l => !mine (64 * l))
    grains := u.dram.grains.filter (fun g => decide (g.1 ≠ n)) }

/-- A command in flight, other than `tag`, names the namespace. -/
def State.nsBusy (s : State) (n tag : Nat) : Bool :=
  s.cmds.any (fun c => decide (c.tag ≠ tag) && !c.admin && (decide (c.nsid = n) || decide (c.nsid = full)))

/-- The command sets by their identifiers (R85; the numbers are those of the NVMe specifications). -/
def kindOf (csi : Nat) : Option NsKind :=
  if csi = 0 then some .nvm else if csi = 1 then some .kv else if csi = 3 then some .slm else if csi = 4 then some .cprog
  else none

/-- The namespace that the data of a create describes. -/
def State.newNs (s : State) (k : NsKind) (d : List Byte) : Namespace :=
  let nsze := leField d 0 8
  let ncap := leField d 8 8
  let fl := leField d 26 1
  let used := (s.spaces.map (fun e => e.2.base + cdiv e.2.ncap 64)).foldl max 0
  { kind := k
    size := match k with | .nvm => nsze | .kv => ncap * 4096 | .slm => nsze | .cprog => 0
    cap := match k with | .nvm => ncap | .kv => ncap | .slm => 0 | .cprog => 0
    lbaf := if k = .nvm then bits fl 3 0 else 0
    ext := decide (k = .nvm) && bitOf fl 4
    pi := if k = .nvm then bits (leField d 29 1) 2 0 else 0
    piFirst := decide (k = .nvm) && bitOf (leField d 29 1) 3
    serial := s.nsSerial
    base := used }

/-- Why a create is refused (R29, R85, R103, R175, R254), the first that applies; the DRAM budget is that of the sizes as
configured, whether in force yet or not. -/
def State.createNsBad (s : State) (v : Namespace) : Option Status :=
  let slots := s.idx.kvns.length
  let bad : Bool := match v.kind with
    | .nvm => decide (v.size = 0) || decide (v.size < v.cap) || decide (3 < v.pi) || (decide (v.lbaf < 2) && decide (v.pi ≠ 0))
    | .kv => decide (16 ≤ slots) || decide (2 ^ 30 < cdiv v.cap 64) || decide (s.idx.gib = 0)
    | .slm => decide (2 ^ 36 < s.slmTotal + v.size) ||
        !s.dramFits (s.field Reg.FTL_GRAIN_CFG 4 0) (s.field Reg.IDX_CFG 5 0) (s.field Reg.FTL_WB_CFG 5 0) (s.slmTotal + v.size)
    | .cprog => false
  if decide (v.kind = .nvm) && decide (3 < v.lbaf) then some .invalidFormat
  else if bad then some .invalidField
  else if decide (v.cap ≠ 0) && decide (s.availOf (v :: s.spaces.map (·.2)) < s.fieldNow Reg.FTL_SPARE_CFG 15 8) then
    some .insufficientCapacity
  else none

/-- The lowest KV namespace slot that is free. -/
def State.freeKvSlot (s : State) : Nat :=
  ((List.range 16).find? (fun k => !s.idx.kvns.any (fun e => decide (e.1 = k)))).getD 16

/-- The create half of Namespace Management. -/
def State.createNs (s : State) (c : Cmd) (d : List Byte) : State :=
  match kindOf (c.f 11 31 24) with
  | none => s.err c .invalidField
  | some k =>
    let v := s.newNs k d
    match s.createNsBad v with
    | some st => s.err c st
    | none =>
      match (List.range 256).find? (fun n => (s.nsOf (n + 1)).isNone) with
      | none => s.err c .idUnavailable
      | some m =>
        let n := m + 1
        let t := { (s.setNs n (some v)).rotStart n with nsSerial := s.nsSerial + 1 }
        let u := if k = .kv then t.setIdx { t.idx with kvns := t.idx.kvns ++ [(t.freeKvSlot, n)] } else t
        u.recompute.post c .success n 0 none

/-- Remove a namespace: detach it everywhere and forget what it holds. -/
def State.dropNs (s : State) (n : Nat) : State :=
  let t := ((s.wipeNs n).setNs n none).rotStart n
  (t.setIdx { t.idx with kvns := t.idx.kvns.filter (fun e => decide (e.2 ≠ n)) }).recompute

/-- The fetch of a delete: the namespace is detached from every instance and refused from now on (R67). -/
def State.markNs (s : State) (n tag : Nat) : State :=
  match s.nsOf n with
  | some v =>
    s.insts.foldl (fun t e => t.detach e.1 n) (s.setNs n (some { v with deleting := some tag }))
  | none => s

/-- The namespaces that an NSID names. -/
def State.named (s : State) (nsid : Nat) : List Nat :=
  if nsid = full then s.spaces.map (·.1) else if (s.nsOf nsid).isSome then [nsid] else []

/-- A delete is fetched: the namespaces it names that no other delete has marked (R67). -/
def State.markAll (s : State) (c : Cmd) : State :=
  (s.named c.nsid).foldl (fun u n => match u.nsOf n with
    | some v => if v.deleting.isSome then u else u.markNs n c.tag
    | none => u) s

/-- NAMESPACE_MANAGEMENT (R67, R85, R175). A delete completes once the commands fetched before it have run to their end: the
row comes again then. -/
def execNamespaceManagement (tag : Nat) (data : List Byte) (s : State) : Result :=
  .next (s.onCmd tag true [0x0D] (fun c =>
    let sel := c.f 10 3 0
    if sel = 0 then s.createNs c data
    else if sel ≠ 1 then s.err c .invalidField
    else
      let l := s.named c.nsid
      let other := l.any (fun n => match s.nsOf n with
        | some v => v.deleting.isSome && decide (v.deleting ≠ some tag)
        | none => false)
      if (l.isEmpty && decide (c.nsid ≠ full)) || other then s.err c .invalidNamespace
      else
        let t := s.markAll c
        if l.any (fun n => t.nsBusy n tag) then t
        else (l.foldl State.dropNs t).ok c))

/-- Format one namespace: everything stored is gone; a cryptographic erase also changes its media key (R177, R325). -/
def State.formatNs (s : State) (c : Cmd) (n : Nat) : State :=
  match s.nsOf n with
  | none => s
  | some v =>
    let ses := c.f 10 11 9
    (s.wipeNs n).setNs n (some { v with
      lbaf := if v.kind = .nvm then c.f 10 3 0 else v.lbaf
      ext := decide (v.kind = .nvm) && bitOf (c.d 10).toNat 4
      pi := if v.kind = .nvm then c.f 10 7 5 else v.pi
      piFirst := if v.kind = .nvm then bitOf (c.d 10).toNat 8 else v.piFirst
      keyGen := v.keyGen + b2n (decide (ses = 2)) })

/-- Media-changing admin commands are refused for the health of the media (R177). -/
def State.noFormat (s : State) : Bool := decide (s.health = .readOnly) || decide (s.health = .failed)

/-- FORMAT_NVM (R177); it waits for commands in flight to the namespace. -/
def execFormatNvm (tag : Nat) (s : State) : Result :=
  .next (s.onCmd tag true [0x80] (fun c =>
    let l := s.named c.nsid
    let ses := c.f 10 11 9
    let nvm := l.any (fun n => match s.nsOf n with
      | some v => decide (v.kind = .nvm)
      | none => false)
    if l.isEmpty && decide (c.nsid ≠ full) then s.err c .invalidNamespace
    else if 2 < ses then s.err c .invalidField
    else if nvm && decide (3 < c.f 10 3 0) then s.err c .invalidFormat
    else if nvm && (decide (3 < c.f 10 7 5) || (decide (c.f 10 3 0 < 2) && decide (c.f 10 7 5 ≠ 0))) then s.err c .invalidField
    else if s.noFormat && decide (ses ≠ 2) then s.err c .writeProtected
    else if l.any (fun n => s.nsBusy n tag) then s
    else (l.foldl (fun t n => t.formatNs c n) s).recompute.ok c))

/-- SANITIZE (R177): refused in READ_ONLY and FAILED; else every namespace loses its data and its media key. -/
def execSanitize (tag : Nat) (s : State) : Result :=
  .next (s.onCmd tag true [0x84] (fun c =>
    let act := c.f 10 2 0
    if s.noFormat then s.err c .writeProtected
    else if act = 1 then s.ok c
    else if act ≠ 2 ∧ act ≠ 3 ∧ act ≠ 4 then s.err c .invalidField
    else
      let l := s.named full
      if l.any (fun n => s.nsBusy n tag) then s
      else (l.foldl (fun t n => match t.nsOf n with
        | some v => (t.wipeNs n).setNs n (some { v with keyGen := v.keyGen + 1 })
        | none => t) s).recompute.ok c))

/-! ### Firmware update (R400 to R403) -/

/-- Bytes of the staging area. -/
def stagingSize : Nat := 16515072

/-- The staged bytes from 0 without a gap, and what they hold. -/
def stagedFrom : Nat → Nat → List (Nat × List Byte) → List Byte
  | 0, _, _ => []
  | k + 1, a, l => match l.find? (fun e => decide (e.1 = a)) with
    | some e => if e.2.isEmpty then [] else e.2 ++ stagedFrom k (a + e.2.length) l
    | none => []

def Power.staged (p : Power) : List Byte := stagedFrom p.staging.length 0 p.staging

/-- Length of the package that a staged header declares. -/
def packageLen (b : List Byte) : Nat := 262144 + blkXip b

/-- The staged package: what its header declares, of the bytes staged. -/
def Power.package (p : Power) : List Byte := p.staged.take (packageLen p.staged)

/-- FIRMWARE_IMAGE_DOWNLOAD (R400, R402). -/
def execFirmwareImageDownload (tag : Nat) (data : List Byte) (s : State) : Result :=
  .next (s.onCmd tag true [0x11] (fun c =>
    let n := 4 * (c.f 10 31 0 + 1)
    let o := 4 * c.f 11 31 0
    let d := data.take n ++ List.replicate (n - data.length) 0
    let all := s.pwr.staging ++ [(o, d)]
    let head : List Byte := match all.find? (fun e => decide (e.1 = 0)) with
      | some e => e.2
      | none => []
    let ends := decide (28 ≤ head.length) && decide (o + n = packageLen head)
    if s.pwr.commit.isSome then s.err c .sequenceErrorBusy
    else if mdtsBytes < n ∨ stagingSize < o + n then s.err c .invalidField
    else if !ends && (decide (o % 4096 ≠ 0) || decide (n % 4096 ≠ 0)) then s.err c .invalidField
    else if s.pwr.staging.any (fun e => decide (o < e.1 + e.2.length) && decide (e.1 < o + n)) then
      s.err c .overlappingRange
    else (s.setPwr { s.pwr with staging := all }).ok c))

/-- Checks on a staged package: no gap, and checks 2 to 7, with the tag in RECOVERY (R401, R403). -/
def State.packageOk (s : State) : Bool :=
  let b := s.pwr.package
  let m : BlkMedia := { headEcc := false, payEcc := false, imgEcc := false, imgSuspect := false
                        image := slice b 262144 (blkXip b) }
  decide (packageLen b ≤ b.length) && decide (blkCheck s.pwr.fuses b m = 0) &&
    (decide (s.dev ≠ .recovery) || blkTag s.pwr.fuses b)

/-- Words that bytes fill, in the packing of R276. -/
def packWord : List Byte → List Word
  | [] => []
  | [a] => [BitVec.ofNat 16 (256 * a.toNat + 255)]
  | a :: b :: t => BitVec.ofNat 16 (256 * a.toNat + b.toNat) :: packWord t

/-- Word addresses and values of a package in a slot. -/
def packageWords (b : Bool) (l : List Byte) : List (Nat × Word) :=
  placeWords (bootBase b) (packWord (l.take 262144)) ++ placeWords (imageBase b) (packWord (l.drop 262144))

/-- Re-arm the alternate selector with the parity of the current one (R361). -/
def State.rearm (s : State) : State :=
  match s.selCurrent with
  | none => s
  | some cur =>
    let alt := !cur
    let a := selSector alt * 2 ^ 15
    let seq := s.selSeq cur + 1
    let w : List Word := [0x5E1C, 1, BitVec.ofNat 16 (seq / 65536), BitVec.ofNat 16 seq]
    let crc := (crc32c (wordBytes w)).toNat
    let odd := zerosOf (s.selW cur) 32 % 2
    let t := (s.setCar (s.car.erase (selSector alt) 1)).countErase 2 (selSector alt) 1
    t.setCarWords (placeWords a (w ++ [0xFFFF, if odd = 1 then 0xFFFE else 0xFFFF,
      BitVec.ofNat 16 (crc / 65536), BitVec.ofNat 16 crc, 0xA55A]))

/-- One boot swap: the lowest SELW bit still 1 is programmed (R359). -/
def State.swapOnce (s : State) : Option State :=
  match s.selCurrent with
  | none => none
  | some sel => match lowestOne (s.selW sel) 32 0 with
    | none => none
    | some i =>
      let a := selSector sel * 2 ^ 15 + (if i < 16 then 5 else 4)
      some (s.setCarWord a (BitVec.ofNat 16 (setBits (s.carWord a).toNat (i % 16) (i % 16) 0)))

/-- The swap of a Commit: a full selector is re-armed first, and a swap that programs bit 31 is followed by a re-arm
(R361, R402). -/
def State.swapBoot (s : State) : State :=
  match s.swapOnce with
  | some t => match t.selCurrent with
    | some sel => if t.selW sel = 0 then t.rearm else t
    | none => t
  | none => match s.rearm.swapOnce with
    | some t => t
    | none => s

/-- The slot that a Commit names: FS 1 and 2 are BOOT_A and BOOT_B, 0 the one not running; in RECOVERY the one that the
selector does not select (R401, R403). -/
def State.fwSlot (s : State) (fs : Nat) : Bool :=
  if s.dev = .recovery then !s.bootSelect else if fs = 0 then !s.car.booted else decide (fs = 2)

/-- A Commit ends: the staging area is discarded (R400). -/
def State.commitEnd (s : State) (c : Cmd) (st : Status) : State :=
  (s.setPwr { s.pwr with staging := [], commit := none }).err c st

/-- Why a Commit is refused before anything is written (R401 to R403). -/
def State.commitRefused (s : State) (c : Cmd) : Option Status :=
  let fs := c.f 10 2 0
  let ca := c.f 10 5 3
  let b := s.fwSlot fs
  if s.pins.dual && decide (c.port ≠ s.ownerPort) then some .fwProhibited
  else if 3 ≤ ca ∨ (s.dev = .recovery ∧ ca ≠ 1) then some .invalidField
  else if 3 ≤ fs then some .invalidFwSlot
  else if decide (s.dev ≠ .recovery) && decide (ca ≠ 2) && decide (b = s.car.booted) then some .invalidFwSlot
  else if s.pwr.stale then some .fwProhibited
  else if ca = 2 then
    (if s.carSuspect (bootSector b) 4 || decide (blkCheck s.pwr.fuses (s.blkBytes b) (s.blkMedia b) ≠ 0) then
      some .invalidFwImage else none)
  else if !s.packageOk then some .invalidFwImage
  else none

/-- FIRMWARE_COMMIT (R401 to R403): the checks when it first comes; then, the slot's sectors erased, programmed and read
back (`written`: with success), its end. -/
def execFirmwareCommit (tag : Nat) (written : Bool) (s : State) : Result :=
  .next (s.onCmd tag true [0x10] (fun c =>
    let b := s.fwSlot (c.f 10 2 0)
    let ca := c.f 10 5 3
    let lo := bootSector b
    let n := 8 + blkXip s.pwr.package / 65536
    if s.pwr.commit.isSome ∧ s.pwr.commit ≠ some tag then s.err c .sequenceErrorBusy
    else if s.pwr.commit.isNone then
      match s.commitRefused c with
      | some st => s.commitEnd c st
      | none =>
        if ca = 2 then (if s.bootSelect = b then s else s.swapBoot).commitEnd c .fwNeedsReset
        else s.setPwr { s.pwr with commit := some tag }
    else
      let e1 := (s.setCar (s.car.erase lo 4)).countErase 2 lo 4
      let e2 := (e1.setCar (e1.car.erase (lo + 8) (n - 8))).countErase 2 (lo + 8) (n - 8)
      if written then
        let t := e2.setCarWords (packageWords b s.pwr.package)
        if ca = 0 then t.commitEnd c .success else t.swapBoot.commitEnd c .fwNeedsReset
      else (e2.undefCarWords (packageWords b s.pwr.package)).commitEnd c .internalErrorCar))

end Sys2Proof.Machine
end

