-- ==== Sys2Proof/Machine/Reserve.lean ====
section
/-!
DEFINITION. What the fetch of a standard command checks beside its namespace: the reserved fields of the NVMe command sets
(R13), and the reservations that arbitrate between the hosts of the two ports (R34, R67). Layouts and rules are those of the
NVMe specifications that the manual cites (PRESUMED, log 172 and log 175).
-/

namespace Sys2Proof.Machine

/-! ### Reserved fields (R13) -/

/-- Dwords of the data pointer, and of the metadata pointer too. -/
def dptrMasks : List (Nat × Nat) := [(6, full), (7, full), (8, full), (9, full)]
def bufMasks : List (Nat × Nat) := (4, full) :: (5, full) :: dptrMasks

/-- Storage and reference tags, first LBA. -/
def lbaMasks : List (Nat × Nat) := [(2, full), (3, full), (10, full), (11, full), (14, full), (15, full)]

/-- Key bytes of a Key Value command. -/
def keyMasks : List (Nat × Nat) := [(2, full), (3, full), (14, full), (15, full)]

/-- Bits of dwords 2 to 15 that an I/O command of a standard set may have set. -/
def stdMasks (k : NsKind) (op : Nat) : List (Nat × Nat) :=
  if op = 0x0D then (10, 0xC000000F) :: dptrMasks
  else if op = 0x0E then [(10, full), (11, 1)] ++ dptrMasks
  else if op = 0x11 ∨ op = 0x15 then (10, 0xFF0F) :: dptrMasks
  else match k with
  | .nvm =>
    if op = 0x01 then [(12, 0xFDF0FFFF), (13, 0xFFFF00FF)] ++ lbaMasks ++ bufMasks
    else if op = 0x02 then [(12, 0xFD00FFFF), (13, 0xFF)] ++ lbaMasks ++ bufMasks
    else if op = 0x05 then (12, 0xFD00FFFF) :: lbaMasks ++ bufMasks
    else if op = 0x08 then (12, 0xFF00FFFF) :: lbaMasks
    else if op = 0x09 then [(10, 0xFF), (11, 7)] ++ dptrMasks
    else if op = 0x0C then (12, 0xFD00FFFF) :: lbaMasks
    else []
  | .kv =>
    if op = 0x01 then [(10, full), (11, 0x7FF)] ++ keyMasks ++ dptrMasks
    else if op = 0x02 then [(10, full), (11, 0x1FF)] ++ keyMasks ++ dptrMasks
    else if op = 0x06 then [(10, full), (11, 0xFF)] ++ keyMasks ++ dptrMasks
    else if op = 0x10 ∨ op = 0x14 then (11, 0xFF) :: keyMasks
    else []
  | .slm => if op = 0x02 ∨ op = 0x05 then [(10, full), (11, full), (12, full)] ++ dptrMasks else []
  | .cprog => [(2, full), (3, full), (10, full), (11, full), (12, full), (13, full), (14, full), (15, full)] ++ bufMasks

/-- Bits of dwords 1 to 15 that a standard admin command may have set. -/
def adminMasks (op : Nat) : List (Nat × Nat) :=
  let prp := prp1Masks ++ prp2Masks
  let ns : Nat × Nat := (1, full)
  if op = 0x00 ∨ op = 0x04 then [(10, 0xFFFF)]
  else if op = 0x01 then [(10, full), (11, 0xFFFF0007), (12, full), (13, full)] ++ prp1Masks
  else if op = 0x05 then [(10, full), (11, 0xFFFF0003), (13, full)] ++ prp1Masks
  else if op = 0x02 then [ns, (10, full), (11, full), (12, full), (13, full), (14, 0xFF80007F)] ++ prp
  else if op = 0x06 then [ns, (10, 0xFFFF00FF), (11, 0xFF00FFFF), (14, 0x7F)] ++ prp
  else if op = 0x08 then [(10, full)]
  else if op = 0x09 then [ns, (10, 0x800000FF), (11, full), (12, full), (13, full), (14, 0x7F), (15, full)] ++ prp
  else if op = 0x0A then [ns, (10, 0x7FF), (11, full), (14, 0x7F)] ++ prp
  else if op = 0x0D then [ns, (10, 0xF), (11, 0xFF000000)] ++ prp
  else if op = 0x10 then [(10, 0x8000003F)]
  else if op = 0x11 then [(10, full), (11, full)] ++ prp
  else if op = 0x80 then [ns, (10, 0x3FFF)]
  else if op = 0x84 then [ns, (10, 0x3FF), (11, full)]
  else if op = 0x0C then []
  else (List.range 15).map (fun k => (k + 1, full))

/-- FUSE, the reserved bits of CDW0 and the reserved PSDT encoding are 0, and so is every bit outside the masks. -/
def Cmd.layoutOk (c : Cmd) (masks : List (Nat × Nat)) : Bool :=
  decide (c.f 0 13 8 = 0) && decide (c.f 0 15 14 ≠ 3) && (List.range 15).all (fun k =>
    let m := match masks.find? (fun e => decide (e.1 = k + 1)) with
      | some e => e.2
      | none => 0
    decide ((c.d (k + 1)).toNat ||| m = m))

/-- An I/O command of a standard set; NSID is CDW1. -/
def Cmd.stdOk (c : Cmd) (k : NsKind) : Bool := c.layoutOk ((1, full) :: stdMasks k c.opcode)

/-- An admin command; those of Table 3-3 have their own test (R64). -/
def Cmd.adminOk (c : Cmd) : Bool := decide (0xC0 ≤ c.opcode) || c.layoutOk (adminMasks c.opcode)

/-! ### Reservations (R34, R67) -/

/-- The key of a port's host, where it is registered. -/
def Resv.key? (r : Resv) (p : Bool) : Option (BitVec 64) :=
  (r.keys.find? (fun e => decide (e.1 = p))).map (·.2)

/-- The port's host holds the reservation: under the all-registrants types every registrant does. -/
def Resv.holds (r : Resv) (p : Bool) : Bool :=
  decide (r.typ ≠ 0) && (if r.typ ≥ 5 then (r.key? p).isSome else decide (r.holder = some p))

/-- A command of that port that writes, or reads, conflicts. -/
def Resv.conflict (r : Resv) (p write : Bool) : Bool :=
  let excl := decide (r.typ % 2 = 0)
  decide (r.typ ≠ 0) && (write || excl) && !(if r.typ ≤ 2 then r.holds p else (r.key? p).isSome)

/-- Whether a command writes its namespace; none: reservations do not concern it. -/
def resvAccess (k : NsKind) (op : Nat) : Option Bool :=
  if [0x0D, 0x0E, 0x11, 0x15].contains op then none
  else match k with
    | .nvm => some ([0x00, 0x01, 0x08, 0x09, 0x81].contains op)
    | .kv => some ([0x00, 0x01, 0x10, 0x81, 0x8D].contains op)
    | .slm => some (decide (op = 0x05))
    | .cprog => none

/-- Reservations keep the command out. -/
def Namespace.keepsOut (v : Namespace) (c : Cmd) : Bool :=
  match resvAccess v.kind c.opcode with
  | some w => v.resv.conflict c.port w
  | none => false

/-- A registrant leaves: with the holder, and under the all-registrants types with the last registrant, the reservation goes. -/
def Resv.drop (r : Resv) (p : Bool) : Resv :=
  let keys := r.keys.filter (fun e => decide (e.1 ≠ p))
  if (if r.typ ≥ 5 then keys.isEmpty else decide (r.holder = some p)) then { r with keys := keys, typ := 0, holder := none }
  else { r with keys := keys }

/-- Reservation Register. -/
def Resv.register (r : Resv) (p : Bool) (act : Nat) (ignore : Bool) (cur new : BitVec 64) : Except Status Resv :=
  let mine := r.key? p
  let put : Resv := { r with keys := r.keys.filter (fun e => decide (e.1 ≠ p)) ++ [(p, new)], gen := r.gen + 1 }
  if act = 0 then
    match mine with
    | none => .ok put
    | some k => if k = new then .ok r else .error .reservationConflict
  else if act = 1 then
    match mine with
    | none => .error .reservationConflict
    | some k => if ignore || decide (k = cur) then .ok { r.drop p with gen := r.gen + 1 } else .error .reservationConflict
  else if act = 2 then
    if ignore || decide (mine = some cur) then .ok put else .error .reservationConflict
  else .error .invalidField

/-- Reservation Acquire: acquire, preempt, preempt and abort. -/
def Resv.acquire (r : Resv) (p : Bool) (act typ : Nat) (ignore : Bool) (cur other : BitVec 64) : Except Status Resv :=
  if ignore || decide (2 < act) || decide (typ = 0) || decide (6 < typ) then .error .invalidField
  else if r.key? p ≠ some cur then .error .reservationConflict
  else if act = 0 then
    if r.typ = 0 then .ok { r with typ := typ, holder := some p }
    else if r.holds p && decide (r.typ = typ) then .ok r
    else .error .reservationConflict
  else
    let all := decide (5 ≤ r.typ) && decide (other = 0)
    let out := r.keys.filter (fun e => decide (e.1 ≠ p) && (all || decide (e.2 = other)))
    let takes := decide (r.typ ≠ 0) &&
      (all || (match r.holder with
        | some h => decide (r.key? h = some other)
        | none => false))
    if !all && decide (other = 0) then .error .invalidField
    else if out.isEmpty && !takes then .error .reservationConflict
    else
      let x := { r with keys := r.keys.filter (fun e => !out.contains e), gen := r.gen + 1 }
      .ok (if takes then { x with typ := typ, holder := some p } else x)

/-- Reservation Release: release, clear. -/
def Resv.release (r : Resv) (p : Bool) (act typ : Nat) (ignore : Bool) (cur : BitVec 64) : Except Status Resv :=
  if ignore || decide (1 < act) then .error .invalidField
  else if r.key? p ≠ some cur then .error .reservationConflict
  else if act = 1 then .ok { r with keys := [], typ := 0, holder := none, gen := r.gen + 1 }
  else if !r.holds p then .ok r
  else if r.typ ≠ typ then .error .invalidField
  else .ok { r with typ := 0, holder := none }

/-- The Reservation Status data structure. -/
def Resv.report (r : Resv) (ext : Bool) : List Byte :=
  let head := leBytes 4 r.gen ++ leBytes 1 r.typ ++ leBytes 2 r.keys.length ++ leBytes 17 0 ++ (if ext then leBytes 40 0 else [])
  head ++ r.keys.flatMap (fun e =>
    leBytes 2 (1 + b2n e.1) ++ leBytes 1 (b2n (r.holds e.1)) ++ leBytes 5 0 ++
      (if ext then leBytes 8 e.2.toNat ++ leBytes 48 0 else leBytes 8 0 ++ leBytes 8 e.2.toNat))

/-- Replace a namespace's reservation and complete, or complete with the status. -/
def State.resvDone (s : State) (c : Cmd) (v : Namespace) (r : Except Status Resv) : State :=
  match r with
  | .error st => s.err c st
  | .ok x => (s.setNs c.nsid (some { v with resv := x })).ok c

/-- A reservation command, executed as it is fetched: `data` are its two keys (log 175). -/
def State.resvCommand (s : State) (c : Cmd) (v : Namespace) (data : List DWord) : State :=
  let key (i : Nat) : BitVec 64 := nth 0 data (2 * i + 1) ++ nth 0 data (2 * i)
  let act := c.f 10 2 0
  let ign := bitOf (c.d 10).toNat 3
  let typ := c.f 10 15 8
  if c.opcode = 0x0D then s.resvDone c v (v.resv.register c.port act ign (key 0) (key 1))
  else if c.opcode = 0x11 then s.resvDone c v (v.resv.acquire c.port act typ ign (key 0) (key 1))
  else if c.opcode = 0x15 then s.resvDone c v (v.resv.release c.port act typ ign (key 0))
  else
    let out := (v.resv.report (bitOf (c.d 11).toNat 0)).take (4 * ((c.d 10).toNat + 1))
    let room := 4096 - c.prp1 % 4096
    ((s.dmaWrite c.inst c.gen c.prp1 (out.take room) false).dmaWrite c.inst c.gen c.prp2 (out.drop room) false).ok c

/-- The opcodes of the reservation commands. -/
def resvOps : List Nat := [0x0D, 0x0E, 0x11, 0x15]

end Sys2Proof.Machine
end

