-- ==== Sys2Proof/Machine/Fetch.lean ====
section
/-!
DEFINITION. Fetching and the life of a command (R16, R24, R28, R51 to R54, R104, R437), and the NVMe controller of a
port: enable, reset, shutdown (R40, R192, R394, R395).
-/

namespace Sys2Proof.Machine

/-! ### What a fetched command is checked for -/

/-- Opcodes of a command set (Table 4-1, R435), reservation commands included. -/
def kindOps : NsKind → List Nat
  | .nvm => [0x00, 0x01, 0x02, 0x05, 0x08, 0x09, 0x0C, 0x0D, 0x0E, 0x11, 0x15]
  | .kv => [0x00, 0x01, 0x02, 0x06, 0x0D, 0x0E, 0x10, 0x11, 0x14, 0x15]
  | .cprog => [0x85, 0x88]
  | .slm => [0x00, 0x02, 0x05]

/-- Vendor opcodes (Table 4-4), and the namespaces they go to. -/
def vendorOps : List Nat := [0x81, 0x82, 0x85, 0x86, 0x89, 0x8D]

def vendorKind (op : Nat) (k : NsKind) : Bool :=
  match k with
  | .nvm => [0x81, 0x82, 0x86].contains op
  | .kv => [0x81, 0x82, 0x86, 0x8D].contains op
  | .slm => decide (op = 0x85)
  | .cprog => false

/-- The namespace a command names is attached to its instance and not being deleted (R67). -/
def State.reaches (s : State) (c : Cmd) : Bool :=
  (s.inst c.inst).attach.any (fun a => decide (a.1 = c.nsid)) &&
    match s.nsOf c.nsid with
    | some v => v.deleting.isNone
    | none => false

/-- Why an I/O command is refused at its fetch (R13, R31, R34, R67, R85), the first that applies. -/
def State.fetchRefused (s : State) (c : Cmd) : Option Status :=
  let op := c.opcode
  if s.health = .failed then some .internalError
  else if op = 0x00 ∧ c.nsid = full then none
  else if (op = 0x85 ∨ op = 0x89) ∧ c.nsid = 0 then none
  else if !s.reaches c then some .invalidNamespace
  else match s.nsOf c.nsid with
    | none => some .invalidNamespace
    | some v =>
      if (kindOps v.kind).contains op then
        if !c.stdOk v.kind then some .invalidField
        else if v.keepsOut c then some .reservationConflict else none
      else if vendorOps.contains op then
        if !vendorKind op v.kind then some .invalidField
        else if v.keepsOut c then some .reservationConflict else none
      else some .invalidOpcode

/-! ### The hold of write-class commands (R16, R54, R186) -/

/-- Write-class commands (R54), and the others that a journal hold stops (R186). -/
def State.writeClass (s : State) (c : Cmd) : Bool :=
  match s.nsOf c.nsid with
  | some v => match v.kind with
    | .nvm => [0x01, 0x81].contains c.opcode
    | .kv => [0x01, 0x81, 0x8D].contains c.opcode
    | _ => false
  | none => false

def State.journalClass (s : State) (c : Cmd) : Bool :=
  match s.nsOf c.nsid with
  | some v => match v.kind with
    | .nvm => decide (c.opcode = 0x08) || (decide (c.opcode = 0x09) && bitOf (c.d 11).toNat 2)
    | .kv => decide (c.opcode = 0x10)
    | _ => false
  | none => false

/-- Dirty data a write-class command would add: its data, and the metadata of its blocks (R191). -/
def State.writeNeed (s : State) (c : Cmd) : Nat :=
  match s.nsOf c.nsid with
  | some v =>
    if c.opcode = 0x01 ∧ v.kind = .nvm then
      (if mdtsBlocks < c.blocks then 0 else grainLen (metaSize v.lbaf) * c.blocks)
    else
      let n := if c.opcode = 0x81 then (c.d 12).toNat else if c.opcode = 0x8D then (c.d 13).toNat else c.vlen
      if 8388608 < n then 0 else n
  | none => 0

/-- Data that commands admitted before have still to bring. -/
def State.promised (s : State) (but : Nat) : Nat :=
  ((s.cmds.filter (fun c => !c.admin && !c.dead && decide (c.tag ≠ but) && s.writeClass c &&
    (decide (c.phase = .fetched) || decide (c.phase = .waitRebuild)))).map s.writeNeed).sum

/-- A command must be held (R16, R186). -/
def State.mustHold (s : State) (c : Cmd) : Bool :=
  (s.writeClass c && (s.jhold || decide (s.dirtyMax < s.dirtyBytes + s.promised c.tag + s.writeNeed c))) ||
    (s.journalClass c && s.jhold)

/-- Commands whose data a Flush waits for: those of the namespaces it names that a slot holds (R145). -/
def State.flushWaits (s : State) (c : Cmd) : List Nat :=
  let mine (n : Nat) : Bool :=
    if c.nsid = full then (s.inst c.inst).attach.any (fun a => decide (a.1 = n)) else decide (n = c.nsid)
  ((s.ftl.slots.filter (fun v => mine v.nsid)).flatMap (fun v => v.tags ++ v.flight ++ v.recv.map (·.1))).dedup

/-- Take one fetched submission entry: its command goes in flight, is refused, or is held. A reservation command is executed
at once; the data it reads follows its 16 dwords. -/
def State.takeEntry (s : State) (row : Nat) (dw : List DWord) : State :=
  let r := s.sqRow row
  let i := s.inst r.inst
  let c0 : Cmd :=
    { tag := s.nextTag, port := s.portOf r.inst, admin := false, inst := r.inst, sq := row, cq := r.cqid
      dw := dw.take 16, gen := i.gen, deadline := (s.inForce (Reg.INS_CMD_DEADLINE r.inst)).toNat }
  let c : Cmd :=
    { c0 with ro := i.attach.contains (c0.nsid, true), att := i.attach.map (·.1), active := s.portProgs c0.port
              waits := if c0.opcode = 0 then s.flushWaits c0 else [] }
  let t := (s.setSq row { r with head := (r.head + 1) % (r.qsize + 1) }).setInst r.inst { i with ftok := i.ftok - 65536, rr := row }
  let u : State := { t with nextTag := t.nextTag + 1, cmds := t.cmds ++ [c] }
  match u.fetchRefused c, u.nsOf c.nsid with
  | some st, _ => u.err c st
  | none, some v =>
    if resvOps.contains c.opcode && (kindOps v.kind).contains c.opcode then u.resvCommand c v (dw.drop 16)
    else if u.mustHold c then (u.setPhase c .held).setSq row { u.sqRow row with blocked := true } else u
  | none, none => u

/-- Take entries in queue order; nothing is fetched behind a held command (R54). -/
def State.takeEntries (s : State) (row : Nat) : List (List DWord) → State
  | [] => s
  | e :: rest => if (s.sqRow row).blocked then s else State.takeEntries (s.takeEntry row e) row rest

/-- Instance `i` has the largest bucket relative to its share among those with tokens and work (R70). -/
def State.bestBucket (s : State) (i : Nat) : Bool :=
  let a := s.inst i
  s.insts.all (fun e => !(decide (0 < e.2.ftok) && s.fetchWork e.1) ||
    decide (e.2.ftok * (a.shareNow : Int) ≤ a.ftok * (e.2.shareNow : Int)))

/-- Row `q` is the next of its instance in round-robin order (R52). -/
def State.nextRow (s : State) (i q : Nat) : Bool :=
  let rows := (s.sq.filter (fun e => decide (e.2.inst = i) && !s.isAdminRow e.1 && s.sqReady e.1)).map (·.1)
  let after := rows.filter (fun x => decide ((s.inst i).rr < x))
  decide ((if after.isEmpty then rows else after).head? = some q)

/-- I/O fetching is open: SERVICE, no PS2 to PS4 exit awaited, the port's controller enabled and not shutting down (R192,
R392, R408). -/
def State.fetchOpen (s : State) (p : Bool) : Bool :=
  decide (s.dev = .service) && decide (s.pwr.ps ≤ 1) && (s.ctrl p).rdy && (s.ctrl p).en && decide ((s.ctrl p).shst = 0) &&
    (s.port p).up && !(s.port p).training &&
    !bitOf (s.reg Reg.CHS_PLP_STAT).toNat 31

/-- Admin fetching of a port (R437): how many entries a visit to its admin SQ may take. -/
def State.adminRoom (s : State) (p : Bool) : Nat :=
  let q := adminRow p
  let r := s.sqRow q
  let k := s.ctrl p
  let outst := (s.cmds.filter (fun c => c.admin && decide (c.port = p))).length
  if s.hasPort p && (decide (s.dev = .service) || decide (s.dev = .recovery)) && decide (s.pwr.ps ≤ 1) && k.en && k.rdy &&
      !k.resetting && (s.port p).up && !(s.port p).training &&
      r.valid && !r.error && !(s.cqRow q).error && !bitOf (s.reg Reg.CHS_PLP_STAT).toNat 31 then
    min (min (s.fieldNow Reg.QMG_ARB 6 0) r.fetchable) (min (s.cqRoom q) (64 - outst))
  else 0

/-- COMMAND_FETCH (R51, R52, R54): a visit to an SQ row; `sqes` are the entries as read, in queue order. An admin SQ with
something to fetch goes first (R437). -/
def execCommandFetch (row : Nat) (sqes : List (List DWord)) (s : State) : Result :=
  .next (
    let r := s.sqRow row
    let i := s.inst r.inst
    let room := 65536 - (if s.isManager r.inst then 0 else s.fieldNow Reg.QMG_RESERVE 15 0) - s.inflight
    let n := min (min (s.fieldNow Reg.QMG_ARB 6 0) r.fetchable) (min (s.cqRoom r.cqid) room)
    if s.fetchOpen (s.portOf r.inst) && !s.isAdminRow row && s.sqReady row && decide (0 < i.ftok) && s.bestBucket r.inst &&
        s.nextRow r.inst row && decide (s.adminRoom (s.portOf r.inst) = 0) then
      s.takeEntries row (sqes.take n)
    else s)

/-! ### Admin fetching (R403, R437) -/

/-- Admin opcodes the device has (Table 3-3, R38 to R63, R400, R435). -/
def adminOps : List Nat :=
  [0x00, 0x01, 0x02, 0x04, 0x05, 0x06, 0x09, 0x0A, 0x0C, 0x0D, 0x10, 0x11, 0x80, 0x84, 0x85, 0x88,
    0xC0, 0xC1, 0xC2, 0xC3, 0xC4, 0xC5, 0xC8, 0xC9, 0xCA, 0xCC, 0xCD]

/-- Those the ROM serves in RECOVERY (R403). -/
def recoveryOps : List Nat := [0x02, 0x06, 0x10, 0x11]

/-- Take one admin command: in the cycle of its fetch its opcode and layout are checked (R13, R437), a management command is
checked and takes its first effect (R65), and the namespaces of a delete are detached and refused from now on (R67). -/
def State.takeAdmin (s : State) (p : Bool) (dw : List DWord) : State :=
  let q := adminRow p
  let i := s.manager p
  let c : Cmd :=
    { tag := s.nextTag, port := p, admin := true, inst := i, sq := q, cq := q, dw := dw, gen := (s.inst i).gen, deadline := 0
      active := s.portProgs p }
  let c := if c.opcode = 2 ∧ c.f 10 7 0 = 0xD2 then { c with data := s.careNow } else c
  let r := s.sqRow q
  let t := s.setSq q { r with head := (r.head + 1) % (r.qsize + 1) }
  let u : State := { t with nextTag := t.nextTag + 1, cmds := t.cmds ++ [c] }
  if !(if s.dev = .recovery then recoveryOps else adminOps).contains c.opcode then u.err c .invalidOpcode
  else if !c.adminOk then u.err c .invalidField
  else if c.takenAtFetch then u.takeMgmt c
  else if decide (c.opcode = 0x0D) && decide (c.f 10 3 0 = 1) then u.markAll c
  else u

/-- ADMIN_COMMAND_FETCH (R437): a visit to the admin SQ of a port. -/
def execAdminCommandFetch (port : Bool) (sqes : List (List DWord)) (s : State) : Result :=
  .next ((sqes.take (s.adminRoom port)).foldl (fun t e => t.takeAdmin port e) s)

/-! ### Admission, deadlines, rebuild waits (R16, R28, R104, R105, R257) -/

/-- A held command leaves its SQ free again. -/
def State.unblock (s : State) (c : Cmd) : State :=
  if c.phase = .held then s.setSq c.sq { s.sqRow c.sq with blocked := false } else s

/-- WRITE_CLASS_ADMIT (R16, R54, R186). -/
def execWriteClassAdmit (tag : Nat) (s : State) : Result :=
  .next (match s.cmd? tag with
    | some c => if decide (c.phase = .held) && !s.mustHold c then (s.unblock c).setPhase c .fetched else s
    | none => s)

/-- Order 4 of Table 1-5: ages advance; the first boundary after the fetch is the reference (R26, R53). Waits for a
rebuild count from their own first boundary (R28). -/
def State.ageBeat (s : State) : State :=
  { s with cmds := s.cmds.map (fun c =>
      if c.admin then c
      else { c with
        age := some (match c.age with | none => 0 | some a => a + 1)
        waited := if c.phase = .waitRebuild then some (match c.waited with | none => 0 | some a => a + 1) else c.waited }) }

/-- A command's later writes are suppressed: its pipeline ends, and its shard jobs issue nothing further (R104, R268). What it
wrote to peers is confirmed first (R55). -/
def State.suppress (s : State) (c : Cmd) : State :=
  let t := (s.shd.filter (fun j => decide (j.tag = c.tag) && decide (0 < j.issued))).foldl State.shardConfirm (s.confirmRun c)
  let u := t.dropRun c.tag
  { u with shd := u.shd.map (fun j => if j.tag = c.tag then { j with suppressed := true } else j) }

/-- The boundary at which commands reach their deadline: what they would still write is suppressed (order 4 of Table 1-5). -/
def State.suppressLate (s : State) : State :=
  (s.cmds.filter (fun c => c.late = some 0)).foldl State.suppress s

/-- A command ends with a status before its time: received data goes on (Table 4-20). -/
def State.endEarly (s : State) (c : Cmd) (st : Status) : State :=
  let t := (s.suppress c).unblock c
  if t.gotAll c then t.bury { c with shards := (t.shd.filter (fun j => decide (j.tag = c.tag))).length } st
  else (t.untake c.tag).err c st

/-- A command that has reached a limit ends with that limit's status (R28, R104). -/
def State.expire (s : State) (c : Cmd) : State :=
  match c.timedOut with
  | none => s
  | some st => (if st = .rebuildPending then s.bump Reg.CHS_REBUILD_PEND else s).endEarly c st

/-- COMMAND_DEADLINE_EXPIRY (R28, R104). -/
def execCommandDeadlineExpiry (tag : Nat) (s : State) : Result :=
  .next (match s.cmd? tag with
    | some c => if c.expired then s.expire c else s
    | none => s)

/-- REBUILD_WAIT_EXPIRY (R28, R199). -/
def execRebuildWaitExpiry (tag : Nat) (s : State) : Result :=
  .next (match s.cmd? tag with
    | some c => if c.lateWait.isSome then s.expire c else s
    | none => s)

/-- List sequences of one beat. -/
def State.listBeat (s : State) : State :=
  s.setIdx { s.idx with seqs := s.idx.seqs.map (fun q => { q with idle := q.idle + 1 }) }

/-- LIST_SEQUENCE_END (R257). -/
def execListSequenceEnd (kvns : Nat) (s : State) : Result :=
  .next (s.setIdx { s.idx with
    seqs := s.idx.seqs.map (fun q => if q.kvns = kvns ∧ 1048576 < q.idle then { q with live := false } else q) })

/-! ### The controller of a port (R40, R394, R395) -/

/-- Bits of CC, AQA and of ASQ and ACQ that are not reserved (R9; layouts of the NVMe base specification, log 147). -/
def ccMask : DWord := 0x00FFFFF1
def aqaMask : DWord := 0x0FFF0FFF
def qbaseMask : BitVec 64 := 0xFFFFFFFFFFFFF000

/-- RDY follows DEV_STATE and the enable (R392). -/
def State.readyNow (s : State) : Bool := decide (s.dev = .service) || decide (s.dev = .recovery)

/-- CONTROLLER_ENABLE (R40, R62, R68): CC.EN from 0 to 1, with CC, AQA, ASQ and ACQ as the host has set them. -/
def execControllerEnable (port : Bool) (cc aqa : DWord) (asq acq : BitVec 64) (s : State) : Result :=
  .next (
    let k := s.ctrl port
    let cc := cc &&& ccMask
    let aqa := aqa &&& aqaMask
    let asq := asq &&& qbaseMask
    let acq := acq &&& qbaseMask
    let c := cc.toNat
    let sqs := bits aqa.toNat 11 0
    let cqs := bits aqa.toNat 27 16
    if !s.hasPort port || k.en || k.resetting then s
    else
      let k1 : Ctrl := { k with en := true, cc := cc, mps := min 4 (bits c 10 7)
                                aqa := aqa, asq := asq, acq := acq, shst := 0, cfs := false }
      if decide (sqs = 0) || decide (cqs = 0) then s.setCtrl port { k1 with cfs := true }
      else
        let q := adminRow port
        let m := s.manager port
        let t := (s.setSq q { valid := true, base := asq, qsize := sqs, cqid := q, inst := m }).setCq q
          { valid := true, base := acq, qsize := cqs, ien := true, inst := m }
        let u := if (t.inst m).state = .free then
            t.setInst m { t.inst m with state := .active, share := 8192 } else t
        u.setCtrl port { k1 with rdy := s.readyNow })

/-- Instances of a port that a controller reset fences: their rows stay as they are (R394). -/
def State.fencePort (s : State) (p : Bool) : State :=
  s.insts.foldl (fun t e =>
    if decide (s.portOf e.1 = p) && decide (e.2.state ≠ .free) then t.fence e.1 e.2.state e.2.mgmtTag else t) s

/-- What a controller reset does at once (R394). -/
def State.ctrlReset (s : State) (p : Bool) : State :=
  let t := s.fencePort p
  let u : State := { t with
    cmds := t.cmds.filter (fun c => !(c.admin && decide (c.port = p)))
    sq := t.sq.filter (fun e => !decide (t.portOf e.2.inst = p))
    cq := t.cq.filter (fun e => !decide (t.portOf e.2.inst = p)) }
  let v := ((u.setReg (Reg.PWR_LAT_TOL (b2n p)) (regReset (Reg.PWR_LAT_TOL (b2n p)))).setReg (Reg.PWR_PS_LIMIT (b2n p))
    (regReset (Reg.PWR_PS_LIMIT (b2n p)))).hmbOff p
  let w := if p = v.ownerPort then v.discardPress (fun j => decide (j.port ≠ p)) else v
  let x : Ctrl := { en := false, rdy := (w.ctrl p).rdy, resetting := true }
  w.setCtrl p x

/-- CONTROLLER_RESET (R40, R394): CC.EN from 1 to 0. During a shutdown it takes effect when that has completed. -/
def execControllerReset (port : Bool) (s : State) : Result :=
  .next (
    let k := s.ctrl port
    if !s.hasPort port || !k.en then s
    else if k.cfs && !k.rdy then s.setCtrl port {}
    else if k.shst = 1 then s.setCtrl port { k with en := false }
    else s.ctrlReset port)

/-- CONTROLLER_RESET_DRAINED (R394). -/
def execControllerResetDrained (port : Bool) (s : State) : Result :=
  .next (
    let drained := s.insts.all (fun e => decide (s.portOf e.1 ≠ port) || decide (e.2.state = .free) || decide (4 ≤ e.2.drain))
    if (s.ctrl port).resetting && drained then s.setCtrl port {} else s)

/-- One beat of the drains of R75 and R394. -/
def State.drains (s : State) : State :=
  s.insts.foldl (fun t e =>
    if decide (e.2.state = .resetting) || decide (e.2.state = .deleting) || (s.ctrl (s.portOf e.1)).resetting then
      t.setInst e.1 { t.inst e.1 with drain := if t.engineBusy e.1 then 0 else e.2.drain + 1 }
    else t) s

/-- HOT_RESET (R395): a controller reset, configuration space at its reset values, the translation cache empty, the link
retraining; RST_CNT.HOT counts. -/
def execHotReset (port : Bool) (s : State) : Result :=
  .next (if !s.hasPort port then s
    else
      let t := if (s.ctrl port).resetting then s else s.ctrlReset port
      let q := t.port port
      (t.setPort port { q with up := false, training := true, bme := false, relaxed := false, msixEn := false
                               msixMask := false, msix := [], atc := [], l12 := false, cfg := {}, stalled := [] }).count Reg.RST_CNT 7 0 1)

/-! ### Shutdown (R192) -/

/-- SHUTDOWN_NOTIFICATION (R192): I/O fetching stops and a checkpoint starts. -/
def execShutdownNotification (port : Bool) (s : State) : Result :=
  .next (
    let k := s.ctrl port
    if s.hasPort port && k.en && decide (k.shst = 0) && decide (s.dev = .service) then
      (s.setCtrl port { k with shst := 1 }).ckptStart
    else s)

/-- Nothing of the port is in flight but Asynchronous Event Requests and a Firmware Commit. -/
def State.portQuiet (s : State) (p : Bool) : Bool :=
  s.cmds.all (fun c => decide (c.port ≠ p) || (c.admin && ((s.ctrl p).aerWaiting.contains c.tag || decide (s.pwr.commit = some c.tag))))

/-- SHUTDOWN_COMPLETE (R192): once the work has ended, every slot is MAPPED, every record is in the Chest and every change
is in a checkpoint, the CLEAN SEAL is written. A change made since the checkpoint began asks for one more. -/
def execShutdownComplete (port : Bool) (s : State) : Result :=
  .next (
    let k := s.ctrl port
    let c := s.chest
    if decide (k.shst ≠ 1) || !s.portQuiet port || !c.pending.isEmpty || c.ckptActive ||
        !s.ftl.slots.all (fun v => decide (v.state = .mapped)) then s
    else if !c.dirty.isEmpty then s.ckptStart
    else
      let t := (s.sealWith true 0).setCtrl port { k with shst := 2 }
      if k.en then t else t.ctrlReset port)

end Sys2Proof.Machine
end

