-- ==== Sys2Proof/Machine/Faults.lean ====
section
/-!
DEFINITION. DMA faults (R36, R58, R59, Table 2-12).
-/

namespace Sys2Proof.Machine

/-- The HIF_ERR bit of a cause (Table 2-15). -/
def causeBit : DmaCause → Nat
  | .unsupported => 2
  | .abort => 3
  | .timeout => 4
  | .poisoned => 5
  | .denied => 6

/-- The port whose request faults. -/
def State.faultPort (s : State) : DmaKind → Bool
  | .data tag => match s.cmd? tag with | some c => c.port | none => false
  | .digest tag => match s.cmd? tag with | some c => c.port | none => false
  | .sink tag _ => match s.cmd? tag with | some c => c.port | none => false
  | .confirm tag _ => match s.cmd? tag with | some c => c.port | none => false
  | .fetch row => s.portOf (s.sqRow row).inst
  | .entry row => s.portOf (s.cqRow row).inst
  | .message p => p
  | .drawer _ => s.ownerPort
  | .bitmap i => s.portOf i
  | .press _ => s.ownerPort
  | .shard _ _ => match s.shd.find? (fun j => j.started) with | some j => j.port | none => false

/-- The AER bit of a cause, in the Uncorrectable Error registers of the PCIe base specification (PRESUMED, log 170). -/
def causeAer : DmaCause → Nat
  | .unsupported => 20
  | .abort => 15
  | .timeout => 14
  | .poisoned => 12
  | .denied => 20

/-- A fault on a queue of a manager instance: the AER report of its function, the event and its Error Information entry (R59). -/
def State.queueAen (s : State) (i : Nat) (cause : DmaCause) (sqid spec : Nat) : State :=
  if s.isManager i then
    let p := s.portOf i
    let t := s.aerReport p (causeAer cause)
    (t.setCtrl p { t.ctrl p with errLog := (Status.dataTransfer.code, sqid, 0, spec) :: (t.ctrl p).errLog }).aen p .error 3 1
  else s

/-- The shard of a running job that goes to a peer entry. -/
def ShardJob.shardOf (j : ShardJob) (entry : Nat) : Option Nat :=
  j.targets.find? (fun i => decide ((j.dest i).kind = 3) && decide ((j.dest i).peer = entry))

/-- A command's data read or write faults: Data Transfer Error, with the effects of Table 4-20. -/
def State.dataFault (s : State) (tag : Nat) : State :=
  match s.cmd? tag with
  | none => s
  | some c =>
    if s.gotAll c then s
    else
      let t := if !c.admin && (decide (c.opcode = 0x85) || decide (c.opcode = 0x89)) && (s.kindNs c .cprog).isNone then
          (s.raiseAt Reg.SHD_ERR 2 Reg.SHD_ERR_LOC (2 * 2 ^ 28 + c.inst)).bump Reg.SHD_FAIL_CNT else s
      t.endEarly c .dataTransfer

/-- Table 2-12 by the request that faults. -/
def State.dmaFault (s : State) (k : DmaKind) (cause : DmaCause) : State :=
  match k with
  | .data tag => s.dataFault tag
  | .digest tag => match s.cmd? tag with
    | some c =>
      if s.gotAll c then s.setCmd { c with fail := c.fail.orElse (fun _ => some (.dataTransfer, 0, 0)) }
      else s.endEarly c .dataTransfer
    | none => s
  | .sink tag entry => match s.cmd? tag with
    | some c => s.failRun c .peerFailed 0 entry
    | none => s
  | .confirm tag entry => match s.cmd? tag with
    | some c =>
      match s.shd.find? (fun j => decide (j.tag = tag) && j.started) with
      | some j => s.shardFail j ((j.shardOf entry).getD 0) .peer
      | none => s.failRun c .peerFailed 0 entry
    | none => s
  | .fetch row =>
    let r := s.sqRow row
    (((s.setSq row { r with error := true }).instErr r.inst 3).qmgErr 0 false row).queueAen r.inst cause row 0
  | .entry row =>
    let r := s.cqRow row
    (((s.setCq row { r with error := true }).instErr r.inst 4).qmgErr 1 true row).queueAen r.inst cause 0xFFFF row
  | .message _ => s
  | .drawer seg => s.drawerFault seg
  | .bitmap i =>
    let r := s.inst i
    if r.dlog.running then s.setInst i { r with dlog := { r.dlog with fault := true, pend := [] } } else s
  | .press strand => s.pressFault strand 0x81
  | .shard i peer => match s.shd.find? (fun j => j.started) with
    | some j => s.shardFail j i (if peer then .peer else .host)
    | none => s

/-- DMA_FAULT (R58): HIF_ERR of the port, then the consequence for the requester. -/
def execDmaFault (kind : DmaKind) (cause : DmaCause) (s : State) : Result :=
  .next ((s.hifErr (s.faultPort kind) (causeBit cause)).dmaFault kind cause)

/-- COMPLETION_TIMEOUT (R36): CPL_TIMEOUT, and the failure as a DMA fault. -/
def execCompletionTimeout (kind : DmaKind) (s : State) : Result :=
  .next ((s.hifErr (s.faultPort kind) (causeBit .timeout)).dmaFault kind .timeout)

end Sys2Proof.Machine
end

