-- ==== Sys2Proof/Machine/Flush.lean ====
section
/-!
DEFINITION. The power-fail flush of Table 8-4 (R189 to R193) and the entries into HALTED (R30, R411).
-/

namespace Sys2Proof.Machine

/-- DEV_STATE code (Table 1-10). -/
def DevState.code : DevState → Nat
  | .boot => 0
  | .test => 1
  | .recovery => 2
  | .service => 3
  | .halted => 4

/-- The device enters HALTED: CSTS.CFS = 1, no command is fetched, the watchdog stops (Table 1-10, R396). -/
def State.halt (s : State) : State :=
  let h (p : Port) : Port := { p with ctrl := { p.ctrl with rdy := false, cfs := true } }
  let t : State := { s with dev := .halted, rebuilding := false, portA := h s.portA, portB := h s.portB }
  t.setPwr { t.pwr with wdRun := false, rom := none }

/-- What is left of an operation when the work it serves has stopped: its array time, and what it writes. -/
def LunOp.orphan (o : LunOp) : LunOp := { o with tag := none, slot := none, copy := none, ckpt := none, use := .host }

/-- An operation in flush mode: reads and programs finish, suspended programs are resumed, suspended erases stay suspended
(R124). -/
def LunOp.finish (o : LunOp) : LunOp :=
  if o.kind = .program then { o.orphan with suspended := false, suspReq := false } else o.orphan

/-- Steps 1 and 2 of Table 8-4: fetching and every job stop, commands in flight never complete, data of commands in
RECEIVING is dropped. No LUN starts an operation; those that run go on (R124). -/
def State.stopWork (s : State) : State :=
  let stop (_ : Nat) (t : Strand) : Strand := { t with leaves := [], outUsed := [], mover := [], press := [] }
  let lun (_ : Nat) (u : Lun) : Lun := { u with op := u.op.map LunOp.finish, rd := u.rd.map LunOp.finish, queue := [], ready := [] }
  let core (k : Nat) (c : Core) : Core := if k < 256 then { c with job := none, run := .off } else c
  let slots := (s.ftl.slots.filter (fun v => !v.grains.isEmpty || v.done)).map (fun v => { v with recv := [] })
  { s with
    cmds := [], runs := [], shd := [], soft := [], recon := []
    strands := Sparse.mapVal (fun _ => {}) stop s.strands, luns := Sparse.mapVal (fun _ => {}) lun s.luns
    cores := Sparse.mapVal Core.atReset core s.cores
    idx := { s.idx with held := [], taken := [], seqs := [] }
    ksu := { s.ksu with run := none, queued := none, dg := {}, owner := none, idle := none }
    ftl := { s.ftl with slots := slots, copies := [] } }

/-- The oldest `n` pending records are acknowledged; the others never are. -/
def State.commitFirst (s : State) : Nat → State
  | 0 => s.setChest { s.chest with pending := [] }
  | n + 1 => match s.chest.pending with
    | [] => s
    | r :: _ => State.commitFirst (s.commitRecord r) n

/-- Step 3: every PROGRAMMED slot receives its SPAN_COMMIT. -/
def State.commitProgrammed (s : State) : State :=
  s.ftl.slots.foldl (fun t v => if v.state = .programmed then
    State.journalNow t (t.commitSpan v.idx) (Change.spanCommit v.idx).bytes (t.spanSegs v.nsid v.span)
    else t) s

/-- Step 4: the programs that run end with a pass (log 192). -/
def State.endPrograms (s : State) : State :=
  s.luns.foldl (fun t e =>
    let ch := e.1 / 64
    let l := e.1 % 64
    match e.2.op with
    | some o =>
      if o.kind = .program then ((t.setLun ch l { e.2 with op := none }).countProgram ch o).progPassed ch l o else t
    | none => t) s

/-- Slots that the flush dumps: those that hold data not on media; what they had programmed is invalid data. -/
def Slot.toDump (v : Slot) : Bool := decide (v.state = .held) || decide (v.state = .receiving)

/-- A row of the Shelf for a flush image of `len` units; which one is a free value. -/
def State.flushRow (s : State) (len : Nat) : Option Nat :=
  let l := channels.flatMap (fun ch => (s.rowsWithRoom (s.superOf 7) ch len).map (·.1))
  l[s.freeVal % max 1 l.length]?

/-- Where a slot's flush image goes: a place in the stream of the flush, a superblock opened for it where no row takes it. -/
def State.flushPlace (s : State) (len : Nat) : State × Option Place :=
  let t := if (s.flushRow len).isSome then s else s.openSuper 7 true
  match t.flushRow len with
  | some k =>
    let ch := keyCh k
    let u := (t.row ch (keyLun k) (keyBlock k)).nextUnit
    let pages := match t.profile? ch with
      | some q => (q.pagesTouched u len).map (fun g => (⟨ch, keyLun k, keyBlock k, g⟩ : PageAt))
      | none => []
    (t.tick, some { ch := ch, lun := keyLun k, block := keyBlock k, unit := u, slc := true
                    stripes := if t.dieParity then t.joinAny 7 pages else [] })
  | none => (t, none)

/-- One slot is dumped: its grains, raw, as one flush image, programmed as class 0 work; its SLOT record notes it. Where the Shelf
has no row left, the slot is noted without one (log 192). -/
def State.dumpSlot (s : State) (last : Bool) (v : Slot) : State :=
  let bytes := v.grains.flatMap (·.2)
  let len := unitsOf bytes.length
  let note (t : State) (at_ : Option (Nat × Nat)) : State :=
    (t.putSlot { v with dumped := true, dump := at_, imgs := [], programs := 0 }).setChest { t.chest with seq := t.chest.seq + 1 }
  let q := s.flushPlace len
  match q.2 with
  | none => note q.1 none
  | some p => match q.1.placeImage 7 p len with
    | none => note q.1 none
    | some (t, m) =>
      let img : Img :=
        { ch := p.ch, maddr := m, len := len, shelf := true, raw := true, nsid := v.nsid, span := v.span, grain := some 65
          bytes := bytes, keyGen := ((t.nsOf v.nsid).map (·.keyGen)).getD 0, stripes := p.stripes }
      let u := (t.putImg img).countProgram p.ch (t.progOp p m len 0 .host)
      let w := u.programPages img 7 len (fun _ h => { h with kind := .flush, lastFlush := last })
      note w (some (p.ch, m))

/-- Every open stripe is closed early, and the parity pages not yet programmed are (step 5). -/
def State.flushParity (s : State) : State :=
  let t := ((s.ftl.stripes.filter (fun v => !v.closed)).map (·.id)).foldl State.closeStripe s
  t.ftl.stripes.foldl (fun u v => match v.parity with
    | some a => if v.done then u else (u.countProgram a.ch (u.parityOp v a .host)).parityPassed v a
    | none => u) t

/-- Steps 3 to 6: HELD slots are dumped, all of them or, when the supply fails first, those of `cut`; then the parity pages and
the pending records of the open rows. -/
def State.dump (s : State) (cut : Option (List Nat)) : State :=
  let mine := s.ftl.slots.filter (fun v => v.toDump && (match cut with
    | none => true
    | some l => l.contains v.idx))
  let t := mine.foldl (fun u v => u.dumpSlot (decide (some v.idx = mine.getLast?.map (·.idx)) && cut.isNone) v) s
  if cut.isSome then t
  else
    let u := t.flushParity.writeRecords
    let w := u.commitFirst u.chest.pending.length
    { w with luns := Sparse.mapVal (fun _ => {}) (fun _ x => { x with queue := [], ready := [] }) w.luns }

/-- Step 7: the SEAL, and the root with boot kind FLUSHED and the duration of the flush. -/
def State.sealFlush (s : State) (us : Nat) : State := s.sealWith false us

/-- Steps 1 to 7 of Table 8-4 in SERVICE; in PS3 and PS4 only step 7 (R193). With `cut` the supply fails before step 7. -/
def State.flush (s : State) (f : FlushRun) (cut : Option (List Nat)) : State :=
  if s.dev ≠ .service then s
  else if 3 ≤ s.pwr.ps then (if cut.isSome then s else s.sealFlush f.us)
  else
    let t := (((s.commitFirst f.recs).stopWork).endPrograms.commitProgrammed).dump cut
    if cut.isSome then t.setPwr { t.pwr with flush := true } else t.sealFlush f.us

/-- POWER_FAIL (R189, R30): in SERVICE the flush, then HALTED while PWR_GOOD stays high; in BOOT, TEST, RECOVERY and HALTED
the device only stops. `cut`: PWR_GOOD falls before the flush has ended, with only those slots dumped. -/
def execPowerFail (f : FlushRun) (cut : Option (List Nat)) (s : State) : Result :=
  .next (if s.pwr.cc0Wait then s
    else
      let t := (s.setPwr { s.pwr with pwrFailLow := true }).raise Reg.CHS_PLP_STAT 31
      let t := t.setCar { t.car with pwrFail := true }
      if s.dev = .service then
        let u := t.flush f cut
        if cut.isSome then u else u.halt
      else (t.stopWork).setPwr { t.pwr with rom := none })

/-- The device declares a fatal error in SERVICE: the flush, then HALTED (R30, Table 1-10). -/
def State.fatal (s : State) : State :=
  ((s.raise Reg.RST_ERR 1).flush ⟨s.chest.pending.length, 0⟩ none).halt

/-- THERMAL_SHUTDOWN (R411): at the second consecutive boundary at 110 °C the flush runs and the device enters HALTED. -/
def execThermalShutdown (f : FlushRun) (s : State) : Result :=
  .next (if s.pwr.hot < 2 || decide (s.dev = .halted) then s
    else ((s.raise Reg.RST_ERR 2).flush f none).halt)

end Sys2Proof.Machine
end

