-- ==== Sys2Proof/Machine/MemErrors.lean ====
section
/-!
DEFINITION. Uncorrectable memory and the patrol scrubber (R384 to R388, Tables 16-9 and 16-10).
-/

namespace Sys2Proof.Machine

/-! ### The log (R391) -/

/-- Count and log an uncorrectable line: the channel's UE log holds the first one until UE_DRAM reads 0. -/
def State.ueLog (s : State) (m line req id : Nat) : State :=
  let p := s.place m line
  let held := bitOf (s.reg Reg.MEP_ERR).toNat 1 && bitOf (s.reg (Reg.MEP_UE_LINE m)).toNat 31
  let t := s.bump (Reg.MEP_UE_CNT m)
  let u := if held then t else
    (t.setReg (Reg.MEP_UE_LINE m) (BitVec.ofNat 32 (2 ^ 31 + line % 2 ^ 29))).setReg (Reg.MEP_UE_INFO m)
      (BitVec.ofNat 32 (req % 16 * 2 ^ 28 + p.sub * 2 ^ 27 + p.rank * 2 ^ 26 +
        b2n ((s.drc m).poison.contains line) * 2 ^ 25 + id % 2 ^ 16))
  u.mepRaise 1 m 0

/-- The line is poisoned and takes a remap entry (R387). -/
def State.poisonLine (s : State) (m line : Nat) : State :=
  let t := s.remapLine m line
  let d := t.drc m
  if d.poison.contains line then t else t.setDrc m { d with poison := d.poison ++ [line] }

/-! ### The region action (Table 16-10) -/

/-- Read counters as after a power loss: the checkpointed value raised by L / 8 (R169). -/
def State.raiseReads (s : State) : State :=
  let t := s.setFtl { s.ftl with rows := Sparse.mapVal (fun _ => {}) (fun k r =>
    { r with reads := min 0xFFFFFF (r.saved + s.readLimit (keyCh k) r / 8) }) s.ftl.rows }
  t.ftl.rows.foldl (fun u e => u.disturbTest (keyCh e.1) (keyLun e.1) (keyBlock e.1)) t

/-- Grains the poisoned-grain list holds at most (R386). -/
def poisonMax : Nat := 65536

/-- A write-buffer grain whose data is lost: stored as zeros and listed; with the list full the slot is marked and the device
declares a fatal error. -/
def State.loseGrain (s : State) (v : Slot) (g : Nat) : State :=
  let zeros (x : Nat × List Byte) : Nat × List Byte := if x.1 = g then (g, List.replicate x.2.length 0) else x
  match s.slotAt v.idx with
  | none => s
  | some w =>
    if !(w.grains.map (·.1)).contains g then s
    else
      let t := (s.putSlot { w with grains := w.grains.map zeros }).mepRaise 8 7 0
      if t.dram.grains.contains (v.nsid, v.span, g) then t
      else if t.dram.grains.length < poisonMax then
        t.setDram { t.dram with grains := t.dram.grains ++ [(v.nsid, v.span, g)] }
      else
        match t.slotAt v.idx with
        | some x => ((t.putSlot { x with lost := true }).mepRaise 9 7 0).fatal
        | none => t

/-- The action of the line's region. -/
def State.regionAction (s : State) (r : Region) : State :=
  match r with
  | .map k => s.setSeg k { s.seg k with resident := false, homed := false, slot := none }
  | .index p =>
    let t := s.idxRaise 4 p 0
    if t.idx.damaged.contains p then t else t.setIdx { t.idx with damaged := t.idx.damaged ++ [p] }
  | .buffer n sp gs => match s.slotOf n sp with
    | some v => gs.foldl (fun t g => t.loseGrain v g) s
    | none => s
  | .slm n l =>
    let k := n * 2 ^ 34 + l
    if s.dram.slmPoison.contains k then s else s.setDram { s.dram with slmPoison := s.dram.slmPoison ++ [k] }
  | .fwCopied => s.raiseReads
  | .drawerDir ks => ks.foldl (fun t k => t.setSeg k { t.seg k with slot := none, homed := false }) s
  | .fwOther => s.fatal

/-! ### The requester (Table 16-9) -/

/-- The shard being formed: that of the first write not issued. -/
def State.shardMemory (s : State) : State :=
  match s.shd.find? (fun j => j.started) with
  | some j => s.shardFail j (j.nextShard.getD 0) .memory
  | none => s

/-- An uncorrectable DRAM line ends the engine job that met it: 5 Press direct job of Strand `id` / 8, 6 shard engine, 7
cipher engine, whose job is halted and ends with what it had read, 11 read-back check. The loads of cores and the commands that read SLM meet the poisoned line themselves. -/
def State.requesterFails (s : State) (m req id : Nat) (r : Region) : State :=
  match req with
  | 5 => match r with
    | .buffer _ _ _ => s
    | _ => s.pressFault (id / 8) 0x81
  | 6 => s.shardMemory
  | 7 => match s.ksu.run with
    | some j => s.setKsu { s.ksu with run := some { j with halted := true } }
    | none => s
  | 11 => s.checkArea m false
  | _ => s

/-- An uncorrectable line of channel `m` (R385 to R387). -/
def State.ueDram (s : State) (m line req id : Nat) (r : Region) : State :=
  (((s.ueLog m line req id).requesterFails m req id r).poisonLine m line).regionAction r

/-- DRAM_UNCORRECTABLE_ERROR (R386). -/
def execDramUncorrectableError (ch line req id : Nat) (region : Region) (s : State) : Result :=
  .next (if s.working.contains ch && decide (line < s.chLines ch) then s.ueDram ch line req id region else s)

/-! ### SRAM (R385, R388) -/

/-- What an uncorrectable word does to the core or engine whose memory it is. Class numbers are those of Table 16-8. -/
def State.sramBad (s : State) (cls inst word : Nat) : State :=
  let add (l : List Nat) (x : Nat) : List Nat := if l.contains x then l else l ++ [x]
  match cls with
  | 0 =>
    let t := s.strand inst
    s.setStrand inst { t with bad := add (add t.bad (2 * word)) (2 * word + 1) }
  | 1 =>
    let t := s.strand inst
    s.setStrand inst { t with badCode := add (add t.badCode (2 * word)) (2 * word + 1) }
  | 2 =>
    let c := s.core inst
    s.setCore inst { c with bad := add (add c.bad (2 * word)) (2 * word + 1) }
  | 3 =>
    let c := s.core (256 + inst)
    s.setCore (256 + inst) { c with bad := add (add c.bad (2 * word)) (2 * word + 1) }
  | 4 =>
    match (Sparse.get (fun _ => []) s.icache inst)[word / 16]? with
    | some line =>
      let a := 32 * line + 2 * (word % 16)
      let l := add (add (Sparse.get (fun _ => []) s.icacheBad inst) a) (a + 1)
      { s with icacheBad := Sparse.set (fun _ => []) s.icacheBad inst l }
    | none => s
  | 6 => s.pressFault inst 0x82
  | 10 => s.shardMemory
  | _ => s

/-- A host read of a register backed by SRAM: poisoned data, or a Completer Abort (Table 16-9). -/
def State.hostUe (s : State) (off : Nat) : State :=
  let t := s.mepRaise 7 7 0
  t.emit (if bitOf (s.inForce Reg.MEP_CTL).toNat 0 then .poisoned off else .abort off)

/-- The command an engine was at work for: Unrecovered Read Error, with CLP_ERR.MEM_UNCORR for the Clasp (R228) or
STR_ERR.BUF_UNCORR for a Strand buffer (R220). -/
def State.engineUe (s : State) (cls inst tag : Nat) : State :=
  match s.cmd? tag with
  | none => s
  | some c =>
    let t := if cls = 5 then s.clpRaise 3 c.inst else if cls = 0 then s.strRaise inst 5 0 0 else s
    t.failRun c .unrecoveredRead 0 0

/-- SRAM_UNCORRECTABLE_ERROR (R388): counted, logged, remapped to a poisoned spare. -/
def execSramUncorrectableError (cls inst word synd : Nat) (req : SramReq) (s : State) : Result :=
  .next (
    let mac := macroOf cls inst
    let t := (((s.bump Reg.MEP_SRAM_UE_CNT).sramLog mac word synd true).mepRaise 3 7 mac).remapWord mac word
    let u := t.sramBad cls inst word
    match req with
    | .core => u
    | .host off => u.hostUe off
    | .engine tag => if cls = 0 ∨ cls = 5 then u.engineUe cls inst tag else u)

/-! ### The scrubber (R384) -/

/-- PATROL_SCRUB_READ: the next line of the pass; the scrubber pauses in PS3 and PS4 (R406) and with a period of 0. -/
def execPatrolScrubRead (find : ScrubFind) (s : State) : Result :=
  .next (
    if !s.dram.scrub || decide (3 ≤ s.pwr.ps) then s
    else if s.fieldNow Reg.MEP_SCRUB_PERIOD 9 0 = 0 then s.setDram { s.dram with scrub := false, scrubAt := 0 }
    else match scrubPlace s.chLines s.working s.dram.scrubAt with
      | none => s.scrubNext
      | some (m, line) =>
        let t := s.setDram { s.dram with scrubAll := s.dram.scrubAll + 1 }
        let u := match find with
          | .clean => t
          | .correctable d b y => t.ceDram m line d b y
          | .uncorrectable r => t.ueDram m line 0 0 r
        u.scrubNext)

end Sys2Proof.Machine
end

