-- ==== Sys2Proof/Machine/Board.lean ====
section
/-!
DEFINITION. What firmware brings up at boot (R109 to R117, R365 to R377): the media profiles and NAND channels, the
characterization record and DRAM channels, the placement of the DRAM regions.
-/

namespace Sys2Proof.Machine

/-- Bytes `[at, at + 4)` as 0: a CRC field is taken as 0 in its own CRC. -/
def zeroAt (l : List Byte) (a : Nat) : List Byte := l.take a ++ [0, 0, 0, 0] ++ l.drop (a + 4)

/-! ### Media profiles (R114, R117, Tables 5-2 to 5-4) -/

/-- The NV-LPDDR4 rates of Table 5-1, MT/s. -/
def lpRates : List Nat := [800, 1600, 2400, 3200, 4000, 4800]

def parseProfile (b : List Byte) : Profile :=
  let f := leField b
  let tim := f 88 4
  { idValue := slice b 16 8, idMask := slice b 24 8, cell := f 32 1, planes := f 33 1, blocks := f 36 4
    pagesNative := f 40 2, pagesSlc := f 42 2, cwPerPage := f 44 2, maxRate := f 48 2
    xr := bitOf (f 50 1) 0, xrByte := f 51 1, xrMask := f 52 1, xrMargin := f 53 1
    peSlc := f 56 4, peNative := f 60 4, rdSlc := f 64 3, rdNative := f 68 3, flipRefresh := f 72 2
    psuspMax := f 74 1, esuspMax := f 75 1, resumeMin := f 76 2, rdBurst := f 78 1
    typ := (List.range 14).map (fun i => f (tim + 8 * i) 4)
    nretrySlc := f (f 92 4) 1, nretryNative := f (f 92 4 + 1) 1
    spare := f 46 2, passes := f 79 1, mpRule := f 86 1, retryFa := f 87 1, levels := f (f 92 4 + 2) 1
    retry := (List.range (f (f 92 4) 1 + f (f 92 4 + 1) 1)).map (fun e => slice b (f 92 4 + 8 + 32 * e) 32)
    feats := (List.range (f (f 96 4) 1)).map (fun e => (f (f 96 4 + 8 + 8 * e) 1, slice b (f 96 4 + 9 + 8 * e) 4)) }

/-- SIG, VERSION, HDRLEN and CRC match, and every field lies within its range, the reserved bits of XR and MP_RULE among them;
bytes and bits that are reserved as a whole (bytes 34, 35, 54, 55, 100 to 127, RD_LIMIT [31:24]) are not tested (log 194). -/
def profileValid (b : List Byte) : Bool :=
  let f := leField b
  let p := parseProfile b
  let tot := f 8 4
  let rng (v lo hi : Nat) : Bool := decide (lo ≤ v) && decide (v ≤ hi)
  let levels := f (f 92 4 + 2) 1
  let d1 := f (f 92 4 + 3) 1
  let d2 := f (f 92 4 + 4) 1
  let d3 := f (f 92 4 + 5) 1
  decide (slice b 0 4 = [0x4D, 0x50, 0x52, 0x46]) && decide (f 4 2 = 3) && decide (f 6 2 = 128) && rng tot 128 65536 &&
  decide (tot ≤ b.length) && decide ((crc32c (zeroAt (b.take tot) 12)).toNat = f 12 4) &&
  rng p.cell 3 5 && [1, 2, 4, 8].contains p.planes && rng p.blocks 1 65536 && rng p.pagesNative 1 4096 &&
  rng p.pagesSlc 1 1024 && rng p.cwPerPage 1 8 && decide (80 ≤ f 46 2) && lpRates.contains p.maxRate &&
  decide (f 50 1 < 2) && rng p.xrMargin 1 32 && rng p.flipRefresh 1 400 && rng p.psuspMax 0 4 && rng p.esuspMax 0 8 &&
  rng p.resumeMin 10 1000 && rng p.rdBurst 1 16 && rng p.passes 1 2 && rng (f 80 1) 0 1 && bitOf p.mpRule 0 &&
  decide (p.mpRule < 8) && decide (f 88 4 + 112 ≤ tot) && decide (f 92 4 + 8 ≤ tot) && decide (f 96 4 + 8 ≤ tot) &&
  rng p.nretrySlc 0 15 && rng p.nretryNative 0 15 && decide (levels = 2 ^ p.cell - 1) && rng d1 1 63 && rng d2 1 63 &&
  rng d3 1 63 && decide (d1 < d2) && decide (d2 < d3) && rng (f (f 96 4) 1) 0 16

/-- READ ID bytes 0–7 match under the mask. -/
def Profile.matchesId (p : Profile) (id : List Byte) : Bool :=
  (List.range 8).all (fun i => decide (nth 0 id i &&& nth 0 p.idMask i = nth 0 p.idValue i &&& nth 0 p.idMask i))

/-- Index of the first valid profile that matches. -/
def profileFor (profiles : List (List Byte)) (id : List Byte) : Option Nat :=
  (List.range profiles.length).find? (fun i =>
    profileValid (nth [] profiles i) && (parseProfile (nth [] profiles i)).matchesId id)

/-! ### NAND channels (R109, R111 to R116) -/

def lunOf (b : Boot) (ch l : Nat) : Option LunBoot := b.luns.find? (fun x => decide (x.ch = ch) && decide (x.lun = l))

/-- Profile of a channel: that of LUN 0 of volume 0. -/
def chanProfile (b : Boot) (ch : Nat) : Option Nat := (lunOf b ch 0).bind (fun x => profileFor b.profiles x.id)

/-- The LUN answers, matches the channel's profile and offers a rate that the device has. -/
def lunUsable (b : Boot) (ch l : Nat) : Bool :=
  match lunOf b ch l, chanProfile b ch with
  | some x, some i => (parseProfile (nth [] b.profiles i)).matchesId x.id && decide (800 ≤ x.rate)
  | _, _ => false

/-- Block rows the Chest holds (R116). -/
def rowLimit : Nat := 6291456

/-- Usable LUNs, device-wide indices rising, as far as their rows fit; the rows of a LUN left unused stay in the count (log
193). -/
def usedLuns (b : Boot) : List Nat :=
  ((List.range 2048).foldl (fun (a : List Nat × Nat) k =>
    if lunUsable b (k / 64) (k % 64) then
      let n := a.2 + (match chanProfile b (k / 64) with
        | some i => (parseProfile (nth [] b.profiles i)).blocks
        | none => 0)
      (if n ≤ rowLimit then a.1 ++ [k] else a.1, n)
    else a) ([], 0)).1

/-- Highest rate of Table 5-1 that the profile and every used LUN of the channel allow. -/
def chanRate (b : Boot) (used : List Nat) (ch : Nat) (p : Profile) : Nat :=
  let lim := ((used.filter (fun k => decide (k / 64 = ch))).map (fun k =>
    ((lunOf b ch (k % 64)).map (·.rate)).getD 0)).foldl min p.maxRate
  (lpRates.filter (fun r => decide (r ≤ lim))).foldl max 0

/-- A LUN that answers, as it comes up with the features of its profile applied; a FAILED one stays so only at a watchdog reset
(R132). One that does not match the channel's profile is left out before its rate is looked at (R115). -/
def State.bringLun (s : State) (b : Boot) (used : List Nat) (kind : ResetKind) (x : LunBoot) : State :=
  let old := s.lun x.ch x.lun
  let keep := decide (kind = .watchdog)
  match chanProfile b x.ch with
  | none => s.setLun x.ch x.lun {}
  | some i =>
    let p := parseProfile (nth [] b.profiles i)
    if !used.contains (64 * x.ch + x.lun) then
      let t := s.setLun x.ch x.lun {}
      if p.matchesId x.id && decide (x.rate < 800) then t else t.raise (Reg.MED_ERR x.ch) 9
    else
      s.setLun x.ch x.lun
        { state := if keep ∧ old.state = .failed then .failed else .active
          timeouts := if keep then old.timeouts else 0, lastRetry := if keep then old.lastRetry else 0
          matched := true, feats := p.features, xrDeclared := decide ((nth 0 x.page p.xrByte).toNat &&& p.xrMask = p.xrMask) }

/-- One channel comes up and calibrates; one that no valid profile matches sets PROFILE_MISMATCH (R114). -/
def State.bringChan (s : State) (b : Boot) (used : List Nat) (kind : ResetKind) (ch : Nat) : State :=
  match chanProfile b ch with
  | none => (s.setChan ch { xrFailed := (s.chan ch).xrFailed }).raise (Reg.MED_ERR ch) 9
  | some i =>
    let p := parseProfile (nth [] b.profiles i)
    (s.setChan ch { base := chanRate b used ch p, profile := some i, xrFailed := (s.chan ch).xrFailed }).calibrate ch (decide (kind = .por))

/-- Rows of a LUN at first format: every block that is not factory bad is free. -/
def State.formatLun (s : State) (b : Boot) (ch l blocks : Nat) : State :=
  (List.range blocks).foldl (fun t k =>
    if b.bad.contains (ch, l, k) then t else t.setRow ch l k { state := .free }) s

/-- First format (R175): the rows present and those good, and the index hash key (R251). -/
def State.format (s : State) (b : Boot) (used : List Nat) : State :=
  let blocks (k : Nat) : Nat := match chanProfile b (k / 64) with
    | some i => (parseProfile (nth [] b.profiles i)).blocks
    | none => 0
  let t := used.foldl (fun u k => u.formatLun b (k / 64) (k % 64) (blocks k)) s
  let total := (used.map blocks).sum
  let u := t.setFtl { t.ftl with totalRows := total, fmtRows := t.ftl.rows.length, fmtLuns := used.length }
  (u.setIdx { u.idx with hashKey := BitVec.ofNat 128 u.freeVal }).tick

/-- The result of one calibration at bring-up. -/
def State.calResult (s : State) (r : Nat × Nat × Bool) : State :=
  match execCalibrationComplete r.1 r.2.1 r.2.2 s with
  | .next t => t
  | _ => s

/-- The NAND channels come up (step 4 of Table 8-7): a LUN that does not answer is ABSENT (R109); the first format comes before
a calibration may fail a LUN. -/
def State.bringNand (s : State) (b : Boot) (kind : ResetKind) : State :=
  let used := usedLuns b
  let s0 : State := { s with
    profiles := b.profiles.map parseProfile
    luns := if kind = .watchdog then s.luns.filter (fun e => (lunOf b (e.1 / 64) (e.1 % 64)).isSome) else [] }
  let s1 := b.luns.foldl (fun t x => t.bringLun b used kind x) s0
  let s2 := channels.foldl (fun t ch => t.bringChan b used kind ch) s1
  let s3 := if s2.ftl.totalRows = 0 then s2.format b used else s2
  let s4 := b.cal.foldl State.calResult s3
  s4.setFtl { s4.ftl with reloc := s4.ftl.reloc.filter (fun k => decide ((s4.lun (k / 64) (k % 64)).state = .failed)) }

/-! ### DRAM (R365, R366, R372, R373, R377) -/

/-- Codes of the rates (DRC_CFG.RATE). -/
def drcRate (r : Nat) : Nat :=
  match r with
  | 4800 => 1
  | 5600 => 2
  | 6400 => 3
  | 7200 => 4
  | 8000 => 5
  | _ => 0

/-- The characterization record's own checks. -/
def recordValid (r : List Byte) : Bool :=
  let f := leField r
  let tot := f 8 4
  decide (slice r 0 4 = [0x44, 0x43, 0x48, 0x52]) && decide (f 4 2 = 1) && decide (1 ≤ f 6 2) && decide (f 6 2 ≤ 6) &&
  decide (tot = 64 + f 6 2 * 768) && decide (tot ≤ r.length) &&
  decide ((crc32c (zeroAt (r.take tot) 12)).toNat = f 12 4) && decide (f 16 1 ≤ 100) && decide (f 16 1 + 5 ≤ f 17 1) &&
  decide (f 17 1 ≤ 105) && decide (1 ≤ f 18 1) && decide (f 18 1 ≤ 10)

/-- A delay set is valid: its CRC, and the board's rate. -/
def setValid (r : List Byte) (rate m band : Nat) : Bool :=
  let d := slice r (64 + 768 * m + 256 * band) 256
  decide (leField d 0 2 = rate) && decide ((crc32c (d.take 252)).toNat = leField d 252 4)

/-- Capacity of a configuration of Table 16-1 in GiB; 0 for none of them. -/
def drcGib (density : Nat) (ranks2 : Bool) : Nat :=
  if density = 1 then (if ranks2 then 32 else 16) else if density = 2 ∧ ranks2 = false then 32 else 0

/-- Channel `m` comes up: it matches the board record, and its read-back check passes; a FAILING channel fails it (R389). -/
def State.bringDrc (s : State) (b : Boot) (por : Bool) (m : Nat) : State :=
  let old := s.drc m
  let base : Drc := { remap := old.remap, rd := if por then 0 else old.rd, wr := if por then 0 else old.wr }
  match nth none b.dram m with
  | none => s.setDrc m base
  | some d =>
    let ok := recordValid b.record && decide (m < leField b.record 6 2) && decide (drcRate b.board.1 ≠ 0) &&
      decide (d.density = b.board.2.1) && decide (d.ranks2 = b.board.2.2) && decide (drcGib d.density d.ranks2 ≠ 0) &&
      d.check && !old.failing
    let cfg := drcRate b.board.1 * 2 ^ 28 + d.density * 2 ^ 26 + b2n d.ranks2 * 2 ^ 25 + drcGib d.density d.ranks2
    if ok then
      let sets := (List.range 3).map (setValid b.record b.board.1 m)
      let t := (s.setDrc m { base with state := .up, setOk := sets }).setReg (Reg.DRC_CFG m) (BitVec.ofNat 32 cfg)
      let u := (List.range 6).foldl (fun x i => x.setReg (Reg.DRC_TIM m i) (nth 0 b.timing i)) t
      let v := if sets.all (fun x => x) then u else u.drcRaise m 1 0 0 0 0
      if nth false sets 0 then v else v.setDrc m { v.drc m with state := .disabled }
    else (s.setDrc m { base with state := .disabled }).drcRaise m 0 0 0 0 0

/-- Channels SEALED: those designated that work, a lowest undesignated working channel in place of each other one (R377). -/
def sealFill (work : List Nat) : List Nat → List Nat → List Nat
  | [], got => got
  | c :: t, got =>
    if work.contains c then sealFill work t (got ++ [c])
    else match work.find? (fun x => !got.contains x && !t.contains x) with
      | some x => sealFill work t (got ++ [x])
      | none => sealFill work t got

/-- Regions of R29 that get DRAM: map, index, write buffer, SLM, in this order until one does not fit (R373). -/
def placeRegions (total fw idx wb slm : Nat) : List Bool :=
  let sums := [fw + 8192 * 65536, idx, wb, slm].foldl (fun (a : List Nat × Nat) n => (a.1 ++ [a.2 + n], a.2 + n)) ([], 0)
  sums.1.map (fun n => decide (n ≤ total))

/-- DRAM comes up with a new interleave key, its contents lost (R367, Table 17-6). -/
def State.bringDram (s : State) (b : Boot) (por : Bool) : State :=
  let ok := recordValid b.record
  let f := leField b.record
  let s1 := (s.setDram { s.dram with
    key := BitVec.ofNat 64 s.freeVal, words := [], slm := [], slmPoison := [], sramTrack := [], scrub := false, scrubAt := 0
    scrubAll := if por then 0 else s.dram.scrubAll, passes := if por then 0 else s.dram.passes
    t1 := if ok then f 16 1 else 0, t2 := if ok then f 17 1 else 0, hyst := if ok then f 18 1 else 0
    rowperm := if ok then (slice b.record 20 18).map (fun x => x.toNat) else [] }).tick
  let s2 := (List.range 6).foldl (fun t m => t.bringDrc b por m) s1
  let want := (List.range 6).filter (fun m => bitOf (s2.reg Reg.MEP_SEALED_CFG).toNat m)
  let got := sealFill s2.working want []
  let s3 := s2.setDram { s2.dram with sealedCh := got }
  s3.working.foldl (fun t m => t.setDrc m { t.drc m with isSealed := got.contains m }) s3

/-- The regions are placed and the map loaded: with too little room it spills, the first segments resident (R150, R373). -/
def State.placeDram (s : State) : State :=
  let pl := placeRegions s.dramBytesTotal s.fwBytes (s.idx.gib * 2 ^ 30) (s.ftl.wbGib * 2 ^ 30) s.slmTotal
  let s1 := (s.setDram { s.dram with placed := pl }).setIdx { s.idx with placed := nth true pl 1 }
  let s2 := if pl.all (fun x => x) then s1 else s1.mepRaise 10 7 0
  let fits := decide (s2.spanMapBytes + s2.ftl.grainGib * 2 ^ 30 ≤ s2.mapSpace)
  let room := max 8192 (s2.mapSpace / 65536)
  let all := s2.mapSegs
  s2.setFtl { s2.ftl with
    segs := if fits then [] else (all.drop room).map (fun k => (k, { resident := false }))
    drawer := if fits then {} else { room := some room, need := all.length - room } }

end Sys2Proof.Machine
end

