-- ==== Sys2Proof/Machine/Recovery.lean ====
section
/-!
DEFINITION. The resets that rerun the ROM (R392 to R404), the boot (Table 17-2), recovery (Table 8-7) and rebuild without
the Chest (R197, R198).
-/

namespace Sys2Proof.Machine

/-! ### What a reset keeps (Table 17-6) -/

/-- Registers kept in PERSIST (R158, R202, R252, R377). -/
def persisted : List Nat :=
  [Reg.FTL_GRAIN_CFG, Reg.FTL_WB_CFG, Reg.CHS_CKPT_PERIOD, Reg.CHS_CKPT_CTL, Reg.CHS_REBUILD_WAIT, Reg.CHS_PLP_CFG,
    Reg.IDX_CFG, Reg.MEP_SEALED_CFG]

/-- First-event captures and last-event logs, which go with the sticky bits: base, stride, count. -/
def captures : List (Nat × Nat × Nat) :=
  [(0x20014, 0, 1), (0x80018, 0x4000, 32), (0x100030, 0, 1), (0x10071C, 0, 1), (0x120008, 0, 1), (0x140010, 0x2000, 32),
    (0x180008, 0, 1), (0x140410, 0x2000, 32), (0x190018, 0, 1), (0x1A0008, 0, 1), (0x1B0010, 0, 1), (0x1C0008, 0, 1),
    (0x1D0018, 0x2000, 6), (0x1F0014, 0, 1), (0x1F0100, 0x20, 6), (0x1F0104, 0x20, 6), (0x1F0108, 0x20, 6),
    (0x1F010C, 0x20, 6), (0x1F0200, 0, 1), (0x1F0204, 0, 1)]

/-- 64-bit counts since POR: low registers (Tables 5-12 to 14-13). -/
def porPairs : List (Nat × Nat × Nat) :=
  [(0x80020, 0x4000, 32), (0x80028, 0x4000, 32), (0x100410, 0, 1), (0x100418, 0, 1), (0x140300, 0x2000, 32),
    (0x180010, 0, 1), (0x140420, 0x2000, 32), (0x140428, 0x2000, 32), (0x1A0018, 0, 1), (0x1A0020, 0, 1), (0x1B0610, 0, 1)]

/-- `off` is an element of an array of registers. -/
def inArray (off : Nat) (a : Nat × Nat × Nat) : Bool :=
  (RegRow.mk a.1 a.2.1 a.2.2 0 1 0 false []).holds off

/-- Sticky error bits, their captures and RC counters. -/
def isSticky (off : Nat) : Bool :=
  captures.any (inArray off) || (match regRow off with
    | some r => r.fields.any (fun f => decide (f.acc = .w1c) || decide (f.acc = .rc))
    | none => false)

/-- A register keeps its value at a reset of that kind that reruns the ROM. -/
def regKept (k : ResetKind) (off : Nat) : Bool :=
  match k with
  | .por => false
  | .watchdog => decide (off = Reg.RST_CNT) || isSticky off || linkReg off || pairReg off
  | .soft => decide (off = Reg.RST_CNT) || decide (off = Reg.RST_ERR) || linkReg off || pairReg off
  | .perst => decide (off = Reg.RST_CNT) || decide (off = Reg.RST_ERR) || pairReg off
where
  linkReg (off : Nat) : Bool := decide (off = Reg.HIF_LINK_CTL 0) || decide (off = Reg.HIF_LINK_CTL 1)
  pairReg (off : Nat) : Bool := porPairs.any (fun p => inArray off p || inArray (off - 4) p)

/-- What a port keeps: link and configuration space at a soft chip reset and a watchdog reset, after which CSTS.CFS reads 1
for a watchdog reset. -/
def Port.afterReset (p : Port) (k : ResetKind) : Port :=
  match k with
  | .por => {}
  | .perst => {}
  | .soft => { p with atc := [], ctrl := {}, hmb := [], hmbOn := false }
  | .watchdog => { p with atc := [], ctrl := { cfs := true }, hmb := [], hmbOn := false }

def ResetKind.code : ResetKind → Nat
  | .por => 0
  | .perst => 1
  | .soft => 2
  | .watchdog => 3

/-- Power, reset and temperature state after a reset. -/
def Power.afterReset (p : Power) (k : ResetKind) (from_ : Nat) (fl : Bool) : Power :=
  match k with
  | .por => { fuses := p.fuses, perstLow := true }
  | _ =>
    { fuses := p.fuses, perstLow := p.perstLow, sensors := p.sensors, tj := p.tj, hot := p.hot, throttle := p.throttle
      steady := p.steady, res := p.res, throt := p.throt, cause := k, from_ := from_, flushed := fl, bootStat := p.bootStat }

/-- Pins after a reset (Table 18-2): the straps stay latched and THERM_N asserted until POR; the link's pins stay where the link
is kept. -/
def Pins.afterReset (p : Pins) (k : ResetKind) : Pins :=
  match k with
  | .por => { gpioIn := p.gpioIn, tap := p.tap }
  | .perst => { gpioIn := p.gpioIn, tap := p.tap, dual := p.dual, console := p.console, thermN := p.thermN }
  | _ =>
    { gpioIn := p.gpioIn, tap := p.tap, dual := p.dual, console := p.console, thermN := p.thermN, peTx := p.peTx, clkreq := p.clkreq }

/-- Write-buffer slots as recovery finds them: those of a flush wait with their dump. -/
def State.resetFtl (s : State) : Ftl :=
  { s.ftl with
    rewrites := [], copies := [], coalesce := [], coalRead := [], pressure := false, supers := [], gcOn := false, gcSel := none
    splinterTimer := 0, wlTimer := 0, recompute := false, sealGen := s.ftl.sealGen + 1
    slots := (s.ftl.slots.filter (fun v => !v.done && !v.grains.isEmpty)).map (fun v => { v with recv := [] }) }

/-- The stored configuration in PERSIST: the register values written while firmware served (R202). -/
def State.persistNow (s : State) : List (Nat × DWord) :=
  if s.dev = .service ∨ s.dev = .halted then persisted.map (fun o => (o, s.reg o)) else s.chest.persist

/-- What a DRAM channel keeps at a reset: its remap table, its failing margin (R389), and but for POR its access counts. -/
def Drc.afterReset (por : Bool) (d : Drc) : Drc :=
  { remap := d.remap, failing := d.failing, rd := if por then 0 else d.rd, wr := if por then 0 else d.wr }

/-- A reset that reruns the ROM, up to the start of the ROM (R392, Table 17-6). -/
def State.deviceReset (s : State) (k : ResetKind) (fl : Bool) : State :=
  let por := decide (k = .por)
  let t := s.carStop
  let u : State := { t with
    regs := t.regs.filter (fun e => regKept k e.1), held := [], stage := []
    beat := if por then 0 else t.beat
    dev := .boot, rebuilding := false
    portA := t.portA.afterReset k, portB := t.portB.afterReset k
    idsLoaded := t.idsLoaded && (decide (k = .soft) || decide (k = .watchdog))
    sq := [], cq := [], imt := [], qdata := [0, 0, 0, 0, 0, 0], cmds := [], insts := [], peers := [], peerNext := [], progs := []
    chans := t.chans.map (fun c => { xrFailed := c.xrFailed && !por }), soft := [], recon := []
    dram := { t.dram with scrub := false, scrubAt := 0, scrubTimer := none, sealedCh := []
                          scrubAll := if por then 0 else t.dram.scrubAll, passes := if por then 0 else t.dram.passes
                          ch := t.dram.ch.map (Drc.afterReset por) }
    ns := if por then Sparse.mapVal (fun _ => none) (fun _ v => v.map (fun n => { n with resv := {} })) t.ns else t.ns
    subsys := if k = .soft ∨ k = .watchdog then t.subsys else 0
    luns := if k = .watchdog then Sparse.mapVal (fun _ => {}) (fun _ u => { u with op := none, rd := none, queue := [], ready := [] }) t.luns
      else []
    ftl := t.resetFtl
    chest := { t.chest with pending := [], ckptActive := false, ckptAgain := false, ckptLeft := [], ckptBusy := [], ckptTimer := 0
                            dirty := (t.chest.dirty ++ t.chest.ckptLeft).dedup, persist := s.persistNow }
    fw := []
    rebuild := {}
    strands := if por then [] else Sparse.mapVal (fun _ => {}) (fun _ v => { cyc := v.cyc }) t.strands
    runs := [], shd := [], cores := [], icache := [], icacheBad := [], route := []
    idx := { t.idx with held := [], taken := [], seqs := [], damaged := [] }
    ksu := { slots := t.ksu.slots.map (fun v => { gcm := v.gcm }) }
    pwr := t.pwr.afterReset k s.dev.code fl
    pins := t.pins.afterReset k }
  let v := match k with
    | .por => u.setCar { u.car with cfgRead := false }
    | .perst => (u.count Reg.RST_CNT 15 8 1).carInit false
    | .soft => (u.count Reg.RST_CNT 23 16 1).carInit false
    | .watchdog => ((u.count Reg.RST_CNT 31 24 1).raise Reg.RST_ERR 0).carInit false
  if k = .por then v else v.setPwr { v.pwr with pwrFailLow := false }

/-! ### Recovery (R195 to R198, Table 8-7) -/

/-- Firmware returns to the configuration in PERSIST; sizes take effect at the map load. -/
def State.restoreConfig (s : State) : State :=
  let t := s.chest.persist.foldl (fun u e => u.setReg e.1 e.2) s
  t.setFtl { t.ftl with grainGib := t.field Reg.FTL_GRAIN_CFG 4 0, wbGib := t.field Reg.FTL_WB_CFG 5 0 }

/-- Every item placed again under a new size; `none` where one does not fit (R252). -/
def Idx.rehash (x : Idx) (gib seed : Nat) : Option Idx :=
  let items := (x.table ++ x.stash).map (·.2)
  items.foldl (fun (o : Option Idx) e => match o with
    | some y => y.insert seed e
    | none => none) (some { x with table := [], stash := [], gib := gib })

/-- The index takes its configured size at the map load, or keeps the size in force (R252). -/
def State.loadIndex (s : State) : State :=
  let gib := s.field Reg.IDX_CFG 5 0
  if gib = s.idx.gib then s
  else match s.idx.rehash gib s.freeVal with
    | some x => (s.setIdx x).tick
    | none => ((s.setField Reg.IDX_CFG 5 0 s.idx.gib).idxRaise 0 0 0).tick

/-- A slot whose data is lost: its entries revert to the old entries of its SLOT record (R195). -/
def State.revertSlot (s : State) (v : Slot) : State :=
  let e := s.spanEntry v.nsid v.span
  let t := if eWbuf e && decide (eMaddr e = v.idx) then s.setSpan v.nsid v.span v.old else s
  let u := v.oldGrains.foldl (fun x g =>
    let c := x.grainEntry v.nsid v.span g.1
    if eWbuf c && decide (eMaddr c = v.idx) then x.setGrain v.nsid v.span g.1 g.2 else x) t
  ((u.setMask v.nsid v.span v.oldMask).dropSlot v.idx).chsRaise 3 v.idx

/-- A slot whose flush images are complete returns to HELD (R194). -/
def Slot.restored (v : Slot) : Slot :=
  { v with state := .held, fresh := v.grains.map (·.1), imgs := [], programs := 0, tags := [], flight := []
           stuck := false, done := false }

/-- Flushed slots return, the others are lost and counted (R195). -/
def State.recoverSlots (s : State) : State :=
  let ok (v : Slot) : Bool := v.dumped && !v.lost
  let gone := s.ftl.slots.filter (fun v => !ok v)
  let t := gone.foldl State.revertSlot s
  let u := t.setFtl { t.ftl with slots := t.ftl.slots.map Slot.restored }
  u.setReg Reg.CHS_LOST_SLOTS (BitVec.ofNat 32 gone.length)

/-- Images whose records are lost with the Chest: the entries found in their place (R198). -/
def State.loseImages (s : State) (l : List (Nat × Nat × Option Nat × BitVec 64)) : State :=
  l.foldl (fun t e =>
    let u := match e.2.2.1 with
      | none => t.setSpan e.1 e.2.1 e.2.2.2
      | some g => t.setGrain e.1 e.2.1 g e.2.2.2
    u.chsRaise 3 0) s

/-- Rows at recovery: open erase-start records leave SUSPECT rows (R131), open rows are closed; without ERASE every erased row is
SUSPECT, without ROWTAB the verify-fail counts are 0 (Table 8-8). Open stripes are closed early, and one whose parity page was not
programmed looks for another. -/
def State.recoverRows (s : State) (lost : List ChestRegion) : State :=
  let f (r : Row) : Row :=
    let st := if r.eraseOpen ∨ r.state = .suspect ∨ (lost.contains .erase ∧ r.state = .free) then RowState.suspect
      else if r.state = .opened then .closed else r.state
    { r with state := st, closeBeat := if r.state = .opened then s.beat else r.closeBeat
             erasePend := false, eraseReady := false, gateWait := false, owner := none, closing := false, recs := 0
             verifyFails := if lost.contains .rowtab then 0 else r.verifyFails }
  let rows := Sparse.mapVal (fun _ => {}) (fun _ r => f r) s.ftl.rows
  let stripes := s.ftl.stripes.map (fun v => { v with closed := true, parity := if v.done then v.parity else none, next := none })
  let t := s.setFtl { s.ftl with rows := rows, stripes := stripes }
  (rows.filter (fun e => decide (e.2.state = .suspect))).foldl (fun u e =>
    u.medRaise (keyCh e.1) 0 5 (keyLun e.1) (keyBlock e.1)) t

/-- Read counters without ROWTAB: half the limit (Table 8-8). -/
def State.halfReads (s : State) : State :=
  s.setFtl { s.ftl with rows := Sparse.mapVal (fun _ => {}) (fun k r => { r with reads := s.readLimit (keyCh k) r / 2 }) s.ftl.rows }

/-- How the boot is classed (R195, R197). -/
def State.bootKind (s : State) (readable : Bool) : BootKind :=
  if !readable then .rebuilt
  else match s.chest.sealed with
    | some true => .clean
    | some false => .flushed
    | none => .unsealed

/-- What goes with PERSIST (Table 8-8): the configuration, every GCM counter, the index hash key, and the list of retired rows:
those that the scan does not find failed serve again once they are erased. -/
def State.losePersist (s : State) (unretired : List (Nat × Nat × Nat)) : State :=
  let t := s.setKsu { s.ksu with slots := s.ksu.slots.map (fun v => { v with gcm := 2 ^ 32 }) }
  let x := { t.idx with hashKey := BitVec.ofNat 128 t.freeVal }
  let u := (t.setChest { t.chest with persist := [] }).tick
  let w := match x.rehash x.gib u.freeVal with
    | some y => (u.setIdx y).tick
    | none => u.tick
  unretired.foldl (fun v a =>
    let r := v.row a.1 a.2.1 a.2.2
    if r.state = .retired then v.setRow a.1 a.2.1 a.2.2 { r with state := .suspect, marked := false } else v) w

/-! ### What is left of the Chest (R182, R183, R197, Table 8-8) -/

/-- A root copy can be used: its CRC holds and no word of it is uncorrectable. -/
def rootOk (b : Boot) (second : Bool) : Bool :=
  (if second then b.rootB else b.rootA) && b.chestBad.all (fun a => !(decide (a < 0x40000) && decide (a / 0x20000 = b2n second)))

/-- The regions that are lost: all of them where the die has failed, does not answer, or has no valid root copy; else those with an
uncorrectable word. -/
def State.lostRegions (s : State) (b : Boot) : List ChestRegion :=
  if s.chest.failed || !b.chest || (!rootOk b false && !rootOk b true) then [.root, .persist, .rowtab, .erase, .opensum, .wbdesc, .journal]
  else ((b.chestBad.map regionOf).filter (fun r => decide (r ≠ .root))).dedup

/-- The Chest is readable while JOURNAL, OPENSUM and WBDESC are (R197). -/
def chestReadable (lost : List ChestRegion) : Bool := !(lost.contains .journal || lost.contains .opensum || lost.contains .wbdesc)

/-- The root is read: of two valid copies that of the higher sequence, an invalid copy is written over; without one PSEQ and SEQ
restart 2^32 above the largest found (R183, Table 8-8). -/
def State.readRoot (s : State) (b : Boot) (lost : List ChestRegion) : State :=
  let c := s.chest
  if lost.contains .root then
    (s.setChest { c with rootA := {}, rootB := {}, seq := c.seq + 2 ^ 32 }).setFtl { s.ftl with pseq := s.ftl.pseq + 2 ^ 32 }
  else if !rootOk b false then s.setChest { c with rootA := c.rootB }
  else if !rootOk b true then s.setChest { c with rootB := c.rootA }
  else s

/-- Words that the die corrects are counted, uncorrectable ones set ECC_UNCORR and stay unreadable (R182). -/
def State.chestWords (s : State) (b : Boot) : State :=
  let t := s.count Reg.CHS_ECC_CNT 31 0 b.chestEcc
  let u := t.setChest { t.chest with bad := b.chestBad.flatMap (fun a => (List.range 4).map (fun i => a / 8 * 4 + i)) }
  b.chestBad.foldl (fun x a => x.chsRaise 6 a) u

/-- The map can be neither loaded nor rebuilt: MEDIA_HEALTH is FAILED (R176). -/
def State.healthLost (s : State) : State := if s.health = .failed then s else { s with health := .failed }.careRaise 4 0 0 0

/-- Recovery up to SERVICE (Tables 8-7 and 8-9). -/
def State.recover (s : State) (b : Boot) (kind : ResetKind) : State :=
  let lost := s.lostRegions b
  let readable := chestReadable lost
  let last := s.bootKind readable
  let unsealed := s.chest.sealed.isNone
  let s0 := (s.readRoot b lost).chestWords b
  let s1 := if lost.contains .persist then s0.losePersist b.unretired else s0
  let s2 := s1.restoreConfig.loadIndex
  let s3 := s2.placeDram
  let s4 := s3.bringNand b kind
  let s5 := s4.recoverSlots
  let s6 := if !readable && unsealed then s5.loseImages b.lostMap else s5
  let s7 := if last = .unsealed ∨ (!readable && unsealed && !b.lostMap.isEmpty) then s6.chsRaise 2 0 else s6
  let s8 := s7.recoverRows lost
  let s9 := if lost.contains .rowtab then s8.halfReads else if last = .clean then s8 else s8.raiseReads
  let t := (s9.setChest { s9.chest with lastBoot := last, readable := readable }).setReg Reg.CHS_FLUSH_TIME
    (if last = .flushed then BitVec.ofNat 32 (2 ^ 31 + min s9.chest.root.flushUs 0xFFFFFF) else 0)
  let u : State := if !readable then { t.chsRaise 1 0 with rebuilding := true, rebuild := { phase := 1 } }
    else if b.ckptBad.isEmpty then t
    else { t.chsRaise 4 (64 * nth 0 b.ckptBad 0) with rebuilding := true, rebuild := { phase := 2, mapLeft := b.ckptBad } }
  (if b.mapLost then u.healthLost else u).recompute

/-! ### The ROM and firmware (Table 17-2) -/

/-- A debug response that passes (R432). -/
def State.debugOk (s : State) : Bool :=
  match s.pwr.fuses.debugHash, s.pins.tap.response with
  | some h, some r => decide (sha384 Config.debugKey = h) && ecdsa Config.debugKey (sha384 s.pins.tap.challenge) r
  | _, _ => false

/-- Protection as firmware lays it down: the running bank but its selector sector, and bank 2; the other sectors of the
image banks and bank 3 are open (R358). -/
def protLayout (blk : Bool) : List Nat :=
  ((List.range 256).map (fun i => (if blk then 256 else 0) + i)).filter (fun k => decide (k ≠ selSector blk)) ++
    (List.range 256).map (· + 512)

/-- Firmware sets the protection and freezes it; frozen already for the other bank it stays so (R402). -/
def State.protectCar (s : State) (blk : Bool) : State :=
  let c := s.car
  if !c.frozen then s.setCar { c with prot := protLayout blk, frozen := true, pwOpen := false }
  else
    let other := if blk then 0 else 1
    if c.prot.any (fun k => decide (k / 256 = other)) then
      (s.setPwr { s.pwr with stale := true }).raise Reg.RST_ERR 4
    else s

/-- RST_BOOT_STAT (Table 17-10). -/
def bootStatOf (blk : Option Bool) (f1 f2 svnMin svn : Nat) : DWord :=
  BitVec.ofNat 32 (b2n (decide (blk = some true)) * 2 ^ 31 + b2n (decide (f1 ≠ 0)) * 2 ^ 30 +
    b2n blk.isNone * 2 ^ 29 + f1 * 2 ^ 24 + f2 * 2 ^ 20 + svnMin * 2 ^ 8 + svn)

/-- The fuses as firmware leaves them when DEV_STATE first becomes SERVICE (R399). -/
def Fuses.raised (f : Fuses) (block : List Byte) : Fuses :=
  let fl := blkFlags block
  let i := (f.keyIndex (blkKey block)).getD 0
  { f with svn := if bitOf fl 0 then max f.svn (blkSvn block) else f.svn
           revoked := if bitOf fl 1 then (List.range 4).map (fun k => decide (k < i) || nth false f.revoked k) else f.revoked }

/-- The cores: CC0 at the block's entry, CC1 to CC15 released at their reset state. -/
def State.startCores (s : State) (blk : Bool) (block : List Byte) : State :=
  let a := (if blk then 0x840000 else 0x40000) + blkEntry block
  (List.range 16).foldl (fun t c =>
    let k := 256 + c
    let x := { Core.atReset k with run := .running }
    t.setCore k (if c = 0 then { x with cs := BitVec.ofNat 16 (a / 65536), pc := BitVec.ofNat 16 a } else x)) s

/-- The device serves: CSTS.RDY rises for every enabled controller (R392). -/
def State.enterReady (s : State) (d : DevState) : State :=
  let f (p : Port) : Port := { p with ctrl := { p.ctrl with rdy := p.ctrl.en && !p.ctrl.cfs } }
  { s with dev := d, portA := f s.portA, portB := f s.portB }

/-- Everything wanted of the NAND, DRAM and clock balls in PS0 (Table 18-2). -/
def Pins.serve (p : Pins) (nand up : Nat → Bool) (avs : Nat) : Pins :=
  { p with wp := List.replicate 32 true, nf := channels.map (fun n => if nand n then .running else .idle), ddReset := (List.range 6).map up
           ddClk := (List.range 6).map up, avs := some (avs % 16) }

/-- A block passed: firmware runs, brings the device up, and enters SERVICE; without a working DRAM channel it declares a
fatal error (R373). -/
def State.bootFirmware (s : State) (b : Boot) (kind : ResetKind) (blk : Bool) : State :=
  let block := s.blkBytes blk
  let words := wordsOf (s.bootPayload blk)
  let t := s.setStrand 0 { s.strand 0 with
    sbuf := ((words.zipIdx).foldl (fun m e => Sparse.set (fun _ => (0 : Word)) m e.2 e.1) []) }
  let t := (t.startCores blk block).setCar { t.car with booted := blk }
  let t : State := { t with idsLoaded := true, subsys := b.subsys }
  let t := ((t.setReg Reg.GLB_FWREV (BitVec.ofNat 32 (blkRev block))).protectCar blk).bringDram b (decide (kind = .por))
  if t.working.isEmpty then (t.raise Reg.RST_ERR 1).halt
  else
    let u := t.recover b kind
    let u := u.setPins (u.pins.serve u.present (fun m => u.working.contains m) b.avs)
    let u := u.setPwr { u.pwr with fuses := u.pwr.fuses.raised block }
    u.enterReady .service

/-- The first boot takes what the factory put into the part. -/
def State.provision (s : State) (f : Factory) : State :=
  if s.pwr.fuses ≠ {} then s
  else
    let t := s.setPwr { s.pwr with fuses :=
      { keyHash := f.keyHash, deviceKey := f.deviceKey, debugHash := f.debugHash, serial := f.serial } }
    f.words.foldl (fun u e => u.setCarWord e.1 e.2) t

/-- The ROM runs to its end (Table 17-2): TEST on an authorised response, a block that passes, or RECOVERY. -/
def State.romBoot (s : State) (b : Boot) : State :=
  let kind := s.pwr.cause
  let s := s.setPwr { s.pwr with rom := none, wdRun := true, wd := none, prewarn := false }
  let ok := s.debugOk
  let s := s.setTap { s.pins.tap with response := none }
  if ok then
    let t : State := { s with dev := .test, ksu := { s.ksu with slots := s.ksu.slots.map (fun v => { gcm := v.gcm }) } }
    t.setPwr { t.pwr with wdRun := false }
  else
    let ch := s.bootChoice
    let sel := s.bootSelect
    let svn := match ch.1 with
      | some k => blkSvn (s.blkBytes k)
      | none => 0
    let t := ((s.romEcc sel ch.2.1).romEcc (!sel) ch.2.2).setPwr { s.pwr with bootStat := bootStatOf ch.1 ch.2.1 ch.2.2 s.pwr.fuses.svn svn }
    match ch.1 with
    | none => ({ t with ksu := { t.ksu with slots := setNth { loaded := true, key := t.pwr.fuses.deviceKey, keylen := 2, owner := 0x400 } t.ksu.slots 63 } }).enterReady .recovery
    | some k =>
      let u := if k = sel then t else t.raise Reg.RST_ERR 3
      u.bootFirmware b kind k

/-- One boundary of BOOT: the CAR has read its configuration array, and the ROM ends once CC0 may run (R364, R424). -/
def State.bootBeat (s : State) : State :=
  let t := if s.car.cfgRead then s else s.carInit true
  match t.pwr.rom with
  | some b => if t.dev = .boot ∧ !t.pwr.cc0Wait then t.romBoot b else t
  | none => t

/-! ### The commands -/

/-- POR (R392, R424): PWR_GOOD rises; with PWR_FAIL_N low CC0 waits. The straps are latched; EXTEST, CLAMP and HIGHZ act as BYPASS
from now on (Table 18-11). -/
def execPor (b : Boot) (s : State) : Result :=
  .next (
    let t := s.deviceReset .por false
    let t := match b.factory with
      | some f => t.provision f
      | none => t
    let tap := { t.pins.tap with driving := false, highz := false }
    let t := t.setPins { t.pins with dual := b.straps.getLsbD 0, console := b.straps.getLsbD 1, tap := tap }
    t.setPwr { t.pwr with rom := some b, pwrGood := true, cc0Wait := b.failLow, pwrFailLow := b.failLow })

/-- CC0_START_WAIT_END (R424). -/
def execCc0StartWaitEnd (s : State) : Result :=
  .next (if s.pwr.cc0Wait then s.setPwr { s.pwr with cc0Wait := false, pwrFailLow := false } else s)

/-- POWER_LOSS (R424): reset at once, without a flush. -/
def execPowerLoss (s : State) : Result :=
  .next (
    let t := s.deviceReset .por false
    t.setPwr { t.pwr with pwrGood := false })

/-- A PWR_FAIL_N recognised in BOOT, TEST or RECOVERY stops the device until the next POR (R424). -/
def State.stopped (s : State) : Bool :=
  s.pwr.pwrFailLow && !s.pwr.cc0Wait && (decide (s.dev = .boot) || decide (s.dev = .test) || decide (s.dev = .recovery))

/-- PERST_N_ASSERT (R393, R425): the flush in SERVICE, then the reset; the ROM waits for PERST_N to rise. -/
def execPerstNAssert (f : FlushRun) (s : State) : Result :=
  .next (if !s.pwr.pwrGood || s.pwr.perstLow || s.stopped || decide (s.dev = .test) then s
    else
      let fl := decide (s.dev = .service)
      let t := ((s.flush f none).deviceReset .perst fl)
      t.setPwr { t.pwr with perstLow := true, from_ := s.dev.code })

/-- PERST_N_RELEASE (R425): after a PERST_N reset the ROM reruns; the links train. At power-up PERST_N rises after the
ROM's start (Table 18-7). -/
def execPerstNRelease (b : Boot) (s : State) : Result :=
  .next (if !s.pwr.perstLow then s
    else
      let hold := decide (s.dev = .boot) && decide (s.pwr.cause = .perst) && s.pwr.rom.isNone && !s.stopped
      let t := s.setPwr { s.pwr with perstLow := false, rom := if hold then some b else s.pwr.rom }
      let f (p : Port) : Port := { p with training := true }
      let u : State := { t with portA := f t.portA }
      let u : State := if u.pins.dual then { u with portB := f u.portB } else u
      u.setPins { u.pins with peTx := .running, clkreq := true })

/-- A reset of the four kinds with the flush of R393 first; the first one to trigger is the one recorded (R396). -/
def State.flushedReset (s : State) (k : ResetKind) (f : FlushRun) (b : Boot) : State :=
  let t := (s.flush f none).deviceReset k (decide (s.dev = .service))
  t.setPwr { t.pwr with rom := some b, from_ := s.dev.code }

/-- A soft chip or watchdog reset may act: not held by PERST_N, not stopped, and TEST is left only by POR (Table 1-10). -/
def State.resettable (s : State) : Bool :=
  s.pwr.pwrGood && !s.stopped && decide (s.dev ≠ .test) &&
    !(decide (s.dev = .boot) && decide (s.pwr.cause = .perst) && s.pwr.rom.isNone)

/-- SOFT_CHIP_RESET (R393, R414): the key 0x5A and SOFT; ignored in HALTED (R396). -/
def execSoftChipReset (src : Src) (v : DWord) (f : FlushRun) (b : Boot) (s : State) : Result :=
  .next (s.byOwner src (fun t =>
    if decide (bits v.toNat 31 24 = 0x5A) && bitOf v.toNat 0 && decide (t.dev ≠ .halted) && t.resettable then
      t.flushedReset .soft f b
    else t))

/-- WATCHDOG_RESET (R413). -/
def execWatchdogReset (f : FlushRun) (b : Boot) (s : State) : Result :=
  .next (if s.wdExpired && s.resettable then s.flushedReset .watchdog f b else s)

end Sys2Proof.Machine
end

