-- ==== Sys2Proof/Machine/RegView.lean ====
section
/-!
DEFINITION. What a read of a device register returns: the stored value, or for a register that hardware maintains the value
of the state it reports (the register maps of spec/01 to spec/17: R32, R84, R132, R181, R230, R231, R249, R270,
R271, R342, R390), block by block.
-/

namespace Sys2Proof.Machine

/-- Sum of the powers of two of the numbers below `n` that a test holds for. -/
def bitMap (n : Nat) (p : Nat → Bool) : Nat := (((List.range n).filter p).map (2 ^ ·)).sum

/-- Element of a register array: `base + stride · i`, `i < n`. -/
def arrayAt (base stride n off : Nat) : Option Nat :=
  if base ≤ off ∧ (off - base) % stride = 0 ∧ (off - base) / stride < n then some ((off - base) / stride) else none

/-! ### GLB, HIF, QMG, INS -/

/-- A sticky error register of the block reads non-zero (R33). -/
def State.stickyBlock (s : State) (n : Nat) : Bool :=
  let any (l : List Nat) : Bool := l.any (fun o => decide (s.reg o ≠ 0))
  match n with
  | 0 => any [Reg.HIF_ERR 0, Reg.HIF_ERR 1]
  | 1 => any [Reg.QMG_ERR]
  | 2 => s.insts.any (fun e => decide (e.2.err ≠ 0))
  | 3 => any (channels.map Reg.MED_ERR)
  | 4 => any [Reg.FTL_MAP_ERR, Reg.FTL_CARE_ERR]
  | 5 => any [Reg.CHS_ERR]
  | 6 => any (channels.map Reg.STR_ERR ++ channels.map Reg.PRS_ERR)
  | 7 => any [Reg.CLP_ERR]
  | 8 => any [Reg.IDX_ERR]
  | 9 => any [Reg.SHD_ERR]
  | 10 => any [Reg.KS_ERR, Reg.DG_ERR, Reg.CI_ERR]
  | 11 => any [Reg.CAR_ERR]
  | 12 => any ((List.range 6).map Reg.DRC_ERR)
  | 13 => any [Reg.MEP_ERR]
  | 15 => any [Reg.RST_ERR]
  | 17 => any [Reg.TMP_ERR]
  | _ => false

/-- Media-health code (Table 1-11). -/
def Health.code : Health → Nat
  | .normal => 0
  | .degraded => 1
  | .readOnly => 2
  | .failed => 3

/-- GLB registers (Tables 1-12 to 1-16). MEDIA_HEALTH reads its reset value until firmware has read the media's state. -/
def State.viewGlb (s : State) (off : Nat) : Option Nat :=
  if off = Reg.GLB_DEV_STATE then
    let up := decide (s.dev = .service) || decide (s.dev = .halted)
    some (b2n (decide (s.pwr.throttle ≠ 0)) * 2 ^ 12 + (if up then s.health.code * 2 ^ 8 else 0) + b2n s.rebuilding * 16 + s.dev.code)
  else if off = Reg.GLB_CH_PRESENT then some (bitMap 32 s.present)
  else if off = Reg.GLB_BEAT_LO then some s.beat
  else if off = Reg.GLB_BEAT_HI then some (s.beat / 2 ^ 32)
  else if off = Reg.GLB_DRAM_PRESENT then
    some (bitMap 6 (fun m => s.dram.sealedCh.contains m) * 256 + bitMap 6 (fun m => s.working.contains m))
  else if off = Reg.GLB_STICKY then some (bitMap 18 s.stickyBlock)
  else none

/-- HIF registers (Table 2-15). -/
def State.viewHif (s : State) (off : Nat) : Option Nat :=
  let link (p : Bool) : Nat :=
    let q := s.port p
    if q.up && !q.training then 2 ^ 31 + b2n q.flit * 2 ^ 30 + q.width * 2 ^ 16 + q.speed else 0
  if off = Reg.HIF_LINK_STAT 0 then some (link false)
  else if off = Reg.HIF_LINK_STAT 1 then some (if s.pins.dual then link true else 0)
  else if off = Reg.HIF_PORT_CFG then some (if s.pins.dual then (s.reg off).toNat else 0)
  else if off = Reg.HIF_ATC_STAT then some (min 2048 (s.portA.atc.length + s.portB.atc.length))
  else none

/-- QMG registers (Table 2-16). -/
def State.viewQmg (s : State) (off : Nat) : Option Nat :=
  if off = Reg.QMG_INFLIGHT then some s.inflight
  else (arrayAt (Reg.QMG_QDATA 0) 4 6 off).map (fun i => (nth 0 s.qdata i).toNat)

/-- INST_STAT of an instance (Table 3-10). -/
def State.instStat (s : State) (i : Nat) : Nat :=
  let r := s.inst i
  r.attach.length * 2 ^ 20 + (s.cqsOf i).length * 2 ^ 13 + (s.sqsOf i).length * 2 ^ 6 +
    b2n (decide (r.state ≠ .free) && decide (r.shareNow = 0)) * 32 + r.state.code

/-- Register `k` of an instance's block (Table 3-9). -/
def State.viewInst (s : State) (i k : Nat) : Option Nat :=
  let r := s.inst i
  match k with
  | 0x00 => some (s.instStat i)
  | 0x04 => some r.share
  | 0x08 => some (s.instInflight i)
  | 0x0C => some r.err.toNat
  | 0x10 => some r.dlog.stat
  | 0x14 => some (match r.pasid with | some p => 2 ^ 31 + p | none => 0)
  | 0x1C => some r.carry
  | 0x20 => some r.carryCnt
  | 0x24 => some (BitVec.ofInt 32 r.ftok).toNat
  | 0x28 => some (BitVec.ofInt 32 r.mtok).toNat
  | _ => none

/-- Dword `k` of a peer table entry (Table 3-7). -/
def PeerEntry.dword (e : PeerEntry) (k : Nat) : Nat :=
  match k with
  | 0 => e.base
  | 1 => e.base / 2 ^ 32
  | 2 => e.pages
  | _ => b2n e.relaxed * 2 ^ 18 + b2n e.atTranslated * 2 ^ 17 + b2n e.valid * 2 ^ 16 + b2n e.any * 2 ^ 15 + e.owner

/-- INS registers (Tables 3-9 to 3-11). INS_PEER_A and INS_PEER_B show the entries in force: those of a Peer Table Set from the
boundary on at which they take effect (log 202). -/
def State.viewIns (s : State) (off : Nat) : Option Nat :=
  if off = Reg.INS_SHARE_SUM then
    some ((if s.pins.dual then s.shareSum true none % 65536 * 65536 else 0) + s.shareSum false none % 65536)
  else if off = Reg.INS_RESET_PEND then
    some (s.insts.filter (fun e => decide (e.2.state = .resetting) || decide (e.2.state = .deleting))).length
  else if 0x40800 ≤ off ∧ off < 0x41000 then
    some ((s.peerEntry false ((off - 0x40800) / 16)).dword (off % 16 / 4))
  else if 0x41000 ≤ off ∧ off < 0x41800 then
    some (if s.pins.dual then (s.peerEntry true ((off - 0x41000) / 16)).dword (off % 16 / 4) else 0)
  else if 0x50000 ≤ off ∧ off < 0x60000 then s.viewInst ((off - 0x50000) / 64) (off % 64)
  else none

/-! ### MED, FTL, CHS -/

/-- LUN state code (Table 5-13). -/
def LunState.code : LunState → Nat
  | .absent => 0
  | .active => 1
  | .failed => 2
  | .resetting => 3

/-- MED_LUN_STAT of a LUN. -/
def Lun.stat (u : Lun) : Nat :=
  let op : Nat × Bool × Nat := match u.op with
    | some o => (match o.kind with | .read => 1 | .program => 2 | .erase => 3, o.suspended, o.suspends)
    | none => (b2n u.rd.isSome, false, 0)
  u.state.code * 2 ^ 30 + op.1 * 2 ^ 28 + b2n op.2.1 * 2 ^ 27 + op.2.2 % 16 * 2 ^ 23 + u.timeouts % 4 * 2 ^ 8 + u.lastRetry % 16 * 16

/-- MED registers of channel `n` (Tables 5-12 and 5-13). -/
def State.viewMed (s : State) (n k : Nat) : Option Nat :=
  let c := s.chan n
  if k = 0 then
    let rate := if s.present n then c.rate else 0
    some (b2n (s.present n) * 2 ^ 31 + b2n (decide (rate = 6400)) * 2 ^ 30 + b2n c.cal * 2 ^ 29 +
      rate / 100 * 2 ^ 16 + c.profile.getD 255 * 256 + (s.activeLuns n).length)
  else if k = 0x3F00 then some (b2n (decide (1024 ≤ s.soft.length)) * 2 ^ 31 + min s.soft.length 1024)
  else if k = 0x3F08 then some (if s.dieParity then 2 ^ 31 + 16 else 0)
  else (arrayAt 0x100 4 64 k).map (fun l => (s.lun n l).stat)

/-- Rows of the Shelf device-wide, and those in use. -/
def State.shelfAll (s : State) : Nat × Nat :=
  ((channels.map s.shelfRows).sum, (channels.map s.shelfUsed).sum)

/-- Bytes of stored images of FAILED LUNs still to relocate. -/
def State.relocLeft (s : State) : Nat :=
  ((s.ftl.imgs.filter (fun i => s.ftl.reloc.contains (lunKey i.ch (maLun i.maddr)) && s.imgRef i)).map (fun i => i.len * 512)).sum

/-- FTL registers: map, Shelf, fold, Drawer (Tables 6-6 and 6-7). -/
def State.viewFtl (s : State) (off : Nat) : Option Nat :=
  let f := s.ftl
  if off = Reg.FTL_MAP_STAT then
    some (b2n (f.segs.any (fun e => !e.2.resident)) * 2 ^ 31 + b2n f.pressure * 2 ^ 30)
  else if off = Reg.FTL_GRAIN_CAP then some s.grainCap
  else if off = Reg.FTL_GRAIN_USED then some s.grainUsed
  else if off = Reg.FTL_SPLINTERED then some s.splinters.length
  else if off = Reg.FTL_WB_STAT then some f.slots.length
  else if off = Reg.FTL_SHELF_STAT then
    let sh := s.shelfAll
    let all := f.rows.length
    some ((if sh.1 = 0 then 0 else min 255 (sh.2 * 256 / sh.1)) * 256 + (if all = 0 then 0 else min 127 (sh.1 * 1000 / all)))
  else if off = Reg.FTL_SHELF_DIRECT then some (bitMap 32 (fun n => (s.chan n).direct))
  else if off = Reg.FTL_DRW_STAT then
    some ((match f.drawer.state with | .none_ => 0 | .active => 1 | .lost => 2) * 2 ^ 30 + f.drawer.slots)
  else if off = Reg.FTL_DRW_NEED then some f.drawer.need
  else if off = Reg.FTL_DRW_HOMED then some (f.segs.filter (fun e => e.2.homed)).length
  else if off = Reg.FTL_DRW_BAD then some f.drawer.bad.length
  else none

/-- FTL registers of media care (Tables 7-9 and 7-10). -/
def State.viewCare (s : State) (off : Nat) : Option Nat :=
  let f := s.ftl
  if off = Reg.FTL_GC_STAT then
    let l := (channels.filter s.present).map s.freeLevel
    some (if l.isEmpty then 0 else b2n f.gcOn * 2 ^ 31 + b2n (s.chans.any (fun c => c.urgent)) * 2 ^ 30 + min 65535 (l.foldl min 65535))
  else if off = Reg.FTL_PINNED then some s.pinnedRows
  else if off = Reg.FTL_WL_STAT then some (min f.lastSpread 65535 * 65536 + f.lastSpreadCh % 32)
  else if off = Reg.FTL_REFRESH_PEND then some (f.rows.filter (fun e => e.2.candidate)).length
  else if off = Reg.FTL_SPARE_STAT then some (min s.avail 100 * 65536 + min s.pctUsed 255 * 256)
  else if off = Reg.FTL_GOOD_ROWS then some s.goodRows
  else if off = Reg.FTL_REQ_ROWS then some <| if f.totalRows = 0 then 0 else (s.reqRows (s.spaces.map (·.2)))
  else if off = Reg.FTL_FMT_ROWS then some f.fmtRows
  else if off = Reg.FTL_RETIRED then some f.retired
  else if off = Reg.FTL_RELOC_STAT then
    some (b2n (!f.reloc.isEmpty) * 2 ^ 31 + f.reloc.length % 4096 * 65536 + min 65535 (cdiv s.relocLeft (2 ^ 30)))
  else none

/-- CHS registers (Tables 8-10 and 8-11). -/
def State.viewChs (s : State) (off : Nat) : Option Nat :=
  let c := s.chest
  if off = Reg.CHS_STAT then
    some (b2n c.failed * 2 ^ 30 + (match c.lastBoot with | .clean => 0 | .flushed => 1 | .unsealed => 2 | .rebuilt => 3) * 2 ^ 28 +
      b2n s.jhold * 2 ^ 27 + b2n c.ckptActive * 2 ^ 26 + min 255 (s.journalUsed * 256 / journalSize))
  else if off = Reg.CHS_REBUILD_STAT then
    some (s.rebuild.phase * 2 ^ 30 + s.rebuild.idxLeft.length % 8192 * 65536 + s.rebuild.mapLeft.length % 8192)
  else if off = Reg.CHS_PLP_STAT then
    some (bits (s.reg off).toNat 31 31 * 2 ^ 31 + cdiv s.dirtyBytes (2 ^ 20))
  else none

/-! ### STR, PRS, CLP, IDX, SHD -/

/-- Bead registers of Strand `n`, register `k` of Bead `b` (Table 9-14). -/
def State.viewBead (s : State) (n b k : Nat) : Option Nat :=
  let c := s.core (8 * n + b)
  match k with
  | 0 => some (match c.job with
    | none => c.pc.toNat
    | some j => (if j.waiting.isSome then 2 else 1) * 2 ^ 30 + min (j.ref + j.budget - s.beat) 255 * 65536 + c.pc.toNat)
  | 4 => some (match c.job with | none => 0 | some j => j.prog.pind * 65536 + j.inst)
  | 8 => some (c.lastTrapPc.toNat * 65536 + c.lastCause)
  | _ => none

/-- STR and PRS registers of Strand `n` (Tables 9-13, 9-14, 10-9, 10-10). -/
def State.viewStr (s : State) (n k : Nat) : Option Nat :=
  let t := s.strand n
  if k = 0 then
    some (b2n t.bp * 2 ^ 31 + (s.leafFree n).length * 2 ^ 24 + t.outFree.length * 2 ^ 16 +
      bitMap 8 (fun b => (s.core (8 * n + b)).job.isSome))
  else if k = 0x28 then some t.cyc
  else if k = 0x2C then some (t.cyc / 2 ^ 32)
  else if 0x100 ≤ k ∧ k < 0x180 then s.viewBead n ((k - 0x100) / 16) (k % 16)
  else if k = 0x400 then
    let busy := (t.press.take 1).any (fun j => j.started)
    some (b2n busy * (2 ^ 31 + 4 * 2 ^ 28) + t.press.length)
  else none

/-- CLP, IDX and SHD registers (Tables 9-16, 11-7, 11-9). -/
def State.viewEngines (s : State) (off : Nat) : Option Nat :=
  if off = Reg.CLP_STAT then
    some (s.runs.length * 65536 + (8388608 - (s.runs.map (fun r => r.mem)).sum) / 1024)
  else if off = Reg.IDX_STAT then
    some (if s.idx.gib = 0 ∨ s.idx.placed = false then 0
      else (if s.rebuild.idxLeft.isEmpty then 1 else 2) * 2 ^ 30 +
        (if s.idxCap = 0 then 0 else min 255 (s.idxUsed * 256 / s.idxCap)))
  else if off = Reg.IDX_CAP then some s.idxCap
  else if off = Reg.IDX_USED then some s.idxUsed
  else if off = Reg.IDX_DIR_USED then some s.dirUsed
  else if off = Reg.SHD_STAT then
    let run := s.shd.filter (fun j => j.started)
    some (b2n (!run.isEmpty) * 2 ^ 31 + b2n (run.any (fun j => j.rebuild)) * 2 ^ 30 + (s.shd.length - run.length))
  else (arrayAt 0x190100 4 16 off).map (fun n =>
    match s.idx.kvns.find? (fun e => decide (e.1 = n)) with
    | some e => 2 ^ 31 + e.2
    | none => 0)

/-! ### KSU, CAR, DRC, MEP, RST, PWR, TMR, TMP -/

/-- KS_SLOT of a slot (Table 14-12). -/
def State.slotStat (s : State) (n : Nat) : Nat :=
  let k := s.slot n
  let own := if k.loaded then 2 ^ 30 + b2n k.shared * 2 ^ 29 + k.keylen * 2 ^ 27 + k.owner else 0
  own + b2n (decide (2 ^ 32 ≤ k.gcm)) * 2 ^ 25 + s.ksu.inUse n * 65536

/-- KSU registers as requester `r` of a source reads them (Table 14-12). -/
def State.viewKsu (s : State) (src : Src) (off : Nat) : Option Nat :=
  let k := s.ksu
  let d := k.dg
  let r := s.reqOf src
  if off = Reg.KS_STAT then
    some ((match k.owner with
      | none => 2 ^ 31
      | some o => b2n (decide (o = r)) * 2 ^ 30 + o * 65536) + s.ksErr r)
  else if off = Reg.KS_ACT then some (if s.ownerPort then k.actB else k.actA)
  else if off = Reg.DG_STAT then
    some (b2n (decide (d.busy ≠ 0)) * 2 ^ 31 + b2n d.active * 2 ^ 30 + b2n d.done * 2 ^ 29 + b2n d.valid * 2 ^ 28 +
      b2n d.matched * 2 ^ 27 + d.req * 16 + d.err)
  else if off = Reg.DG_COUNT_LO then some d.msg.length
  else if off = Reg.DG_COUNT_HI then some (d.msg.length / 2 ^ 32)
  else if off = Reg.CI_STAT then
    some (match k.run with
      | some j => 2 ^ 31 + b2n k.queued.isSome * 2 ^ 30 + j.req
      | none => 0)
  else match arrayAt (Reg.KS_SLOT 0) 4 64 off with
    | some n => some (s.slotStat n)
    | none => match arrayAt (Reg.KS_GCM_CNT 0) 4 64 off with
      | some n => some ((s.slot n).gcm)
      | none => (arrayAt (Reg.DG_RES 0) 4 16 off).map (fun i => (nth 0 d.res i).toNat)

/-- Bank mode code (Table 15-2). -/
def BankMode.code : BankMode → Nat
  | .read => 0
  | .command => 1
  | .busy => 2
  | .suspended => 3
  | .status => 4

/-- CAR registers (Table 15-10): those of the configuration array read 0 until it has been read (R364). -/
def State.viewCar (s : State) (off : Nat) : Option Nat :=
  let c := s.car
  let cfg (n : Nat) : Option Nat := some (if c.cfgRead then n else 0)
  if off = Reg.CAR_STAT then
    some (b2n c.frozen * 2 ^ 31 + b2n c.pwOpen * 2 ^ 30 + b2n c.lockout.isSome * 2 ^ 29 + b2n c.pwrFail * 2 ^ 28 +
      (c.mode 3).code * 4096 + (c.mode 2).code * 256 + (c.mode 1).code * 16 + (c.mode 0).code)
  else if off = Reg.CAR_PW_FAILS then cfg (min c.pwFails 255)
  else if off = Reg.CAR_BOOT then
    cfg (b2n s.bootSelect * 2 ^ 29 + b2n c.booted * 2 ^ 28 + b2n c.repaired * 2 ^ 27 +
      (match s.selCurrent with
        | some b => 2 ^ 31 + b2n b * 2 ^ 30 + zerosOf (s.selW b) 32
        | none => 0))
  else if off = Reg.CAR_SEL_SEQ then
    cfg (match s.selCurrent with | some b => s.selSeq b | none => 0)
  else if off = Reg.CAR_ECNT then some (min (Sparse.get (fun _ => 0) c.ecnt (s.field Reg.CAR_ECNT_SEL 9 0)) 0x1FFFF)
  else match arrayAt (Reg.CAR_PROT 0) 4 32 off with
    | some n => cfg (bitMap 32 (fun j => s.sectorProt (32 * n + j)))
    | none => match arrayAt (Reg.CAR_SUSPECT 0) 4 32 off with
      | some n => cfg (bitMap 32 (fun j => c.markers.contains (32 * n + j)))
      | none => none

/-- DRC registers of channel `m` (Table 16-12). -/
def State.viewDrc (s : State) (m k : Nat) : Option Nat :=
  let d := s.drc m
  let temp := match nth none s.pwr.sensors (4 + m) with | some t => min 255 t.toNat | none => 0
  match k with
  | 0x00 => some ((match d.state with | .absent => 0 | .up => 1 | .disabled => 2 | .selfRefresh => 3) * 2 ^ 30 +
      b2n d.isSealed * 2 ^ 29 + b2n d.failing * 2 ^ 28 + d.dsetA * 2 ^ 26 + d.dsetB * 2 ^ 24 + d.band * 2 ^ 22 +
      b2n d.bandPend * 2 ^ 21 + b2n d.clkStopped * 2 ^ 20 + max (nth 0 d.debts 2) (nth 0 d.debts 3) * 4096 +
      max (nth 0 d.debts 0) (nth 0 d.debts 1) * 256 + temp)
  | 0x30 => some d.rd
  | 0x34 => some (d.rd / 2 ^ 32)
  | 0x38 => some d.wr
  | 0x3C => some (d.wr / 2 ^ 32)
  | _ => none

/-- MEP registers (Table 16-14). -/
def State.viewMep (s : State) (off : Nat) : Option Nat :=
  let d := s.dram
  if off = Reg.MEP_SCRUB_STAT then
    some (b2n d.scrub * 2 ^ 31 + d.passes % 256 * 256 + (if s.scrubLines = 0 then 0 else min 255 (d.scrubAt * 256 / s.scrubLines)))
  else if off = Reg.MEP_SRAM_REMAP then
    let macs := (d.sramRemap.map (·.1)).dedup
    some ((macs.filter (fun a => decide (8 ≤ d.sramUsed a))).length * 65536 + d.sramRemap.length % 65536)
  else (arrayAt (Reg.MEP_REMAP 0) 32 6 off).map (fun m => (s.drc m).remap.length)

/-- RST, PWR, TMR and TMP registers (Table 17-10). -/
def State.viewPwr (s : State) (off : Nat) : Option Nat :=
  let p := s.pwr
  if off = Reg.RST_CAUSE then some (p.from_ * 256 + b2n p.flushed * 16 + p.cause.code)
  else if off = Reg.RST_BOOT_STAT then some p.bootStat.toNat
  else if off = Reg.PWR_STAT then some (p.wake * 2 ^ 28 + p.level * 256 + p.allowed * 16 + p.ps)
  else if off = Reg.TMR_WDT_STAT then
    some (b2n p.prewarn * 2 ^ 31 + (if p.wdRun then 2 ^ 30 + (s.wdPeriod - p.wd.getD 0) else 0))
  else if off = Reg.TMP_STAT then some (p.throttle * 2 ^ 24 + (match p.tj with | some t => kelvin t | none => 0))
  else if off = Reg.TMP_THROT_TIME then some (min (p.throt / 1024) 0xFFFFFFFF)
  else match arrayAt (Reg.PWR_RES 0) 4 5 off with
    | some k => some (min (nth 0 p.res k / 1024) 0xFFFFFFFF)
    | none => (arrayAt (Reg.TMP_SENSOR 0) 4 16 off).map (fun k =>
        match s.pwr.sensors[k]? with
        | some (some t) => kelvin t
        | some none => 2 ^ 31
        | none => 0)

/-! ### The whole map -/

/-- The block a BAR0 offset lies in (Table 2-6) gives the value it maintains; the stored value otherwise. -/
def State.view (s : State) (src : Src) (off : Nat) : DWord :=
  let v : Option Nat :=
    if off < 0x10000 then s.viewGlb off
    else if off < 0x20000 then s.viewHif off
    else if off < 0x40000 then s.viewQmg off
    else if off < 0x80000 then s.viewIns off
    else if off < 0x100000 then s.viewMed ((off - 0x80000) / 0x4000) (off % 0x4000)
    else if off < 0x100400 then s.viewFtl off
    else if off < 0x120000 then s.viewCare off
    else if off < 0x140000 then s.viewChs off
    else if off < 0x180000 then s.viewStr ((off - 0x140000) / 0x2000) (off % 0x2000)
    else if off < 0x1B0000 then s.viewEngines off
    else if off < 0x1C0000 then s.viewKsu src off
    else if off < 0x1D0000 then s.viewCar off
    else if off < 0x1DC000 then s.viewDrc ((off - 0x1D0000) / 0x2000) (off % 0x2000)
    else if off < 0x200000 then s.viewMep off
    else s.viewPwr off
  match v with
  | some n => BitVec.ofNat 32 n
  | none => s.reg off

end Sys2Proof.Machine
end

