-- ==== Sys2Proof/Machine/RegAccess.lean ====
section
/-!
DEFINITION. Reads and writes of device registers (R5 to R12, R41 to R47, R318): which source may write which register, what a
write stores by access code, range and reserved encodings, the registers whose write is a command of its own, instance
pages and BAR2. A BAR0 offset of 0x100_0000 and above lies in an instance page; the model numbers BAR2 from 0x400_0000.
-/

namespace Sys2Proof.Machine

/-- The state a command that runs leaves. -/
def State.after (s : State) (r : Result) : State :=
  match r with
  | .next t => t
  | _ => s

/-! ### Who may write (R41, R414) -/

/-- Firmware-only ranges: `base + stride · i + [lo, hi)`, `i < n` (R132 to R414). -/
def firmwareRanges : List (Nat × Nat × Nat × Nat × Nat) :=
  [(0x80000, 0x4000, 32, 0x1000, 0x2000), (0x110000, 0x10000, 1, 0, 0x10000), (0x100000, 0x10000, 1, 0x800, 0x1000),
    (0x120000, 0x10000, 1, 0x1000, 0x2000), (0x140000, 0x2000, 32, 0x600, 0x900), (0x140000, 0x2000, 32, 0x1000, 0x2000),
    (0x180000, 0x10000, 4, 0x1000, 0x2000), (0x1C0000, 0x10000, 1, 0x1000, 0x2000), (0x1D0000, 0x2000, 6, 0x1000, 0x2000),
    (0x1F0000, 0x10000, 1, 0x1000, 0x2000), (0x200000, 0x10000, 4, 0x1000, 0x2000)]

/-- The offset is firmware-only. -/
def firmwareOnly (off : Nat) : Bool :=
  firmwareRanges.any (fun r => decide (r.1 ≤ off) && decide ((off - r.1) / r.2.1 < r.2.2.1) &&
    decide (r.2.2.2.1 ≤ (off - r.1) % r.2.1) && decide ((off - r.1) % r.2.1 < r.2.2.2.2))

/-- A register that each port has of its own, or an item of the port: its HIF copy, the indirect access registers, its
instances' rows, its PWR copies (R41, R414). -/
def State.ownItem (s : State) (p : Bool) (off : Nat) : Bool :=
  (decide (0x10000 ≤ off) && decide (off < 0x10200) && decide (b2n p = (off - 0x10000) / 0x100)) ||
  (decide (0x20020 ≤ off) && decide (off < 0x20070)) ||
  (decide (0x50000 ≤ off) && decide (off < 0x60000) && s.inPort p ((off - 0x50000) / 64)) ||
  decide (off = Reg.PWR_LAT_TOL (b2n p)) || decide (off = Reg.PWR_PS_LIMIT (b2n p))

/-- An item of the other port in DUAL mode: a reserved offset (R41). -/
def State.otherItem (s : State) (src : Src) (off : Nat) : Bool :=
  match src with
  | .host p => decide (0x50000 ≤ off) && decide (off < 0x60000) && !s.inPort p ((off - 0x50000) / 64)
  | _ => false

/-- A source's write of a register: dropped where the source may not write it, with NOT_OWNER for a port (R41, R414). -/
def State.permitted (s : State) (src : Src) (off : Nat) (f : State → State) : State :=
  match src with
  | .host p =>
    if !s.hasPort p || s.otherItem src off then s
    else if firmwareOnly off || decide (off = Reg.TMR_WDT_PERIOD) then s.hifErr p 7
    else if s.pins.dual && decide (p ≠ s.ownerPort) && !s.ownItem p off && decide (0x10000 ≤ off) then s.hifErr p 7
    else f s
  | .page _ _ => s
  | .cc _ => f s

/-! ### What a write stores (R5, R9, R11) -/

/-- The field as it stands after a write of `v`. -/
def Field.write (f : Field) (old v : Nat) : Nat :=
  let x := bits v f.hi f.lo
  let o := bits old f.hi f.lo
  match f.acc with
  | .rw | .rwl => if f.reserved.contains x then o else Nat.min (Nat.max x f.min) f.max
  | .w1c => o - (o &&& x)
  | .wo | .rc => o

/-- The register after a write, field by field. -/
def RegRow.write (r : RegRow) (old v : Nat) : Nat :=
  r.fields.foldl (fun n f => setBits n f.hi f.lo (f.write old v)) old

/-- TMP_MED_BAND.B2 is at least B1 + 5 (Table 17-10). -/
def clampBand (v : Nat) : Nat := setBits v 15 8 (min 105 (max (bits v 15 8) (bits v 7 0 + 5)))

/-- Store a configuration register; one that takes effect at the next boundary keeps its old value in force until then
(R12). -/
def State.configure (s : State) (off : Nat) (atBoundary : Bool) (v : DWord) : State :=
  let h := if atBoundary && !s.held.any (fun e => decide (e.1 = off)) then s.held ++ [(off, s.reg off)] else s.held
  let t : State := { s.setReg off v with held := h }
  if decide (0x100000 ≤ off) && decide (off < 0x120000) then t.setFtl { t.ftl with recompute := true } else t

/-- First-event registers and the sticky registers they belong to: error base, capture base, stride, count. -/
def capturePairs : List (Nat × Nat × Nat × Nat) :=
  [(0x20010, 0x20014, 1, 1), (0x80014, 0x80018, 0x4000, 32), (0x10002C, 0x100030, 1, 1), (0x100718, 0x10071C, 1, 1),
    (0x120004, 0x120008, 1, 1), (0x14000C, 0x140010, 0x2000, 32), (0x180004, 0x180008, 1, 1),
    (0x14040C, 0x140410, 0x2000, 32), (0x190014, 0x190018, 1, 1), (0x1A0004, 0x1A0008, 1, 1), (0x1C0004, 0x1C0008, 1, 1),
    (0x1D0014, 0x1D0018, 0x2000, 6), (0x1F0010, 0x1F0014, 1, 1)]

/-- A capture ends once its sticky register reads 0; that of KSU once all three do (log 26). -/
def State.clearSticky (s : State) (off : Nat) : State :=
  if off = Reg.KS_ERR ∨ off = Reg.DG_ERR ∨ off = Reg.CI_ERR then
    if s.reg Reg.KS_ERR = 0 ∧ s.reg Reg.DG_ERR = 0 ∧ s.reg Reg.CI_ERR = 0 then s.setReg Reg.KS_ERR_LOC 0 else s
  else if s.reg off ≠ 0 then s
  else capturePairs.foldl (fun t e =>
    match arrayAt e.1 e.2.2.1 e.2.2.2 off with
    | some i => t.setReg (e.2.1 + e.2.2.1 * i) 0
    | none => t) s

/-- A size that breaks R29, or a designation of more than two channels, is refused (R158, R252, R377). -/
def State.sizeRefused (s : State) (off v : Nat) : Option State :=
  let g := if off = Reg.FTL_GRAIN_CFG then v else s.field Reg.FTL_GRAIN_CFG 4 0
  let i := if off = Reg.IDX_CFG then v else s.field Reg.IDX_CFG 5 0
  let w := if off = Reg.FTL_WB_CFG then v else s.field Reg.FTL_WB_CFG 5 0
  let fits := s.dramFits g i w s.slmTotal
  if off = Reg.FTL_GRAIN_CFG ∨ off = Reg.FTL_WB_CFG then if fits then none else some (s.mapRaise 3 0)
  else if off = Reg.IDX_CFG then
    if fits && decide (s.idxUsed ≤ 32768 * idxBuckets v) then none else some (s.idxRaise 0 0 0)
  else if off = Reg.MEP_SEALED_CFG then if popMask v ≤ 2 then none else some (s.mepRaise 6 7 0)
  else none

/-- A write by access code (R5 to R12); RO and reserved bits are ignored. A firmware-only register keeps what a control core has
written (log 195). -/
def State.plainWrite (s : State) (off : Nat) (v : DWord) : State :=
  match regRow off with
  | none => if firmwareOnly off then { s with fw := Sparse.set (fun _ => none) s.fw off (some v) } else s
  | some r =>
    let n := r.write (s.reg off).toNat v.toNat
    let n := if off = Reg.TMP_MED_BAND then clampBand n else n
    match s.sizeRefused off n with
    | some t => t
    | none =>
      let w1c := r.fields.any (fun f => decide (f.acc = .w1c))
      let t := s.configure off r.atBoundary (BitVec.ofNat 32 n)
      if w1c then t.clearSticky off else t

/-! ### Registers of two halves, and registers whose write is a command (R45) -/

/-- Stage the low half of a pair. -/
def State.stageLow (s : State) (src : Src) (off : Nat) (v : DWord) : State :=
  { s with stage := s.stage.filter (fun e => !(decide (e.1 = src) && decide (e.2.1 = off))) ++ [(src, off, v)] }

/-- Registers of KSU (R318): every write needs the lock but those of KS_ACT, KS_IDLE_TO, KS_RELEASE and the three error
registers. -/
def State.writeKsu (s : State) (src : Src) (off : Nat) (v : DWord) : State :=
  if off = Reg.KS_RELEASE then s.after (execKsRelease src v s)
  else if off = Reg.KS_ACT then s.after (execKsActWrite src v s)
  else if off = Reg.KS_SLOT_CMD then
    let n := v.toNat
    match bits n 26 24 with
    | 1 => s.after (execKeySlotWrite src (bits n 5 0) (bits n 17 16) s)
    | 2 => s.after (execKeySlotZeroize src (bits n 5 0) s)
    | 3 => s.after (execKeySlotShare src (bits n 5 0) s)
    | 4 => s.after (execKeySlotUnshare src (bits n 5 0) s)
    | _ => s.locked src (fun _ t => t)
  else if off = Reg.DG_CTL then
    if bitOf v.toNat 31 then s.after (execDigestStart src v s)
    else s.locked src (fun _ t => t.dgCtl v.toNat)
  else if off = Reg.DG_DATA then s.after (execDigestDataWrite src v s)
  else if off = Reg.DG_LAST_HI then s.after (execDigestLastCommit src v s)
  else if off = Reg.CI_DESC_HI then s.after (execCipherDescCommit src v (s.freeVal % 64) s.tick)
  else if off = Reg.DG_LAST_LO ∨ off = Reg.CI_DESC_LO ∨ off = Reg.DG_LEN_LO then
    s.locked src (fun _ t => t.stageLow src off v)
  else if off = Reg.DG_LEN_HI then
    s.locked src (fun _ t => (t.setReg Reg.DG_LEN_LO (t.staged src Reg.DG_LEN_LO)).setReg Reg.DG_LEN_HI v)
  else match arrayAt (Reg.KS_KEY 0) 4 8 off with
    | some i => s.locked src (fun _ t => t.setKsu { t.ksu with key := setNth v t.ksu.key i })
    | none => match arrayAt (Reg.DG_EXP 0) 4 16 off with
      | some i => s.locked src (fun _ t => t.setKsu { t.ksu with dg := { t.ksu.dg with exp := setNth v t.ksu.dg.exp i } })
      | none =>
        if off = Reg.KS_IDLE_TO ∨ off = Reg.KS_ERR ∨ off = Reg.DG_ERR ∨ off = Reg.CI_ERR then
          if s.ksForeign src then s.notOwner src else (s.plainWrite off v).ksTouch (s.reqOf src)
        else s.locked src (fun _ t => t.plainWrite off v)

/-- The HIF copy of port B in SINGLE mode: it reads 0 and ignores writes (R60). -/
def State.noPortB (s : State) (off : Nat) : Bool := !s.pins.dual && decide (0x10100 ≤ off) && decide (off < 0x10200)

/-- A BAR0 register below the instance pages. -/
def State.writeBar0 (s : State) (src : Src) (off : Nat) (v : DWord) : State :=
  let go (n : Nat) : Bool := bitOf v.toNat n
  if 0x1B0000 ≤ off ∧ off < 0x1B1000 then s.writeKsu src off v
  else if off = Reg.TMR_WDT_CTL then s.after (execTmrWdtKick src v s)
  else if off = Reg.RST_CTL then s.permitted src off (fun t => t)
  else if s.noPortB off then s
  else s.permitted src off (fun t =>
    if off = Reg.QMG_QCMD then (if go 0 then t.after (execQmgQcmdRead src t) else t)
    else if off = Reg.QMG_IMTCMD then
      match bits v.toNat 1 0 with
      | 1 => t.after (execQmgImtLoad src t)
      | 2 => t.after (execQmgImtStore src t)
      | _ => t
    else if 0x1B1000 ≤ off ∧ off < 0x1B2000 then t.locked src (fun _ u => u.plainWrite off v)
    else if off = Reg.TMR_WDT_PERIOD then t.configure off true (BitVec.ofNat 32 (min 10000 (max 10 (bits v.toNat 13 0))))
    else if off = Reg.HIF_PORT_CFG ∧ t.pins.dual = false then t
    else if 0x50000 ≤ off ∧ off < 0x60000 ∧ off % 64 = 0x0C then
      let i := (off - 0x50000) / 64
      t.setInst i { t.inst i with err := (t.inst i).err - ((t.inst i).err &&& v) }
    else if off = Reg.HIF_LINK_CTL 0 ∨ off = Reg.HIF_LINK_CTL 1 then
      let u := t.plainWrite off v
      if go 8 then u.after (execLinkRetrain src (decide (off = Reg.HIF_LINK_CTL 1)) u) else u
    else if off = Reg.CHS_CKPT_CTL then
      let u := t.plainWrite off v
      if go 8 then u.after (execChsCkptStart src u) else u
    else match arrayAt (Reg.MED_CH_CTL 0) 0x4000 32 off with
      | some n =>
        let u := t.plainWrite off v
        if go 8 then u.after (execMedRecal n u) else u
      | none => match arrayAt (Reg.PRS_JOB_LO 0) 0x2000 32 off with
        | some _ => t.stageLow src off v
        | none => match arrayAt (Reg.PRS_JOB_HI 0) 0x2000 32 off with
          | some n => t.after (execPressJobSubmit src n v t)
          | none => t.plainWrite off v)

/-! ### Instance pages (R42, R43) -/

/-- Registers of the page that a read or an ignored write reaches (Table 2-7). -/
def pageReg (o : Nat) : Bool :=
  decide (o ≤ 0x10) || decide (o = 0x18) || decide (o = 0x1C) || (decide (0x400 ≤ o) && decide (o < 0x440)) ||
  (decide (0x1000 ≤ o) && decide (o < 0x1200))

/-- A write in an instance page. -/
def State.writePage (s : State) (p : Bool) (i o : Nat) (v : DWord) : State :=
  if !s.inPort p i then s
  else if !pageReg o then s.instErr i 0
  else if o = 0x0C then s.setInst i { s.inst i with err := (s.inst i).err - ((s.inst i).err &&& v) }
  else if 0x1000 ≤ o then
    let n := (o - 0x1000) / 8
    if o % 8 = 0 then s.after (execSqTailDoorbell (.page p i n) v s)
    else s.after (execCqHeadDoorbell (.page p i n) v s)
  else s

/-- A read in an instance page. -/
def State.readPage (s : State) (p : Bool) (i o : Nat) : State × DWord :=
  if !s.inPort p i then (s, 0)
  else if !pageReg o then (s.instErr i 0, 0)
  else if 0x1000 ≤ o then (s, 0)
  else if 0x400 ≤ o then (s, nth 0 s.ksu.dg.res ((o - 0x400) / 4))
  else if o = 0x18 then (s, BitVec.ofNat 32 s.beat)
  else if o = 0x1C then (s, BitVec.ofNat 32 (s.beat / 2 ^ 32))
  else (s, BitVec.ofNat 32 ((s.viewInst i o).getD 0))

/-! ### BAR2 (R38 to R40, R57) -/

/-- NVMe controller registers, the MSI-X table and its pending bits (Tables 2-4 and 2-5). -/
def State.readBar2 (s : State) (p : Bool) (o : Nat) : DWord :=
  let k := s.ctrl p
  if o = 0x00 then BitVec.ofNat 32 (0xFFFF + 2 ^ 16 + 0x10 * 2 ^ 24)
  else if o = 0x04 then BitVec.ofNat 32 (2 ^ 5 + 2 ^ 11 + 4 * 2 ^ 20)
  else if o = 0x08 then 0x00020000
  else if o = 0x14 then k.cc
  else if o = 0x1C then BitVec.ofNat 32 (b2n k.rdy + b2n k.cfs * 2 + k.shst * 4)
  else if o = 0x24 then k.aqa
  else if o = 0x28 then k.asq.setWidth 32
  else if o = 0x2C then (k.asq >>> 32).setWidth 32
  else if o = 0x30 then k.acq.setWidth 32
  else if o = 0x34 then (k.acq >>> 32).setWidth 32
  else if 0x10000 ≤ o ∧ o < 0x18000 then
    let e := Sparse.get (fun _ => {}) (s.port p).msix ((o - 0x10000) / 16)
    match o % 16 / 4 with
    | 0 => e.addr.setWidth 32
    | 1 => (e.addr >>> 32).setWidth 32
    | 2 => e.data
    | _ => if e.mask then 1 else 0
  else if 0x18000 ≤ o ∧ o < 0x18100 then
    let b := (o - 0x18000) / 4 * 32
    BitVec.ofNat 32 (bitMap 32 (fun j => (Sparse.get (fun _ => {}) (s.port p).msix (b + j)).pend))
  else 0

/-- One half of a 64-bit value replaced. -/
def halfSet (x : BitVec 64) (hi : Bool) (v : DWord) : BitVec 64 :=
  if hi then v ++ x.extractLsb' 0 32 else x.extractLsb' 32 32 ++ v

/-- A write of CC: the shutdown notification, the enable and the reset are commands of their own. -/
def State.writeCc (s : State) (p : Bool) (v : DWord) : State :=
  let k := s.ctrl p
  let v := v &&& ccMask
  let n := v.toNat
  let t := if bits n 15 14 ≠ 0 then s.after (execShutdownNotification p s) else s
  let u := if bitOf n 0 && !k.en then t.after (execControllerEnable p v k.aqa k.asq k.acq t)
    else if !bitOf n 0 && k.en then t.after (execControllerReset p t) else t
  u.setCtrl p { u.ctrl p with cc := v }

/-- A write in BAR2. -/
def State.writeBar2 (s : State) (p : Bool) (o : Nat) (v : DWord) : State :=
  let k := s.ctrl p
  if !s.hasPort p then s
  else if o = 0x14 then s.writeCc p v
  else if o = 0x24 then s.setCtrl p { k with aqa := v &&& aqaMask }
  else if o = 0x28 ∨ o = 0x2C then s.setCtrl p { k with asq := halfSet k.asq (decide (o = 0x2C)) v &&& qbaseMask }
  else if o = 0x30 ∨ o = 0x34 then s.setCtrl p { k with acq := halfSet k.acq (decide (o = 0x34)) v &&& qbaseMask }
  else if o = 0x1000 then s.after (execSqTailDoorbell (.admin p) v s)
  else if o = 0x1004 then s.after (execCqHeadDoorbell (.admin p) v s)
  else if 0x10000 ≤ o ∧ o < 0x18000 then
    let n := (o - 0x10000) / 16
    let e := Sparse.get (fun _ => {}) (s.port p).msix n
    let put (x : MsixEntry) : State :=
      s.setPort p { s.port p with msix := Sparse.set (fun _ => {}) (s.port p).msix n x }
    match o % 16 / 4 with
    | 0 => put { e with addr := halfSet e.addr false (v &&& 0xFFFFFFFC) }
    | 1 => put { e with addr := halfSet e.addr true v }
    | 2 => put { e with data := v }
    | _ => if bitOf v.toNat 0 then put { e with mask := true } else s.after (execMsixUnmask p n s)
  else s

/-! ### Any register -/

/-- The RC fields of a register read as 0 afterwards (R5, R44). -/
def State.clearRc (s : State) (off : Nat) : State :=
  match regRow off with
  | none => s
  | some r => r.fields.foldl (fun t f => if f.acc = .rc then t.setField off f.hi f.lo 0 else t) s

/-- A read of a BAR0 register: its value, and what the read does. A firmware-only register gives a control core what a core has
written, and else a free value (log 195); an item of the other port is a reserved offset in BAR0. -/
def State.readBar0 (s : State) (src : Src) (off : Nat) : State × DWord :=
  if off = Reg.KS_LOCK then s.ksLock src
  else if s.otherItem src off || s.noPortB off then (s, 0)
  else if firmwareOnly off then match src, Sparse.get (fun _ => none) s.fw off with
    | .cc _, some v => (s, v)
    | _, _ => (s.tick, BitVec.ofNat 32 s.freeVal)
  else
    let t := s.clearRc off
    let u := if 0x1B0000 ≤ off ∧ off < 0x1B1000 then t.ksTouch (s.reqOf src) else t
    (u, s.view src off)

/-- A read of a register by any source. -/
def State.regRead (s : State) (src : Src) (off : Nat) : State × Option DWord :=
  match src with
  | .page p i =>
    let r := s.readPage p i off
    (r.1, some r.2)
  | .host p =>
    if !s.hasPort p then (s, some 0)
    else if 0x4000000 ≤ off then (s, some (s.readBar2 p (off - 0x4000000)))
    else if 0x2000000 ≤ off then (s, some 0)
    else
      let r := if 0x1000000 ≤ off then s.readPage p ((off - 0x1000000) / 0x4000) (off % 0x4000) else s.readBar0 src off
      (r.1, some r.2)
  | .cc _ =>
    let i := (off - 0x1000000) / 0x4000
    if 0x2000000 ≤ off then (s, some 0)
    else
      let r := if 0x1000000 ≤ off then s.readPage (s.portOf i) i (off % 0x4000) else s.readBar0 src off
      (r.1, some r.2)

/-- A write of a register by any source. -/
def State.regWrite (s : State) (src : Src) (off : Nat) (v : DWord) : State :=
  match src with
  | .page p i => s.writePage p i off v
  | .host p =>
    if !s.hasPort p then s
    else if 0x4000000 ≤ off then s.writeBar2 p (off - 0x4000000) v
    else if 0x2000000 ≤ off then s
    else if 0x1000000 ≤ off then s.writePage p ((off - 0x1000000) / 0x4000) (off % 0x4000) v
    else s.writeBar0 src off v
  | .cc _ =>
    let i := (off - 0x1000000) / 0x4000
    if 0x2000000 ≤ off then s
    else if 0x1000000 ≤ off then s.writePage (s.portOf i) i (off % 0x4000) v
    else s.writeBar0 src off v

/-- A write with partial byte enables, or not of one or two dwords at a natural boundary, is dropped (R44). -/
def State.partialWrite (s : State) (src : Src) (off : Nat) : State :=
  match src with
  | .host p =>
    let t := s.hifErr p 0
    let i := (off - 0x1000000) / 0x4000
    if 0x1000000 ≤ off ∧ off < 0x2000000 ∧ s.inPort p i = true then t.instErr i 5 else t
  | .page p i => if s.inPort p i then (s.hifErr p 0).instErr i 5 else s.hifErr p 0
  | .cc _ => s

/-- REGISTER_WRITE (R5, R9 to R12, R41 to R45): one dword, or two with the lower first. `full` says that every byte enable
is set. -/
def execRegisterWrite (src : Src) (off : Nat) (full : Bool) (vals : List DWord) (s : State) : Result :=
  .next (match full, vals with
    | true, [v] => if off % 4 = 0 then s.regWrite src off v else s.partialWrite src off
    | true, [v, w] => if off % 8 = 0 then (s.regWrite src off v).regWrite src (off + 4) w else s.partialWrite src off
    | _, _ => s.partialWrite src off)

/-- The dwords that a read of `len` bytes touches, the lower first (R44). -/
def readDwords (off len : Nat) : List Nat := if len = 8 then [off / 4 * 4, off / 4 * 4 + 4] else [off / 4 * 4]

/-- The dwords are read in order; `none` where a source has no such register. -/
def State.regReads (s : State) (src : Src) : List Nat → State × List Byte
  | [] => (s, [])
  | o :: rest =>
    let r := s.regRead src o
    let q := State.regReads r.1 src rest
    (q.1, leBytes 4 (r.2.getD 0).toNat ++ q.2)

/-- RC_REGISTER_READ (R5, R7, R44): the addressed bytes go out, and every RC field of the registers they lie in reads 0 from
then on. A read names its offset and length: 1, 2, 4 or 8 bytes at a natural boundary. -/
def execRcRegisterRead (src : Src) (off : Nat × Nat) (s : State) : Result :=
  .next (
    let r := s.regReads src (readDwords off.1 off.2)
    r.1.emit (.readData off.1 (slice r.2 (off.1 % 4) off.2)))

end Sys2Proof.Machine
end

