-- ==== Sys2Proof/Machine/Beat.lean ====
section
/-!
DEFINITION. The beat boundary (R19 to R27, Table 1-5) and the entry into a power state (R407). A boundary counts timers; what
an expired timer does is a command of its own.
-/

namespace Sys2Proof.Machine

/-! ### Order 2: what takes effect (R12, R68, R82) -/

/-- A new watchdog or wear-levelling period restarts its count as it takes effect (R173, R413); a patrol period of 0 stops the
pass (R384). -/
def State.newPeriod (s : State) (off : Nat) : State :=
  if off = Reg.TMR_WDT_PERIOD then s.wdKick
  else if off = Reg.FTL_WL_PERIOD then s.setFtl { s.ftl with wlTimer := 0 }
  else if off = Reg.MEP_SCRUB_PERIOD then s.scrubStop
  else s

/-- Pending configuration is in force, new shares and peer entries too; AVAIL is recomputed after a change (R175). -/
def State.takeEffect (s : State) : State :=
  let t := (s.held.map (·.1)).foldl State.newPeriod { s with held := [] }
  let t := { t with insts := Sparse.mapVal (fun _ => {}) (fun i r => t.shareNow i r) t.insts }
  let t := t.peersNow
  if t.ftl.recompute then (t.setFtl { t.ftl with recompute := false }).recompute else t

/-! ### Orders 7 and 9 -/

/-- Stored bytes of spans whose reads have ended and that wait for the Press of a Strand: it stalls while no leaf slot is free
(R221). -/
def State.stagedBytes (s : State) (n : Nat) : Nat :=
  (s.runs.map (fun r =>
    ((r.spans.filter (fun x => decide (x.strand = n) && x.asked && s.imgsDone r.tag x.imgs)).map (fun x =>
      (x.imgs.map (fun im => match s.img? im.1 im.2 with
        | some i => 512 * i.len
        | none => 0)).sum)).sum)).sum

/-- Free staging below STR_CTL.BP_KIB asserts back-pressure for the coming epoch (R25, R221): the staging region holds what waits
for the Press and the sink frames that wait for the mover. -/
def State.backPressure (s : State) : State :=
  { s with strands := channels.foldl (fun m n =>
      let t : Strand := s.strand n
      let used := s.stagedBytes n + ((t.mover.filter (fun o => o.framed)).map (fun o => o.bytes.length)).sum
      Sparse.set (fun _ => {}) m n { t with bp := decide (196608 - used < s.fieldNow (Reg.STR_CTL n) 7 0 * 1024) }) s.strands }

/-- Channel bands follow sensors 0 to 3, each for 8 channels; a change of band calibrates the channel (R113, R409). -/
def State.channelBand (s : State) (ch : Nat) : State :=
  match nth none s.pwr.sensors (ch / 8) with
  | none => s
  | some t =>
    let f (hi lo : Nat) : Int := s.fieldNow Reg.TMP_MED_BAND hi lo
    let c := s.chan ch
    let b := bandOf (f 7 0) (f 15 8) (f 23 16) c.band t
    if b = c.band then s
    else
      let u := s.setChan ch { c with band := b }
      if c.profile.isSome then u.calibrate ch false else u

/-- Timers of Table 1-6 that the map engine, the Chest and the Code Array keep. -/
def State.timers (s : State) : State :=
  let t := s.setCar { s.car with lockout := s.car.lockout.map (· + 1) }
  if t.dev = .service then
    let u := t.setFtl { t.ftl with splinterTimer := t.ftl.splinterTimer + 1, wlTimer := t.ftl.wlTimer + 1 }
    ((u.setChest { u.chest with ckptTimer := u.chest.ckptTimer + 1 }).listBeat).scrubBeat
  else t

/-- Segments that the DRAM map space does not hold (FTL_DRW_NEED). -/
def State.drawerNeed (s : State) : State :=
  match s.ftl.drawer.room with
  | none => s
  | some room =>
    let all := s.mapSegs.length
    s.setFtl { s.ftl with drawer := { s.ftl.drawer with need := all - room } }

/-- Critical Warning bits of both ports: port B's in bits 15 to 8. -/
def State.warnings (s : State) : Nat := s.critical false + if s.pins.dual then s.critical true * 256 else 0

/-- Information of the SMART event of Critical Warning bit `b`: 2 spare below threshold, 1 temperature, 0 reliability. -/
def smartInfo (b : Nat) : Nat := if b = 0 then 2 else b2n (decide (b = 1))

/-- Critical Warning bits that have risen raise events where feature 0Bh enables them (R179); SMB_ALERT_N follows (R426). -/
def State.warn (s : State) : State :=
  let w := s.warnings
  let up (p : Bool) (b : Nat) : Bool :=
    let k := b + if p then 8 else 0
    bitOf w k && !bitOf s.pwr.warn k && bitOf ((s.ctrl p).feature 0xB 0) b
  let one (t : State) (p : Bool) : State :=
    (List.range 5).foldl (fun u b => if up p b then u.aen p .smart (smartInfo b) 2 else u) t
  let t := s.ports.foldl one (s.setPwr { s.pwr with warn := w })
  t.setPins { t.pins with alertN := decide (w ≠ 0) }

/-- Queue rows age by a boundary for their interrupts (R56). -/
def State.cqBeat (s : State) : State :=
  { s with cq := Sparse.mapVal (fun _ => {}) (fun q r => r.beat (s.isAdminRow q || s.coalOff r)) s.cq }

/-- Orders 3 to 6: tokens, ages and deadlines, cancelled jobs, budgets and dispatch. -/
def State.earlyBeat (s : State) : State := (((s.refillAll).ageBeat.suppressLate).cancelJobs).dispatchJobs

/-- Order 7: the epoch's plan, with what the map engine tests at a boundary. -/
def State.mediaBeat (s : State) (plan : List (Nat × Nat × Nat)) : State :=
  let t := s.backPressure.epoch plan
  let t := if t.dev = .service then
      ((((channels.foldl (fun u c => u.foldTest c) t.urgentBeat).pressureBeat).gcTest).stripeBeat).careSweep
    else t
  t.drawerNeed

/-- Order 9: temperature, power states, timers. In RECOVERY the ROM kicks the watchdog (R413). Log page 0xD2 reports what the
boundary leaves (R180). -/
def State.lateBeat (s : State) (temps : List (Option Int)) : State :=
  let t := channels.foldl (fun u c => u.channelBand c) (s.sample temps)
  let t := (((t.powerBeat).wdBeat).idleBeat).timers
  let t := ((t.drains).cqBeat).warn
  let t := if t.dev = .recovery then t.wdKick else t
  { t with careLog := t.logCare }

/-- BEAT_BOUNDARY (R22): `temps` are the 16 sensor readings (R409), `plan` the operations that the sequencers start in the
epoch: channel, LUN, operation (R120). In BOOT the ROM's run ends at a boundary. -/
def execBeatBoundary (temps : List (Option Int)) (plan : List (Nat × Nat × Nat)) (s : State) : Result :=
  .next (if !s.pwr.pwrGood then s
    else
      let t := if s.dev = .boot then s.bootBeat else s
      let t := ({ t with beat := (t.beat + 1) % 2 ^ 64 }).takeEffect
      let t := (t.earlyBeat.mediaBeat plan).flushLogs
      t.lateBeat ((List.range 16).map (fun i => nth none temps i)))

/-- POWER_STATE_ENTRY (R193, R407): the allowed state of the last boundary is deeper than the current one; PS3 and PS4 are entered
only while nothing is RECEIVING or HELD and no array operation runs. In RECOVERY the device stays in PS0 (R403). -/
def execPowerStateEntry (s : State) : Result :=
  .next (if s.dev ≠ .recovery ∧ s.pwr.ps < s.pwr.allowed ∧ !s.pwr.waking ∧ (s.pwr.allowed < 3 ∨ s.idle3) then s.enterPs s.pwr.allowed else s)

end Sys2Proof.Machine
end

