-- ==== Sys2Proof/Machine/Flags.lean ====
section
/-!
DEFINITION. The arithmetic of Gleluris-16 (spec/13): results, carries and borrows left in E, and
the sticky flags OVF and DZ (R300 to R305, R307), as functions of the operand words alone.
-/

namespace Sys2Proof.Machine

/-- What an arithmetic instruction leaves: A, E, and whether it sets ST.OVF or ST.DZ. -/
structure AluOut where
  a : Word
  e : Word
  ovf : Bool := false
  dz : Bool := false
deriving DecidableEq, Repr

/-- A value outside the signed 16-bit range (R300). -/
def signedOverflow (v : Int) : Bool := decide (v < -32768) || decide (32767 < v)

/-- ADD (c = 0) and ADC (c = E & 1), R300. -/
def aluAdd (a op : Word) (c : Nat) : AluOut :=
  let t := a.toNat + op.toNat + c
  { a := BitVec.ofNat 16 t, e := BitVec.ofNat 16 (t / 65536),
    ovf := signedOverflow (a.toInt + op.toInt + c) }

/-- SUB (c = 0) and SBC (c = E & 1), R300: E is 1 when a borrow occurred. -/
def aluSub (a op : Word) (c : Nat) : AluOut :=
  let t := (a.toNat : Int) - op.toNat - c
  { a := BitVec.ofInt 16 t, e := if t < 0 then 1 else 0,
    ovf := signedOverflow (a.toInt - op.toInt - c) }

/-- NEG, R300 and R303. -/
def aluNeg (op : Word) : AluOut :=
  { a := 0 - op, e := if op ≠ 0 then 1 else 0, ovf := op = 0x8000 }

/-- MUL, R301: signed product, high word in E. -/
def aluMul (a op : Word) : AluOut :=
  let p : BitVec 32 := BitVec.ofInt 32 (a.toInt * op.toInt)
  { a := p.extractLsb' 0 16, e := p.extractLsb' 16 16 }

/-- MULU, R301: unsigned product. -/
def aluMulu (a op : Word) : AluOut :=
  let p := a.toNat * op.toNat
  { a := BitVec.ofNat 16 p, e := BitVec.ofNat 16 (p / 65536) }

/-- DIV, R302 and Table 13-7 (the case DZT = 0 of a zero divisor; the trap of DZT = 1 is the
instruction's). -/
def aluDiv (a d : Word) : AluOut :=
  if d = 0 then { a := if a.toInt ≥ 0 then 0x7FFF else 0x8000, e := a, dz := true }
  else if a = 0x8000 ∧ d = 0xFFFF then { a := 0x8000, e := 0, ovf := true }
  else { a := BitVec.ofInt 16 (a.toInt.tdiv d.toInt), e := BitVec.ofInt 16 (a.toInt.tmod d.toInt) }

/-- DIVU, R302 and Table 13-7. -/
def aluDivu (a d : Word) : AluOut :=
  if d = 0 then { a := 0xFFFF, e := a, dz := true }
  else { a := BitVec.ofNat 16 (a.toNat / d.toNat), e := BitVec.ofNat 16 (a.toNat % d.toNat) }

/-- SHL, SHR, SAR, ROL, ROR on A alone, R304; the count is unsigned. -/
def shl16 (a : Word) (c : Nat) : Word := if c ≥ 16 then 0 else a <<< c
/-- SHR, R304. -/
def shr16 (a : Word) (c : Nat) : Word := if c ≥ 16 then 0 else a >>> c
/-- SAR, R304. -/
def sar16 (a : Word) (c : Nat) : Word :=
  if c ≥ 16 then (if a.toInt < 0 then 0xFFFF else 0) else a.sshiftRight c
/-- ROL, R304. -/
def rol16 (a : Word) (c : Nat) : Word := let k := c % 16; a <<< k ||| a >>> ((16 - k) % 16)
/-- ROR, R304. -/
def ror16 (a : Word) (c : Nat) : Word := let k := c % 16; a >>> k ||| a <<< ((16 - k) % 16)

/-- The 32-bit value E:A (R304). -/
def dbl (e a : Word) : BitVec 32 := e ++ a

/-- DSHL, R304. -/
def dshl (e a : Word) (c : Nat) : AluOut :=
  let v : BitVec 32 := if c ≥ 32 then 0 else dbl e a <<< c
  { a := v.extractLsb' 0 16, e := v.extractLsb' 16 16 }
/-- DSHR, R304. -/
def dshr (e a : Word) (c : Nat) : AluOut :=
  let v : BitVec 32 := if c ≥ 32 then 0 else dbl e a >>> c
  { a := v.extractLsb' 0 16, e := v.extractLsb' 16 16 }
/-- DSAR, R304. -/
def dsar (e a : Word) (c : Nat) : AluOut :=
  let v : BitVec 32 := if c ≥ 32 then (if e.toInt < 0 then 0xFFFF_FFFF else 0) else (dbl e a).sshiftRight c
  { a := v.extractLsb' 0 16, e := v.extractLsb' 16 16 }

/-- A comparison's answer as a number in A (R288). -/
def truth (b : Bool) : Word := if b then 1 else 0

/-- The relations of CEQ, CNE, CLT, CLE, CLTU and CLEU (Table 13-8). -/
def relEq (a op : Word) : Bool := a = op
/-- CNE. -/
def relNe (a op : Word) : Bool := a ≠ op
/-- CLT, signed. -/
def relLt (a op : Word) : Bool := a.toInt < op.toInt
/-- CLE, signed. -/
def relLe (a op : Word) : Bool := a.toInt ≤ op.toInt
/-- CLTU, unsigned. -/
def relLtu (a op : Word) : Bool := a.toNat < op.toNat
/-- CLEU, unsigned. -/
def relLeu (a op : Word) : Bool := a.toNat ≤ op.toNat

/-- Leading zero bits among the lowest `n` bits of `w`, from bit `n - 1` down. -/
def lzcFrom (w : Word) : Nat → Nat
  | 0 => 0
  | n + 1 => if w.getLsbD n then 0 else 1 + lzcFrom w n

/-- LZC (Table 13-10): 0 to 16. -/
def lzc16 (w : Word) : Word := BitVec.ofNat 16 (lzcFrom w 16)

/-- 1 bits among the lowest `n` bits. -/
def popFrom (w : Word) : Nat → Nat
  | 0 => 0
  | n + 1 => (if w.getLsbD n then 1 else 0) + popFrom w n

/-- POPC (Table 13-10): 0 to 16. -/
def popc16 (w : Word) : Word := BitVec.ofNat 16 (popFrom w 16)

/-- SWAB (Table 13-10). -/
def swab16 (w : Word) : Word := w <<< 8 ||| w >>> 8

/-- BIT's selection: bit 15 − (A & 15) of the word (Table 13-10). -/
def bitSel (w a : Word) : Word := (w >>> (15 - a.toNat % 16)) &&& 1

/-- LDB's selection: the low byte for an odd index, the high byte for an even one (Table 13-10). -/
def byteSel (w a : Word) : Word := if a.toNat % 2 = 1 then w &&& 0x00FF else w >>> 8

end Sys2Proof.Machine
end

