-- ==== Sys2Proof/Machine/Gleluris.lean ====
section
/-!
DEFINITION. Gleluris-16, the processor of the Beads and control cores (spec/12): registers, data space and
windows, addressing modes, traps, interrupts. Instructions are in GlInstr.
-/

namespace Sys2Proof.Machine

/-- Number under which State holds the core. -/
def coreKey : CoreId → Nat
  | .bead s b => 8 * s + b
  | .cc c => 256 + c

/-- The core is a Bead. -/
def isBead : CoreId → Bool
  | .bead _ _ => true
  | .cc _ => false

/-- The core exists. -/
def coreExists : CoreId → Bool
  | .bead s b => decide (s < 32) && decide (b < 8)
  | .cc c => decide (c < 16)

/-- The core, and the state with it replaced. -/
def State.co (s : State) (k : CoreId) : Core := s.core (coreKey k)
def State.setCo (s : State) (k : CoreId) (c : Core) : State := s.setCore (coreKey k) c

/-- An uncorrectable word that a data read met, in a block that records it: word `w` of the Code Array or of the Chest. -/
inductive BadWord where
  | array (w : Nat)
  | chest (w : Nat)
deriving DecidableEq, Repr

/-- A trap: its cause of Table 12-11, for causes 3 and 5 the window and offset of EINFO (R291), and the word that its block
records. -/
structure Trap where
  cause : Nat
  win : Nat := 0
  off : Nat := 0
  bad : Option BadWord := none
deriving DecidableEq, Repr

/-- What a part of an instruction answers: a value, or the trap it meets. -/
abbrev Gl (α : Type) := Except Trap α

def illegal : Trap := { cause := 1 }
def privOp : Trap := { cause := 2 }

/-- Check a condition, or trap. -/
def need (b : Bool) (t : Trap) : Gl Unit := if b then .ok () else .error t

/-! ### Registers (R272 to R274, Table 12-2) -/

/-- The core runs privileged: a control core with ST.PRIV = 1. -/
def privileged (k : CoreId) (c : Core) : Bool := !isBead k && bitOf c.st.toNat 15

/-- ST after a write of `v` (Table 12-3): DZT, DZ and OVF are always written, PRIV, IE and TRAPPED by
privileged code of a control core. -/
def writeSt (k : CoreId) (c : Core) (v : Word) : Word :=
  if privileged k c then v &&& 0xE007 else (c.st &&& 0xE000) ||| (v &&& 0x0007)

def Core.window (c : Core) (n : Nat) : Win := Sparse.get (fun _ => {}) c.win n

def Core.setWindow (c : Core) (n : Nat) (w : Win) : Core := { c with win := Sparse.set (fun _ => {}) c.win n w }

/-- Register `n` as an operand; PC reads as the address of the next instruction (R273, R299). -/
def readRegister (k : CoreId) (c : Core) (pcn : Word) (n : Nat) : Gl Word :=
  match n with
  | 0 => .ok c.a
  | 1 => .ok c.x
  | 2 => .ok c.y
  | 3 => .ok c.e
  | 4 => .ok c.st
  | 5 => .ok c.base
  | 6 => .ok pcn
  | 7 => if isBead k then .error illegal else .ok c.cs
  | 8 => .ok (BitVec.ofNat 16 c.rs.length)
  | n => if 17 ≤ n ∧ n ≤ 31 then .ok (c.window (n - 16)).page else .error illegal

/-- Bit `n` of the program's WINMASK: the windows a Bead's job may write. -/
def winAllowed (c : Core) (n : Nat) : Bool :=
  match c.job with
  | some j => bitOf j.prog.winMask n
  | none => false

/-- A write of PAGE of window `n` (R273). -/
def writePage (k : CoreId) (c : Core) (n : Nat) (v : Word) : Gl Core :=
  if isBead k && (decide (n ≤ 6) || decide (n = 15)) then .error privOp
  else if isBead k && !winAllowed c n then .error { cause := 3, win := n }
  else .ok (c.setWindow n { c.window n with page := v })

/-- A write of register `n` (R273, Table 12-2). -/
def writeRegister (k : CoreId) (c : Core) (n : Nat) (v : Word) : Gl Core :=
  match n with
  | 0 => .ok { c with a := v }
  | 1 => .ok { c with x := v }
  | 2 => .ok { c with y := v }
  | 3 => .ok { c with e := v }
  | 4 => .ok { c with st := writeSt k c v }
  | 5 => .ok { c with base := v &&& 0x00FF }
  | n => if 17 ≤ n ∧ n ≤ 31 then writePage k c (n - 16) v else .error illegal

/-! ### Cycles (Table 12-14) -/

/-- Count cycles spent in jobs of a Strand (STR_CYC). -/
def State.cycles (s : State) (k : CoreId) (n : Nat) : State :=
  match k with
  | .bead i _ => if n = 0 then s else s.setStrand i { s.strand i with cyc := (s.strand i).cyc + n }
  | .cc _ => s

/-- A cost that depends on traffic outside the core is a free value (R295). -/
def State.stall (s : State) (k : CoreId) : State :=
  match k with
  | .bead _ _ => (s.cycles k s.freeVal).tick
  | .cc _ => s

/-- An operand in a Strand-buffer or register window: 2 to 4 cycles. -/
def State.bufferCost (s : State) (k : CoreId) : State :=
  match k with
  | .bead _ _ => (s.cycles k (2 + s.freeVal % 3)).tick
  | .cc _ => s

/-! ### 32-bit registers as two words (R47) -/

/-- The low or the high word. -/
def halfOf (v : DWord) (hi : Bool) : Word := if hi then v.extractLsb' 16 16 else v.extractLsb' 0 16

/-- A core reads a half of the register at `off`, whose value `read` gives. -/
def State.halfRead (s : State) (k : CoreId) (off : Nat) (hi : Bool) (read : State → State × Option DWord) :
    Option (Word × State) :=
  let latched : Option Word := match (s.co k).latch with
    | some (o, w) => if hi && decide (o = off) then some w else none
    | none => none
  match latched with
  | some w => some (w, s.setCo k { s.co k with latch := none })
  | none =>
    match read s with
    | (t, some v) =>
      some (halfOf v hi, t.setCo k { t.co k with latch := if hi then none else some (off, halfOf v true) })
    | (_, none) => none

/-- The low word that a commit of the register at `off` uses: the staged one, or what the register holds. A core keeps one staged low
word: staging another register's replaces it, and a commit leaves it (log 56, log 201). -/
def Core.stagedLow (c : Core) (off : Nat) (held : Word) : Word :=
  match c.stage with
  | some (o, w) => if o = off then w else held
  | none => held

/-! ### The job-visible register page (R214, Table 9-7) -/

/-- JOB_STAT.BUDGET_LEFT (R218): the reference boundary and the budget minus the beats passed. -/
def Job.budgetLeft (j : Job) (beat : Nat) : Nat := j.ref + j.budget - beat

/-- Value of the page's register at word offset `o` (even). -/
def jobPage (s : State) (strand bead : Nat) (o : Nat) : DWord :=
  match (s.core (8 * strand + bead)).job with
  | none => 0
  | some j =>
    match o with
    | 0 => BitVec.ofNat 32 (min (j.budgetLeft s.beat) 255 * 2 ^ 16 + bead * 2 ^ 5 + strand)
    | 2 => j.jobOut
    | 4 => BitVec.ofNat 32 (j.prog.pind * 2 ^ 16 + j.inst)
    | 8 => BitVec.ofNat 32 s.beat
    | 10 => BitVec.ofNat 32 (s.beat / 2 ^ 32)
    | _ => 0

/-- JOB_OUT as written: fields above their range are clamped (R11, R215). -/
def clampJobOut (v : DWord) : DWord :=
  BitVec.ofNat 32 (min (bits v.toNat 30 16) 16384 * 2 ^ 16 + min (bits v.toNat 14 0) 16384)

/-- A store to the page: JOB_OUT is staged and committed under R47, every other store is ignored. -/
def jobStore (c : Core) (o : Nat) (v : Word) : Core :=
  match c.job with
  | none => c
  | some j =>
    if o = 2 then { c with stage := some (2, v) }
    else if o = 3 then
      let low := c.stagedLow 2 (halfOf j.jobOut false)
      { c with job := some { j with jobOut := clampJobOut (v ++ low) } }
    else c

/-! ### Windows (R281 to R283) -/

def Win.target (w : Win) : Nat := bits w.w1.toNat 15 12
def Win.writable (w : Win) : Bool := bitOf w.w1.toNat 11
def Win.base (w : Win) : Nat := bits w.w1.toNat 7 0 * 2 ^ 28 + w.page.toNat * 2 ^ 12
def Win.nsid (w : Win) : Nat := bits w.w2.toNat 8 0
def Win.limit (w : Win) : Nat := bits w.w3.toNat 12 0

/-- What one word of a window reaches (Tables 12-6 and 12-7). -/
inductive Cell where
  | sbuf (strand w : Nat)
  | page (o : Nat)
  | slm (nsid b : Nat)
  | dram (w : Nat)
  | register (off : Nat) (hi : Bool)
  | array (w : Nat)
  | chest (w : Nat)
  | rom (w : Nat)
  | code (strand w : Nat)
  | localMem (key w : Nat)
deriving DecidableEq, Repr

/-- The device space (Table 12-7); none where it is reserved. -/
def deviceCell (w : Nat) : Option Cell :=
  if w < 0x2000000 then some (.register (w / 2 * 4) (decide (w % 2 = 1)))
  else if 0x10000000 ≤ w ∧ w < 0x12000000 then some (.array (w - 0x10000000))
  else if 0x20000000 ≤ w ∧ w < 0x28000000 then some (.chest (w - 0x20000000))
  else if 0x30000000 ≤ w ∧ w < 0x30010000 then some (.rom (w - 0x30000000))
  else if 0x40000000 ≤ w ∧ w < 0x41000000 then
    some (.sbuf ((w - 0x40000000) / 0x80000) ((w - 0x40000000) % 0x80000))
  else if 0x41000000 ≤ w ∧ w < 0x41200000 then
    some (.code ((w - 0x41000000) / 0x10000) ((w - 0x41000000) % 0x10000))
  else if 0x42000000 ≤ w ∧ w < 0x42200000 then
    let b := (w - 0x42000000) % 0x10000 / 0x1000
    if b < 8 then some (.localMem (8 * ((w - 0x42000000) / 0x10000) + b) (w % 0x1000)) else none
  else if 0x50000000 ≤ w ∧ w < 0x50010000 then
    some (.localMem (256 + (w - 0x50000000) / 0x1000) (w % 0x1000))
  else none

/-- An SLM word lies within the namespace the window was mapped to, which still exists (R283). -/
def slmOk (s : State) (c : Core) (n : Nat) (nsid w : Nat) : Bool :=
  match s.nsOf nsid with
  | some m => decide (m.kind = .slm) && decide (2 * w < m.size) &&
      decide (m.serial = Sparse.get (fun _ => 0) c.winNs n)
  | none => false

/-- The cell an access to data address `a` reaches, with the checks of R283. -/
def cellOf (s : State) (k : CoreId) (a : Word) (write : Bool) : Gl Cell :=
  let c := s.co k
  let n := a.toNat / 4096
  let o := a.toNat % 4096
  if n = 0 then .ok (.localMem (coreKey k) o)
  else
    let w := c.window n
    let fault : Gl Cell := .error { cause := 3, win := n, off := o }
    let bus : Gl Cell := .error { cause := 5, win := n, off := o }
    if w.target = 0 ∨ w.limit ≤ o then fault
    else if write && (!w.writable || (isBead k && decide (n ≤ 4))) then fault
    else
      match w.target with
      | 1 =>
        match k with
        | .bead i _ => .ok (.sbuf i ((w.base + o) % 0x80000))
        | .cc _ => fault
      | 2 => .ok (.page o)
      | 3 => if slmOk s c n w.nsid (w.base + o) then .ok (.slm w.nsid (2 * (w.base + o))) else fault
      | 4 => .ok (.dram (w.base + o))
      | 5 => .ok (.dram (2 ^ 36 + w.base + o))
      | 6 =>
        match deviceCell (w.base + o) with
        | some (.rom i) => if write then bus else .ok (.rom i)
        | some d => .ok d
        | none => bus
      | _ => fault

/-- Words of working DRAM (R29, R366): the interleaved space of the working channels. -/
def State.dramWords (s : State) : Nat := (s.working.map (fun m => s.chLines m * 32 - 2 ^ 25)).sum

/-- A working-DRAM word lies in a poisoned line (R381). -/
def State.dramPoisoned (s : State) (w : Nat) : Bool :=
  match dramPlace s.working s.dram.key (2 * w) with
  | some (m, off) => (s.drc m).poison.contains (off / 64)
  | none => true

/-- A word of a byte sequence: byte 2w in [15:8] (R276). -/
def wordOf (hi lo : Byte) : Word := hi ++ lo

/-- Read a cell: none where the word is uncorrectable or the block answers with an error. -/
def readCell (s : State) (k : CoreId) (d : Cell) : Option (Word × State) :=
  match d with
  | .sbuf i w =>
    if (s.strand i).bad.contains w then none
    else some ((s.strand i).word w, s.bufferCost k)
  | .page o =>
    match k with
    | .bead i b =>
      (s.halfRead k (o / 2 * 2) (decide (o % 2 = 1)) (fun t => (t, some (jobPage t i b (o / 2 * 2))))).map
        (fun r => (r.1, r.2.bufferCost k))
    | .cc _ => none
  | .slm n b =>
    if s.dram.slmPoison.contains (n * 2 ^ 34 + b / 64) then none
    else some (wordOf (s.slmByte n b) (s.slmByte n (b + 1)), s.stall k)
  | .dram w =>
    if s.dramWords ≤ w || s.dramPoisoned w then none
    else some (Sparse.get (fun _ => 0) s.dram.words w, s.stall k)
  | .register off hi =>
    match k with
    | .cc c => s.halfRead k off hi (fun t => t.regRead (.cc c) off)
    | .bead _ _ => none
  | .array w =>
    match k with
    | .cc c => match s.carRead (0x400 + c) w with
      | (t, some v) => some (v, t)
      | (_, none) => none
    | .bead _ _ => none
  | .chest w => if s.chest.bad.contains w then none else some (Sparse.get (fun _ => 0) s.chest.raw w, s)
  | .rom w => some (Config.bootRom w, s)
  | .code i w =>
    if (s.strand i).badCode.contains w then none else some (Sparse.get (fun _ => 0) (s.strand i).code w, s)
  | .localMem key w =>
    if (s.core key).bad.contains w then none
    else some (Sparse.get (fun _ => 0) (s.core key).mem w, s.cycles k 1)

/-- Write a cell. -/
def writeCell (s : State) (k : CoreId) (d : Cell) (v : Word) : Option State :=
  match d with
  | .sbuf i w =>
    some ((s.setStrand i ((s.strand i).setWord w v)).bufferCost k)
  | .page o => some ((s.setCo k (jobStore (s.co k) o v)).bufferCost k)
  | .slm n b =>
    some (((s.setSlm n b (v.extractLsb' 8 8)).setSlm n (b + 1) (v.extractLsb' 0 8)).stall k)
  | .dram w =>
    if s.dramWords ≤ w then none
    else some ({ s with dram := { s.dram with words := Sparse.set (fun _ => 0) s.dram.words w v } }.stall k)
  | .register off hi =>
    match k with
    | .cc c =>
      let core := s.co k
      if hi then some (s.regWrite (.cc c) off (v ++ core.stagedLow off (halfOf (s.reg off) false)))
      else some (s.setCo k { core with stage := some (off, v) })
    | .bead _ _ => none
  | .array w =>
    match k with
    | .cc c => some (s.carCycle (0x400 + c) w v)
    | .bead _ _ => none
  | .chest w => some { s with chest := { s.chest with raw := Sparse.set (fun _ => 0) s.chest.raw w v } }
  | .rom _ => none
  | .code i w =>
    let t := s.strand i
    some (s.setStrand i { t with code := Sparse.set (fun _ => 0) t.code w v })
  | .localMem key w =>
    let c := s.core key
    some ((s.setCore key { c with mem := Sparse.set (fun _ => 0) c.mem w v }).cycles k 1)

/-- The trap of an access that its target answers with an error (R281, R283). -/
def busError (a : Word) : Trap := { cause := 5, win := a.toNat / 4096, off := a.toNat % 4096 }

/-- An uncorrectable word of the Code Array or of the Chest, where a read of `d` has met one. -/
def Cell.uncorrectable : Cell → Option BadWord
  | .array w => some (.array w)
  | .chest w => some (.chest w)
  | _ => none

/-- Read the word at a data address. -/
def dataRead (k : CoreId) (a : Word) (s : State) : Gl (Word × State) :=
  match cellOf s k a false with
  | .error t => .error t
  | .ok d =>
    match readCell s k d with
    | some r => .ok r
    | none => .error { busError a with bad := d.uncorrectable }

/-- Write the word at a data address. -/
def dataWrite (k : CoreId) (a v : Word) (s : State) : Gl State :=
  match cellOf s k a true with
  | .error t => .error t
  | .ok d =>
    match writeCell s k d v with
    | some r => .ok r
    | none => .error (busError a)

/-! ### Addressing modes (R285 to R287, Table 12-10, Table 13-4) -/

/-- Mode sets of Table 13-4. -/
inductive ModeSet where
  | value | store | memory | transfer | branch | window | far | cinv | number
deriving DecidableEq, Repr

/-- The long mode belongs to the set. -/
def longWithin (m : LMode) : ModeSet → Bool
  | .value => true
  | .store => decide (m ≠ .imm)
  | .memory => decide (m ≠ .imm) && decide (m ≠ .reg)
  | .transfer => decide (m ≠ .stream)
  | .branch => decide (m = .imm)
  | .window => decide (m ≠ .imm) && decide (m ≠ .reg) && decide (m ≠ .stream)
  | .far => decide (m = .abs) || decide (m = .x) || decide (m = .y)
  | .cinv => decide (m = .imm) || decide (m = .abs) || decide (m = .x) || decide (m = .y)
  | .number => decide (m = .imm)

/-- The short mode belongs to the set. -/
def shortWithin (m : SMode) : ModeSet → Bool
  | .value => true
  | .store => decide (m ≠ .imm)
  | .transfer => true
  | .branch => decide (m = .imm)
  | _ => false

/-- AUX and W2 as R286 and Table 13-4 allow them. -/
def fieldsOk (o : LongOpnd) (set : ModeSet) : Bool :=
  match o.mode with
  | .reg => decide (o.w2 = 0)
  | .stream => decide (o.w2 = 0) && decide (o.aux ≠ 0)
  | m =>
    if set = .window then decide (1 ≤ o.aux.toNat) && decide (o.aux.toNat ≤ 15)
    else decide (o.aux = 0) && !(decide (set = .cinv) && decide (m = .imm) && decide (o.w2 ≠ 0))

/-- The operand form is one that the instruction accepts (R297, Table 13-4). -/
def legalOpnd (set : ModeSet) : Opnd → Bool
  | .short m _ => shortWithin m set
  | .long l => longWithin l.mode set && fieldsOk l set

/-- The form has two words. -/
def opndLong : Opnd → Bool
  | .short _ _ => false
  | .long _ => true

/-- A short immediate, direct-page offset or displacement as a word. -/
def zext8 (d : Byte) : Word := d.setWidth 16
def sext8 (d : Byte) : Word := d.signExtend 16

/-- The effective address of a memory form; modes 4 and 5 read their pointer word. -/
def effAddr (k : CoreId) (o : Opnd) (s : State) : Gl (Word × State) :=
  let c := s.co k
  match o with
  | .short .imm d => .ok (sext8 d, s)
  | .short .direct d => .ok (BitVec.ofNat 16 (c.base.toNat % 256 * 256 + d.toNat), s)
  | .short .x d => .ok (c.x + zext8 d, s)
  | .short .y d => .ok (c.y + zext8 d, s)
  | .long ⟨.imm, _, w⟩ => .ok (w, s)
  | .long ⟨.abs, _, w⟩ => .ok (w, s)
  | .long ⟨.x, _, w⟩ => .ok (c.x + w, s)
  | .long ⟨.y, _, w⟩ => .ok (c.y + w, s)
  | .long ⟨.ind, _, w⟩ => dataRead k w s
  | .long ⟨.indX, _, w⟩ =>
    match dataRead k w s with
    | .ok (p, t) => .ok (p + c.x, t)
    | .error e => .error e
  | .long ⟨.reg, _, _⟩ => .ok (0, s)
  | .long ⟨.stream, _, _⟩ => .ok (c.x, s)

/-- The operand's value: the immediate, the register, or the word at the effective address. -/
def operand (k : CoreId) (pcn : Word) (o : Opnd) (s : State) : Gl (Word × State) :=
  match o with
  | .short .imm d => .ok (sext8 d, s)
  | .long ⟨.imm, _, w⟩ => .ok (w, s)
  | .long ⟨.reg, n, _⟩ =>
    match readRegister k (s.co k) pcn n.toNat with
    | .ok v => .ok (v, s)
    | .error e => .error e
  | o =>
    match effAddr k o s with
    | .ok (a, t) => dataRead k a t
    | .error e => .error e

/-- X after the instruction's X-stream step (R287). -/
def stepX (o : Opnd) (x : Word) : Word :=
  match o with
  | .long ⟨.stream, n, _⟩ => x + n.setWidth 16
  | _ => x

/-- The target of a control transfer (R306). -/
def target (k : CoreId) (pcn : Word) (o : Opnd) (s : State) : Gl (Word × State) :=
  match o with
  | .short .imm d => .ok (pcn + sext8 d, s)
  | .long ⟨.reg, n, _⟩ =>
    match readRegister k (s.co k) pcn n.toNat with
    | .ok v => .ok (v, s)
    | .error e => .error e
  | o => effAddr k o s

/-! ### Trap and interrupt entry (R289 to R293) -/

/-- VBASE, a code word address. -/
def Core.vbase (c : Core) : Nat := c.vhi.toNat * 65536 + c.vlo.toNat

/-- Entry of a control core at vector `v` with ECAUSE and EINFO: EPC, ECS and EST save the place and ST,
which becomes privileged with interrupts off (R291). -/
def Core.enter (c : Core) (epc ecause einfo : Word) (v : Nat) (trapped : Bool) : Core :=
  let entry := c.vbase + 4 * v
  { c with
    epc := epc, ecs := c.cs, est := c.st, ecause := ecause, einfo := einfo
    st := (c.st &&& 0x2007) ||| 0x8000 ||| (if trapped then 0x2000 else 0)
    pc := BitVec.ofNat 16 entry, cs := BitVec.ofNat 16 (entry / 65536) }

/-- A trap of a control core: entry, or a stop where ST.TRAPPED is already 1 (R291). -/
def Core.trap (c : Core) (t : Trap) : Core :=
  let c1 := { c with lastCause := t.cause, lastTrapPc := c.pc }
  if bitOf c.st.toNat 13 then { c1 with run := .stopped }
  else
    c1.enter c.pc (BitVec.ofNat 16 t.cause)
      (if t.cause = 3 ∨ t.cause = 5 then BitVec.ofNat 16 (t.win * 4096 + t.off) else 0) t.cause true

/-- A trap ends a Bead's job or enters a control core's handler (R290, R291). -/
def State.glTrap (s : State) (k : CoreId) (t : Trap) : State :=
  match k with
  | .bead i b => (s.stall k).beadTrap (8 * i + b) t.cause (s.co k).pc
  | .cc _ => (s.setCo k ((s.co k).trap t)).tick

/-! ### Fetch (R278 to R280) -/

/-- The core executes: a Bead with a job that does not wait, or a running control core. -/
def State.executes (s : State) (k : CoreId) : Bool :=
  let c := s.co k
  coreExists k && decide (c.run = .running) && (!isBead k || c.job.isSome)

/-- Code word addresses of a control core's instruction. -/
def Core.codeAddr (c : Core) (pc : Word) : Nat := c.cs.toNat * 65536 + pc.toNat

/-- Lines of an instruction cache (R280). -/
def cacheLines : Nat := 4096

/-- A control core of pair `p` fetches a Code Array word: the line enters the cache, in place of one that
a free value names where the cache is full. -/
def State.fetchLine (s : State) (p line : Nat) : State :=
  let l := Sparse.get (fun _ => []) s.icache p
  if l.contains line then s
  else if l.length < cacheLines then
    { s with icache := Sparse.set (fun _ => []) s.icache p (l ++ [line]) }
  else
    let i := s.freeVal % cacheLines
    let out := nth line l i
    { s with icache := Sparse.set (fun _ => []) s.icache p (setNth line l i)
             icacheBad := Sparse.set (fun _ => []) s.icacheBad p
               ((Sparse.get (fun _ => []) s.icacheBad p).filter (fun a => decide (a / 32 ≠ out))) }.tick

/-- Fetch one instruction word: the state after it, or the trap of R278, R279 or cause 4. -/
def State.fetchWord (s : State) (k : CoreId) (pc : Word) : Gl State :=
  let c := s.co k
  match k with
  | .bead i _ =>
    match c.job with
    | some j =>
      if j.prog.codeWords ≤ pc.toNat then .error illegal
      else if (s.strand i).badCode.contains (j.prog.base + pc.toNat) then .error { cause := 4 }
      else .ok s
    | none => .error illegal
  | .cc n =>
    if c.cs.toNat < 0x200 then
      let a := c.codeAddr pc
      let l := Sparse.get (fun _ => []) s.icache (n / 2)
      if (!l.contains (a / 32) && s.carBad a) || (Sparse.get (fun _ => []) s.icacheBad (n / 2)).contains a then .error { cause := 4 }
      else .ok (s.fetchLine (n / 2) (a / 32))
    else if c.cs = 0x8000 then .ok s
    else .error illegal

/-- Fetch the words of an instruction and check its form: of two traps the lower cause is raised (R289). -/
def State.fetchInstr (s : State) (k : CoreId) (long legal : Bool) : Gl State :=
  let pc := (s.co k).pc
  match s.fetchWord k pc with
  | .error e => .error e
  | .ok t =>
    if !legal then .error illegal
    else if long then t.fetchWord k (pc + 1)
    else .ok t

/-- The address of the next instruction. -/
def Core.pcn (c : Core) (long : Bool) : Word := c.pc + (if long then 2 else 1)

/-- Code words of the instruction at a control core's PC that come from the Code Array and miss the cache. -/
def State.missed (s : State) (k : CoreId) (long : Bool) : List Nat :=
  let c := s.co k
  match k with
  | .bead _ _ => []
  | .cc n =>
    if c.cs.toNat < 0x200 then
      ((if long then [c.codeAddr c.pc, c.codeAddr (c.pc + 1)] else [c.codeAddr c.pc]).filter
        (fun a => !(Sparse.get (fun _ => []) s.icache (n / 2)).contains (a / 32)))
    else []

/-- A fetch that misses the cache stalls while its bank is BUSY or its sector is under a suspended erase (R353). -/
def State.fetchStalls (s : State) (k : CoreId) (long : Bool) : Bool :=
  (s.missed k long).any (fun a =>
    let b := s.bank (carBankOf a)
    decide (b.mode = .busy) || (decide (b.mode = .suspended) && decide (b.susp = some (carSector a))))

/-- A fetch that reads an uncorrectable array word sets CAR_ERR.ECC_UNCORR (R363). -/
def State.fetchEcc (s : State) (k : CoreId) (long : Bool) : State :=
  match k, (s.missed k long).find? s.carBad with
  | .cc n, some a => s.carRaise 7 (0x400 + n) (carSector a)
  | _, _ => s

/-- A data read that meets an uncorrectable word sets CAR_ERR.ECC_UNCORR (R363) or CHS_ERR.ECC_UNCORR (R182). -/
def State.dataEcc (s : State) (k : CoreId) (e : Trap) : State :=
  match e.bad with
  | none => s
  | some (.array w) => match k with
    | .cc n => s.carRaise 7 (0x400 + n) (carSector w)
    | .bead _ _ => s
  | some (.chest w) => s.chsRaise 6 (w / 4 * 8)

/-- Run one instruction of a core: fetch, the form's legality, the body; a trap changes nothing but what
its entry says (R289) and the record of an uncorrectable word. A stalled core does nothing (R353). -/
def State.glRun (s : State) (k : CoreId) (long legal : Bool) (body : Core → Word → State → Gl State) : State :=
  if s.executes k && !s.fetchStalls k long then
    match s.fetchInstr k long legal with
    | .error e => (if e.cause = 4 then s.fetchEcc k long else s).glTrap k e
    | .ok t =>
      match body (t.co k) ((t.co k).pcn long) (t.cycles k 1) with
      | .ok u => u
      | .error e => (t.dataEcc k e).glTrap k e
  else s

/-- Retire an instruction: the X-stream step, the register effects `f`, and PC at the next instruction. -/
def State.glRetire (s : State) (k : CoreId) (o : Opnd) (pcn : Word) (f : Core → Core) : State :=
  let c := s.co k
  s.setCo k (f { c with x := stepX o c.x, pc := pcn })

/-! ### The return stack (R275) -/

/-- Push an entry, or RSTACK_OVERFLOW. -/
def push (c : Core) (pc cs : Word) : Gl Core :=
  if 16 ≤ c.rs.length then .error { cause := 6 } else .ok { c with rs := c.rs ++ [(pc, cs)] }

/-- Pop the newest entry, or RSTACK_UNDERFLOW. -/
def pop (c : Core) : Gl (Word × Word × Core) :=
  match c.rs.getLast? with
  | none => .error { cause := 7 }
  | some (pc, cs) => .ok (pc, cs, { c with rs := c.rs.dropLast })

/-! ### Interrupt sources (R293, Table 12-13) -/

/-- The level of a source where the spec gives it: 0 PWR_FAIL_N recognised, 2 PREWARN, 12 a keyed-services
job, 23 never. -/
def State.sourceLevel (s : State) (i : Nat) : Option Bool :=
  match i with
  | 0 => some s.pwr.pwrFailLow
  | 2 => some s.pwr.prewarn
  | 12 => some s.ksu.jobFlag
  | 23 => some false
  | _ => none

/-- Source `i` is routed to control core `c`. -/
def State.routed (s : State) (c i : Nat) : Bool := (Sparse.get (fun _ => 0) s.route c).getLsbD i

/-- IPEND of a control core; the level of a source whose block's condition the spec does not name is
taken from `free`. -/
def State.ipend (s : State) (c : Nat) (free : BitVec 64) : BitVec 64 :=
  BitVec.ofNat 64 ((List.range 64).foldl (fun n i =>
    n + b2n (s.routed c i && (s.sourceLevel i).getD (free.getLsbD i)) * 2 ^ i) 0)

/-- Source `i` may interrupt or wake core `c`: it is routed, enabled by IMASK, and asserts where its
level is known. -/
def State.asserts (s : State) (c i : Nat) : Bool :=
  decide (i < 64) && s.routed c i && (s.core (256 + c)).imask.getLsbD i && (s.sourceLevel i).getD true

/-- No source below `i` with a known level is due. -/
def State.lowest (s : State) (c i : Nat) : Bool :=
  (List.range i).all (fun j => !(s.asserts c j && (s.sourceLevel j).isSome))

end Sys2Proof.Machine
end

