-- ==== Sys2Proof/Machine/GlInstr.lean ====
section
/-!
DEFINITION. The instructions of Gleluris-16 (spec/13), over the operations of Gleluris and Flags. An instruction
reads all its operands before it writes a result (R298).
-/

namespace Sys2Proof.Machine

/-! ### Shapes -/

/-- An instruction over the operand value: register effects `f` of the core before it and the operand. -/
def State.glValue (s : State) (k : CoreId) (o : Opnd) (extra : Nat) (f : Core → Word → Core → Core) : State :=
  s.glRun k (opndLong o) (legalOpnd .value o) (fun c pcn t =>
    match operand k pcn o t with
    | .error e => .error e
    | .ok (v, u) => .ok ((u.cycles k extra).glRetire k o pcn (f c v)))

/-- What an arithmetic result leaves in A, E and ST, whose flags are sticky (R274, R300). -/
def putAlu (r : AluOut) (d : Core) : Core :=
  { d with a := r.a, e := r.e
           st := d.st ||| (if r.ovf then 1 else 0) ||| (if r.dz then 2 else 0) }

/-- An arithmetic instruction. -/
def State.glAlu (s : State) (k : CoreId) (o : Opnd) (extra : Nat) (f : Core → Word → AluOut) : State :=
  s.glValue k o extra (fun c v => putAlu (f c v))

/-- An instruction that writes only A. -/
def State.glA (s : State) (k : CoreId) (o : Opnd) (f : Core → Word → Word) : State :=
  s.glValue k o 0 (fun c v d => { d with a := f c v })

/-- A division: with DZT = 1 a zero divisor sets DZ and traps (R289, R302). -/
def State.glDivide (s : State) (k : CoreId) (o : Opnd) (f : Word → Word → AluOut) : State :=
  s.glRun k (opndLong o) (legalOpnd .value o) (fun c pcn t =>
    match operand k pcn o t with
    | .error e => .error e
    | .ok (v, u) =>
      if v = 0 ∧ bitOf c.st.toNat 2 = true then
        .ok ((t.setCo k { t.co k with st := (t.co k).st ||| 2 }).glTrap k { cause := 8 })
      else .ok ((u.cycles k 17).glRetire k o pcn (putAlu (f c.a v))))

/-- A store of a register's value (R299): to memory, or to register AUX in mode 6. -/
def State.glStore (s : State) (k : CoreId) (o : Opnd) (r : Core → Word) : State :=
  s.glRun k (opndLong o) (legalOpnd .store o) (fun c pcn t =>
    match o with
    | .long ⟨.reg, n, _⟩ =>
      match writeRegister k { t.co k with pc := pcn } n.toNat (r c) with
      | .error e => .error e
      | .ok d => .ok (t.setCo k d)
    | o =>
      match effAddr k o t with
      | .error e => .error e
      | .ok (a, u) =>
        match dataWrite k a (r c) u with
        | .error e => .error e
        | .ok w => .ok (w.glRetire k o pcn id))

/-- A conditional branch: `g` is the core after the test, `taken` whether it branches (R306). -/
def State.glBranch (s : State) (k : CoreId) (o : Opnd) (taken : Core → Bool) (g : Core → Core) : State :=
  s.glRun k (opndLong o) (legalOpnd .branch o) (fun c pcn t =>
    match target k pcn o t with
    | .error e => .error e
    | .ok (a, u) =>
      if taken c then .ok ((u.cycles k 1).glRetire k o a g) else .ok (u.glRetire k o pcn g))

/-- A word of a byte or bitmap instruction at EA plus an index of A (R307). -/
def State.glIndexed (s : State) (k : CoreId) (o : Opnd) (shift : Nat) (f : Word → Word → Word) : State :=
  s.glRun k true (legalOpnd .memory o) (fun c pcn t =>
    match effAddr k o t with
    | .error e => .error e
    | .ok (a, u) =>
      match dataRead k (a + (c.a >>> shift)) u with
      | .error e => .error e
      | .ok (w, v) => .ok (v.glRetire k o pcn (fun d => { d with a := f w c.a })))

/-- A one-word instruction without operand. -/
def State.glImplied (s : State) (k : CoreId) (body : Core → Word → State → Gl State) : State :=
  s.glRun k false true body

/-- A privileged instruction's body (R310). -/
def privBody (k : CoreId) (body : Core → Word → State → Gl State) (c : Core) (pcn : Word) (s : State) : Gl State :=
  if privileged k c then body c pcn s else .error privOp

/-- Of two reads the trap of the lowest cause (R289). -/
def readTwo (k : CoreId) (a b : Word) (s : State) : Gl (Word × Word × State) :=
  match dataRead k a s with
  | .ok (v, t) =>
    match dataRead k b t with
    | .ok (w, u) => .ok (v, w, u)
    | .error e => .error e
  | .error e =>
    match dataRead k b s with
    | .ok _ => .error e
    | .error d => .error (if d.cause < e.cause then d else e)

/-! ### Data movement (Table 13-5) -/

/-- LDA: A := op (R299). -/
def execLda (k : CoreId) (o : Opnd) (s : State) : Result :=
  .next (s.glValue k o 0 (fun _ v d => { d with a := v }))

/-- LDX: X := op (R299). -/
def execLdx (k : CoreId) (o : Opnd) (s : State) : Result :=
  .next (s.glValue k o 0 (fun _ v d => { d with x := v }))

/-- LDY: Y := op (R299). -/
def execLdy (k : CoreId) (o : Opnd) (s : State) : Result :=
  .next (s.glValue k o 0 (fun _ v d => { d with y := v }))

/-- LDE: E := op (R299). -/
def execLde (k : CoreId) (o : LongOpnd) (s : State) : Result :=
  .next (s.glValue k (.long o) 0 (fun _ v d => { d with e := v }))

/-- STA: the word at EA, or register AUX, := A (R299). -/
def execSta (k : CoreId) (o : Opnd) (s : State) : Result :=
  .next (s.glStore k o (·.a))

/-- STX: the word at EA, or register AUX, := X (R299). -/
def execStx (k : CoreId) (o : Opnd) (s : State) : Result :=
  .next (s.glStore k o (·.x))

/-- STY: the word at EA, or register AUX, := Y (R299). -/
def execSty (k : CoreId) (o : Opnd) (s : State) : Result :=
  .next (s.glStore k o (·.y))

/-- STE: the word at EA, or register AUX, := E (R299). -/
def execSte (k : CoreId) (o : LongOpnd) (s : State) : Result :=
  .next (s.glStore k (.long o) (·.e))

/-- ADX: X := X + op; the step of X-stream is discarded (R287, R299). -/
def execAdx (k : CoreId) (o : Opnd) (s : State) : Result :=
  .next (s.glValue k o 0 (fun c v d => { d with x := c.x + v }))

/-- ADY: Y := Y + op (R299). -/
def execAdy (k : CoreId) (o : LongOpnd) (s : State) : Result :=
  .next (s.glValue k (.long o) 0 (fun c v d => { d with y := c.y + v }))

/-! ### Arithmetic and logic (Table 13-6, R301, R302) -/

/-- ADD (R300). -/
def execAdd (k : CoreId) (o : Opnd) (s : State) : Result :=
  .next (s.glAlu k o 0 (fun c v => aluAdd c.a v 0))

/-- ADC (R300). -/
def execAdc (k : CoreId) (o : LongOpnd) (s : State) : Result :=
  .next (s.glAlu k (.long o) 0 (fun c v => aluAdd c.a v (c.e.toNat % 2)))

/-- SUB (R300). -/
def execSub (k : CoreId) (o : Opnd) (s : State) : Result :=
  .next (s.glAlu k o 0 (fun c v => aluSub c.a v 0))

/-- SBC (R300). -/
def execSbc (k : CoreId) (o : LongOpnd) (s : State) : Result :=
  .next (s.glAlu k (.long o) 0 (fun c v => aluSub c.a v (c.e.toNat % 2)))

/-- NEG (R300, R303). -/
def execNeg (k : CoreId) (o : LongOpnd) (s : State) : Result :=
  .next (s.glAlu k (.long o) 0 (fun _ v => aluNeg v))

/-- AND (R300). -/
def execAnd (k : CoreId) (o : Opnd) (s : State) : Result :=
  .next (s.glA k o (fun c v => c.a &&& v))

/-- OR (R300). -/
def execOr (k : CoreId) (o : Opnd) (s : State) : Result :=
  .next (s.glA k o (fun c v => c.a ||| v))

/-- XOR (R300). -/
def execXor (k : CoreId) (o : Opnd) (s : State) : Result :=
  .next (s.glA k o (fun c v => c.a ^^^ v))

/-- MUL (R301). -/
def execMul (k : CoreId) (o : LongOpnd) (s : State) : Result :=
  .next (s.glAlu k (.long o) 1 (fun c v => aluMul c.a v))

/-- MULU (R301). -/
def execMulu (k : CoreId) (o : LongOpnd) (s : State) : Result :=
  .next (s.glAlu k (.long o) 1 (fun c v => aluMulu c.a v))

/-- DIV (R302). -/
def execDiv (k : CoreId) (o : LongOpnd) (s : State) : Result :=
  .next (s.glDivide k (.long o) aluDiv)

/-- DIVU (R302). -/
def execDivu (k : CoreId) (o : LongOpnd) (s : State) : Result :=
  .next (s.glDivide k (.long o) aluDivu)

/-! ### Shifts and rotates (R304) -/

/-- SHL: A alone; the count is unsigned (R304). -/
def execShl (k : CoreId) (o : Opnd) (s : State) : Result :=
  .next (s.glA k o (fun c v => shl16 c.a v.toNat))

/-- SHR: A alone; the count is unsigned (R304). -/
def execShr (k : CoreId) (o : Opnd) (s : State) : Result :=
  .next (s.glA k o (fun c v => shr16 c.a v.toNat))

/-- SAR: A alone; the count is unsigned (R304). -/
def execSar (k : CoreId) (o : Opnd) (s : State) : Result :=
  .next (s.glA k o (fun c v => sar16 c.a v.toNat))

/-- ROL: A alone; the count is unsigned (R304). -/
def execRol (k : CoreId) (o : LongOpnd) (s : State) : Result :=
  .next (s.glA k (.long o) (fun c v => rol16 c.a v.toNat))

/-- ROR: A alone; the count is unsigned (R304). -/
def execRor (k : CoreId) (o : LongOpnd) (s : State) : Result :=
  .next (s.glA k (.long o) (fun c v => ror16 c.a v.toNat))

/-- DSHL: the double word E:A (R304). -/
def execDshl (k : CoreId) (o : LongOpnd) (s : State) : Result :=
  .next (s.glAlu k (.long o) 0 (fun c v => dshl c.e c.a v.toNat))

/-- DSHR: the double word E:A (R304). -/
def execDshr (k : CoreId) (o : LongOpnd) (s : State) : Result :=
  .next (s.glAlu k (.long o) 0 (fun c v => dshr c.e c.a v.toNat))

/-- DSAR: the double word E:A (R304). -/
def execDsar (k : CoreId) (o : LongOpnd) (s : State) : Result :=
  .next (s.glAlu k (.long o) 0 (fun c v => dsar c.e c.a v.toNat))

/-! ### Compares (R305) -/

/-- CEQ (R288, R305). -/
def execCeq (k : CoreId) (o : Opnd) (s : State) : Result :=
  .next (s.glA k o (fun c v => truth (relEq c.a v)))

/-- CNE (R288, R305). -/
def execCne (k : CoreId) (o : Opnd) (s : State) : Result :=
  .next (s.glA k o (fun c v => truth (relNe c.a v)))

/-- CLT (R288, R305). -/
def execClt (k : CoreId) (o : Opnd) (s : State) : Result :=
  .next (s.glA k o (fun c v => truth (relLt c.a v)))

/-- CLE (R288, R305). -/
def execCle (k : CoreId) (o : Opnd) (s : State) : Result :=
  .next (s.glA k o (fun c v => truth (relLe c.a v)))

/-- CLTU (R288, R305). -/
def execCltu (k : CoreId) (o : Opnd) (s : State) : Result :=
  .next (s.glA k o (fun c v => truth (relLtu c.a v)))

/-- CLEU (R288, R305). -/
def execCleu (k : CoreId) (o : Opnd) (s : State) : Result :=
  .next (s.glA k o (fun c v => truth (relLeu c.a v)))

/-! ### Control transfer (R306) -/

/-- JMP: PC := target (R306). -/
def execJmp (k : CoreId) (o : Opnd) (s : State) : Result :=
  .next (s.glRun k (opndLong o) (legalOpnd .transfer o) (fun _ pcn t =>
    match target k pcn o t with
    | .error e => .error e
    | .ok (a, u) => .ok ((u.cycles k 1).glRetire k o a id)))

/-- CALL: push the next address and CS, a Bead's CS as 0; PC := target (R275, R306). -/
def execCall (k : CoreId) (o : Opnd) (s : State) : Result :=
  .next (s.glRun k (opndLong o) (legalOpnd .transfer o) (fun _ pcn t =>
    match target k pcn o t with
    | .error e => .error e
    | .ok (a, u) =>
      let c := u.co k
      match push c pcn (if isBead k then 0 else c.cs) with
      | .error e => .error e
      | .ok d => .ok ((u.cycles k 1).setCo k { d with x := stepX o d.x, pc := a })))

/-- RET: PC := the popped PC; CS is unchanged (R275, R306). -/
def execRet (k : CoreId) (s : State) : Result :=
  .next (s.glImplied k (fun c _ t =>
    match pop c with
    | .error e => .error e
    | .ok (pc, _, d) => .ok ((t.cycles k 1).setCo k { d with pc := pc })))

/-- BZ A (R306). -/
def execBzA (k : CoreId) (o : Opnd) (s : State) : Result :=
  .next (s.glBranch k o (fun c => decide (c.a = 0)) id)

/-- BNZ A (R306). -/
def execBnzA (k : CoreId) (o : Opnd) (s : State) : Result :=
  .next (s.glBranch k o (fun c => decide (c.a ≠ 0)) id)

/-- BZ X (R306). -/
def execBzX (k : CoreId) (o : Opnd) (s : State) : Result :=
  .next (s.glBranch k o (fun c => decide (c.x = 0)) id)

/-- BNZ X (R306). -/
def execBnzX (k : CoreId) (o : Opnd) (s : State) : Result :=
  .next (s.glBranch k o (fun c => decide (c.x ≠ 0)) id)

/-- BZ Y (R306). -/
def execBzY (k : CoreId) (o : Opnd) (s : State) : Result :=
  .next (s.glBranch k o (fun c => decide (c.y = 0)) id)

/-- BNZ Y (R306). -/
def execBnzY (k : CoreId) (o : Opnd) (s : State) : Result :=
  .next (s.glBranch k o (fun c => decide (c.y ≠ 0)) id)

/-- DBNZX: decrement, then branch if the result is not 0 (R288, R306). -/
def execDbnzx (k : CoreId) (o : Opnd) (s : State) : Result :=
  .next (s.glBranch k o (fun c => decide (c.x - 1 ≠ 0)) (fun d => { d with x := d.x - 1 }))

/-- DBNZY: decrement, then branch if the result is not 0 (R288, R306). -/
def execDbnzy (k : CoreId) (o : Opnd) (s : State) : Result :=
  .next (s.glBranch k o (fun c => decide (c.y - 1 ≠ 0)) (fun d => { d with y := d.y - 1 }))

/-! ### Bytes and bitmaps (R307, Table 13-10) -/

/-- BIT (R307). -/
def execBit (k : CoreId) (o : LongOpnd) (s : State) : Result :=
  .next (s.glIndexed k (.long o) 4 bitSel)

/-- LDB (R307). -/
def execLdb (k : CoreId) (o : LongOpnd) (s : State) : Result :=
  .next (s.glIndexed k (.long o) 1 byteSel)

/-- LZC (R307). -/
def execLzc (k : CoreId) (o : LongOpnd) (s : State) : Result :=
  .next (s.glA k (.long o) (fun _ v => lzc16 v))

/-- POPC (R307). -/
def execPopc (k : CoreId) (o : LongOpnd) (s : State) : Result :=
  .next (s.glA k (.long o) (fun _ v => popc16 v))

/-- SWAB (R307). -/
def execSwab (k : CoreId) (o : LongOpnd) (s : State) : Result :=
  .next (s.glA k (.long o) (fun _ v => swab16 v))

/-! ### Windows (R282, R308) -/

/-- MAPW's privilege: an unprivileged control core, or a window 1 to 6 or 15 of a Bead (R282). -/
def mapPrivileged (k : CoreId) (c : Core) (n : Nat) : Bool :=
  if isBead k then decide (7 ≤ n) && decide (n ≤ 14) else privileged k c

/-- The checks of R282 on a descriptor for window `n`. -/
def mapOk (s : State) (k : CoreId) (c : Core) (n : Nat) (w : Win) : Bool :=
  let t := w.target
  decide (bits w.w1.toNat 10 8 = 0) && decide (bits w.w2.toNat 15 9 = 0) && decide (bits w.w3.toNat 15 13 = 0) &&
    decide (t ≤ 6) && decide (t ≠ 1) && decide (t ≠ 2) && decide (1 ≤ w.limit) && decide (w.limit ≤ 4096) &&
    (decide (t = 3) || decide (w.nsid = 0)) &&
    (decide (t ≠ 3) ||
      (match s.nsOf w.nsid with
        | some m => decide (m.kind = .slm)
        | none => false)) &&
    (match k with
      | .cc _ => true
      | .bead _ _ =>
        match c.job with
        | some j =>
          decide (t < 4) && bitOf j.prog.winMask n && j.prog.dramWin && !w.writable &&
            (decide (t ≠ 3) || (s.inst j.inst).attach.any (fun a => decide (a.1 = w.nsid)))
        | none => false)

/-- A Bead's MAPW that WINMASK or FLAGS[1] refuses whatever the four words hold (R282). -/
def mapBarred (k : CoreId) (c : Core) (n : Nat) : Bool :=
  isBead k && (match c.job with
    | some j => !bitOf j.prog.winMask n || !j.prog.dramWin
    | none => false)

/-- The trap of the lowest cause among four reads, if one traps. -/
def readFour (k : CoreId) (a : Word) (s : State) : Gl (Win × State) :=
  match readTwo k a (a + 1) s with
  | .ok (p, q, t) =>
    match readTwo k (a + 2) (a + 3) t with
    | .ok (u, v, w) => .ok (⟨p, q, u, v⟩, w)
    | .error e => .error e
  | .error e =>
    match readTwo k (a + 2) (a + 3) s with
    | .ok _ => .error e
    | .error d => .error (if d.cause < e.cause then d else e)

/-- MAPW (R308): four words are read through the mappings before it, checked, and become window AUX. A
privilege trap has the lower cause; the EINFO of a failed check is not stated and is a free value. -/
def execMapw (k : CoreId) (o : LongOpnd) (s : State) : Result :=
  .next (s.glRun k true (legalOpnd .window (.long o)) (fun c pcn t =>
    let n := o.aux.toNat
    if !mapPrivileged k c n then .error privOp
    else
      let least (e : Trap) : Trap := if e.cause ≠ 3 && mapBarred k c n then { cause := 3, win := n } else e
      match effAddr k (.long o) t with
      | .error e => .error (least e)
      | .ok (a, u) =>
        match readFour k a u with
        | .error e => .error (least e)
        | .ok (w, v) =>
          if mapOk v k c n w then
            let serial := ((v.nsOf w.nsid).map (·.serial)).getD 0
            let d := (v.co k).setWindow n w
            .ok ((v.cycles k 1).setCo k { d with
              winNs := Sparse.set (fun _ => 0) d.winNs n (if w.target = 3 then serial else 0), pc := pcn })
          else .error { cause := 3, win := v.freeVal % 16, off := v.freeVal / 16 % 4096 }))

/-- Every store of a SAVW passes its checks (R308). -/
def savable (k : CoreId) (s : State) (l : List (Word × Word)) : Gl Unit :=
  match l with
  | [] => .ok ()
  | (a, v) :: t =>
    match dataWrite k a v s, savable k s t with
    | .ok _, .ok () => .ok ()
    | .error e, .ok () => .error e
    | .ok _, .error e => .error e
    | .error e, .error d => .error (if d.cause < e.cause then d else e)

/-- Write words one after another. -/
def writeAll (k : CoreId) (s : State) : List (Word × Word) → Gl State
  | [] => .ok s
  | (a, v) :: t =>
    match dataWrite k a v s with
    | .ok u => writeAll k u t
    | .error e => .error e

/-- The four words of a window as SAVW stores them: an unmapped one gives PAGE and zeros (R308). -/
def Win.words (w : Win) : List Word := if w.target = 0 then [w.page, 0, 0, 0] else [w.page, w.w1, w.w2, w.w3]

/-- SAVW (R308). -/
def execSavw (k : CoreId) (o : LongOpnd) (s : State) : Result :=
  .next (s.glRun k true (legalOpnd .window (.long o)) (fun c pcn t =>
    match effAddr k (.long o) t with
    | .error e => .error e
    | .ok (a, u) =>
      let l := ((List.range 4).map (fun i => a + BitVec.ofNat 16 i)).zip (c.window o.aux.toNat).words
      match savable k u l with
      | .error e => .error e
      | .ok () =>
        match writeAll k u l with
        | .error e => .error e
        | .ok v => .ok ((v.cycles k 1).glRetire k (.long o) pcn id)))

/-! ### Implied instructions (R309) -/

/-- NOP. -/
def execNop (k : CoreId) (s : State) : Result :=
  .next (s.glImplied k (fun _ pcn t => .ok (t.setCo k { t.co k with pc := pcn })))

/-- HALT: a Bead's job ends and its output slot goes to the mover (R215); ILLEGAL_OP on a control core. -/
def execHalt (k : CoreId) (s : State) : Result :=
  .next (s.glImplied k (fun _ _ t =>
    match k with
    | .bead i b => .ok (t.jobHalt (8 * i + b))
    | .cc _ => .error illegal))

/-- WAIT: the job yields, with its state kept, and goes on at the next address (R218, R309). -/
def execWait (k : CoreId) (s : State) : Result :=
  .next (s.glImplied k (fun c pcn t =>
    match k with
    | .bead _ _ =>
      let d := t.co k
      .ok (t.setCo k { d with pc := pcn, run := .sleeping
                              job := c.job.map (fun j => { j with waiting := some t.beat }) })
    | .cc _ => .error illegal))

/-- BREAK: trap BREAK (R309). -/
def execBreak (k : CoreId) (s : State) : Result :=
  .next (s.glImplied k (fun _ _ _ => .error { cause := 10 }))

/-! ### Privileged instructions (R310, Table 13-12) -/

/-- System register `n` (Table 12-12), IPEND as `ip`; a return-stack entry that the stack does not hold
reads as `free`. -/
def sysRead (c : Core) (n cc : Nat) (ip : BitVec 64) (free : Word) : Option Word :=
  let part (v : BitVec 64) (i : Nat) : Word := BitVec.ofNat 16 (v.toNat / 2 ^ (16 * i))
  match n with
  | 0 => some c.epc
  | 1 => some c.ecs
  | 2 => some c.est
  | 3 => some c.ecause
  | 4 => some c.einfo
  | 5 => some c.vlo
  | 6 => some c.vhi
  | 8 => some (part c.imask 0)
  | 9 => some (part c.imask 1)
  | 10 => some (part c.imask 2)
  | 11 => some (part c.imask 3)
  | 12 => some (part ip 0)
  | 13 => some (part ip 1)
  | 14 => some (part ip 2)
  | 15 => some (part ip 3)
  | 16 => some (BitVec.ofNat 16 cc)
  | 17 => some c.rsSel
  | 18 => some (if c.rsSel.toNat < c.rs.length then (nth (0, 0) c.rs c.rsSel.toNat).1 else free)
  | 19 => some (if c.rsSel.toNat < c.rs.length then (nth (0, 0) c.rs c.rsSel.toNat).2 else free)
  | 20 => some (BitVec.ofNat 16 c.rs.length)
  | _ => none

/-- Quarter `i` of IMASK replaced. -/
def putMask (m : BitVec 64) (i : Nat) (v : Word) : BitVec 64 :=
  BitVec.ofNat 64 (setBits m.toNat (16 * i + 15) (16 * i) v.toNat)

/-- The return stack at a new depth: entries above it go, new ones hold the values last written through
RS_PC and RS_CS (Table 12-12). -/
def resizeRs (c : Core) (n : Nat) : List (Word × Word) :=
  c.rs.take n ++ List.replicate (n - c.rs.length) (c.rsPc, c.rsCs)

/-- Write system register `n`: none where the table lists none; a read-only one is unchanged. A depth
above 16, which the table does not allow, gives a free depth. -/
def sysWrite (c : Core) (n : Nat) (v : Word) (free : Nat) : Option Core :=
  let sel := c.rsSel.toNat
  match n with
  | 0 => some { c with epc := v }
  | 1 => some { c with ecs := v }
  | 2 => some { c with est := v }
  | 3 => some { c with ecause := v }
  | 4 => some { c with einfo := v }
  | 5 => some { c with vlo := v &&& 0xFE00 }
  | 6 => some { c with vhi := v }
  | 8 => some { c with imask := putMask c.imask 0 v }
  | 9 => some { c with imask := putMask c.imask 1 v }
  | 10 => some { c with imask := putMask c.imask 2 v }
  | 11 => some { c with imask := putMask c.imask 3 v }
  | 12 => some c
  | 13 => some c
  | 14 => some c
  | 15 => some c
  | 16 => some c
  | 17 => some { c with rsSel := v &&& 0x000F }
  | 18 => some { c with rsPc := v, rs := setNth (v, (nth (0, 0) c.rs sel).2) c.rs sel }
  | 19 => some { c with rsCs := v, rs := setNth ((nth (0, 0) c.rs sel).1, v) c.rs sel }
  | 20 =>
    let d := v.toNat % 32
    some { c with rs := resizeRs c (if d ≤ 16 then d else free % 17) }
  | _ => none

/-- The control core's number. -/
def ccOf : CoreId → Nat
  | .cc c => c
  | .bead _ _ => 0

/-- The table lists system register `n`; another number is ILLEGAL_OP, which comes before PRIV_OP (R289). -/
def sysListed (n : Nat) : Bool := decide (n ≤ 6) || (decide (8 ≤ n) && decide (n ≤ 20))

/-- MFSR: A := system register W2 (R292). -/
def execMfsr (k : CoreId) (o : LongOpnd) (s : State) : Result :=
  .next (s.glRun k true (legalOpnd .number (.long o) && sysListed o.w2.toNat) (privBody k (fun c pcn t =>
    match sysRead c o.w2.toNat (ccOf k) (t.ipend (ccOf k) (BitVec.ofNat 64 t.freeVal)) (BitVec.ofNat 16 t.freeVal) with
    | none => .error illegal
    | some v => .ok (t.tick.glRetire k (.long o) pcn (fun d => { d with a := v })))))

/-- MTSR: system register W2 := A (R292). -/
def execMtsr (k : CoreId) (o : LongOpnd) (s : State) : Result :=
  .next (s.glRun k true (legalOpnd .number (.long o) && sysListed o.w2.toNat) (privBody k (fun c pcn t =>
    match sysWrite c o.w2.toNat c.a t.freeVal with
    | none => .error illegal
    | some d => .ok (t.tick.setCo k { d with pc := pcn }))))

/-- The far pointer at EA: CS first, then PC (R310). -/
def farPointer (k : CoreId) (o : LongOpnd) (t : State) : Gl (Word × Word × State) :=
  match effAddr k (.long o) t with
  | .error e => .error e
  | .ok (a, u) => readTwo k a (a + 1) u

/-- FCALL (R310). -/
def execFcall (k : CoreId) (o : LongOpnd) (s : State) : Result :=
  .next (s.glRun k true (legalOpnd .far (.long o)) (privBody k (fun c pcn t =>
    match farPointer k o t with
    | .error e => .error e
    | .ok (cs, pc, u) =>
      match push (u.co k) pcn c.cs with
      | .error e => .error e
      | .ok d => .ok (u.setCo k { d with cs := cs, pc := pc }))))

/-- FJMP (R310). -/
def execFjmp (k : CoreId) (o : LongOpnd) (s : State) : Result :=
  .next (s.glRun k true (legalOpnd .far (.long o)) (privBody k (fun _ _ t =>
    match farPointer k o t with
    | .error e => .error e
    | .ok (cs, pc, u) => .ok (u.setCo k { u.co k with cs := cs, pc := pc }))))

/-- FRET (R275, R310). -/
def execFret (k : CoreId) (s : State) : Result :=
  .next (s.glImplied k (privBody k (fun c _ t =>
    match pop c with
    | .error e => .error e
    | .ok (pc, cs, d) => .ok (t.setCo k { d with pc := pc, cs := cs }))))

/-- RETI: ST := EST, reserved bits reading 0; CS:PC := ECS:EPC (R291). -/
def execReti (k : CoreId) (s : State) : Result :=
  .next (s.glImplied k (privBody k (fun c _ t =>
    .ok (t.setCo k { t.co k with st := c.est &&& 0xE007, cs := c.ecs, pc := c.epc }))))

/-- SLEEP: stop until a source has IPEND and IMASK set; at once where one has (R294). -/
def execSleep (k : CoreId) (s : State) : Result :=
  .next (s.glImplied k (privBody k (fun c pcn t =>
    let due := (t.ipend (ccOf k) (BitVec.ofNat 64 t.freeVal) &&& c.imask) ≠ 0
    .ok (t.tick.setCo k { t.co k with pc := pcn, run := if due then .running else .sleeping }))))

/-- Lines of the pair's cache that CINV leaves (R311). -/
def State.invalidate (s : State) (k : CoreId) (keep : Nat → Bool) : State :=
  let p := ccOf k / 2
  { s with icache := Sparse.set (fun _ => []) s.icache p ((Sparse.get (fun _ => []) s.icache p).filter keep)
           icacheBad := Sparse.set (fun _ => []) s.icacheBad p ((Sparse.get (fun _ => []) s.icacheBad p).filter (fun a => keep (a / 32))) }

/-- CINV (R311): every line of the pair's cache, or the line of a far pointer into the Code Array; a
pointer elsewhere has no effect. -/
def execCinv (k : CoreId) (o : LongOpnd) (s : State) : Result :=
  .next (s.glRun k true (legalOpnd .cinv (.long o)) (privBody k (fun _ pcn t =>
    if o.mode = .imm then .ok ((t.invalidate k (fun _ => false)).glRetire k (.long o) pcn id)
    else
      match farPointer k o t with
      | .error e => .error e
      | .ok (cs, pc, u) =>
        let line := (cs.toNat * 65536 + pc.toNat) / 32
        .ok ((if cs.toNat < 0x200 then u.invalidate k (fun l => decide (l ≠ line)) else u).glRetire k (.long o) pcn id))))

/-! ### Undefined opcodes and interrupts -/

/-- First words that no table of 13 defines: the long opcodes marked "—" and short MISC words outside
Table 13-3 (R296). -/
def undefinedWord (w : Word) : Bool :=
  let n := w.toNat
  if bitOf n 15 then decide (0x34 < bits n 14 9) && (decide (bits n 14 9 ≤ 0x37) || decide (0x3C < bits n 14 9))
  else
    decide (bits n 14 10 = 0x1F) &&
      (decide (bits n 9 8 ≠ 0) || !([0, 1, 2, 3, 4, 0x10, 0x11, 0x12].contains (bits n 7 0)))

/-- ILLEGAL_OP: the core fetches a word that is no instruction (R296). -/
def execIllegalOp (k : CoreId) (w1 : Word) (s : State) : Result :=
  .next (if undefinedWord w1 then s.glRun k false false (fun _ _ t => .ok t) else s)

/-- INTERRUPT_ENTRY (R293): control core `c` takes source `source`, its lowest due one, between two
instructions. -/
def execInterruptEntry (c source : Nat) (s : State) : Result :=
  .next (
    let k := CoreId.cc c
    let d := s.co k
    if decide (c < 16) && decide (d.run = .running) && bitOf d.st.toNat 14 && !bitOf d.st.toNat 13 &&
        s.asserts c source && s.lowest c source then
      s.setCo k (d.enter d.pc (BitVec.ofNat 16 (0x8000 + source + 16)) 0 (16 + source) false)
    else s)

/-- SLEEP_WAKE (R294): a due source wakes the core; with IE = 1 and TRAPPED = 0 its interrupt is taken. -/
def execSleepWake (c source : Nat) (s : State) : Result :=
  .next (
    let k := CoreId.cc c
    let d := { s.co k with run := .running }
    if decide (c < 16) && decide ((s.co k).run = .sleeping) && s.asserts c source && s.lowest c source then
      if bitOf d.st.toNat 14 && !bitOf d.st.toNat 13 then
        s.setCo k (d.enter d.pc (BitVec.ofNat 16 (0x8000 + source + 16)) 0 (16 + source) false)
      else s.setCo k d
    else s)

end Sys2Proof.Machine
end

