-- ==== Sys2Proof/Machine/Dispatch.lean ====
section
/-!
DEFINITION. One arm for each command: a direct call of its meaning.
-/

namespace Sys2Proof.Machine

def exec (i : Instr) (s : State) : Host.Outcome State Fault Refusal :=
  match i with
  | .beatBoundary temps plan => Sys2Proof.Machine.execBeatBoundary temps plan s
  | .commandDeadlineExpiry tag => Sys2Proof.Machine.execCommandDeadlineExpiry tag s
  | .beatOverrun strand bead => Sys2Proof.Machine.execBeatOverrun strand bead s
  | .rebuildWaitExpiry tag => Sys2Proof.Machine.execRebuildWaitExpiry tag s
  | .ksIdleTimeout => Sys2Proof.Machine.execKsIdleTimeout s
  | .watchdogPrewarn => Sys2Proof.Machine.execWatchdogPrewarn s
  | .watchdogReset f b => Sys2Proof.Machine.execWatchdogReset f b s
  | .medOpTimeout ch lun => Sys2Proof.Machine.execMedOpTimeout ch lun s
  | .splinterWindowExpiry => Sys2Proof.Machine.execSplinterWindowExpiry s
  | .wearLevellingPeriod moves => Sys2Proof.Machine.execWearLevellingPeriod moves s
  | .checkpointPeriodExpiry => Sys2Proof.Machine.execCheckpointPeriodExpiry s
  | .checkpointComplete images => Sys2Proof.Machine.execCheckpointComplete images s
  | .scrubPassStart => Sys2Proof.Machine.execScrubPassStart s
  | .patrolScrubRead find => Sys2Proof.Machine.execPatrolScrubRead find s
  | .powerStateEntry => Sys2Proof.Machine.execPowerStateEntry s
  | .powerStateWake => Sys2Proof.Machine.execPowerStateWake s
  | .codeArrayLockoutExpiry => Sys2Proof.Machine.execCodeArrayLockoutExpiry s
  | .completionTimeout kind => Sys2Proof.Machine.execCompletionTimeout kind s
  | .shardJobTimeout => Sys2Proof.Machine.execShardJobTimeout s
  | .cipherJobTimeout data => Sys2Proof.Machine.execCipherJobTimeout data s
  | .listSequenceEnd kvns => Sys2Proof.Machine.execListSequenceEnd kvns s
  | .throttleStep => Sys2Proof.Machine.execThrottleStep s
  | .thermalShutdown f => Sys2Proof.Machine.execThermalShutdown f s
  | .por b => Sys2Proof.Machine.execPor b s
  | .cc0StartWaitEnd => Sys2Proof.Machine.execCc0StartWaitEnd s
  | .powerLoss => Sys2Proof.Machine.execPowerLoss s
  | .powerFail f cut => Sys2Proof.Machine.execPowerFail f cut s
  | .perstNAssert f => Sys2Proof.Machine.execPerstNAssert f s
  | .perstNRelease b => Sys2Proof.Machine.execPerstNRelease b s
  | .hotReset port => Sys2Proof.Machine.execHotReset port s
  | .softChipReset src v f b => Sys2Proof.Machine.execSoftChipReset src v f b s
  | .controllerEnable port cc aqa asq acq => Sys2Proof.Machine.execControllerEnable port cc aqa asq acq s
  | .controllerReset port => Sys2Proof.Machine.execControllerReset port s
  | .controllerResetDrained port => Sys2Proof.Machine.execControllerResetDrained port s
  | .shutdownNotification port => Sys2Proof.Machine.execShutdownNotification port s
  | .shutdownComplete port => Sys2Proof.Machine.execShutdownComplete port s
  | .linkRetrain src port => Sys2Proof.Machine.execLinkRetrain src port s
  | .linkTrained port flit speed width => Sys2Proof.Machine.execLinkTrained port flit speed width s
  | .sqTailDoorbell db v => Sys2Proof.Machine.execSqTailDoorbell db v s
  | .cqHeadDoorbell db v => Sys2Proof.Machine.execCqHeadDoorbell db v s
  | .commandFetch row sqes => Sys2Proof.Machine.execCommandFetch row sqes s
  | .adminCommandFetch port sqes => Sys2Proof.Machine.execAdminCommandFetch port sqes s
  | .writeClassAdmit tag => Sys2Proof.Machine.execWriteClassAdmit tag s
  | .journalHoldRelease => Sys2Proof.Machine.execJournalHoldRelease s
  | .writeCommandAck tag => Sys2Proof.Machine.execWriteCommandAck tag s
  | .interruptMessage row => Sys2Proof.Machine.execInterruptMessage row s
  | .msixUnmask port vector => Sys2Proof.Machine.execMsixUnmask port vector s
  | .dmaFault kind cause => Sys2Proof.Machine.execDmaFault kind cause s
  | .registerWrite src off full vals => Sys2Proof.Machine.execRegisterWrite src off full vals s
  | .rcRegisterRead src off => Sys2Proof.Machine.execRcRegisterRead src off s
  | .qmgQcmdRead src => Sys2Proof.Machine.execQmgQcmdRead src s
  | .qmgImtLoad src => Sys2Proof.Machine.execQmgImtLoad src s
  | .qmgImtStore src => Sys2Proof.Machine.execQmgImtStore src s
  | .createIoCq tag => Sys2Proof.Machine.execCreateIoCq tag s
  | .createIoSq tag => Sys2Proof.Machine.execCreateIoSq tag s
  | .deleteIoSq tag => Sys2Proof.Machine.execDeleteIoSq tag s
  | .deleteIoSqDrained row => Sys2Proof.Machine.execDeleteIoSqDrained row s
  | .deleteIoCq tag => Sys2Proof.Machine.execDeleteIoCq tag s
  | .identify tag segs => Sys2Proof.Machine.execIdentify tag segs s
  | .getLogPage tag segs => Sys2Proof.Machine.execGetLogPage tag segs s
  | .setFeatures tag => Sys2Proof.Machine.execSetFeatures tag s
  | .setFeaturesNumberOfQueues tag => Sys2Proof.Machine.execSetFeaturesNumberOfQueues tag s
  | .setFeaturesPowerManagement tag => Sys2Proof.Machine.execSetFeaturesPowerManagement tag s
  | .setFeaturesHmb tag desc => Sys2Proof.Machine.execSetFeaturesHmb tag desc s
  | .getFeatures tag segs => Sys2Proof.Machine.execGetFeatures tag segs s
  | .asyncEventRequest tag => Sys2Proof.Machine.execAsyncEventRequest tag s
  | .namespaceManagement tag data => Sys2Proof.Machine.execNamespaceManagement tag data s
  | .formatNvm tag => Sys2Proof.Machine.execFormatNvm tag s
  | .sanitize tag => Sys2Proof.Machine.execSanitize tag s
  | .firmwareImageDownload tag data => Sys2Proof.Machine.execFirmwareImageDownload tag data s
  | .firmwareCommit tag written => Sys2Proof.Machine.execFirmwareCommit tag written s
  | .instanceCreate tag rec => Sys2Proof.Machine.execInstanceCreate tag rec s
  | .instanceDelete tag => Sys2Proof.Machine.execInstanceDelete tag s
  | .instanceDeleteComplete inst => Sys2Proof.Machine.execInstanceDeleteComplete inst s
  | .instanceSetShare tag => Sys2Proof.Machine.execInstanceSetShare tag s
  | .instanceReset tag => Sys2Proof.Machine.execInstanceReset tag s
  | .instanceResetComplete inst => Sys2Proof.Machine.execInstanceResetComplete inst s
  | .instanceAttachNamespace tag => Sys2Proof.Machine.execInstanceAttachNamespace tag s
  | .instanceQuery tag => Sys2Proof.Machine.execInstanceQuery tag s
  | .dirtyLogStart tag => Sys2Proof.Machine.execDirtyLogStart tag s
  | .dirtyLogStop tag => Sys2Proof.Machine.execDirtyLogStop tag s
  | .dirtyLogHarvest tag => Sys2Proof.Machine.execDirtyLogHarvest tag s
  | .peerTableSet tag data => Sys2Proof.Machine.execPeerTableSet tag data s
  | .setLatencyTolerance tag => Sys2Proof.Machine.execSetLatencyTolerance tag s
  | .nvmRead tag segs mseg => Sys2Proof.Machine.execNvmRead tag segs mseg s
  | .nvmWrite tag data mdata => Sys2Proof.Machine.execNvmWrite tag data mdata s
  | .nvmCompare tag data mdata => Sys2Proof.Machine.execNvmCompare tag data mdata s
  | .nvmVerify tag => Sys2Proof.Machine.execNvmVerify tag s
  | .writeZeroes tag => Sys2Proof.Machine.execWriteZeroes tag s
  | .datasetManagement tag ranges => Sys2Proof.Machine.execDatasetManagement tag ranges s
  | .flush_ tag => Sys2Proof.Machine.execFlush tag s
  | .kvStore tag data => Sys2Proof.Machine.execKvStore tag data s
  | .kvRetrieve tag segs => Sys2Proof.Machine.execKvRetrieve tag segs s
  | .kvDelete tag => Sys2Proof.Machine.execKvDelete tag s
  | .kvExist tag => Sys2Proof.Machine.execKvExist tag s
  | .kvList tag segs => Sys2Proof.Machine.execKvList tag segs s
  | .kvCommitPoint tag => Sys2Proof.Machine.execKvCommitPoint tag s
  | .pipeWrite tag idesc shdesc data => Sys2Proof.Machine.execPipeWrite tag idesc shdesc data s
  | .pipeRead tag desc table segs => Sys2Proof.Machine.execPipeRead tag desc table segs s
  | .pipeScan tag desc table segs => Sys2Proof.Machine.execPipeScan tag desc table segs s
  | .shardEncode tag desc data => Sys2Proof.Machine.execShardEncode tag desc data s
  | .shardRebuild tag desc srcs => Sys2Proof.Machine.execShardRebuild tag desc srcs s
  | .kvBatchCommit tag list data => Sys2Proof.Machine.execKvBatchCommit tag list data s
  | .loadProgram tag data => Sys2Proof.Machine.execLoadProgram tag data s
  | .programActivationManagement tag => Sys2Proof.Machine.execProgramActivationManagement tag s
  | .memoryRead tag segs => Sys2Proof.Machine.execMemoryRead tag segs s
  | .memoryWrite tag data => Sys2Proof.Machine.execMemoryWrite tag data s
  | .claspContextGrant desc table segs => Sys2Proof.Machine.execClaspContextGrant desc table segs s
  | .spanDecode tag span => Sys2Proof.Machine.execSpanDecode tag span s
  | .imageEncode slot grain body parts spot stripes => Sys2Proof.Machine.execImageEncode slot grain body parts spot stripes s
  | .sinkFrame strand body => Sys2Proof.Machine.execSinkFrame strand body s
  | .moverForward strand => Sys2Proof.Machine.execMoverForward strand s
  | .claspStreamEnd tag => Sys2Proof.Machine.execClaspStreamEnd tag s
  | .pressJobSubmit src strand hi => Sys2Proof.Machine.execPressJobSubmit src strand hi s
  | .pressJobStart strand desc src dst => Sys2Proof.Machine.execPressJobStart strand desc src dst s
  | .pressJobSlice strand data body recordFault => Sys2Proof.Machine.execPressJobSlice strand data body recordFault s
  | .shardJobStart stall => Sys2Proof.Machine.execShardJobStart stall s
  | .nandReadComplete ch lun cws => Sys2Proof.Machine.execNandReadComplete ch lun cws s
  | .nandProgramComplete ch lun pass done => Sys2Proof.Machine.execNandProgramComplete ch lun pass done s
  | .nandEraseComplete ch lun pass => Sys2Proof.Machine.execNandEraseComplete ch lun pass s
  | .nandSuspendComplete ch lun => Sys2Proof.Machine.execNandSuspendComplete ch lun s
  | .lunResetComplete ch lun pass => Sys2Proof.Machine.execLunResetComplete ch lun pass s
  | .nandRbFall ch line => Sys2Proof.Machine.execNandRbFall ch line s
  | .medRecal ch => Sys2Proof.Machine.execMedRecal ch s
  | .calibrationComplete ch margin pass => Sys2Proof.Machine.execCalibrationComplete ch margin pass s
  | .softDecodeComplete pass => Sys2Proof.Machine.execSoftDecodeComplete pass s
  | .stripeReconstruction ch n => Sys2Proof.Machine.execStripeReconstruction ch n s
  | .foldImage m => Sys2Proof.Machine.execFoldImage m s
  | .gcPass moves => Sys2Proof.Machine.execGcPass moves s
  | .refreshRow ch lun block moves => Sys2Proof.Machine.execRefreshRow ch lun block moves s
  | .coalesceSpan nsid span body spot stripes => Sys2Proof.Machine.execCoalesceSpan nsid span body spot stripes s
  | .lunRelocation ch lun moves stripes => Sys2Proof.Machine.execLunRelocation ch lun moves stripes s
  | .eraseGateRequest ch lun block => Sys2Proof.Machine.execEraseGateRequest ch lun block s
  | .eraseGateIssue ch lun block => Sys2Proof.Machine.execEraseGateIssue ch lun block s
  | .chestRecordCommit => Sys2Proof.Machine.execChestRecordCommit s
  | .chestWriteFail addr => Sys2Proof.Machine.execChestWriteFail addr s
  | .chsCkptStart src => Sys2Proof.Machine.execChsCkptStart src s
  | .drawerWriteOut seg slot => Sys2Proof.Machine.execDrawerWriteOut seg slot s
  | .drawerSegmentRead seg data => Sys2Proof.Machine.execDrawerSegmentRead seg data s
  | .mapSegmentRebuild seg => Sys2Proof.Machine.execMapSegmentRebuild seg s
  | .rebuildScanComplete => Sys2Proof.Machine.execRebuildScanComplete s
  | .rebuildPartitionComplete kind part => Sys2Proof.Machine.execRebuildPartitionComplete kind part s
  | .indexPartitionRebuild part => Sys2Proof.Machine.execIndexPartitionRebuild part s
  | .ksLockRead src => Sys2Proof.Machine.execKsLockRead src s
  | .ksRelease src v => Sys2Proof.Machine.execKsRelease src v s
  | .ksActWrite src v => Sys2Proof.Machine.execKsActWrite src v s
  | .keySlotWrite src slot keylen => Sys2Proof.Machine.execKeySlotWrite src slot keylen s
  | .keySlotZeroize src slot => Sys2Proof.Machine.execKeySlotZeroize src slot s
  | .keySlotShare src slot => Sys2Proof.Machine.execKeySlotShare src slot s
  | .keySlotUnshare src slot => Sys2Proof.Machine.execKeySlotUnshare src slot s
  | .digestStart src ctl => Sys2Proof.Machine.execDigestStart src ctl s
  | .digestDataWrite src w => Sys2Proof.Machine.execDigestDataWrite src w s
  | .digestLastCommit src v => Sys2Proof.Machine.execDigestLastCommit src v s
  | .digestBlockDone => Sys2Proof.Machine.execDigestBlockDone s
  | .cipherDescCommit src hi slot => Sys2Proof.Machine.execCipherDescCommit src hi slot s
  | .cipherJobStart desc tag => Sys2Proof.Machine.execCipherJobStart desc tag s
  | .cipherJobEnd data aad writeFault recordFault => Sys2Proof.Machine.execCipherJobEnd data aad writeFault recordFault s
  | .wordProgram req addr data => Sys2Proof.Machine.execWordProgram req addr data s
  | .bufferLoad req addr count writes => Sys2Proof.Machine.execBufferLoad req addr count writes s
  | .bufferConfirm req addr => Sys2Proof.Machine.execBufferConfirm req addr s
  | .sectorErase req addr => Sys2Proof.Machine.execSectorErase req addr s
  | .bankErase req addr => Sys2Proof.Machine.execBankErase req addr s
  | .statusRead req bank => Sys2Proof.Machine.execStatusRead req bank s
  | .eraseSuspend req bank => Sys2Proof.Machine.execEraseSuspend req bank s
  | .eraseSuspendEffect bank => Sys2Proof.Machine.execEraseSuspendEffect bank s
  | .eraseResume req bank => Sys2Proof.Machine.execEraseResume req bank s
  | .passwordUnlock req bank w0 w1 w2 w3 => Sys2Proof.Machine.execPasswordUnlock req bank w0 w1 w2 w3 s
  | .protectionProgram req addr v => Sys2Proof.Machine.execProtectionProgram req addr v s
  | .protectionFreeze req bank => Sys2Proof.Machine.execProtectionFreeze req bank s
  | .bootSwap req bank => Sys2Proof.Machine.execBootSwap req bank s
  | .exitOrReset req addr => Sys2Proof.Machine.execExitOrReset req addr s
  | .codeArrayBankRead req addr => Sys2Proof.Machine.execCodeArrayBankRead req addr s
  | .codeArrayOperationDone bank pass => Sys2Proof.Machine.execCodeArrayOperationDone bank pass s
  | .refreshTick ch sub rank queued window => Sys2Proof.Machine.execRefreshTick ch sub rank queued window s
  | .refreshMakeup ch sub rank => Sys2Proof.Machine.execRefreshMakeup ch sub rank s
  | .refreshRatePoll ch sub rank doubled => Sys2Proof.Machine.execRefreshRatePoll ch sub rank doubled s
  | .delaySetSwitch ch sub => Sys2Proof.Machine.execDelaySetSwitch ch sub s
  | .checkAreaReadback ch pass => Sys2Proof.Machine.execCheckAreaReadback ch pass s
  | .dramLineAccess ch line write whole draw => Sys2Proof.Machine.execDramLineAccess ch line write whole draw s
  | .selfRefreshEntry ch => Sys2Proof.Machine.execSelfRefreshEntry ch s
  | .selfRefreshExit ch early => Sys2Proof.Machine.execSelfRefreshExit ch early s
  | .dramCorrectableError site device bits syms => Sys2Proof.Machine.execDramCorrectableError site device bits syms s
  | .dramUncorrectableError ch line req id region => Sys2Proof.Machine.execDramUncorrectableError ch line req id region s
  | .sramUncorrectableError cls inst word synd req => Sys2Proof.Machine.execSramUncorrectableError cls inst word synd req s
  | .tmrWdtKick src v => Sys2Proof.Machine.execTmrWdtKick src v s
  | .interruptEntry c source => Sys2Proof.Machine.execInterruptEntry c source s
  | .sleepWake c source => Sys2Proof.Machine.execSleepWake c source s
  | .lda k o => Sys2Proof.Machine.execLda k o s
  | .ldx k o => Sys2Proof.Machine.execLdx k o s
  | .ldy k o => Sys2Proof.Machine.execLdy k o s
  | .lde k o => Sys2Proof.Machine.execLde k o s
  | .sta k o => Sys2Proof.Machine.execSta k o s
  | .stx k o => Sys2Proof.Machine.execStx k o s
  | .sty k o => Sys2Proof.Machine.execSty k o s
  | .ste k o => Sys2Proof.Machine.execSte k o s
  | .adx k o => Sys2Proof.Machine.execAdx k o s
  | .ady k o => Sys2Proof.Machine.execAdy k o s
  | .add k o => Sys2Proof.Machine.execAdd k o s
  | .adc k o => Sys2Proof.Machine.execAdc k o s
  | .sub k o => Sys2Proof.Machine.execSub k o s
  | .sbc k o => Sys2Proof.Machine.execSbc k o s
  | .neg k o => Sys2Proof.Machine.execNeg k o s
  | .and_ k o => Sys2Proof.Machine.execAnd k o s
  | .or_ k o => Sys2Proof.Machine.execOr k o s
  | .xor k o => Sys2Proof.Machine.execXor k o s
  | .mul k o => Sys2Proof.Machine.execMul k o s
  | .mulu k o => Sys2Proof.Machine.execMulu k o s
  | .div k o => Sys2Proof.Machine.execDiv k o s
  | .divu k o => Sys2Proof.Machine.execDivu k o s
  | .shl k o => Sys2Proof.Machine.execShl k o s
  | .shr k o => Sys2Proof.Machine.execShr k o s
  | .sar k o => Sys2Proof.Machine.execSar k o s
  | .rol k o => Sys2Proof.Machine.execRol k o s
  | .ror k o => Sys2Proof.Machine.execRor k o s
  | .dshl k o => Sys2Proof.Machine.execDshl k o s
  | .dshr k o => Sys2Proof.Machine.execDshr k o s
  | .dsar k o => Sys2Proof.Machine.execDsar k o s
  | .ceq k o => Sys2Proof.Machine.execCeq k o s
  | .cne k o => Sys2Proof.Machine.execCne k o s
  | .clt k o => Sys2Proof.Machine.execClt k o s
  | .cle k o => Sys2Proof.Machine.execCle k o s
  | .cltu k o => Sys2Proof.Machine.execCltu k o s
  | .cleu k o => Sys2Proof.Machine.execCleu k o s
  | .jmp k o => Sys2Proof.Machine.execJmp k o s
  | .call k o => Sys2Proof.Machine.execCall k o s
  | .ret k => Sys2Proof.Machine.execRet k s
  | .bzA k o => Sys2Proof.Machine.execBzA k o s
  | .bnzA k o => Sys2Proof.Machine.execBnzA k o s
  | .bzX k o => Sys2Proof.Machine.execBzX k o s
  | .bnzX k o => Sys2Proof.Machine.execBnzX k o s
  | .bzY k o => Sys2Proof.Machine.execBzY k o s
  | .bnzY k o => Sys2Proof.Machine.execBnzY k o s
  | .dbnzx k o => Sys2Proof.Machine.execDbnzx k o s
  | .dbnzy k o => Sys2Proof.Machine.execDbnzy k o s
  | .bit k o => Sys2Proof.Machine.execBit k o s
  | .ldb k o => Sys2Proof.Machine.execLdb k o s
  | .lzc k o => Sys2Proof.Machine.execLzc k o s
  | .popc k o => Sys2Proof.Machine.execPopc k o s
  | .swab k o => Sys2Proof.Machine.execSwab k o s
  | .mapw k o => Sys2Proof.Machine.execMapw k o s
  | .savw k o => Sys2Proof.Machine.execSavw k o s
  | .nop k => Sys2Proof.Machine.execNop k s
  | .halt k => Sys2Proof.Machine.execHalt k s
  | .wait k => Sys2Proof.Machine.execWait k s
  | .break_ k => Sys2Proof.Machine.execBreak k s
  | .fcall k o => Sys2Proof.Machine.execFcall k o s
  | .fjmp k o => Sys2Proof.Machine.execFjmp k o s
  | .fret k => Sys2Proof.Machine.execFret k s
  | .reti k => Sys2Proof.Machine.execReti k s
  | .sleep k => Sys2Proof.Machine.execSleep k s
  | .mfsr k o => Sys2Proof.Machine.execMfsr k o s
  | .mtsr k o => Sys2Proof.Machine.execMtsr k o s
  | .cinv k o => Sys2Proof.Machine.execCinv k o s
  | .extest cells => Sys2Proof.Machine.execExtest cells s
  | .idcode => Sys2Proof.Machine.execIdcode s
  | .samplePreload cells => Sys2Proof.Machine.execSamplePreload cells s
  | .clamp => Sys2Proof.Machine.execClamp s
  | .highz => Sys2Proof.Machine.execHighz s
  | .bypass bits => Sys2Proof.Machine.execBypass bits s
  | .adhDebug response => Sys2Proof.Machine.execAdhDebug response s
  | .nvmeMiRequest => Sys2Proof.Machine.execNvmeMiRequest s
  | .linkDown port => Sys2Proof.Machine.execLinkDown port s
  | .linkPartnerRetrain port => Sys2Proof.Machine.execLinkPartnerRetrain port s
  | .ecrcError port => Sys2Proof.Machine.execEcrcError port s
  | .receiverError port replay => Sys2Proof.Machine.execReceiverError port replay s
  | .atsInvalidateRequest port pasid first count => Sys2Proof.Machine.execAtsInvalidateRequest port pasid first count s
  | .configurationRequest port write => Sys2Proof.Machine.execConfigurationRequest port write s
  | .illegalOp k w1 => Sys2Proof.Machine.execIllegalOp k w1 s

end Sys2Proof.Machine
end

