-- ==== Sys2Proof/Safety.lean ====
section
/-!
DEFINITION. What a safe run is, and the terms the statements use: a command's effect, the fetch and operand of a
core's instruction, and how it retires.
-/

namespace Sys2Proof.Machine

/-- Wherever `pre` holds, the command answers a next state that `post` relates to the state before it. -/
def Does (c : Instr) (pre : State → Prop) (post : State → State → Prop) : Prop :=
  ∀ s, pre s → ∃ t, exec c s = .next t ∧ post s t

/-- A run of `k` steps from `s` that ends in `t`. -/
def Runs : Nat → State → State → Prop
  | 0, s, t => s = t
  | k + 1, s, t => ∃ u, step s = .next u ∧ Runs k u t

/-- The commands that wait all belong to `fam`. -/
def Waits (fam : Instr → Prop) (s : State) : Prop := ∀ c ∈ s.pending, fam c

/-! ### Instructions of Gleluris-16 -/

/-- The core runs and its fetch does not stall: it fetches an instruction of that length and form, and `t` is the state after
the fetch (R278, R286, R353). -/
def Fetches (k : CoreId) (long legal : Bool) (s t : State) : Prop :=
  (s.executes k = true ∧ s.fetchStalls k long = false) ∧ s.fetchInstr k long legal = .ok t

/-- The core fetches an instruction with an operand of mode set V, whose value is `v`; `u` is the state after the read. -/
def Reads (k : CoreId) (o : Opnd) (s u : State) (v : Word) : Prop :=
  ∃ t, Fetches k (opndLong o) (legalOpnd .value o) s t ∧
    operand k ((s.co k).pcn (opndLong o)) o (t.cycles k 1) = .ok (v, u)

/-- The core fetches an instruction of a mode set whose effective address is `a`; `u` is the state after it. -/
def Addresses (set : ModeSet) (k : CoreId) (o : Opnd) (s u : State) (a : Word) : Prop :=
  ∃ t, Fetches k (opndLong o) (legalOpnd set o) s t ∧ effAddr k o (t.cycles k 1) = .ok (a, u)

/-- The core fetches a control transfer whose target is `a`. -/
def Targets (set : ModeSet) (k : CoreId) (o : Opnd) (s u : State) (a : Word) : Prop :=
  ∃ t, Fetches k (opndLong o) (legalOpnd set o) s t ∧
    target k ((s.co k).pcn (opndLong o)) o (t.cycles k 1) = .ok (a, u)

/-- The instruction retires on `u`: X takes the X-stream step, PC is the next instruction's address, and `f` gives the
other registers. -/
def Retires (i : Instr) (k : CoreId) (o : Opnd) (s u : State) (f : Core → Core) : Prop :=
  exec i s = .next (u.setCo k (f { u.co k with x := stepX o (u.co k).x, pc := (s.co k).pcn (opndLong o) }))

/-- The instruction branches to `a` where `taken` holds, at the cost of one more cycle, and goes on at the next
instruction elsewhere. -/
def Branches (i : Instr) (k : CoreId) (o : Opnd) (s u : State) (a : Word) (taken : Prop) [Decidable taken]
    (f : Core → Core) : Prop :=
  exec i s = .next (if taken then (u.cycles k 1).setCo k (f { u.co k with pc := a })
    else u.setCo k (f { u.co k with pc := (s.co k).pcn (opndLong o) }))

/-- What an arithmetic instruction leaves: A, E, and the sticky OVF; the other bits of ST stay. -/
def Core.arith (c : Core) (a e : Word) (ovf : Bool) : Core :=
  { c with a := a, e := e, st := c.st ||| (if ovf then 1 else 0) }

/-- A value lies outside the signed 16-bit range. -/
def outside (i : Int) : Bool := decide (i < -32768 ∨ 32767 < i)

/-- The operand form is memory: it names no register. -/
def isMemory : Opnd → Bool
  | .long ⟨.reg, _, _⟩ => false
  | _ => true

/-! ### The Code Array -/

/-- Bank `b` exists, requester `req` has no sequence under way on it, and no other requester loads its buffer (R349). -/
def Unsequenced (s : State) (req b : Nat) : Prop :=
  b < 4 ∧ s.car.banks.length = 4 ∧ s.carSeq req b = [] ∧ s.otherLoad req b = none

/-- The state with bank `b` as given and requester `req` without a sequence on it; all else stays. -/
def State.bankAfter (s : State) (req b : Nat) (k : CarBank) : State :=
  { s with car := { s.car with
      seqs := s.car.seqs.filter (fun q => !(decide (q.req = req) && decide (q.bank = b)))
      banks := setNth k s.car.banks b } }

/-- A bank that runs an operation for a requester, no outcome bit of its status set. -/
def CarBank.runs (k : CarBank) (req : Nat) (op : CarOp) : CarBank :=
  { k with mode := .busy, op := some op, req := req, error := false, prot := false, notErased := false, noSwap := false }

/-- A bank in STATUS with that outcome. -/
def CarBank.answers (k : CarBank) (error prot notErased noSwap : Bool) : CarBank :=
  { k with mode := .status, op := none, error := error, prot := prot, notErased := notErased, noSwap := noSwap }

/-! ### The Code Array under frozen protection -/

/-- The commands of the Code Array. -/
inductive CodeArrayCmd : Instr → Prop
  | wordProgram (req addr : Nat) (data : Word) : CodeArrayCmd (.wordProgram req addr data)
  | bufferLoad (req addr : Nat) (count : Word) (ws : List (Nat × Word)) : CodeArrayCmd (.bufferLoad req addr count ws)
  | bufferConfirm (req addr : Nat) : CodeArrayCmd (.bufferConfirm req addr)
  | sectorErase (req addr : Nat) : CodeArrayCmd (.sectorErase req addr)
  | bankErase (req addr : Nat) : CodeArrayCmd (.bankErase req addr)
  | statusRead (req bank : Nat) : CodeArrayCmd (.statusRead req bank)
  | eraseSuspend (req bank : Nat) : CodeArrayCmd (.eraseSuspend req bank)
  | eraseSuspendEffect (bank : Nat) : CodeArrayCmd (.eraseSuspendEffect bank)
  | eraseResume (req bank : Nat) : CodeArrayCmd (.eraseResume req bank)
  | passwordUnlock (req bank : Nat) (w0 w1 w2 w3 : Word) : CodeArrayCmd (.passwordUnlock req bank w0 w1 w2 w3)
  | protectionProgram (req addr : Nat) (v : Word) : CodeArrayCmd (.protectionProgram req addr v)
  | protectionFreeze (req bank : Nat) : CodeArrayCmd (.protectionFreeze req bank)
  | bootSwap (req bank : Nat) : CodeArrayCmd (.bootSwap req bank)
  | exitOrReset (req addr : Nat) : CodeArrayCmd (.exitOrReset req addr)
  | bankRead (req : Nat) (addr : Nat × Bool) : CodeArrayCmd (.codeArrayBankRead req addr)
  | operationDone (bank : Nat) (pass : Bool) : CodeArrayCmd (.codeArrayOperationDone bank pass)
  | lockoutExpiry : CodeArrayCmd .codeArrayLockoutExpiry

/-- The word holds selector bits (SELW, Table 15-6). -/
def isSelw (a : Nat) : Prop := ∃ b, a = selSector b * 2 ^ 15 + 4 ∨ a = selSector b * 2 ^ 15 + 5

/-- An operation of bank `b` reaches no protected sector, SELW words of a boot swap apart, and no protection data. -/
def Car.harmless (c : Car) (b : Nat) : CarOp → Prop
  | .program ws => ∃ k, k ∉ c.prot ∧ ∀ p ∈ ws, carSector p.1 = k
  | .sector k => k ∉ c.prot
  | .bank => ∀ k ∈ c.prot, k / 256 ≠ b
  | .swap a _ => isSelw a
  | .password _ _ => False
  | .protect _ _ => False
  | .pwWord _ _ => False

/-- The array as its commands keep it: four banks, its lists of words and erase counts in canonical form, and the data
writes of every buffer load in the line of its count cycle (R347). -/
def Car.ordered (c : Car) : Prop :=
  c.banks.length = 4 ∧ Sparse.wf (fun _ => 0xFFFF) c.words = true ∧ Sparse.wf (fun _ => 0) c.ecnt = true ∧
  ∀ q ∈ c.seqs, ∀ x y z ca n ws, q.cycles = x :: y :: (z, (0x0042 : Word)) :: (ca, n) :: ws → ∀ p ∈ ws, p.1 / 32 = ca / 32

/-- Protection is frozen, and nothing under way or suspended reaches what it protects (R358). -/
def Car.guarded (c : Car) : Prop :=
  c.ordered ∧ c.frozen = true ∧ (∀ b, ∀ o ∈ (nth {} c.banks b).op, c.harmless b o) ∧
  ∀ b, ∀ k ∈ (nth {} c.banks b).susp, k ∉ c.prot

/-! ### The keyed services -/

/-- `src` reaches the unit as requester `r`, which holds the lock (R312, R313, R318). -/
def Holds (s : State) (src : Src) (r : Nat) : Prop :=
  s.ksForeign src = false ∧ s.reqOf src = r ∧ s.ksu.owner = some r

/-- The owner's access has restarted its idle timer, and the device wakes where it was not in PS0 (R316, R408). -/
def State.accessed (s : State) : State :=
  { s with ksu := { s.ksu with idle := some 0, idleTo := s.fieldNow Reg.KS_IDLE_TO 9 0 }
           pwr := if s.pwr.ps = 0 then s.pwr else { s.pwr with waking := true, wake := 2 } }

/-- What an access without the lock leaves: LOCK_LOST once after a forced release, else LOCK_NOT_HELD (R317, R318). -/
def State.lockless (s : State) (r : Nat) : State :=
  if s.ksu.lost.contains r then
    let lost := s.ksu.lost.filter (fun x => decide (x ≠ r))
    { s with ksu := { s.ksu with lost := lost, err := Sparse.set (fun _ => 0) s.ksu.err r 2 } }
  else { s with ksu := { s.ksu with err := Sparse.set (fun _ => 0) s.ksu.err r 1 } }

/-- The state with the digest engine as given. -/
def State.withDigest (s : State) (d : Digest) : State := { s with ksu := { s.ksu with dg := d } }

/-! ### Resets -/

/-- `t` is the device as a reset of kind `k` that reruns the ROM leaves it, before the ROM runs (R392, Table 17-6): every
queue, instance, command, program and core gone, every key slot empty but for its GCM counter, the fuses kept. -/
def Rebooted (k : ResetKind) (s t : State) : Prop :=
  t.dev = .boot ∧ t.rebuilding = false ∧ t.pwr.cause = k ∧ t.pwr.fuses = s.pwr.fuses ∧ t.cmds = [] ∧ t.sq = [] ∧ t.cq = [] ∧
  t.imt = [] ∧ t.insts = [] ∧ t.peers = [] ∧ t.progs = [] ∧ t.runs = [] ∧ t.cores = [] ∧ t.held = [] ∧ t.stage = [] ∧
  t.chest.pending = [] ∧ t.ksu = { slots := s.ksu.slots.map (fun v => { gcm := v.gcm }) }

/-! ### Commands and their completion -/

/-- No link trains: DMA and messages go out at once (R37). -/
abbrev Linked (s : State) : Prop := s.portA.training = false ∧ s.portB.training = false

/-- `c` is the command in flight under `tag`, and its completion entry can be written: it has neither completed nor passed its
deadline, its generation is current, its CQ is valid and free of error, and no link trains (R24, R37, R55, R74). -/
def Answerable (s : State) (tag : Nat) (c : Cmd) : Prop :=
  s.cmd? tag = some c ∧ c.dead = false ∧ c.expired = false ∧ s.alive c.inst c.gen = true ∧ (s.cqRow c.cq).valid = true ∧
  (s.cqRow c.cq).error = false ∧ Linked s

/-- What goes out beside the dirty-page logs: their bitmap lines are the tracker's own writes, which may go out early (R79). -/
def told (l : List Out) : List Out := l.filter (fun o => match o with
  | .orLine _ _ _ => false
  | _ => true)

/-- Such a command of a port's admin queue (R34). -/
def AdminCmd (s : State) (tag : Nat) (c : Cmd) : Prop :=
  Answerable s tag c ∧ c.admin = true ∧ s.hasPort c.port = true ∧ c.sq = adminRow c.port ∧ c.cq = adminRow c.port ∧
  c.inst = s.manager c.port

/-- The completion entry of a command in the state before it: at the CQ's tail, with the SQ's head and local index, the
CQ's phase, the status and the two result dwords (R55). -/
def Cmd.entry (c : Cmd) (s : State) (st : Status) (dw0 dw1 : Nat) (more : Bool) : Out :=
  let q := s.cqRow c.cq
  let r := s.sqRow c.sq
  .cqe c.port c.cq (q.base.toNat + 16 * q.tail)
    (cqeDwords dw0 dw1 r.head (if s.isManager c.inst then c.sq else r.loc) c.cid q.phase more st)

/-- From `s` to `t` the command has left flight with that status and result: `w` and then its completion entry went out. -/
def Ended (s : State) (c : Cmd) (st : Status) (dw0 dw1 : Nat) (w : List Out) (t : State) : Prop :=
  told t.out = told s.out ++ w ++ [c.entry s st dw0 dw1 false] ∧ t.cmds = s.cmds.filter (fun x => decide (x.tag ≠ c.tag))

/-- `Ended`, and beyond the completion the state is `s'`: of the rest only instance counters and the CQ row have moved. -/
def Answered (s s' : State) (c : Cmd) (st : Status) (dw0 dw1 : Nat) (w : List Out) (t : State) : Prop :=
  Ended s c st dw0 dw1 w t ∧ t = { s' with out := t.out, cmds := t.cmds, insts := t.insts, cq := t.cq }

/-- The row answers the command: it completes with that status and result, and leaves `s'` beyond that. -/
def Answers (i : Instr) (s s' : State) (c : Cmd) (st : Status) (dw0 dw1 : Nat) (w : List Out) : Prop :=
  ∃ t, exec i s = .next t ∧ Answered s s' c st dw0 dw1 w t

/-- The memory writes that move data to the segments of a command's data pointer, in order (R55). -/
def Cmd.moved (c : Cmd) (s : State) : List (Nat × Nat) → List Byte → List Out
  | [], _ => []
  | (a, n) :: t, d =>
    (if (d.take n).isEmpty then [] else
      [.write (s.portOf c.inst) (if s.isManager c.inst then none else (s.inst c.inst).pasid) a (d.take n) (s.port c.port).relaxed
        (s.port (s.portOf c.inst)).cfg.ido]) ++
      Cmd.moved c s t (d.drop n)

/-- Such an I/O command on a namespace of that kind. -/
def IoCmd (s : State) (tag : Nat) (c : Cmd) (op : Nat) (k : NsKind) (n : Namespace) : Prop :=
  Answerable s tag c ∧ c.admin = false ∧ c.opcode = op ∧ s.kindNs c k = some n

/-- Nothing stored for the namespace is left: every span unmapped, no mapped unit counted, no write-buffer slot of it. -/
def Emptied (t : State) (n : Nat) : Prop :=
  (∀ sp, sp < 2 ^ 40 → t.spanEntry n sp = 0 ∧ t.maskOf n sp = 0) ∧ ∀ v ∈ t.ftl.slots, v.nsid ≠ n

/-- The map of every other namespace, and its description, are as they were. -/
def Spared (s t : State) (n : Nat) : Prop :=
  ∀ m, m ≠ n → t.nsOf m = s.nsOf m ∧ ∀ sp, sp < 2 ^ 40 → t.spanEntry m sp = s.spanEntry m sp ∧ t.maskOf m sp = s.maskOf m sp

/-- `Ended` with an Error Information entry: the completion says so, and the port's log has it in front (R55, R107). -/
def Logged (s : State) (c : Cmd) (st : Status) (dw0 dw1 lba spec : Nat) (t : State) : Prop :=
  told t.out = told s.out ++ [c.entry s st dw0 dw1 true] ∧ t.cmds = s.cmds.filter (fun x => decide (x.tag ≠ c.tag)) ∧
  (t.ctrl c.port).errLog = (st.code, c.sq, lba, spec) :: (s.ctrl c.port).errLog

/-- The command's entry in flight is `v` now; no other command has changed. -/
def Becomes (s t : State) (tag : Nat) (v : Cmd) : Prop := t.cmds = s.cmds.map (fun x => if x.tag = tag then v else x)

/-- No partition that the command needs waits for its rebuild, and every segment that it needs is resident (R28, R150, R199). -/
def InPlace (s : State) (parts : List (Nat × Nat)) (segs : List Nat) : Prop :=
  (∀ p ∈ parts, s.unbuilt p = false) ∧ ∀ k ∈ segs, (s.seg k).resident = true

/-- What the row does with a fetched command while a table that it needs is not in place: for the first partition without its
rebuild the command waits and the partition is promoted; a segment that cannot be made resident ends it with
DRAWER_UNAVAILABLE; for one that can it waits, and nothing changes (R28, R156, R199). -/
def AwaitsMap (i : Instr) (s : State) (tag : Nat) (c : Cmd) (parts : List (Nat × Nat)) (segs : List Nat) : Prop :=
  (∀ p, parts.find? s.unbuilt = some p → ∃ t, exec i s = .next t ∧ t.out = s.out ∧ p ∈ t.rebuild.promo ∧ t.ftl = s.ftl ∧
    Becomes s t tag { c with phase := .waitRebuild, partition := p
                             waitMs := if c.waited.isSome then c.waitMs else s.fieldNow Reg.CHS_REBUILD_WAIT 13 0 }) ∧
  ((∀ p ∈ parts, s.unbuilt p = false) →
    ((∃ k ∈ segs, s.segLost k = true) → ∃ t, exec i s = .next t ∧ Ended s c .drawerUnavailable 0 0 [] t) ∧
    ((∀ k ∈ segs, s.segLost k = false) → (∃ k ∈ segs, (s.seg k).resident = false) → exec i s = .next s))

/-- An I/O command, just fetched, on a KV namespace with that slot of the key index. -/
def KvCmd (s : State) (tag : Nat) (c : Cmd) (op : Nat) (n : Namespace) (ns : Nat) : Prop :=
  IoCmd s tag c op .kv n ∧ s.kvSlot c.nsid = some ns

/-- The mapped units, the images, the grain blocks and every span entry that names no slot are as they were. -/
def KeepsMap (s t : State) : Prop :=
  t.ftl.mask = s.ftl.mask ∧ t.ftl.imgs = s.ftl.imgs ∧ t.ftl.grain = s.ftl.grain ∧
  ∀ m sp, eWbuf (s.spanEntry m sp) = false → t.spanEntry m sp = s.spanEntry m sp

/-- Every key of every namespace slot has the value it had. -/
def SameKeys (s t : State) : Prop := ∀ ns k, t.lookup ns k = s.lookup ns k

/-! ### Pipelines -/

/-- The state with pieces written to a sink one behind another from offset `off` on; none where a peer write of them is refused
(R82, R97). -/
def State.sunk (s : State) (c : Cmd) (p : Pipe) (segs : List (Nat × Nat)) : Nat → List (List Byte × Nat) → Option State
  | _, [] => some s
  | off, b :: t => (s.sinkWrite c p segs off b.1).bind (fun u => State.sunk u c p segs (off + b.1.length) t)

/-- A run with pieces delivered: their bytes and records counted (R97). -/
def Run.delivered (r : Run) (ps : List (List Byte × Nat)) : Run :=
  { r with rbytes := r.rbytes + (ps.map (·.1.length)).sum, records := r.records + (ps.map (·.2)).sum }

/-- The zero-length read of a peer that precedes the completion of a command whose pipeline has written to it (R55). -/
def Run.peerRead (r : Run) (s : State) (c : Cmd) : List Out :=
  if r.pipe.target = 2 ∧ r.rbytes ≠ 0 then [.zeroRead c.port none ((s.peerEntry c.port r.pipe.peer).base + r.pipe.offset)] else []

/-- In `s` the pipeline of a command has ended early with that status: its context is free and no header is written (R98). -/
def Broken (s : State) (c : Cmd) (r : Run) (st : Status) (dw0 dw1 : Nat) (t : State) : Prop :=
  Ended s c st dw0 dw1 (r.peerRead s c) t ∧ t.run? c.tag = none

/-- In `s` the pipeline has written its header, its peer is read, and the command has completed with that status and with what
was delivered (R97); where the header's peer write is refused it has ended with PEER_WRITE_FAILED. -/
def Closed (s : State) (c : Cmd) (r : Run) (st : Status) (t : State) : Prop :=
  match s.sinkWrite c r.pipe r.segs 0 r.header with
  | none => Broken s c r .peerFailed 0 r.pipe.peer t
  | some u =>
    Ended u c st (min r.rbytes 0xFFFFFFFF) (min r.records 0xFFFFFFFF)
      (if r.pipe.target = 2 then [.zeroRead c.port none ((u.peerEntry c.port r.pipe.peer).base + r.pipe.offset)] else []) t ∧
    t.run? c.tag = none

/-- The row delivers pieces to the sink of a run from `v` on, each whole: where all fit and go, `goes` holds of the state and the
run after them; the first that does not fit ends the command with CHAIN_EXHAUSTED and a header of what was delivered, and the
first whose peer write is refused with PEER_WRITE_FAILED (R82, R97, R98). -/
def Delivers (i : Instr) (s v : State) (c : Cmd) (r : Run) (ps : List (List Byte × Nat)) (goes : State → Run → Prop) : Prop :=
  (∀ u, v.sunk c r.pipe r.segs (64 + r.rbytes) ps = some u → (ps = [] ∨ (r.delivered ps).rbytes ≤ r.pipe.limit - 64) → goes u (r.delivered ps)) ∧
  ∀ pre b post u, ps = pre ++ b :: post → v.sunk c r.pipe r.segs (64 + r.rbytes) pre = some u →
    (pre = [] ∨ (r.delivered pre).rbytes ≤ r.pipe.limit - 64) →
    let q := r.delivered pre
    (r.pipe.limit - 64 < q.rbytes + b.1.length → ∃ t, exec i s = .next t ∧
      Closed u c { q with flags := q.flags ||| 1 } .chainExhausted t) ∧
    (q.rbytes + b.1.length ≤ r.pipe.limit - 64 → u.sinkWrite c r.pipe r.segs (64 + q.rbytes) b.1 = none →
      ∃ t, exec i s = .next t ∧ Broken u c q .peerFailed 0 r.pipe.peer t)

/-! ### Shard jobs and Press direct jobs -/

/-- The zero-length reads of the peers that a shard job writes to, before its command completes (R55). -/
def ShardJob.peerReads (j : ShardJob) (s : State) : List Out :=
  if s.jobAlive j then
    ((((j.targets.map j.dest).filter (fun d => decide (d.kind = 3))).map (fun d => (s.peerEntry j.port d.peer).base + d.addr)).dedup).map
      (.zeroRead j.port none)
  else []

/-- A shard job leaves the engine, nothing else but its peers' reads going out but for its command: a SHARD_ENCODE or SHARD_REBUILD
completes with that status and result, and the command of a PIPE_WRITE has its shards behind it, `fail` being its failure (R268). -/
def ShardLeaves (s : State) (j : ShardJob) (st : Status) (dw0 dw1 : Nat) (fail : Option (Status × Nat × Nat)) (t : State) : Prop :=
  (∀ x ∈ t.shd, x.tag ≠ j.tag) ∧
  (s.cmd? j.tag = none → t.out = s.out ++ j.peerReads s ∧ t.cmds = s.cmds) ∧
  ∀ c, Answerable s j.tag c → if j.fromPipe then t.out = s.out ++ j.peerReads s ∧
      Becomes s t j.tag { c with shards := 0, fail := c.fail.orElse (fun _ => fail) }
    else Ended s c st dw0 dw1 (j.peerReads s) t

/-- The first job of a Press, whose others are `rest`, ends from `v`: its completion record goes out, unless its write meets a DMA
fault, and then its message where it asks for one (R247, Table 10-8). -/
def PressEnds (v : State) (n : Nat) (rest : List PressJob) (j : PressJob) (status raw inp out check : Nat) (fault : Bool) (t : State) : Prop :=
  let w := v.emit (.write j.port (if j.pv then some j.pasid else none) j.status.toNat (pressRecord status raw inp out check v.beat) false
    (v.port j.port).cfg.ido)
  (t.strand n).press = rest ∧ t.cmds = v.cmds ∧
  (fault = true → t.out = v.out ∧ bitOf (t.reg (Reg.PRS_ERR n)).toNat 4 = true) ∧
  (fault = false → t.out = (if j.irq then w.msix j.port j.vector else w).out)

/-! ### Registers -/

/-- A BAR0 register whose write only stores, and whose read has no command of its own: not a KSU register, not INST_ERR, not
one that starts something, not firmware-only. -/
def PlainReg (off : Nat) : Prop :=
  off % 4 = 0 ∧ off < 0x1000000 ∧ ¬ (0x1B0000 ≤ off ∧ off < 0x1B1000) ∧ ¬ (0x50000 ≤ off ∧ off < 0x60000 ∧ off % 64 = 0x0C) ∧
  firmwareOnly off = false ∧ arrayAt (Reg.MED_CH_CTL 0) 0x4000 32 off = none ∧
  arrayAt (Reg.PRS_JOB_LO 0) 0x2000 32 off = none ∧ arrayAt (Reg.PRS_JOB_HI 0) 0x2000 32 off = none ∧
  off ∉ [Reg.TMR_WDT_CTL, Reg.RST_CTL, Reg.QMG_QCMD, Reg.QMG_IMTCMD, Reg.TMR_WDT_PERIOD, Reg.HIF_LINK_CTL 0, Reg.HIF_LINK_CTL 1,
    Reg.CHS_CKPT_CTL, Reg.TMP_MED_BAND, Reg.HIF_PORT_CFG]

/-- The source may write the register: a control core, or the port whose item it is or that owns the device's (R41). -/
def MayWrite (s : State) (src : Src) (off : Nat) : Prop :=
  (∃ k, src = .cc k) ∨ ∃ p, src = .host p ∧ s.hasPort p = true ∧ s.otherItem src off = false ∧
    (s.pins.dual = false ∨ p = s.ownerPort ∨ s.ownItem p off = true ∨ off < 0x10000)

end Sys2Proof.Machine
end

