-- ==== Sys2Proof/Certificates/Slice0/Obligations.lean ====
section
/-!
DEFINITION. The statements for the provers.
-/

open Sys2Proof Sys2Proof.Machine

/-- R299 (with R287): the loads and index adds, in every operand form, on every core. The new state is the one after the
operand read with the executing core's destination, X-stream step and PC written: everything else is as it was. -/
def Obligations.GlLoadsRetire : Prop :=
  ∀ (k : CoreId) (o : Opnd) (s u : State) (v : Word), Reads k o s u v →
    Retires (.lda k o) k o s u (fun c => { c with a := v }) ∧
    Retires (.ldx k o) k o s u (fun c => { c with x := v }) ∧
    Retires (.ldy k o) k o s u (fun c => { c with y := v }) ∧
    Retires (.adx k o) k o s u (fun c => { c with x := (s.co k).x + v }) ∧
    ∀ l, o = .long l →
      Retires (.lde k l) k o s u (fun c => { c with e := v }) ∧
      Retires (.ady k l) k o s u (fun c => { c with y := (s.co k).y + v })

/-- R300: sums, differences, carries and borrows, and OVF from the exact signed result; no other bit of ST and no other
register changes. -/
def Obligations.GlAddSub : Prop :=
  ∀ (k : CoreId) (o : Opnd) (s u : State) (v : Word), Reads k o s u v →
    let a := (s.co k).a
    let c := (s.co k).e.toNat % 2
    Retires (.add k o) k o s u (fun d =>
      d.arith (a + v) (truth (decide (65536 ≤ a.toNat + v.toNat))) (outside (a.toInt + v.toInt))) ∧
    Retires (.sub k o) k o s u (fun d =>
      d.arith (a - v) (truth (decide (a.toNat < v.toNat))) (outside (a.toInt - v.toInt))) ∧
    Retires (.and_ k o) k o s u (fun d => { d with a := a &&& v }) ∧
    Retires (.or_ k o) k o s u (fun d => { d with a := a ||| v }) ∧
    Retires (.xor k o) k o s u (fun d => { d with a := a ^^^ v }) ∧
    ∀ l, o = .long l →
      Retires (.adc k l) k o s u (fun d => d.arith (a + v + BitVec.ofNat 16 c)
        (truth (decide (65536 ≤ a.toNat + v.toNat + c))) (outside (a.toInt + v.toInt + c))) ∧
      Retires (.sbc k l) k o s u (fun d => d.arith (a - v - BitVec.ofNat 16 c)
        (truth (decide (a.toNat < v.toNat + c))) (outside (a.toInt - v.toInt - c))) ∧
      Retires (.neg k l) k o s u (fun d => d.arith (0 - v) (truth (decide (v ≠ 0))) (decide (v = 0x8000)))

/-- R301, R302: products, quotients and remainders with their edge cases; ST changes only where a rule says so. R304: shifts and rotates for every count, written with the shifts of 16-bit and 32-bit words. -/
def Obligations.GlMulDivShift : Prop :=
  (∀ (k : CoreId) (l : LongOpnd) (s u : State) (v : Word), Reads k (.long l) s u v →
    let o : Opnd := .long l
    let a := (s.co k).a
    (∃ r : Core → Core, Retires (.mul k l) k o s (u.cycles k 1) r ∧ ∀ c, ∃ hi lo : Word,
      r c = { c with a := lo, e := hi } ∧ (hi ++ lo : BitVec 32) = BitVec.ofInt 32 (a.toInt * v.toInt)) ∧
    (∃ r : Core → Core, Retires (.mulu k l) k o s (u.cycles k 1) r ∧ ∀ c, ∃ hi lo : Word,
      r c = { c with a := lo, e := hi } ∧ hi.toNat * 65536 + lo.toNat = a.toNat * v.toNat) ∧
    (v ≠ 0 → ∃ q r : Word, a.toNat = q.toNat * v.toNat + r.toNat ∧ r.toNat < v.toNat ∧
      Retires (.divu k l) k o s (u.cycles k 17) (fun c => { c with a := q, e := r })) ∧
    (v ≠ 0 → ¬ (a = 0x8000 ∧ v = 0xFFFF) →
      Retires (.div k l) k o s (u.cycles k 17) (fun c =>
        { c with a := BitVec.ofInt 16 (a.toInt.tdiv v.toInt), e := BitVec.ofInt 16 (a.toInt.tmod v.toInt) })) ∧
    (a = 0x8000 → v = 0xFFFF →
      Retires (.div k l) k o s (u.cycles k 17) (fun c => { c with a := 0x8000, e := 0, st := c.st ||| 1 })) ∧
    (v = 0 → bitOf (s.co k).st.toNat 2 = false →
      Retires (.divu k l) k o s (u.cycles k 17) (fun c => { c with a := 0xFFFF, e := a, st := c.st ||| 2 }) ∧
      Retires (.div k l) k o s (u.cycles k 17) (fun c =>
        { c with a := if 0 ≤ a.toInt then 0x7FFF else 0x8000, e := a, st := c.st ||| 2 }))) ∧
  (∀ (k : CoreId) (o : Opnd) (s u : State) (v : Word), Reads k o s u v →
    let a := (s.co k).a
    let e := (s.co k).e
    Retires (.shl k o) k o s u (fun c => { c with a := a <<< v.toNat }) ∧
    Retires (.shr k o) k o s u (fun c => { c with a := a >>> v.toNat }) ∧
    Retires (.sar k o) k o s u (fun c => { c with a := a.sshiftRight v.toNat }) ∧
    ∀ l, o = .long l →
      Retires (.rol k l) k o s u (fun c => { c with a := a.rotateLeft v.toNat }) ∧
      Retires (.ror k l) k o s u (fun c => { c with a := a.rotateRight v.toNat }) ∧
      (∃ hi lo : Word, (hi ++ lo : BitVec 32) = (e ++ a : BitVec 32) <<< v.toNat ∧
        Retires (.dshl k l) k o s u (fun c => { c with a := lo, e := hi })) ∧
      (∃ hi lo : Word, (hi ++ lo : BitVec 32) = (e ++ a : BitVec 32) >>> v.toNat ∧
        Retires (.dshr k l) k o s u (fun c => { c with a := lo, e := hi })) ∧
      (∃ hi lo : Word, (hi ++ lo : BitVec 32) = (e ++ a : BitVec 32).sshiftRight v.toNat ∧
        Retires (.dsar k l) k o s u (fun c => { c with a := lo, e := hi })))

/-- R288, R305, and R307 for LZC, POPC and SWAB: the answer goes to A and nothing else changes. R307: the index comes from the A before the instruction, and only A changes. -/
def Obligations.GlComparesBytes : Prop :=
  (∀ (k : CoreId) (o : Opnd) (s u : State) (v : Word), Reads k o s u v →
    let a := (s.co k).a
    Retires (.ceq k o) k o s u (fun c => { c with a := if a = v then 1 else 0 }) ∧
    Retires (.cne k o) k o s u (fun c => { c with a := if a ≠ v then 1 else 0 }) ∧
    Retires (.clt k o) k o s u (fun c => { c with a := if a.toInt < v.toInt then 1 else 0 }) ∧
    Retires (.cle k o) k o s u (fun c => { c with a := if a.toInt ≤ v.toInt then 1 else 0 }) ∧
    Retires (.cltu k o) k o s u (fun c => { c with a := if a < v then 1 else 0 }) ∧
    Retires (.cleu k o) k o s u (fun c => { c with a := if a ≤ v then 1 else 0 }) ∧
    ∀ l, o = .long l →
      (∃ n, n ≤ 16 ∧ (∀ i, i < n → v.getLsbD (15 - i) = false) ∧ (n < 16 → v.getLsbD (15 - n) = true) ∧
        Retires (.lzc k l) k o s u (fun c => { c with a := BitVec.ofNat 16 n })) ∧
      Retires (.popc k l) k o s u (fun c =>
        { c with a := BitVec.ofNat 16 ((List.range 16).filter (fun i => v.getLsbD i)).length }) ∧
      Retires (.swab k l) k o s u (fun c => { c with a := v.rotateLeft 8 })) ∧
  (∀ (k : CoreId) (l : LongOpnd) (s u w : State) (a v : Word), Addresses .memory k (.long l) s u a →
    let n := (s.co k).a
    (dataRead k (a + n >>> 4) u = .ok (v, w) →
      Retires (.bit k l) k (.long l) s w (fun c => { c with a := if v.getLsbD (15 - n.toNat % 16) then 1 else 0 })) ∧
    (dataRead k (a + n >>> 1) u = .ok (v, w) →
      Retires (.ldb k l) k (.long l) s w (fun c =>
        { c with a := if n.toNat % 2 = 1 then BitVec.ofNat 16 (v.toNat % 256) else BitVec.ofNat 16 (v.toNat / 256) })))

/-- R275, R306: the transfers and the limits of the return stack. R288: which way each conditional branch goes, and that it changes nothing but PC and the counter of DBNZX and DBNZY. -/
def Obligations.GlFlow : Prop :=
  ((∀ (k : CoreId) (o : Opnd) (s u : State) (a : Word), Targets .transfer k o s u a →
    exec (.jmp k o) s = .next ((u.cycles k 1).setCo k { u.co k with pc := a }) ∧
    ((u.co k).rs.length < 16 → exec (.call k o) s = .next ((u.cycles k 1).setCo k { u.co k with
      rs := (u.co k).rs ++ [((s.co k).pcn (opndLong o), if isBead k then 0 else (u.co k).cs)], pc := a }))) ∧
  (∀ (k : CoreId) (o : Opnd) (s t u : State) (a : Word), Fetches k (opndLong o) (legalOpnd .transfer o) s t →
    target k ((s.co k).pcn (opndLong o)) o (t.cycles k 1) = .ok (a, u) → 16 ≤ (u.co k).rs.length →
    exec (.call k o) s = .next (t.glTrap k { cause := 6 })) ∧
  (∀ (k : CoreId) (s t : State), Fetches k false true s t →
    (∀ (l : List (Word × Word)) (pc cs : Word), (s.co k).rs = l ++ [(pc, cs)] →
      exec (.ret k) s = .next ((t.cycles k 1).cycles k 1 |>.setCo k { s.co k with rs := l, pc := pc })) ∧
    ((s.co k).rs = [] → exec (.ret k) s = .next (t.glTrap k { cause := 7 })))) ∧
  (∀ (k : CoreId) (o : Opnd) (s u : State) (a : Word), Targets .branch k o s u a →
    let c := s.co k
    Branches (.bzA k o) k o s u a (c.a = 0) id ∧ Branches (.bnzA k o) k o s u a (c.a ≠ 0) id ∧
    Branches (.bzX k o) k o s u a (c.x = 0) id ∧ Branches (.bnzX k o) k o s u a (c.x ≠ 0) id ∧
    Branches (.bzY k o) k o s u a (c.y = 0) id ∧ Branches (.bnzY k o) k o s u a (c.y ≠ 0) id ∧
    Branches (.dbnzx k o) k o s u a (c.x - 1 ≠ 0) (fun d => { d with x := d.x - 1 }) ∧
    Branches (.dbnzy k o) k o s u a (c.y - 1 ≠ 0) (fun d => { d with y := d.y - 1 }))

/-- R299: the stores, in memory forms (the address is that of effAddr on the state after the fetch) and in mode 6. -/
def Obligations.GlStores : Prop :=
  (∀ (k : CoreId) (o : Opnd) (s u w : State) (a : Word), isMemory o = true → Addresses .store k o s u a →
    (dataWrite k a (s.co k).a u = .ok w → Retires (.sta k o) k o s w id) ∧
    (dataWrite k a (s.co k).x u = .ok w → Retires (.stx k o) k o s w id) ∧
    (dataWrite k a (s.co k).y u = .ok w → Retires (.sty k o) k o s w id) ∧
    (∀ l, o = .long l → dataWrite k a (s.co k).e u = .ok w → Retires (.ste k l) k o s w id)) ∧
  (∀ (k : CoreId) (n : BitVec 6) (s t : State) (d : Core),
    let l : LongOpnd := ⟨.reg, n, 0⟩
    let c := s.co k
    let at_ (v : Word) := writeRegister k { c with pc := c.pcn true } n.toNat v = .ok d
    Fetches k true (legalOpnd .store (.long l)) s t →
    (at_ c.a → exec (.sta k (.long l)) s = .next ((t.cycles k 1).setCo k d)) ∧
    (at_ c.x → exec (.stx k (.long l)) s = .next ((t.cycles k 1).setCo k d)) ∧
    (at_ c.y → exec (.sty k (.long l)) s = .next ((t.cycles k 1).setCo k d)) ∧
    (at_ c.e → exec (.ste k l) s = .next ((t.cycles k 1).setCo k d)))

/-- A store to local memory: read after write, and every other word, core and memory unchanged. R308 with the checks of R282 as mapOk states them: what MAPW and SAVW do where no check fails. -/
def Obligations.GlMemory : Prop :=
  (∀ (k : CoreId) (a v : Word) (s : State), a.toNat < 4096 → Sparse.sorted (s.co k).mem = true →
    Sparse.sorted s.cores = true → Sparse.sorted s.strands = true →
    ∃ t, dataWrite k a v s = .ok t ∧
      (∃ m, t.co k = { s.co k with mem := m } ∧ Sparse.sorted m = true ∧ Sparse.get (fun _ => 0) m a.toNat = v ∧
        ∀ b, b ≠ a.toNat → Sparse.get (fun _ => 0) m b = Sparse.get (fun _ => 0) (s.co k).mem b) ∧
      (∀ j, coreKey j ≠ coreKey k → t.co j = s.co j) ∧
      t.dram = s.dram ∧ t.car = s.car ∧ t.chest = s.chest ∧ t.regs = s.regs ∧ t.ftl = s.ftl ∧ t.idx = s.idx ∧
      t.ksu = s.ksu ∧ t.cmds = s.cmds ∧ t.out = s.out ∧
      (∀ i, (t.strand i).sbuf = (s.strand i).sbuf ∧ (t.strand i).outw = (s.strand i).outw ∧
        (t.strand i).code = (s.strand i).code) ∧
      Sparse.sorted t.cores = true ∧ Sparse.sorted t.strands = true) ∧
  ((∀ (k : CoreId) (l : LongOpnd) (s u v : State) (a : Word) (w : Win), Addresses .window k (.long l) s u a →
    let n := l.aux.toNat
    mapPrivileged k (s.co k) n = true → readFour k a u = .ok (w, v) → mapOk v k (s.co k) n w = true →
    ∃ ws, exec (.mapw k l) s = .next ((v.cycles k 1).setCo k
        { (v.co k).setWindow n w with winNs := ws, pc := (s.co k).pcn true }) ∧
      ∀ m, m ≠ n → ((v.co k).setWindow n w).window m = (v.co k).window m) ∧
  (∀ (k : CoreId) (l : LongOpnd) (s u v : State) (a : Word), Addresses .window k (.long l) s u a →
    let w := (s.co k).window l.aux.toNat
    let ws : List Word := if w.target = 0 then [w.page, 0, 0, 0] else [w.page, w.w1, w.w2, w.w3]
    let stores := [a, a + 1, a + 2, a + 3].zip ws
    savable k u stores = .ok () → writeAll k u stores = .ok v →
    exec (.savw k l) s = .next ((v.cycles k 1).setCo k { v.co k with pc := (s.co k).pcn true })))

/-- R309, and R296 for undefined words. Each trap is the one of the named cause on the state after the fetch. -/
def Obligations.GlImplied : Prop :=
  ∀ (k : CoreId) (s t : State), Fetches k false true s t →
    let c := s.co k
    let u := t.cycles k 1
    exec (.nop k) s = .next (u.setCo k { c with pc := c.pc + 1 }) ∧
    exec (.break_ k) s = .next (t.glTrap k { cause := 10 }) ∧
    (isBead k = true → exec (.wait k) s = .next (u.setCo k { c with
      pc := c.pc + 1, run := .sleeping, job := c.job.map (fun j => { j with waiting := some u.beat }) })) ∧
    (isBead k = false → exec (.halt k) s = .next (t.glTrap k { cause := 1 }) ∧
      exec (.wait k) s = .next (t.glTrap k { cause := 1 })) ∧
    ∀ w, undefinedWord w = true → exec (.illegalOp k w) s = .next (s.glTrap k { cause := 1 })

/-- R310 and R291 for RETI: each privileged instruction on a privileged control core, and its trap elsewhere. -/
def Obligations.GlSystem : Prop :=
  (∀ (k : CoreId) (s t : State) (long : Bool), Fetches k long true s t → privileged k (s.co k) = true →
    let c := s.co k
    let u := t.cycles k 1
    (long = false →
      exec (.reti k) s = .next (u.setCo k { c with st := c.est &&& 0xE007, cs := c.ecs, pc := c.epc }) ∧
      (∀ l pc cs, c.rs = l ++ [(pc, cs)] → exec (.fret k) s = .next (u.setCo k { c with rs := l, pc := pc, cs := cs })) ∧
      ∃ ip : BitVec 64, exec (.sleep k) s = .next (u.tick.setCo k
        { c with pc := c.pc + 1, run := if ip &&& c.imask ≠ 0 then .running else .sleeping })) ∧
    (long = true →
      exec (.cinv k ⟨.imm, 0, 0⟩) s = .next ((u.invalidate k (fun _ => false)).setCo k { c with pc := c.pc + 2 }) ∧
      (∀ n, n < 3 → exec (.mfsr k ⟨.imm, 0, BitVec.ofNat 16 n⟩) s = .next (u.tick.setCo k
        { c with pc := c.pc + 2, a := if n = 0 then c.epc else if n = 1 then c.ecs else c.est })) ∧
      exec (.mtsr k ⟨.imm, 0, 0⟩) s = .next (u.tick.setCo k { c with pc := c.pc + 2, epc := c.a }) ∧
      exec (.mtsr k ⟨.imm, 0, 1⟩) s = .next (u.tick.setCo k { c with pc := c.pc + 2, ecs := c.a }) ∧
      exec (.mtsr k ⟨.imm, 0, 2⟩) s = .next (u.tick.setCo k { c with pc := c.pc + 2, est := c.a }))) ∧
  (∀ (k : CoreId) (l : LongOpnd) (s t u : State) (cs pc : Word), Fetches k true (legalOpnd .far (.long l)) s t →
    privileged k (s.co k) = true → farPointer k l (t.cycles k 1) = .ok (cs, pc, u) →
    exec (.fjmp k l) s = .next (u.setCo k { u.co k with cs := cs, pc := pc }) ∧
    ((u.co k).rs.length < 16 → exec (.fcall k l) s = .next (u.setCo k { u.co k with
      rs := (u.co k).rs ++ [((s.co k).pcn true, (s.co k).cs)], cs := cs, pc := pc }))) ∧
  (∀ (k : CoreId) (s t : State), privileged k (s.co k) = false →
    (Fetches k false true s t → exec (.fret k) s = .next (t.glTrap k { cause := 2 }) ∧
      exec (.reti k) s = .next (t.glTrap k { cause := 2 }) ∧ exec (.sleep k) s = .next (t.glTrap k { cause := 2 })) ∧
    ∀ l, (Fetches k true (legalOpnd .far (.long l)) s t →
        exec (.fcall k l) s = .next (t.glTrap k { cause := 2 }) ∧ exec (.fjmp k l) s = .next (t.glTrap k { cause := 2 })) ∧
      (Fetches k true (legalOpnd .cinv (.long l)) s t → exec (.cinv k l) s = .next (t.glTrap k { cause := 2 })) ∧
      (Fetches k true (legalOpnd .number (.long l) && sysListed l.w2.toNat) s t →
        exec (.mfsr k l) s = .next (t.glTrap k { cause := 2 }) ∧ exec (.mtsr k l) s = .next (t.glTrap k { cause := 2 })))

/-- R347 to R351: the outcome of the last cycle of a program of `ws`, on the state without the sequence. -/
def Obligations.CarPrograms : Prop :=
  let ends (s t : State) (req b sec : Nat) (ws : List (Nat × Word)) : Prop :=
    t = if s.car.pwrFail then (s.bankAfter req b ((s.bank b).answers true true false false)).carRaise 8 req sec
      else if ws.any (fun p => decide (s.carWord p.1 ≠ 0xFFFF) || s.car.bad.contains p.1) then
        s.bankAfter req b ((s.bank b).answers true false true false)
      else if s.car.prot.contains sec then (s.bankAfter req b ((s.bank b).answers true true false false)).carRaise 3 req sec
      else if (sec = 4 ∨ sec = 260) ∧ ∃ p ∈ ws, 8 < p.1 % 2 ^ 15 then
        s.bankAfter req b ((s.bank b).answers true false false false)
      else s.bankAfter req b ((s.bank b).runs req (.program ws))
  ∀ (s : State) (req addr : Nat), Unsequenced s req (carBankOf addr) →
    let b := carBankOf addr
    ((s.bank b).mode = .read ∧ (s.bank b).susp = none ∨
      (s.bank b).mode = .suspended ∧ (s.bank b).susp ≠ some (carSector addr)) →
    (∀ data, ∃ t, exec (.wordProgram req addr data) s = .next t ∧ ends s t req b (carSector addr) [(addr, data)]) ∧
    ∀ (count : Word) (ws : List (Nat × Word)), count.toNat ≤ 31 → ws.length = count.toNat + 1 →
      (ws.map (·.1)).Nodup → (∀ p ∈ ws, p.1 / 32 = addr / 32) →
      let open_ : CarSeq := ⟨req, b, [(0x2AAA, 0x5A5A), (0x1555, 0xA5A5), (0x2AAA, 0x0042), (addr % 2 ^ 23, count)] ++
        ws.map (fun p => (p.1 % 2 ^ 23, p.2))⟩
      let seqs := s.car.seqs.filter (fun q => !(decide (q.req = req) && decide (q.bank = b))) ++ [open_]
      let u := { s with car := { s.car with seqs := seqs } }
      exec (.bufferLoad req addr count ws) s = .next u ∧
      ∃ t, exec (.bufferConfirm req addr) u = .next t ∧ ends s t req b (carSector addr) ws

/-- R352, with the markers of R355, each command on a bank whose requester has no sequence under way. -/
def Obligations.CarErases : Prop :=
  (∀ (s : State) (req sec : Nat), sec < 1024 → Unsequenced s req (sec / 256) → (s.bank (sec / 256)).mode = .read →
    s.car.pwrFail = false →
    let b := sec / 256
    let marked (t : State) (lo n : Nat) : State := { t with car := t.car.mark lo n }
    exec (.sectorErase req (sec * 2 ^ 15)) s = .next (if s.car.prot.contains sec
      then (s.bankAfter req b ((s.bank b).answers true true false false)).carRaise 3 req sec
      else marked (s.bankAfter req b ((s.bank b).runs req (.sector sec))) sec 1) ∧
    exec (.bankErase req (b * 2 ^ 23)) s = .next (if s.car.prot.any (fun k => decide (k / 256 = b))
      then (s.bankAfter req b ((s.bank b).answers true true false false)).carRaise 3 req (b * 256)
      else marked (s.bankAfter req b ((s.bank b).runs req .bank)) (b * 256) 256)) ∧
  (∀ (s : State) (req b : Nat), Unsequenced s req b → s.car.pwrFail = false →
    let k := s.bank b
    (∀ sec, k.mode = .busy → k.op = some (.sector sec) →
      exec (.eraseSuspend req b) s = .next (s.bankAfter req b { k with suspReq := true }) ∧
      (k.suspReq = true → ∃ t, exec (.eraseSuspendEffect b) s = .next t ∧
        t.bank b = { k with mode := .suspended, op := none, susp := some sec, suspReq := false, arrayView := false })) ∧
    (∀ sec, k.mode = .suspended → k.susp = some sec → exec (.eraseResume req b) s = .next (s.bankAfter req b
      { k with mode := .busy, op := some (.sector sec), req := req, susp := none, arrayView := false })) ∧
    (k.mode = .busy → k.op = some .bank → ∃ t, exec (.eraseSuspend req b) s = .next t ∧ t.bank b = k ∧
      bitOf (t.reg Reg.CAR_ERR).toNat 0 = true)) ∧
  ∀ (s : State) (b : Nat), b < 4 → s.car.banks.length = 4 → (s.bank b).mode = .busy →
    ∀ lo n, (s.bank b).op = some (.sector lo) ∧ n = 1 ∨ (s.bank b).op = some .bank ∧ lo = b * 256 ∧ n = 256 →
    ∃ t, exec (.codeArrayOperationDone b true) s = .next t ∧ (t.bank b).mode = .status ∧ (t.bank b).error = false ∧
      (∀ b', b' ≠ b → t.bank b' = s.bank b') ∧
      ∀ a, (lo ≤ carSector a → carSector a < lo + n → t.carWord a = 0xFFFF ∧ t.carBad a = false ∧
          t.car.markers.contains (carSector a) = false) ∧
        (¬ (lo ≤ carSector a ∧ carSector a < lo + n) → t.carWord a = s.carWord a ∧ t.carBad a = s.carBad a)

/-- R356 to R358: the three commands, the ends of their operations, and the lockout's end. -/
def Obligations.CarProtection : Prop :=
  (∀ (s : State) (req addr : Nat) (v : Word), Unsequenced s req (carBankOf addr) →
    (s.bank (carBankOf addr)).mode = .read → s.car.pwrFail = false →
    let b := carBankOf addr
    let k := s.bank b
    let refused := (s.bankAfter req b (k.answers true true false false)).carRaise 3 req (carSector addr)
    let starts (op : CarOp) := s.bankAfter req b (k.runs req op)
    (addr % 2 ^ 15 = 0 → v = 1 → exec (.protectionProgram req addr v) s = .next
      (if s.car.frozen then refused else starts (.protect (carSector addr) true))) ∧
    (addr % 2 ^ 15 = 0 → v = 0 → exec (.protectionProgram req addr v) s = .next
      (if s.car.frozen ∨ s.car.pwOpen = false then refused else starts (.protect (carSector addr) false))) ∧
    (1 ≤ addr → addr ≤ 4 → exec (.protectionProgram req addr v) s = .next
      (if s.car.frozen ∨ s.car.pwOpen = false then refused else starts (.pwWord (addr - 1) v))) ∧
    (4 < addr → (addr % 2 ^ 15 ≠ 0 ∨ v ≠ 0 ∧ v ≠ 1) → exec (.protectionProgram req addr v) s = .next
      ((s.bankAfter req b k).carRaise 0 req (carSector addr)))) ∧
  (∀ (s : State) (req b : Nat) (w0 w1 w2 w3 : Word), Unsequenced s req b → (s.bank b).mode = .read →
    s.car.pwrFail = false →
    let k := s.bank b
    exec (.passwordUnlock req b w0 w1 w2 w3) s = .next
      (if s.car.frozen then (s.bankAfter req b (k.answers true true false false)).carRaise 3 req 0
      else if s.car.lockout.isSome then (s.bankAfter req b (k.answers true true false false)).carRaise 5 req 0
      else s.bankAfter req b (k.runs req (.password [w0, w1, w2, w3] req))) ∧
    exec (.protectionFreeze req b) s = .next { s.bankAfter req b k with
      car := { (s.bankAfter req b k).car with frozen := true, pwOpen := false } }) ∧
  (∀ (s : State) (b : Nat) (pass : Bool), b < 4 → s.car.banks.length = 4 → (s.bank b).mode = .busy →
    let done (error : Bool) := setNth ((s.bank b).answers error error false false) s.car.banks b
    (∀ ws req, (s.bank b).op = some (.password ws req) → exec (.codeArrayOperationDone b pass) s = .next
      (if ws = s.car.password then { s with car := { s.car with pwOpen := true, pwFails := 0, banks := done false } }
      else ({ s with car := { s.car with pwFails := min (s.car.pwFails + 1) 255, lockout := some 0, banks := done true } } :
        State).carRaise 4 req 0)) ∧
    (∀ sec on, (s.bank b).op = some (.protect sec on) → ∃ t, exec (.codeArrayOperationDone b pass) s = .next t ∧
      t.sectorProt sec = on ∧ (∀ m, m ≠ sec → t.sectorProt m = s.sectorProt m) ∧ t.car.password = s.car.password) ∧
    (∀ i v, (s.bank b).op = some (.pwWord i v) → ∃ t, exec (.codeArrayOperationDone b pass) s = .next t ∧
      t.car.password = setNth v s.car.password i ∧ t.car.prot = s.car.prot)) ∧
  ∀ (s : State) (n : Nat), s.car.lockout = some n → exec .codeArrayLockoutExpiry s = .next
    { s with car := { s.car with lockout := if beatsOfMs 100 < n then none else some n } }

/-- R345, R346, R348, for a requester with no sequence under way but where one is named. -/
def Obligations.CarReads : Prop :=
  (∀ (s : State) (req addr : Nat) (ecc : Bool),
    let b := carBankOf addr
    let k := s.bank b
    let word (w : Word) (t : State) := exec (.codeArrayBankRead req (addr, ecc)) s = .next { t with out := t.out ++ [.word req addr w] }
    let array := if s.carBad addr then exec (.codeArrayBankRead req (addr, ecc)) s = .next (s.carRaise 7 req (carSector addr))
      else word (s.carWord addr) (if ecc then s.bump Reg.CAR_ECC_CNT else s)
    (k.mode = .read → array) ∧ (k.mode = .status → word k.status s) ∧
    (k.mode = .busy → word (k.status ^^^ 0x40)
      { s with car := { s.car with banks := setNth { k with toggle := !k.toggle } s.car.banks b } }) ∧
    (k.mode = .suspended → if k.susp = some (carSector addr) ∧ k.arrayView = false then word k.status s else array)) ∧
  (∀ (s : State) (req b : Nat), Unsequenced s req b → s.car.pwrFail = false →
    let k := s.bank b
    let shut (t : State) : State := { t with car := { t.car with pwOpen := false } }
    (k.mode = .read ∨ k.mode = .status ∨ k.mode = .suspended →
      exec (.statusRead req b) s = .next (s.bankAfter req b { k with mode := .status })) ∧
    ∀ addr, carBankOf addr = b →
      (k.mode = .status → exec (.exitOrReset req addr) s = .next
        (shut (s.bankAfter req b { k with mode := if k.susp.isSome then .suspended else .read }))) ∧
      (k.mode = .suspended → exec (.exitOrReset req addr) s = .next (shut (s.bankAfter req b { k with arrayView := true }))) ∧
      (k.mode = .busy → exec (.exitOrReset req addr) s = .next s)) ∧
  ∀ (s : State) (req addr : Nat) (c : Nat × Word), s.otherLoad req (carBankOf addr) = none →
    s.carSeq req (carBankOf addr) = [c] → (s.bank (carBankOf addr)).mode = .read →
    ∃ t, exec (.exitOrReset req addr) s = .next t ∧ t.carSeq req (carBankOf addr) = [] ∧ t.car.words = s.car.words ∧
      t.car.banks = s.car.banks

/-- R359 for the swap and R351 for the program's end. -/
def Obligations.CarSwapAndEnd : Prop :=
  (∀ (s : State) (req b : Nat), Unsequenced s req b → (s.bank b).mode = .read → s.car.pwrFail = false →
    let k := s.bank b
    let refused (sec : Nat) := (s.bankAfter req b (k.answers true false false true)).carRaise 6 req sec
    (s.selCurrent = none → exec (.bootSwap req b) s = .next (refused 0)) ∧
    ∀ sel, s.selCurrent = some sel →
      ((∀ i, i < 32 → bitOf (s.selW sel) i = false) → exec (.bootSwap req b) s = .next (refused (selSector sel))) ∧
      ∀ i, i < 32 → bitOf (s.selW sel) i = true → (∀ j, j < i → bitOf (s.selW sel) j = false) →
        let nb := if sel then 1 else 0
        let a := selSector sel * 2 ^ 15 + (if i < 16 then 5 else 4)
        let op : CarOp := .swap a (BitVec.ofNat 16 (setBits (s.carWord a).toNat (i % 16) (i % 16) 0))
        let banks := setNth ((s.bank nb).runs req op) s.car.banks nb
        (s.bank nb).mode ≠ .busy → exec (.bootSwap req b) s = .next
          { s.bankAfter req b k with car := { (s.bankAfter req b k).car with banks := banks } }) ∧
  (∀ (s : State) (b : Nat) (pass : Bool) (ws : List (Nat × Word)), b < 4 → s.car.banks.length = 4 →
    (s.bank b).mode = .busy → (s.bank b).op = some (.program ws) → (ws.map (·.1)).Nodup →
    (∀ p ∈ ws, s.car.markers.contains (carSector p.1) = false) → Sparse.wf (fun _ => 0xFFFF) s.car.words = true →
    ∃ t, exec (.codeArrayOperationDone b pass) s = .next t ∧ (t.bank b).mode = .status ∧ (t.bank b).error = !pass ∧
      (∀ b', b' ≠ b → t.bank b' = s.bank b') ∧ (pass = false → bitOf (t.reg Reg.CAR_ERR).toNat 2 = true) ∧
      (pass = true → ∀ p ∈ ws, t.carWord p.1 = p.2 ∧ t.carBad p.1 = false) ∧
      ∀ a, a ∉ ws.map (·.1) → t.carWord a = s.carWord a ∧ t.carBad a = s.carBad a) ∧
  ∀ (s : State) (b i : Nat) (pass sel : Bool), b < 4 → s.car.banks.length = 4 → (s.bank b).mode = .busy → i < 32 →
    s.selCurrent = some sel → bitOf (s.selW sel) i = true →
    let a := selSector sel * 2 ^ 15 + (if i < 16 then 5 else 4)
    (s.bank b).op = some (.swap a (BitVec.ofNat 16 (setBits (s.carWord a).toNat (i % 16) (i % 16) 0))) →
    ∃ t, exec (.codeArrayOperationDone b pass) s = .next t ∧ t.selCurrent = some sel ∧ t.bootSelect = !s.bootSelect

/-- R314 to R317 for the lock and R312 for KS_ACT. R321, R322, R324 for the slot commands and R318 for the writes that need the lock. -/
def Obligations.KsLockSlots : Prop :=
  ((∀ (s : State) (src : Src),
    let r := s.reqOf src
    let reads (k : Ksu) (v : Nat) := exec (.ksLockRead src) s =
      .next { s with ksu := k, out := s.out ++ [.readData Reg.KS_LOCK (leBytes 4 (BitVec.ofNat 32 v).toNat)] }
    let timer := s.fieldNow Reg.KS_IDLE_TO 9 0
    let closing := r < 1024 ∧ ((s.inst r).state = .resetting ∨ (s.inst r).state = .deleting)
    (s.ksForeign src = true ∨ s.ksu.owner = none ∧ closing ∨ (∃ o, s.ksu.owner = some o ∧ o ≠ r) →
      reads s.ksu (3 * 2 ^ 30 + s.ksu.owner.getD 0)) ∧
    (s.ksForeign src = false →
      (s.ksu.owner = none → ¬ closing →
        reads { s.ksu with owner := some r, err := Sparse.set (fun _ => 0) s.ksu.err r 0, idle := some 0, idleTo := timer
                           lost := s.ksu.lost.filter (fun x => decide (x ≠ r)) } (2 ^ 30 + r)) ∧
      (s.ksu.owner = some r → reads { s.ksu with idle := some 0, idleTo := timer } (2 * 2 ^ 30 + r)) ∧
      (∀ v, s.ksu.owner ≠ some r → exec (.ksRelease src v) s =
        .next { s with ksu := { s.ksu with err := Sparse.set (fun _ => 0) s.ksu.err r 1 } }) ∧
      ∀ v, s.ksu.owner = some r →
        (bitOf v.toNat 0 = false → exec (.ksRelease src v) s =
          .next { s with ksu := { s.ksu with idle := some 0, idleTo := timer } }) ∧
        (bitOf v.toNat 0 = true → ∃ t, exec (.ksRelease src v) s = .next t ∧ t.ksu.owner = none ∧
          t.ksu.dg.active = false ∧ t.ksu.dg.exp = List.replicate 16 0 ∧ t.ksu.key = List.replicate 8 0 ∧
          t.ksu.slots = s.ksu.slots ∧ t.ksu.run = s.ksu.run ∧ t.ksu.queued = s.ksu.queued ∧ t.ksu.dg.res = s.ksu.dg.res ∧
          t = { s with ksu := t.ksu }))) ∧
  (∀ s : State, s.ksu.owner = none → exec .ksIdleTimeout s = .next s) ∧
  (∀ (s : State) (r n : Nat), s.ksu.owner = some r → s.ksu.idle = some n →
    (n ≤ beatsOfMs s.ksu.idleTo → exec .ksIdleTimeout s = .next s) ∧
    (beatsOfMs s.ksu.idleTo < n → ∃ t, exec .ksIdleTimeout s = .next t ∧ t.ksu.owner = none ∧ t.ksu.lost.contains r = true ∧
      t.ksu.dg.active = false ∧ t.ksu.dg.exp = List.replicate 16 0 ∧ t.ksu.dg.res = List.replicate 16 0 ∧
      t.ksu.key = List.replicate 8 0 ∧ t.ksu.slots = s.ksu.slots ∧ bitOf (t.reg Reg.KS_ERR).toNat 0 = true)) ∧
  ∀ (s : State) (p : Bool) (v : DWord), s.ksForeign (.host p) = false →
    let n := bits v.toNat 9 0
    let k := if s.ksu.owner = some (s.reqOf (.host p)) then { s.ksu with idle := some 0, idleTo := s.fieldNow Reg.KS_IDLE_TO 9 0 }
      else s.ksu
    let after := if s.inPort p n then (if p then { k with actB := n } else { k with actA := n }) else k
    exec (.ksActWrite (.host p) v) s = .next { s with ksu := after }) ∧
  ((∀ (s : State) (src : Src) (r n keylen : Nat), Holds s src r → n < 64 → s.ksu.slots.length = 64 → (n = 63 → isCore r = true) →
    let k := s.slot n
    let after (f : Ksu → Ksu) : State := { s.accessed with ksu := f s.accessed.ksu }
    let sets (v : KeySlot) : State := after (fun q => { q with slots := setNth v q.slots n })
    (keylen < 3 → s.ksu.inUse n = 0 → (k.loaded = false ∨ k.owner = r) → exec (.keySlotWrite src n keylen) s = .next
      (let v : KeySlot := { loaded := true, key := (wordsToBytes s.ksu.key).take (16 + 8 * keylen), owner := r, keylen := keylen }
       after (fun q => { q with key := List.replicate 8 0, slots := setNth v q.slots n }))) ∧
    (k.loaded = true → k.owner = r →
      exec (.keySlotShare src n) s = .next (sets { k with shared := true }) ∧
      exec (.keySlotUnshare src n) s = .next (sets { k with shared := false })) ∧
    (s.ksu.inUse n = 0 → (k.loaded = false ∨ k.owner = r ∨ isCore r = true) →
      exec (.keySlotZeroize src n) s = .next (sets { gcm := k.gcm })) ∧
    (s.ksu.inUse n ≠ 0 → (k.loaded = false ∨ k.owner = r ∨ isCore r = true) →
      ∃ t, exec (.keySlotZeroize src n) s = .next t ∧ t.slot n = { gcm := k.gcm } ∧ (∀ m, m ≠ n → t.slot m = s.slot m) ∧
        bitOf (t.reg Reg.KS_ERR).toNat 2 = true ∧
        (∀ j, s.ksu.run = some j → j.slot = n → t.ksu.run = some { j with zeroized := true }) ∧
        ∀ j, s.ksu.queued = some j → j.slot = n → t.ksu.queued = some { j with zeroized := true })) ∧
  (∀ (s : State) (src : Src) (r n keylen : Nat), Holds s src r →
    let k := s.slot n
    let barred := n = 63 ∧ isCore r = false
    let refused (c : Instr) := ∃ t, exec c s = .next t ∧ t.ksu.slots = s.ksu.slots ∧ t.ksErr r = 3 ∧
      bitOf (t.reg Reg.KS_ERR).toNat 1 = true
    (barred ∨ keylen = 3 ∨ s.ksu.inUse n ≠ 0 ∨ (k.loaded = true ∧ k.owner ≠ r ∧ isCore k.owner = false) →
      refused (.keySlotWrite src n keylen)) ∧
    (barred ∨ (k.loaded = true ∧ k.owner ≠ r ∧ isCore r = false) → refused (.keySlotZeroize src n)) ∧
    (barred ∨ k.loaded = false ∨ k.owner ≠ r → refused (.keySlotShare src n) ∧ refused (.keySlotUnshare src n))) ∧
  ∀ (s : State) (src : Src), s.ksForeign src = false → s.ksu.owner ≠ some (s.reqOf src) →
    ∀ (n m : Nat) (v : DWord), ∀ c ∈ [Instr.keySlotWrite src n m, .keySlotZeroize src n, .keySlotShare src n, .keySlotUnshare src n,
      .digestStart src v, .digestDataWrite src v, .digestLastCommit src v, .cipherDescCommit src v n],
    exec c s = .next (s.lockless (s.reqOf src)))

/-- R326 to R331, each command on the state after the owner's access. -/
def Obligations.KsDigest : Prop :=
  (∀ (s : State) (src : Src) (r : Nat), Holds s src r →
    let a := s.accessed
    let d := s.ksu.dg
    (∀ ctl : DWord, d.busy = 0 → bits ctl.toNat 2 0 < 4 → (bitOf ctl.toNat 3 = true → a.slotUse r (bits ctl.toNat 13 8) = 0) →
      Sparse.sorted s.regs = true → ∃ t, exec (.digestStart src ctl) s = .next t ∧ t.ksu.dg = { d with
        active := true, done := false, valid := false, matched := false, invalid := false, alg := bits ctl.toNat 2 0
        hmac := bitOf ctl.toNat 3, slot := bits ctl.toNat 13 8, verify := bitOf ctl.toNat 4
        len := if bitOf ctl.toNat 5 then some ((s.reg Reg.DG_LEN_LO).toNat + 2 ^ 32 * (s.reg Reg.DG_LEN_HI).toNat) else none
        req := r, busy := if bitOf ctl.toNat 3 then 1 else 0, last := false, msg := [], res := List.replicate 16 0, err := 0 } ∧
        t.ksu.slots = s.ksu.slots ∧ t.ksu.run = s.ksu.run ∧ t.ksu.err = s.ksu.err) ∧
    (∀ w : DWord, d.active = true → d.busy = 0 → d.msg.length + 4 < 2 ^ 61 →
      let m := d.msg ++ [BitVec.ofNat 8 (w.toNat / 2 ^ 24), BitVec.ofNat 8 (w.toNat / 2 ^ 16), BitVec.ofNat 8 (w.toNat / 2 ^ 8),
        BitVec.ofNat 8 w.toNat]
      exec (.digestDataWrite src w) s = .next (a.withDigest
        { d with msg := m, busy := if m.length % dgBlock d.alg = 0 then 1 else 0 })) ∧
    ∀ v : DWord, d.active = true → d.busy = 0 → d.invalid = false →
      let lo := (a.staged src Reg.DG_LAST_LO).toNat
      let m := d.msg ++ [BitVec.ofNat 8 (lo / 2 ^ 24), BitVec.ofNat 8 (lo / 2 ^ 16), BitVec.ofNat 8 (lo / 2 ^ 8),
        BitVec.ofNat 8 lo].take (min (bits v.toNat 2 0) 4)
      ((d.len = none ∨ d.len = some m.length) → exec (.digestLastCommit src v) s = .next (a.withDigest
        { d with msg := m, last := true, busy := finalBlocks d.alg d.hmac m.length })) ∧
      (∀ l, d.len = some l → l ≠ m.length → ∃ t, exec (.digestLastCommit src v) s = .next t ∧ t.ksu.dg.active = false ∧
        t.ksu.dg.done = true ∧ t.ksu.dg.valid = false ∧ t.ksu.dg.res = d.res ∧ t.ksErr r = 8 ∧
        bitOf (t.reg Reg.DG_ERR).toNat 1 = true)) ∧
  (∀ (s : State) (src : Src) (r : Nat) (v : DWord), Holds s src r → s.ksu.dg.busy ≠ 0 →
    ∀ c ∈ [Instr.digestStart src v, .digestDataWrite src v, .digestLastCommit src v], ∃ t, exec c s = .next t ∧
      t.ksu.dg = { s.ksu.dg with invalid := s.ksu.dg.invalid || s.ksu.dg.active, err := 9 } ∧ t.ksErr r = 9 ∧
      bitOf (t.reg Reg.DG_ERR).toNat 0 = true) ∧
  ∀ (s : State), let d := s.ksu.dg
    (d.busy = 1 → d.last = true → d.verify = true →
      let r := if d.hmac then hmacOf d.alg (s.slot d.slot).key d.msg else hash d.alg d.msg
      let ok := (wordsToBytes d.exp).take (dgSize d.alg) = r
      ∃ t, exec .digestBlockDone s = .next t ∧ t.ksu.dg = { d with
        active := false, done := true, valid := false, matched := decide ok, last := false, busy := 0
        exp := List.replicate 16 0, err := if ok then d.err else 10 } ∧ t.ksu.slots = s.ksu.slots ∧
        (¬ ok → bitOf (t.reg Reg.DG_ERR).toNat 2 = true)) ∧
    (d.busy = 1 → d.last = true → d.verify = false →
      let r := if d.hmac then hmacOf d.alg (s.slot d.slot).key d.msg else hash d.alg d.msg
      let word (i : Nat) : DWord := BitVec.ofNat 32 (beNat (fit 4 (r.drop (4 * i))))
      ∃ t, exec .digestBlockDone s = .next t ∧ t.ksu.dg = { d with
        active := false, done := true, valid := true, last := false, busy := 0, exp := List.replicate 16 0
        res := (List.range 16).map word } ∧ t.ksu.slots = s.ksu.slots) ∧
    (1 < d.busy → ∃ t, exec .digestBlockDone s = .next t ∧ t.ksu.dg = { d with busy := d.busy - 1 } ∧ t.regs = s.regs)

/-- R334 to R339. -/
def Obligations.KsCipher : Prop :=
  (∀ (s : State) (src : Src) (r : Nat) (hi : DWord) (n : Nat), Holds s src r →
    let a := { s with ksu := s.accessed.ksu }
    let job : CipherJob := { desc := hi.toNat * 2 ^ 32 + (s.staged src Reg.CI_DESC_LO).toNat / 64 * 64
                             req := r, gen := (s.inst r).gen, slot := n }
    (s.ksu.run = none → exec (.cipherDescCommit src hi n) s = .next { s.accessed with ksu := { a.ksu with run := some job } }) ∧
    (∀ j, s.ksu.run = some j → s.ksu.queued = none →
      exec (.cipherDescCommit src hi n) s = .next { s.accessed with ksu := { a.ksu with queued := some job } }) ∧
    (∀ j q, s.ksu.run = some j → s.ksu.queued = some q → ∃ t, exec (.cipherDescCommit src hi n) s = .next t ∧
      t.ksu.run = some j ∧ t.ksu.queued = some q ∧ t.ksErr r = 9 ∧ bitOf (t.reg Reg.CI_ERR).toNat 0 = true)) ∧
  (∀ (s : State) (j : CipherJob) (d tag : List Byte), s.ksu.run = some j → j.started = false →
    let k := j.ofDesc d
    let st := if descLegal s j.req d = false then 0x80 else if modeAvailable k.mode s.dev = false then 6
      else if k.zeroized = true ∨ s.slotUse j.req k.slot = 4 then 4 else if s.slotUse j.req k.slot ≠ 0 then 3
      else if k.mode = 4 ∧ k.op = 1 ∧ (2 ^ 32 ≤ (s.slot k.slot).gcm ∨ s.chestWritable = false) then 7 else 0
    let v := s.slot k.slot
    let counted := if k.mode = 4 ∧ k.op = 1 then setNth { v with gcm := v.gcm + 1 } s.ksu.slots k.slot else s.ksu.slots
    let run := { k with key := v.key, tag := if k.op = 2 ∧ k.mode = 4 then fit 16 tag else [] }
    (st = 0 → exec (.cipherJobStart (some d) tag) s = .next { s with ksu := { s.ksu with run := some run, slots := counted } }) ∧
    (st ≠ 0 → ∃ t, exec (.cipherJobStart (some d) tag) s = .next t ∧ t.ksu.run = s.ksu.queued ∧ t.ksu.queued = none ∧
      t.ksu.slots = s.ksu.slots ∧ t.ksu.dg = s.ksu.dg ∧ bitOf (t.reg Reg.CI_ERR).toNat 1 = true ∧
      (isCore j.req = false → Linked s → s.alive j.req j.gen = true → ∃ m, told t.out = told s.out ++
        [.write (s.portOf j.req) (if s.isManager j.req then none else (s.inst j.req).pasid) k.status
          (cipherRecord st 0 s.beat []) false (s.port (s.portOf j.req)).cfg.ido] ++ m ∧ (k.irq = false → m = [])))) ∧
  (∀ (s : State) (j : CipherJob) (data aad : List Byte) (wf rf : Bool), s.ksu.run = some j → j.started = true →
    ∃ t, exec (.cipherJobEnd data aad wf rf) s = .next t ∧ t.ksu.run = s.ksu.queued ∧ t.ksu.queued = none ∧
      t.ksu.slots = s.ksu.slots ∧ t.ksu.dg = s.ksu.dg) ∧
  (∀ (s : State) (j : CipherJob) (data aad : List Byte), s.ksu.run = some j → j.started = true → j.zeroized = false →
    j.halted = false →
    j.mode = 1 ∨ j.mode = 2 ∨ j.mode = 3 ∨ j.mode = 4 → data.length = j.len → j.aadLen ≤ aad.length →
    let o := j.output data
    let tag := fit 16 (gcmTag j.key (j.iv.take 12) aad (if j.op = 1 then o else data))
    let st := if j.mode = 2 ∧ j.ctrOut < j.len then 5 else if j.mode = 4 ∧ j.op = 2 ∧ tag ≠ j.tag then 10 else 0
    let record := cipherRecord st o.length s.beat (if j.mode = 4 then (if j.op = 2 then j.tag else tag) else [])
    let write (a : Nat) (l : List Byte) : List Out := if l = [] then [] else
      [.write (s.portOf j.req) (if s.isManager j.req then none else (s.inst j.req).pasid) a l false
        (s.port (s.portOf j.req)).cfg.ido]
    ∃ t, exec (.cipherJobEnd data aad false false) s = .next t ∧
      (isCore j.req = true → t.out = s.out ∧ t.dram = ((s.dramBytes j.dst o).dramBytes j.status record).dram) ∧
      (isCore j.req = false → t.dram = s.dram ∧
        (Linked s → s.alive j.req j.gen = true → ∃ m, told t.out = told s.out ++ write j.dst o ++ write j.status record ++ m ∧
          (j.irq = false → m = [])))) ∧
  (∀ (s : State) (j : CipherJob) (data : List Byte), s.ksu.run = some j → j.started = true →
    let o := if j.zeroized then [] else j.output (data.take j.len)
    let record := cipherRecord 0x81 o.length s.beat (if j.op = 2 then j.tag else [])
    let write (a : Nat) (l : List Byte) : List Out := if l = [] then [] else
      [.write (s.portOf j.req) (if s.isManager j.req then none else (s.inst j.req).pasid) a l false
        (s.port (s.portOf j.req)).cfg.ido]
    ∃ t, exec (.cipherJobTimeout data) s = .next t ∧ bitOf (t.reg Reg.CI_ERR).toNat 5 = true ∧ t.ksu.run = s.ksu.queued ∧
      t.ksu.queued = none ∧ t.ksu.slots = s.ksu.slots ∧
      (isCore j.req = true → t.out = s.out ∧ t.dram = ((s.dramBytes j.dst o).dramBytes j.status record).dram) ∧
      (isCore j.req = false → t.dram = s.dram ∧ (Linked s → s.alive j.req j.gen = true → ∃ m,
        told t.out = told s.out ++ write j.dst o ++ write j.status record ++ m ∧ (j.irq = false → m = [])))) ∧
  ∀ (s : State) (d : Option (List Byte)) (x y : List Byte) (wf rf : Bool), s.ksu.run = none →
    exec (.cipherJobStart d x) s = .next s ∧ exec (.cipherJobEnd x y wf rf) s = .next s ∧ exec (.cipherJobTimeout x) s = .next s

/-- R370, R371, R374, R379, R380: `w` is channel `m` as it was, and each command leaves exactly the fields named different. -/
def Obligations.DramRefresh : Prop :=
  (∀ (s : State) (m sub rank : Nat), m < 6 → s.dram.ch.length = 6 → sub < 2 → rank < 2 → (s.drc m).state = .up →
    let w := s.drc m
    let i := 2 * sub + rank
    let sets (v : Drc) : State := { s with dram := { s.dram with ch := setNth v s.dram.ch m } }
    (∀ window, let v := if window then { w with act := w.act.filter (fun p => decide (p.1 / 32 ≠ i)) } else w
      exec (.refreshTick m sub rank false window) s = .next (sets v) ∧
      (nth 0 w.debts i < 7 → exec (.refreshTick m sub rank true window) s = .next
        (sets { v with debts := setNth (nth 0 w.debts i + 1) w.debts i })) ∧
      (nth 0 w.debts i = 7 → ∃ t, exec (.refreshTick m sub rank true window) s = .next t ∧
        t.drc m = { v with debts := setNth 0 w.debts i } ∧ bitOf (t.reg (Reg.DRC_ERR m)).toNat 3 = true)) ∧
    exec (.refreshMakeup m sub rank) s = .next (sets { w with debts := setNth 0 w.debts i }) ∧
    (∀ on, exec (.refreshRatePoll m sub rank on) s = .next (sets { w with doubled := setNth on w.doubled i })) ∧
    (w.bandPend = true → w.swA = true → ∃ t, exec (.delaySetSwitch m 0) s = .next t ∧ t.drc m = { w with
      dsetA := w.band, swA := false, bandPend := w.swB, checkDue := w.checkDue || !w.swB }) ∧
    (w.bandPend = true → w.swB = true → ∃ t, exec (.delaySetSwitch m 1) s = .next t ∧ t.drc m = { w with
      dsetB := w.band, swB := false, bandPend := w.swA, checkDue := w.checkDue || !w.swA }) ∧
    (w.checkDue = true → exec (.checkAreaReadback m true) s = .next (sets { w with checkDue := false }) ∧
      ∃ t, exec (.checkAreaReadback m false) s = .next t ∧ t.drc m = { w with checkDue := false, failing := true } ∧
        bitOf (t.reg (Reg.DRC_ERR m)).toNat 0 = true) ∧
    (w.srWant = true → (∃ t, exec (.selfRefreshEntry m) s = .next t ∧ t.drc m = { w with
        state := .selfRefresh, debts := [0, 0, 0, 0], clkStopped := bitOf (s.reg (Reg.DRC_SR_CTL m)).toNat 0 }) ∧
      ∃ t, exec (.selfRefreshExit m true) s = .next t ∧ t.drc m = { w with srWant := false }) ∧
    (w.srWant = false → exec (.selfRefreshEntry m) s = .next s ∧ exec (.selfRefreshExit m true) s = .next s) ∧
    exec (.selfRefreshExit m false) s = .next s ∧
    (w.checkDue = false → ∀ pass, exec (.checkAreaReadback m pass) s = .next s) ∧
    (w.bandPend = false → exec (.delaySetSwitch m sub) s = .next s)) ∧
  (∀ (s : State) (m sub rank line draw : Nat) (a b : Bool), (s.drc m).state ≠ .up →
    ∀ c ∈ [Instr.refreshTick m sub rank a b, .refreshMakeup m sub rank, .refreshRatePoll m sub rank a, .delaySetSwitch m sub,
      .selfRefreshEntry m, .dramLineAccess m line a b draw], exec c s = .next s) ∧
  ∀ (s : State) (m : Nat) (early : Bool), m < 6 → s.dram.ch.length = 6 → (s.drc m).state = .selfRefresh →
    let w := s.drc m
    ∃ t, exec (.selfRefreshExit m early) s = .next t ∧ (∀ k, k ≠ m → t.drc k = s.drc k) ∧
      t.drc m = { w with
        state := .up, clkStopped := false, srWant := false, bandPend := false
        dsetA := if w.bandPend then w.band else w.dsetA, dsetB := if w.bandPend then w.band else w.dsetB
        swA := if w.bandPend then false else w.swA, swB := if w.bandPend then false else w.swB
        checkDue := w.checkDue || w.bandPend }

/-- R375 and R376, with the counts of R369 and the poison of R381. -/
def Obligations.DramAccess : Prop :=
  let count (t : List (Nat × Nat)) (row : Nat) : Nat := match t.find? (fun p => decide (p.1 = row)) with
    | some e => e.2
    | none => 0
  (∀ (s : State) (m line : Nat) (write whole : Bool) (draw : Nat), m < 6 → s.dram.ch.length = 6 → (s.drc m).state = .up →
    let w := s.drc m
    let p := s.place m line
    let bank := (2 * p.sub + p.rank) * 32 + p.bank
    let table (d : Drc) (b : Nat) := Sparse.get (fun _ => []) d.act b
    ∃ t, exec (.dramLineAccess m line write whole draw) s = .next t ∧
      (t.drc m).rd = w.rd + (if write && whole then 0 else 1) ∧ (t.drc m).wr = w.wr + (if write then 1 else 0) ∧
      (t.drc m).poison = (if write && whole then w.poison.filter (fun l => decide (l ≠ line)) else w.poison) ∧
      (∀ b, b ≠ bank → table (t.drc m) b = table w b) ∧ (∀ k, k ≠ m → t.drc k = s.drc k) ∧
      (w.isSealed = true → (t.drc m).act = w.act ∧
        (draw % 2 ^ s.fieldNow (Reg.DRC_RH_PROB m) 3 0 ≠ 0 → t.regs = s.regs)) ∧
      (w.isSealed = false → Sparse.sorted w.act = true →
        table (t.drc m) bank = (actUpdate (s.fieldNow (Reg.DRC_RH_THR m) 14 0) (table w bank) p.row).1)) ∧
  ∀ (thr : Nat) (t : List (Nat × Nat)) (row : Nat), 2 ≤ thr → (t.map (·.1)).Nodup → t.length ≤ 32 → (∀ e ∈ t, 1 ≤ e.2) →
    let u := actUpdate thr t row
    u.1.length ≤ 32 ∧ (u.1.map (·.1)).Nodup ∧ (∀ e ∈ u.1, 1 ≤ e.2) ∧
    match u.2 with
    | .quiet => count t row + 1 ≤ count u.1 row ∧ count u.1 row < thr
    | .neighbours => thr ≤ count t row + 1 ∧ count u.1 row = 0
    | .overflow => t.length = 32 ∧ count t row = 0 ∧ (∀ e ∈ t, thr / 2 ≤ e.2) ∧ u.1 = []

/-- R383, R384, R387 to R389; Table 16-10 for the regions and Table 16-9 for a register read. -/
def Obligations.DramErrors : Prop :=
  let counted (s t : State) (off : Nat) : Prop := t.field off 31 0 = min (s.field off 31 0 + 1) (2 ^ 32 - 1)
  let corrected (s t : State) (m line dev : Nat) : Prop :=
    let w := s.drc m
    let p := s.place m line
    bitOf (t.reg Reg.MEP_ERR).toNat 0 = true ∧ counted s t (Reg.MEP_CE_CNT m) ∧
    t.reg (Reg.MEP_CE_LINE m) = BitVec.ofNat 32 (2 ^ 31 + line % 2 ^ 29) ∧
    (t.drc m).poison = w.poison ∧ (∀ k, k ≠ m → t.drc k = s.drc k) ∧
    (s.fieldNow Reg.MEP_REMAP_THR 7 0 ≤ trackOf line w.track + 1 → w.track.length < 64 → w.remap.length < 16 →
      line ∈ (t.drc m).remap) ∧
    (trackOf line w.track + 1 < s.fieldNow Reg.MEP_REMAP_THR 7 0 → w.track.length < 64 → (t.drc m).remap = w.remap ∧
      trackOf line (t.drc m).track = trackOf line w.track + 1) ∧
    (∀ d, d ≠ dev → (p.sub, p.rank, d) ∈ w.devs → (t.drc m).failing = true)
  let poisoned (s t : State) (m line : Nat) : Prop :=
    bitOf (t.reg Reg.MEP_ERR).toNat 1 = true ∧ line ∈ (t.drc m).poison ∧
    ((s.drc m).remap.length < 16 → line ∈ (t.drc m).remap) ∧
    (16 ≤ (s.drc m).remap.length → line ∉ (s.drc m).remap → (t.drc m).remap = (s.drc m).remap ∧
      bitOf (t.reg Reg.MEP_ERR).toNat 4 = true)
  let wait (s : State) : Nat := beatsOfMs (s.fieldNow Reg.MEP_SCRUB_PERIOD 9 0 * 3600000)
  (∀ (s : State) (m line dev b y : Nat), m < 6 → s.dram.ch.length = 6 →
    ∃ t, exec (.dramCorrectableError (.dram m line) dev b y) s = .next t ∧ corrected s t m line dev) ∧
  (∀ (s : State) (m line id req : Nat), m < 6 → s.dram.ch.length = 6 → m ∈ s.working → line < s.chLines m → req = 0 ∨ req = 2 →
    (∀ n l, ∃ t, exec (.dramUncorrectableError m line req id (.slm n l)) s = .next t ∧ poisoned s t m line ∧
      n * 2 ^ 34 + l ∈ t.dram.slmPoison ∧ t.dram.slm = s.dram.slm ∧ t.insts = s.insts) ∧
    (∀ k, ∃ t, exec (.dramUncorrectableError m line req id (.map k)) s = .next t ∧ poisoned s t m line ∧
      (t.seg k).resident = false ∧ (t.seg k).slot = none) ∧
    (∀ p, ∃ t, exec (.dramUncorrectableError m line req id (.index p)) s = .next t ∧ poisoned s t m line ∧
      p ∈ t.idx.damaged) ∧
    ∃ t, exec (.dramUncorrectableError m line req id .fwOther) s = .next t ∧ t.dev = .halted) ∧
  (∀ (s : State) (cls inst word synd : Nat),
    let mac := macroOf cls inst
    (∃ t, exec (.dramCorrectableError (.sram cls inst word) 0 0 synd) s = .next t ∧ bitOf (t.reg Reg.MEP_ERR).toNat 2 = true ∧
      counted s t Reg.MEP_SRAM_CE_CNT ∧ t.strands = s.strands ∧ t.cores = s.cores) ∧
    (cls ≠ 6 → cls ≠ 10 →
      (∃ t, exec (.sramUncorrectableError cls inst word synd .core) s = .next t ∧ bitOf (t.reg Reg.MEP_ERR).toNat 3 = true ∧
        counted s t Reg.MEP_SRAM_UE_CNT ∧ (s.dram.sramUsed mac < 8 → (mac, word) ∈ t.dram.sramRemap) ∧
        (cls = 0 → 2 * word ∈ (t.strand inst).bad ∧ 2 * word + 1 ∈ (t.strand inst).bad) ∧
        (cls = 1 → 2 * word ∈ (t.strand inst).badCode ∧ 2 * word + 1 ∈ (t.strand inst).badCode) ∧
        (cls = 2 → 2 * word ∈ (t.core inst).bad ∧ 2 * word + 1 ∈ (t.core inst).bad) ∧
        (cls = 3 → 2 * word ∈ (t.core (256 + inst)).bad ∧ 2 * word + 1 ∈ (t.core (256 + inst)).bad)) ∧
      ∀ off, ∃ t, exec (.sramUncorrectableError cls inst word synd (.host off)) s = .next t ∧
        bitOf (t.reg Reg.MEP_ERR).toNat 7 = true ∧
        t.out = s.out ++ [if bitOf (s.inForce Reg.MEP_CTL).toNat 0 then .poisoned off else .abort off])) ∧
  (∀ (s : State), s.fieldNow Reg.MEP_SCRUB_PERIOD 9 0 ≠ 0 → s.dram.scrub = false →
    (s.dram.scrubTimer = none ∨ ∃ n, s.dram.scrubTimer = some n ∧ wait s < n) →
    ∃ t, exec .scrubPassStart s = .next t ∧ t = { s with dram := t.dram } ∧ t.dram.scrub = true ∧ t.dram.scrubAt = 0 ∧
      t.dram.scrubTimer = some 0 ∧ t.dram.sramTrack = [] ∧ ∀ d ∈ t.dram.ch, d.track = []) ∧
  (∀ (s : State), (s.fieldNow Reg.MEP_SCRUB_PERIOD 9 0 = 0 ∨ s.dram.scrub = true ∨
    ∃ n, s.dram.scrubTimer = some n ∧ n ≤ wait s) → exec .scrubPassStart s = .next s) ∧
  (∀ (s : State) (f : ScrubFind), s.dram.scrub = false ∨ 3 ≤ s.pwr.ps → exec (.patrolScrubRead f) s = .next s) ∧
  ∀ (s : State), s.dram.scrub = true → s.pwr.ps < 3 → s.fieldNow Reg.MEP_SCRUB_PERIOD 9 0 ≠ 0 →
    s.dram.scrubAt < s.scrubLines → s.dram.ch.length = 6 →
    let goesOn (t : State) : Prop := t.dram.scrubAll = s.dram.scrubAll + 1 ∧
      (s.dram.scrubAt + 1 < s.scrubLines → t.dram.scrub = true ∧ t.dram.scrubAt = s.dram.scrubAt + 1) ∧
      (s.dram.scrubAt + 1 = s.scrubLines → t.dram.scrub = false ∧ t.dram.passes = (s.dram.passes + 1) % 256)
    (∃ t, exec (.patrolScrubRead .clean) s = .next t ∧ t = { s with dram := t.dram } ∧ goesOn t) ∧
    (∀ d b y, ∃ t m line, exec (.patrolScrubRead (.correctable d b y)) s = .next t ∧ goesOn t ∧ corrected s t m line d) ∧
    ∀ n l, ∃ t m line, exec (.patrolScrubRead (.uncorrectable (.slm n l))) s = .next t ∧ goesOn t ∧ poisoned s t m line

/-- R392 to R396, R413, R424, R425. -/
def Obligations.PwrResets : Prop :=
  (∀ (s : State) (b : Boot),
    let burnt : State := match b.factory with
      | some f => if s.pwr.fuses = {} then { s with pwr := { s.pwr with fuses :=
          { keyHash := f.keyHash, deviceKey := f.deviceKey, debugHash := f.debugHash, serial := f.serial } } } else s
      | none => s
    ∃ t, exec (.por b) s = .next t ∧ Rebooted .por burnt t ∧
      t.beat = 0 ∧ t.regs = [] ∧ t.pwr.pwrGood = true ∧ t.pwr.cc0Wait = b.failLow ∧ t.pins.dual = b.straps.getLsbD 0) ∧
  (∀ (s : State), ∃ t, exec .powerLoss s = .next t ∧ Rebooted .por s t ∧ t.beat = 0 ∧ t.regs = [] ∧ t.pwr.pwrGood = false ∧
    t.ftl.span = s.ftl.span ∧ t.ftl.grain = s.ftl.grain ∧ t.ftl.imgs = s.ftl.imgs ∧ t.chest.sealed = s.chest.sealed) ∧
  (∀ (s : State) (f : FlushRun), if s.pwr.pwrGood = true ∧ s.pwr.perstLow = false ∧ s.stopped = false ∧ s.dev ≠ .test then
    ∃ t, exec (.perstNAssert f) s = .next t ∧ Rebooted .perst s t ∧ t.beat = s.beat ∧ t.pwr.perstLow = true ∧
      t.pins.dual = s.pins.dual
    else exec (.perstNAssert f) s = .next s) ∧
  (∀ (s : State) (v : DWord) (f : FlushRun) (b : Boot),
    let holds := s.pwr.pwrGood = false ∨ s.stopped = true ∨ s.dev = .test ∨ (s.dev = .boot ∧ s.pwr.cause = .perst ∧ s.pwr.rom = none)
    (∀ src, src = .host s.ownerPort ∨ (∃ c, src = .cc c) ∨ ((∃ p, src = .host p) ∧ s.pins.dual = false) →
      (bits v.toNat 31 24 = 0x5A → bitOf v.toNat 0 = true → s.dev ≠ .halted → ¬ holds →
        ∃ t, exec (.softChipReset src v f b) s = .next t ∧ Rebooted .soft s t ∧ t.beat = s.beat ∧ t.pwr.rom = some b ∧
          t.pins.dual = s.pins.dual) ∧
      (bits v.toNat 31 24 ≠ 0x5A ∨ bitOf v.toNat 0 = false ∨ s.dev = .halted ∨ holds →
        exec (.softChipReset src v f b) s = .next s)) ∧
    (∀ p, s.pins.dual = true → p ≠ s.ownerPort → ∃ t, exec (.softChipReset (.host p) v f b) s = .next t ∧
      t = { s with regs := t.regs } ∧ bitOf (t.reg (Reg.HIF_ERR (if p then 1 else 0))).toNat 7 = true) ∧
    (∀ n, s.pwr.wdRun = true → s.pwr.wd = some n → s.wdPeriod ≤ n → ¬ holds →
      ∃ t, exec (.watchdogReset f b) s = .next t ∧ Rebooted .watchdog s t ∧ t.beat = s.beat ∧ t.pins.dual = s.pins.dual ∧
        bitOf (t.reg Reg.RST_ERR).toNat 0 = true ∧ t.portA.ctrl.cfs = true ∧ t.portB.ctrl.cfs = true) ∧
    (s.pwr.wdRun = false ∨ s.pwr.wd = none ∨ (∃ n, s.pwr.wd = some n ∧ n < s.wdPeriod) ∨ holds →
      exec (.watchdogReset f b) s = .next s)) ∧
  (∀ (s : State) (b : Boot), if s.pwr.perstLow = true then ∃ t, exec (.perstNRelease b) s = .next t ∧
      t.pwr.perstLow = false ∧ t.portA.training = true ∧ (s.pins.dual = true → t.portB.training = true) ∧
      (s.dev = .boot → s.pwr.cause = .perst → s.pwr.rom = none → s.stopped = false → t.pwr.rom = some b)
    else exec (.perstNRelease b) s = .next s) ∧
  ∀ (s : State), exec .cc0StartWaitEnd s = .next (if s.pwr.cc0Wait
    then { s with pwr := { s.pwr with cc0Wait := false, pwrFailLow := false } } else s)

/-- Table 8-4 as R189, R193, R30 and R411 apply it. -/
def Obligations.PwrFlush : Prop :=
  let halted (t : State) : Prop := t.dev = .halted ∧ t.portA.ctrl.cfs = true ∧ t.portB.ctrl.cfs = true ∧
    t.portA.ctrl.rdy = false ∧ t.portB.ctrl.rdy = false ∧ t.pwr.wdRun = false
  let ended (t : State) : Prop := t.cmds = [] ∧ t.runs = [] ∧ t.shd = [] ∧ t.ksu.run = none ∧ t.ksu.queued = none
  let quiet (s : State) : Prop := s.chest.pending = [] ∧ ∀ e ∈ s.luns, ∀ o, e.2.op = some o → o.kind ≠ .program
  let flushed (s t : State) : Prop := halted t ∧ t.chest.sealed = some false ∧ ended t ∧
    (quiet s → ∀ v ∈ t.ftl.slots, v.state = .held → v.dumped = true)
  let sealedOnly (s t : State) : Prop := halted t ∧ t.chest.sealed = some false ∧ t.ftl = s.ftl ∧ t.cmds = s.cmds
  (∀ (s : State) (f : FlushRun), s.dev = .service → s.pwr.cc0Wait = false →
    ∃ t, exec (.powerFail f none) s = .next t ∧ t.car.pwrFail = true ∧ t.car.words = s.car.words ∧
      (s.pwr.ps < 3 → flushed s t) ∧ (3 ≤ s.pwr.ps → sealedOnly s t)) ∧
  (∀ (s : State) (f : FlushRun) (cut : List Nat), s.dev = .service → s.pwr.cc0Wait = false →
    ∃ t, exec (.powerFail f (some cut)) s = .next t ∧ t.dev = .service ∧ t.car.pwrFail = true ∧
      (t.chest.sealed = s.chest.sealed ∨ t.chest.sealed = none) ∧
      (3 ≤ s.pwr.ps → t.ftl = s.ftl ∧ t.cmds = s.cmds ∧ t.chest = s.chest) ∧
      (s.pwr.ps < 3 → t.pwr.flush = true ∧ ended t ∧ (quiet s → ∀ v ∈ t.ftl.slots, v.state = .held → v.dumped = true →
        v.idx ∈ cut ∨ ∃ w ∈ s.ftl.slots, w.idx = v.idx ∧ w.dumped = true))) ∧
  (∀ (s : State) (f : FlushRun) (cut : Option (List Nat)), s.dev ≠ .service → s.pwr.cc0Wait = false →
    ∃ t, exec (.powerFail f cut) s = .next t ∧ t.dev = s.dev ∧ ended t ∧ t.pwr.rom = none ∧ t.chest = s.chest ∧
      t.car.pwrFail = true) ∧
  (∀ (s : State) (f : FlushRun) (cut : Option (List Nat)), s.pwr.cc0Wait = true → exec (.powerFail f cut) s = .next s) ∧
  (∀ (s : State) (f : FlushRun), s.pwr.hot < 2 ∨ s.dev = .halted → exec (.thermalShutdown f) s = .next s) ∧
  ∀ (s : State) (f : FlushRun), 2 ≤ s.pwr.hot → s.dev ≠ .halted →
    ∃ t, exec (.thermalShutdown f) s = .next t ∧ halted t ∧ bitOf (t.reg Reg.RST_ERR).toNat 2 = true ∧
      (s.dev = .service → s.pwr.ps < 3 → flushed s t) ∧ (s.dev = .service → 3 ≤ s.pwr.ps → sealedOnly s t) ∧
      (s.dev ≠ .service → t.chest = s.chest ∧ t.ftl = s.ftl)

/-- R20 and R22 for the beat, R409 for TJ, R410 for L, R413 for the watchdog, R407 and R408 for the power states. -/
def Obligations.PwrTimers : Prop :=
  (∀ (s : State) (temps : List (Option Int)) (plan : List (Nat × Nat × Nat)), s.pwr.pwrGood = true →
    ∃ t, exec (.beatBoundary temps plan) s = .next t ∧ t.beat = (s.beat + 1) % 2 ^ 64 ∧ t.held = [] ∧
      (s.dev ≠ .boot → t.car.lockout = s.car.lockout.map (· + 1)) ∧
      (s.dev ≠ .boot → s.pwr.wdRun = true →
        ((∀ e ∈ s.held, e.1 ≠ Reg.TMR_WDT_PERIOD) → s.dev ≠ .recovery → t.pwr.wd = some (match s.pwr.wd with
          | none => 0
          | some n => n + 1)) ∧
        ((∃ e ∈ s.held, e.1 = Reg.TMR_WDT_PERIOD) → s.dev ≠ .recovery → t.pwr.wd = some 0) ∧
        (s.dev = .recovery → t.pwr.wd = none)) ∧
      let l := (List.range 16).map (fun i => nth none temps i)
      t.pwr.sensors = l ∧ ((∀ x ∈ l, x = none) → t.pwr.tj = some 110) ∧
      (none ∈ l → bitOf (t.reg Reg.TMP_ERR).toNat 1 = true) ∧
      ∀ a, some a ∈ l → (∀ b, some b ∈ l → b ≤ a) → t.pwr.tj = some a) ∧
  (∀ (s : State) temps plan, s.pwr.pwrGood = false → exec (.beatBoundary temps plan) s = .next s) ∧
  (∀ (s : State) (n : Nat), s.pwr.wdRun = true → s.pwr.wd = some n → exec .watchdogPrewarn s = .next
    (if cdiv s.wdPeriod 2 ≤ n then { s with pwr := { s.pwr with prewarn := true } } else s)) ∧
  (∀ (s : State), s.pwr.wdRun = false ∨ s.pwr.wd = none → exec .watchdogPrewarn s = .next s) ∧
  (∀ (s : State) (c : Nat) (v : DWord), exec (.tmrWdtKick (.cc c) v) s = .next
    (if bitOf v.toNat 0 = true ∧ s.pwr.wdRun = true then { s with pwr := { s.pwr with wd := none, prewarn := false } } else s)) ∧
  (∀ (s : State) (p : Bool) (v : DWord), ∃ t, exec (.tmrWdtKick (.host p) v) s = .next t ∧ t = { s with regs := t.regs } ∧
    bitOf (t.reg (Reg.HIF_ERR (if p then 1 else 0))).toNat 7 = true) ∧
  (∀ (s : State) (tj : Int), s.pwr.tj = some tj →
    let temp : Int := s.fieldNow Reg.TMP_THR 7 0
    let hyst : Int := s.fieldNow Reg.TMP_THR 15 8
    (s.pwr.steady < s.fieldNow Reg.TMP_STEP 15 0 ∨ (tj < temp ∧ temp - hyst ≤ tj) ∨ (temp ≤ tj ∧ 7 ≤ s.pwr.throttle) ∨
      (tj < temp ∧ s.pwr.throttle = 0) → exec .throttleStep s = .next s) ∧
    (s.fieldNow Reg.TMP_STEP 15 0 ≤ s.pwr.steady → temp ≤ tj → s.pwr.throttle < 7 → ∃ t, exec .throttleStep s = .next t ∧
      t.pwr = { s.pwr with throttle := s.pwr.throttle + 1, steady := 0 } ∧ bitOf (t.reg Reg.TMP_ERR).toNat 0 = true) ∧
    (s.fieldNow Reg.TMP_STEP 15 0 ≤ s.pwr.steady → tj < temp → tj < temp - hyst → 0 < s.pwr.throttle →
      exec .throttleStep s = .next { s with pwr := { s.pwr with throttle := s.pwr.throttle - 1, steady := 0 } })) ∧
  (∀ (s : State), s.dev ≠ .recovery → s.pwr.ps < s.pwr.allowed → s.pwr.allowed ≤ 4 → s.pwr.waking = false →
    (s.pwr.allowed < 3 ∨ s.idle3 = true) → s.dram.ch.length = 6 →
    ∃ t, exec .powerStateEntry s = .next t ∧ t.pwr = { s.pwr with ps := s.pwr.allowed } ∧
      (∀ n, n < 32 → nth .low t.pins.nf n =
        if 3 ≤ s.pwr.allowed ∨ (s.pwr.allowed = 2 ∧ 16 ≤ n) ∨ (∀ e ∈ s.luns, e.1 / 64 = n → e.2.state = .absent) then .idle
        else .running) ∧
      ∀ m ∈ s.working, s.pwr.allowed = 4 → (t.drc m).srWant = true ∧ (t.drc m).state = (s.drc m).state) ∧
  (∀ (s : State), s.dev = .recovery ∨ s.pwr.allowed ≤ s.pwr.ps ∨ s.pwr.waking = true ∨ (3 ≤ s.pwr.allowed ∧ s.idle3 = false) →
    exec .powerStateEntry s = .next s) ∧
  (∀ (s : State), s.pwr.waking = false → exec .powerStateWake s = .next s) ∧
  ∀ (s : State), s.pwr.waking = true → s.pwr.ps ≠ 0 → s.dram.ch.length = 6 → ∃ t, exec .powerStateWake s = .next t ∧
    t.pwr = { s.pwr with ps := 0, waking := false } ∧
    (∀ n, n < 32 → nth .low t.pins.nf n = if ∀ e ∈ s.luns, e.1 / 64 = n → e.2.state = .absent then .idle else .running) ∧
    ∀ m ∈ s.working, (t.drc m).state = .up ∧ (t.drc m).srWant = false

/-- R431 and Table 18-11, R432, R433. -/
def Obligations.PinsTap : Prop :=
  (∀ (s : State) (cells : List Bool), s.pins.tap.reset = false →
    let k := s.pins.tap
    let leaves (k : Tap) (b : List Bool) : State := { s with pins := { s.pins with tap := k }, out := s.out ++ [.tdo b] }
    let quiet : Tap := { k with driving := false, highz := false }
    let late := (false :: cells).take cells.length
    (∃ l, exec .idcode s = .next (leaves { quiet with ir := .idcode } l) ∧ l.length = 32 ∧
      ∀ i, i < 32 → nth false l i = bitOf 0x164325CB i) ∧
    exec (.samplePreload cells) s = .next (leaves { quiet with ir := .sample, cells := cells } s.pins.sample) ∧
    exec (.bypass cells) s = .next (leaves { quiet with ir := .bypass } late) ∧
    exec (.extest cells) s = .next (if s.pwr.pwrGood then leaves { quiet with ir := .bypass } late
      else leaves { k with ir := .extest, driving := true, highz := false, cells := cells } s.pins.sample) ∧
    exec .clamp s = .next { s with pins := { s.pins with tap := if s.pwr.pwrGood then { quiet with ir := .bypass }
      else { k with ir := .clamp, driving := true, highz := false } } } ∧
    exec .highz s = .next { s with pins := { s.pins with tap := if s.pwr.pwrGood then { quiet with ir := .bypass }
      else { k with ir := .highz, driving := false, highz := true } } } ∧
    (∃ c b, c.length = 64 ∧ exec (.adhDebug none) s =
      .next { leaves { quiet with ir := .debug, challenge := c } b with free := s.free + 1 }) ∧
    ∀ r, exec (.adhDebug (some r)) s = .next { s with pins := { s.pins with tap :=
      if s.pwr.pwrGood = false ∨ s.dev = .boot then { quiet with ir := .debug, response := some r }
      else { quiet with ir := .debug } } }) ∧
  (∀ (s : State) (cells : List Bool) (r : Option (List Byte)), s.pins.tap.reset = true →
    ∀ c ∈ [Instr.extest cells, .idcode, .samplePreload cells, .clamp, .highz, .bypass cells, .adhDebug r],
      exec c s = .next s) ∧
  ∀ (s : State), exec .nvmeMiRequest s = .next { s with out := s.out ++ [.smbus
    ((decide (s.dev = .service) || decide (s.dev = .halted)) && s.cores.all (fun p => decide (p.2.run ≠ .stopped)))] }

/-- R50, R56, R57; `goes` is a message on a port's link, which stalls while the link trains (R37). -/
def Obligations.QueDoorbells : Prop :=
  let goes (p : Bool) (a : BitVec 64) (d : DWord) (u : State) : State :=
    if (u.port p).training then u.setPort p { u.port p with stalled := (u.port p).stalled ++ [.message p a d] }
    else { u with out := u.out ++ [.message p a d] }
  (∀ (s : State) (p : Bool) (i l : Nat) (v : DWord), s.inPort p i = true →
    let u := s.wakeBy 1
    let n := bits v.toNat 15 0
    (∀ q, s.sqOf i l = some q →
      let r := s.sqRow q
      let moved := { u with sq := Sparse.set (fun _ => {}) s.sq q { r with tail := n } }
      (n ≤ r.qsize ∨ r.error = true → exec (.sqTailDoorbell (.page p i l) v) s = .next (if r.error then u else moved)) ∧
      (r.qsize < n → r.error = false → ∃ t, exec (.sqTailDoorbell (.page p i l) v) s = .next t ∧ t.sq = s.sq ∧
        (s.isManager i = false → t.cq = s.cq) ∧ bitOf (t.inst i).err.toNat 2 = true ∧ bitOf (t.reg Reg.QMG_ERR).toNat 2 = true)) ∧
    (∀ q, s.cqOf i l = some q →
      let r := s.cqRow q
      let used := (n + (r.qsize + 1) - r.head) % (r.qsize + 1)
      let k := { r with head := n }
      let moved := { u with cq := Sparse.set (fun _ => {}) s.cq q { k with left := r.left || decide (r.unsig < k.posted) } }
      (n ≤ r.qsize ∧ used ≤ r.posted ∨ r.error = true →
        exec (.cqHeadDoorbell (.page p i l) v) s = .next (if r.error then u else moved)) ∧
      (r.qsize < n ∨ r.posted < used → r.error = false → ∃ t, exec (.cqHeadDoorbell (.page p i l) v) s = .next t ∧ t.sq = s.sq ∧
        (s.isManager i = false → t.cq = s.cq) ∧ bitOf (t.inst i).err.toNat 2 = true ∧ bitOf (t.reg Reg.QMG_ERR).toNat 2 = true)) ∧
    (∀ d, (d = .sqTailDoorbell (.page p i l) v ∧ s.sqOf i l = none) ∨ (d = .cqHeadDoorbell (.page p i l) v ∧ s.cqOf i l = none) →
      ∃ t, exec d s = .next t ∧ t.sq = s.sq ∧ (s.isManager i = false → t.cq = s.cq) ∧ bitOf (t.inst i).err.toNat 1 = true ∧
        bitOf (t.reg Reg.QMG_ERR).toNat 3 = true)) ∧
  (∀ (s : State) (p : Bool) (i l : Nat) (v : DWord), s.inPort p i = false →
    exec (.sqTailDoorbell (.page p i l) v) s = .next s ∧ exec (.cqHeadDoorbell (.page p i l) v) s = .next s) ∧
  (∀ (s : State) (p : Bool) (v : DWord),
    let u := s.wakeBy 1
    let n := bits v.toNat 15 0
    let q := adminRow p
    let r := s.sqRow q
    let k := s.cqRow q
    let used := (n + (k.qsize + 1) - k.head) % (k.qsize + 1)
    let h := { k with head := n }
    let reported (c : Instr) : Prop := ∃ t, exec c s = .next t ∧ t.sq = s.sq ∧
      bitOf (t.inst (s.manager p)).err.toNat 2 = true ∧ bitOf (t.reg Reg.QMG_ERR).toNat 2 = true
    ((r.valid = false ∨ r.error = true) → exec (.sqTailDoorbell (.admin p) v) s = .next u) ∧
    (r.valid = true → r.error = false → n ≤ r.qsize →
      exec (.sqTailDoorbell (.admin p) v) s = .next { u with sq := Sparse.set (fun _ => {}) s.sq q { r with tail := n } }) ∧
    (r.valid = true → r.error = false → r.qsize < n → reported (.sqTailDoorbell (.admin p) v)) ∧
    ((k.valid = false ∨ k.error = true) → exec (.cqHeadDoorbell (.admin p) v) s = .next u) ∧
    (k.valid = true → k.error = false → n ≤ k.qsize → used ≤ k.posted → exec (.cqHeadDoorbell (.admin p) v) s =
      .next { u with cq := Sparse.set (fun _ => {}) s.cq q { h with left := k.left || decide (k.unsig < h.posted) } }) ∧
    (k.valid = true → k.error = false → k.qsize < n ∨ k.posted < used → reported (.cqHeadDoorbell (.admin p) v))) ∧
  (∀ (s : State) (row : Nat), (s.cqRow row).valid = true → (s.cqRow row).ien = true →
    let r := s.cqRow row
    let p := s.portOf r.inst
    let e : MsixEntry := Sparse.get (fun _ => {}) (s.port p).msix r.vector
    let m : ImtEntry := Sparse.get (fun _ => {}) s.imt r.vector
    let fires (u : State) : State :=
      if r.imt then (if m.mask then { u with imt := Sparse.set (fun _ => {}) s.imt r.vector { m with pend := true } }
        else goes p m.addr m.data u)
      else if (s.port p).msixEn = false then u
      else if e.mask || (s.port p).msixMask then
        u.setPort p { s.port p with msix := Sparse.set (fun _ => {}) (s.port p).msix r.vector { e with pend := true } }
      else goes p e.addr e.data u
    let each := s.isAdminRow row || s.coalOff r
    let single := each = true ∧ r.unsig ≠ 0
    let all := (each = true ∧ r.unsig = 0 ∧ r.resignal = true) ∨ (each = false ∧ (r.resignal = true ∨ s.coalThr r < r.unsig))
    let sends (k : CqRow) := exec (.interruptMessage row) s = .next (fires { s with cq := Sparse.set (fun _ => {}) s.cq row k })
    ((r.imt = true → m.owner = r.inst) → (single → sends { r with unsig := r.unsig - 1 }) ∧
      (all → sends { r with unsig := 0, resignal := false })) ∧
    (r.imt = true → m.owner ≠ r.inst → single ∨ all → ∃ t, exec (.interruptMessage row) s = .next t ∧
      t = { s with cq := t.cq, regs := t.regs } ∧ bitOf (t.reg Reg.QMG_ERR).toNat 4 = true) ∧
    (r.resignal = false → (r.unsig = 0 ∨ each = false ∧ r.unsig ≤ s.coalThr r) → exec (.interruptMessage row) s = .next s)) ∧
  (∀ (s : State) (row : Nat), (s.cqRow row).valid = false ∨ (s.cqRow row).ien = false → exec (.interruptMessage row) s = .next s) ∧
  ∀ (s : State) (p : Bool) (v : Nat),
    let e : MsixEntry := Sparse.get (fun _ => {}) (s.port p).msix v
    let put (x : MsixEntry) := s.setPort p { s.port p with msix := Sparse.set (fun _ => {}) (s.port p).msix v x }
    exec (.msixUnmask p v) s = .next (if e.pend = true ∧ (s.port p).msixEn = true ∧ (s.port p).msixMask = false
      then goes p e.addr e.data (put { e with mask := false, pend := false }) else put { e with mask := false })

/-- R48, R49, R55, R66, R438; `check` is Table 2-10's orders 1 to 4. -/
def Obligations.QueAdmin : Prop :=
  let check (s : State) (c : Cmd) (used bad : Prop) [Decidable used] [Decidable bad] : Option Status :=
    let cc := (s.ctrl c.port).cc.toNat
    let i := c.f 13 25 16
    let q := c.f 10 15 0
    if bits cc 19 16 ≠ 6 ∨ bits cc 23 20 ≠ 4 ∨ bad ∨ s.inPort c.port i = false ∨ (s.inst i).state = .free ∨
        (s.isManager i = false ∧ (s.port c.port).cfg.pasid = false) then some .invalidField
    else if s.rowInPort c.port q = false ∨ q = 0 ∨ 16384 ≤ q ∨ s.isAdminRow q = true ∨ used then some .invalidQid
    else if c.f 10 31 16 = 0 then some .invalidQSize
    else if c.prp1 % (4096 * 2 ^ (s.ctrl c.port).mps) ≠ 0 then some .invalidPrpOffset
    else none
  (∀ (s : State) (tag : Nat) (c : Cmd), AdminCmd s tag c → c.opcode = 0x05 →
    let i := c.f 13 25 16
    let l := c.f 13 5 0
    let q := c.f 10 15 0
    let iv := c.f 11 31 16
    let ien := bitOf (c.d 11).toNat 1
    let outcome := check s c ((s.cqRow q).valid = true ∨ (s.cqOf i l).isSome = true) (bitOf (c.d 11).toNat 0 = false)
    let mayUse := if s.isManager i then iv < 2048 else s.rowInPort c.port iv = true ∧
        (Sparse.get (fun _ => {}) s.imt iv : ImtEntry).owner = i
    let held := (s.inst i).heldCq.find? (fun h => decide (h.loc = l) && decide (h.qsize = c.f 10 31 16))
    let refused (st : Status) : Prop := ∃ t, exec (.createIoCq tag) s = .next t ∧ Ended s c st 0 0 [] t ∧
      t = { s with out := t.out, cmds := t.cmds, insts := t.insts, cq := t.cq } ∧ (q ≠ c.cq → t.cqRow q = s.cqRow q)
    (∀ st, outcome = some st → refused st) ∧
    (outcome = none → ien = true → ¬ mayUse → refused .invalidVector) ∧
    (outcome = none → (ien = false ∨ mayUse) →
      ∃ t, exec (.createIoCq tag) s = .next t ∧ Ended s c .success 0 0 [] t ∧
        t = { s with out := t.out, cmds := t.cmds, insts := t.insts, cq := t.cq } ∧
        let r : CqRow := { valid := true, base := BitVec.ofNat 64 c.prp1, qsize := c.f 10 31 16, ien := ien
                           imt := !s.isManager i, vector := iv % 16384, inst := i, loc := l }
        t.cqRow q = match held with
          | none => r
          | some h => { r with head := h.head, tail := h.tail, phase := h.phase, left := decide (h.head ≠ h.tail) })) ∧
  (∀ (s : State) (tag : Nat) (c : Cmd), AdminCmd s tag c → c.opcode = 0x01 →
    let i := c.f 13 25 16
    let l := c.f 13 5 0
    let q := c.f 10 15 0
    let k := c.f 11 31 16
    let outcome := check s c ((s.sqRow q).valid = true ∨ (s.sqOf i l).isSome = true)
      (bitOf (c.d 11).toNat 0 = false ∨ c.f 12 15 0 ≠ 0)
    let held := (s.inst i).heldSq.find? (fun h => decide (h.loc = l) && decide (h.qsize = c.f 10 31 16))
    (∀ st, outcome = some st → ∃ t, exec (.createIoSq tag) s = .next t ∧ Ended s c st 0 0 [] t ∧ t.sq = s.sq) ∧
    (outcome = none → if s.rowInPort c.port k = true ∧ (s.cqRow k).valid = true ∧ s.isAdminRow k = false ∧ (s.cqRow k).inst = i then
      ∃ t, exec (.createIoSq tag) s = .next t ∧ Ended s c .success 0 0 [] t ∧
        t = { s with out := t.out, cmds := t.cmds, insts := t.insts, cq := t.cq, sq := t.sq } ∧
        let r : SqRow := { valid := true, base := BitVec.ofNat 64 c.prp1, qsize := c.f 10 31 16, cqid := k, inst := i, loc := l }
        t.sqRow q = match held with
          | none => r
          | some h => { r with head := h.head, tail := h.tail }
    else ∃ t, exec (.createIoSq tag) s = .next t ∧ Ended s c .cqInvalid 0 0 [] t ∧ t.sq = s.sq)) ∧
  (∀ (s : State) (tag : Nat) (c : Cmd), AdminCmd s tag c →
    let q := c.f 10 15 0
    (c.opcode = 0x00 →
      if s.rowInPort c.port q = true ∧ s.isAdminRow q = false ∧ (s.sqRow q).valid = true ∧ (s.sqRow q).deleting = none then
        ∃ t, exec (.deleteIoSq tag) s = .next t ∧ t.sqRow q = { s.sqRow q with deleting := some tag } ∧
          (∀ x ∈ t.cmds, x ∈ s.cmds ∧ (x.sq = q → x.admin = false → x.dead = false → x.idle = false)) ∧
          ((s.cmds.map (·.tag)).Nodup → c ∈ t.cmds)
      else ∃ t, exec (.deleteIoSq tag) s = .next t ∧ Ended s c .invalidQid 0 0 [] t ∧ t.sq = s.sq) ∧
    (c.opcode = 0x04 →
      let used := s.sq.any (fun e => e.2.valid && decide (e.2.cqid = q) && !s.isAdminRow e.1)
      let st := if s.rowInPort c.port q = false ∨ s.isAdminRow q = true ∨ (s.cqRow q).valid = false then .invalidQid
        else if used then .invalidQDeletion else .success
      ∃ t, exec (.deleteIoCq tag) s = .next t ∧ Ended s c st 0 0 [] t ∧
        (st = .success → Sparse.sorted s.cq = true → (t.cqRow q).valid = false) ∧
        (st ≠ .success → q ≠ c.cq → t.cqRow q = s.cqRow q)) ∧
    (∀ row, row ≠ c.sq → (s.sqRow row).deleting = some tag → ∃ t, exec (.deleteIoSqDrained row) s = .next t ∧
      if s.cmds.any (fun x => decide (x.sq = row) && !x.admin && !x.dead) = true then t = s
      else Ended s c .success 0 0 [] t ∧ (Sparse.sorted s.sq = true → (t.sqRow row).valid = false)) ∧
    (c.opcode = 0x0C →
      let w := (s.ctrl c.port).aerWaiting
      let may := (s.ctrl c.port).aerHeld.find? (fun e => !(s.ctrl c.port).aerMasked.contains e.kind)
      (8 ≤ w.length → ∃ t, exec (.asyncEventRequest tag) s = .next t ∧ Ended s c .aerLimit 0 0 [] t) ∧
      (w.length < 8 → tag ∉ w → may = none → exec (.asyncEventRequest tag) s =
        .next (s.setCtrl c.port { s.ctrl c.port with aerWaiting := w ++ [tag] })) ∧
      (w = [] → ∀ e, may = some e → ∃ t, exec (.asyncEventRequest tag) s = .next t ∧
        Ended s c .success (e.kind.code + e.info * 2 ^ 8 + e.page * 2 ^ 16) 0 [] t ∧ (t.ctrl c.port).aerWaiting = [] ∧
        (t.ctrl c.port).aerMasked = e.kind :: (s.ctrl c.port).aerMasked))) ∧
  ∀ (s : State) (row : Nat), (s.sqRow row).deleting = none → exec (.deleteIoSqDrained row) s = .next s

/-- R51 to R54, R104, R105, R28, R186, R257, R437. -/
def Obligations.QueFetch : Prop :=
  let tagged (s : State) (n : Nat) (v : Cmd) : List Cmd := s.cmds.map (fun x => if x.tag = n then v else x)
  (∀ (s : State) (row : Nat) (dw : List DWord),
    let r := s.sqRow row
    let i := s.inst r.inst
    let room := 65536 - (if s.isManager r.inst then 0 else s.fieldNow Reg.QMG_RESERVE 15 0) - s.inflight
    let open_ := s.fetchOpen (s.portOf r.inst) && !s.isAdminRow row && s.sqReady row && decide (0 < i.ftok) &&
      s.bestBucket r.inst && s.nextRow r.inst row && decide (s.adminRoom (s.portOf r.inst) = 0)
    let c : Cmd := { tag := s.nextTag, port := s.portOf r.inst, admin := false, inst := r.inst, sq := row, cq := r.cqid
                     dw := dw.take 16, gen := i.gen, deadline := (s.inForce (Reg.INS_CMD_DEADLINE r.inst)).toNat }
    let k : Cmd := { c with ro := i.attach.contains (c.nsid, true), att := i.attach.map (·.1), active := s.portProgs c.port
                            waits := if c.opcode = 0 then s.flushWaits c else [] }
    (open_ = false → ∀ l, exec (.commandFetch row l) s = .next s) ∧
    (open_ = true → 0 < s.fieldNow Reg.QMG_ARB 6 0 → 0 < r.fetchable → 0 < s.cqRoom r.cqid → 0 < room → r.blocked = false →
      Sparse.sorted s.sq = true → (∀ x ∈ s.cmds, x.tag ≠ s.nextTag) → resvOps.contains k.opcode = false →
      ∃ t, exec (.commandFetch row [dw]) s = .next t ∧ t.nextTag = s.nextTag + 1 ∧
        (t.sqRow row).head = (r.head + 1) % (r.qsize + 1) ∧ (t.sqRow row).tail = r.tail ∧ (t.inst r.inst).ftok = i.ftok - 65536 ∧
        (∀ st, s.fetchRefused k = some st → t.cmds = s.cmds) ∧
        (s.fetchRefused k = none → t.out = s.out ∧
          (s.mustHold k = false → t.cmds = s.cmds ++ [k] ∧ (t.sqRow row).blocked = false) ∧
          (s.mustHold k = true → t.cmds = s.cmds ++ [{ k with phase := .held }] ∧
            ((s.nsOf k.nsid).isSome = true → (t.sqRow row).blocked = true))))) ∧
  (∀ (s : State) (p : Bool) (dw : List DWord), s.hasPort p = true → s.dev = .service ∨ s.dev = .recovery → s.pwr.ps ≤ 1 →
    (s.ctrl p).en = true → (s.ctrl p).rdy = true → (s.ctrl p).resetting = false → (s.port p).up = true → Linked s →
    let q := adminRow p
    let r := s.sqRow q
    r.valid = true → r.error = false → (s.cqRow q).error = false → (s.cqRow q).valid = true →
    bitOf (s.reg Reg.CHS_PLP_STAT).toNat 31 = false → 0 < s.fieldNow Reg.QMG_ARB 6 0 → 0 < r.fetchable → 0 < s.cqRoom q →
    (s.cmds.filter (fun c => c.admin && decide (c.port = p))).length < 64 → (∀ x ∈ s.cmds, x.tag ≠ s.nextTag) →
    let c : Cmd := { tag := s.nextTag, port := p, admin := true, inst := s.manager p, sq := q, cq := q, dw := dw
                     gen := (s.inst (s.manager p)).gen, deadline := 0, active := s.portProgs p }
    let u : State := { s with sq := Sparse.set (fun _ => {}) s.sq q { r with head := (r.head + 1) % (r.qsize + 1) }
                              nextTag := s.nextTag + 1, cmds := s.cmds ++ [c] }
    let known := if s.dev = .recovery then c.opcode ∈ [0x02, 0x06, 0x10, 0x11]
      else c.opcode ∈ [0x00, 0x01, 0x02, 0x04, 0x05, 0x06, 0x09, 0x0A, 0x0C, 0x0D, 0x10, 0x11, 0x80, 0x84, 0x85, 0x88,
        0xC0, 0xC1, 0xC2, 0xC3, 0xC4, 0xC5, 0xC8, 0xC9, 0xCA, 0xCC, 0xCD]
    ¬ (c.opcode = 2 ∧ c.f 10 7 0 = 0xD2) →
    (¬ known → ∃ t, exec (.adminCommandFetch p [dw]) s = .next t ∧ Ended u c .invalidOpcode 0 0 [] t ∧ t.sq = u.sq) ∧
    (known → c.adminOk = false → ∃ t, exec (.adminCommandFetch p [dw]) s = .next t ∧ Ended u c .invalidField 0 0 [] t ∧ t.sq = u.sq) ∧
    (known → c.adminOk = true → c.takenAtFetch = false → ¬ (c.opcode = 0x0D ∧ c.f 10 3 0 = 1) →
      exec (.adminCommandFetch p [dw]) s = .next u) ∧
    (known → c.adminOk = true → c.takenAtFetch = true → exec (.adminCommandFetch p [dw]) s = .next (u.takeMgmt c))) ∧
  (∀ (s : State) (tag : Nat) (c : Cmd), s.cmd? tag = some c →
    (c.phase ≠ .held ∨ s.mustHold c = true → exec (.writeClassAdmit tag) s = .next s) ∧
    (c.phase = .held → s.mustHold c = false → ∃ t, exec (.writeClassAdmit tag) s = .next t ∧
      t.cmds = tagged s c.tag { c with phase := .fetched } ∧ (Sparse.sorted s.sq = true → (t.sqRow c.sq).blocked = false))) ∧
  (∀ (s : State) (tag : Nat) (c : Cmd), s.cmd? tag = some c → c.expired = false → exec (.commandDeadlineExpiry tag) s = .next s) ∧
  (∀ (s : State) (tag n : Nat) (c : Cmd), s.cmd? tag = some c → c.admin = false → c.dead = false → c.age = some n →
    beatsOfMs c.deadline ≤ n → c.phase ≠ .waitRebuild → s.alive c.inst c.gen = true → (s.cqRow c.cq).valid = true →
    (s.cqRow c.cq).error = false → Linked s → s.run? tag = none → (∀ j ∈ s.shd, j.tag ≠ tag) →
    let received := c.phase = .received ∨ (c.phase = .active ∧ c.opcode ∈ [0x01, 0x81, 0x8D] ∧ (s.kindNs c .kv).isSome = true)
    (¬ received → ∃ t, exec (.commandDeadlineExpiry tag) s = .next t ∧ Ended s c .deadlineExceeded 0 0 [] t) ∧
    (received → ∃ t, exec (.commandDeadlineExpiry tag) s = .next t ∧
      told t.out = told s.out ++ [c.entry s .deadlineExceeded 0 0 false] ∧
      t.cmds = s.cmds.filter (fun x => decide (x.tag ≠ tag)) ++ [{ c with dead := true, shards := 0 }])) ∧
  (∀ (s : State) (tag : Nat) (c : Cmd) (n : Nat), Answerable s tag c → c.admin = false → c.phase = .waitRebuild → c.waited = some n →
    (n < beatsOfMs c.waitMs → exec (.rebuildWaitExpiry tag) s = .next s) ∧
    (beatsOfMs c.waitMs ≤ n → s.run? tag = none → (∀ j ∈ s.shd, j.tag ≠ tag) →
      ∃ t, exec (.rebuildWaitExpiry tag) s = .next t ∧ Ended s c .rebuildPending 0 0 [] t ∧
        t.field Reg.CHS_REBUILD_PEND 31 0 = min (s.field Reg.CHS_REBUILD_PEND 31 0 + 1) (2 ^ 32 - 1))) ∧
  (∀ (s : State), exec .journalHoldRelease s = .next
    (if s.jhold = true ∧ s.journalUsed * 16 < 14 * journalSize then { s with jhold := false } else s)) ∧
  ∀ (s : State) (n : Nat), exec (.listSequenceEnd n) s = .next { s with idx := { s.idx with
    seqs := s.idx.seqs.map (fun q => if q.kvns = n ∧ 1048576 < q.idle then { q with live := false } else q) } }

/-- R40, R192, R394, R395; R9 for reserved bits. -/
def Obligations.QueController : Prop :=
  (∀ (s : State) (p : Bool) (cc aqa : DWord) (asq acq : BitVec 64),
    let sqs := bits aqa.toNat 11 0
    let cqs := bits aqa.toNat 27 16
    let q := adminRow p
    let m := s.manager p
    (s.hasPort p = false ∨ (s.ctrl p).en = true ∨ (s.ctrl p).resetting = true → exec (.controllerEnable p cc aqa asq acq) s = .next s) ∧
    (s.hasPort p = true → (s.ctrl p).en = false → (s.ctrl p).resetting = false →
      ∃ t, exec (.controllerEnable p cc aqa asq acq) s = .next t ∧ (t.ctrl p).en = true ∧ (t.ctrl p).cc = cc &&& 0x00FFFFF1 ∧
      t.regs = s.regs ∧
      ((sqs = 0 ∨ cqs = 0) → (t.ctrl p).cfs = true ∧ (t.ctrl p).rdy = (s.ctrl p).rdy ∧ t.sq = s.sq ∧ t.cq = s.cq) ∧
      (sqs ≠ 0 → cqs ≠ 0 → (t.ctrl p).cfs = false ∧ ((t.ctrl p).rdy = true ↔ s.dev = .service ∨ s.dev = .recovery) ∧
        t.sqRow q = { valid := true, base := asq &&& 0xFFFFFFFFFFFFF000, qsize := sqs, cqid := q, inst := m } ∧
        t.cqRow q = { valid := true, base := acq &&& 0xFFFFFFFFFFFFF000, qsize := cqs, ien := true, inst := m } ∧
        ((s.inst m).state = .free → (t.inst m).state = .active)))) ∧
  (∀ (s : State) (p : Bool), s.hasPort p = true → (s.ctrl p).en = true → ¬ ((s.ctrl p).cfs = true ∧ (s.ctrl p).rdy = false) →
    (s.ctrl p).shst ≠ 1 →
    ∃ t, exec (.controllerReset p) s = .next t ∧ (t.ctrl p).en = false ∧ (t.ctrl p).resetting = true ∧
      (t.ctrl p).rdy = (s.ctrl p).rdy ∧ (∀ c ∈ t.cmds, c.admin = true → c.port ≠ p) ∧
      (∀ e ∈ t.sq, t.portOf e.2.inst ≠ p) ∧ (∀ e ∈ t.cq, t.portOf e.2.inst ≠ p) ∧
      (Sparse.sorted s.insts = true → ∀ e ∈ s.insts, s.portOf e.1 = p → e.2.state ≠ .free → (t.inst e.1).gen = e.2.gen + 1)) ∧
  (∀ (s : State) (p : Bool),
    (s.hasPort p = false ∨ (s.ctrl p).en = false → exec (.controllerReset p) s = .next s) ∧
    (s.hasPort p = true → (s.ctrl p).en = true →
      ((s.ctrl p).cfs = true → (s.ctrl p).rdy = false → exec (.controllerReset p) s = .next (s.setCtrl p {})) ∧
      (¬ ((s.ctrl p).cfs = true ∧ (s.ctrl p).rdy = false) → (s.ctrl p).shst = 1 →
        exec (.controllerReset p) s = .next (s.setCtrl p { s.ctrl p with en := false })))) ∧
  (∀ (s : State) (p : Bool),
    if (s.ctrl p).resetting = true ∧
      s.insts.all (fun e => decide (s.portOf e.1 ≠ p) || decide (e.2.state = .free) || decide (4 ≤ e.2.drain)) = true
    then exec (.controllerResetDrained p) s = .next (s.setCtrl p {}) else exec (.controllerResetDrained p) s = .next s) ∧
  (∀ (s : State) (p : Bool), s.hasPort p = false → exec (.hotReset p) s = .next s) ∧
  (∀ (s : State) (p : Bool), s.hasPort p = true → ∃ t, exec (.hotReset p) s = .next t ∧ (t.ctrl p).resetting = true ∧
    ((s.ctrl p).resetting = false → (t.ctrl p).en = false ∧ (∀ e ∈ t.sq, t.portOf e.2.inst ≠ p) ∧
      (∀ e ∈ t.cq, t.portOf e.2.inst ≠ p) ∧ ∀ c ∈ t.cmds, c.admin = true → c.port ≠ p) ∧
    (t.port p).up = false ∧ (t.port p).training = true ∧ (t.port p).bme = false ∧ (t.port p).msixEn = false ∧
    (t.port p).msix = [] ∧ (t.port p).atc = [] ∧ (t.port p).cfg = {} ∧
    t.field Reg.RST_CNT 7 0 = min (s.field Reg.RST_CNT 7 0 + 1) 255) ∧
  (∀ (s : State) (p : Bool), if s.hasPort p = true ∧ (s.ctrl p).en = true ∧ (s.ctrl p).shst = 0 ∧ s.dev = .service then
    ∃ t, exec (.shutdownNotification p) s = .next t ∧ (t.ctrl p).shst = 1 ∧ t.cmds = s.cmds
    else exec (.shutdownNotification p) s = .next s) ∧
  (∀ (s : State) (p : Bool), (s.ctrl p).shst ≠ 1 ∨ s.portQuiet p = false ∨ s.chest.pending ≠ [] ∨ s.chest.ckptActive = true ∨
    (∃ v ∈ s.ftl.slots, v.state ≠ .mapped) → exec (.shutdownComplete p) s = .next s) ∧
  ∀ (s : State) (p : Bool), (s.ctrl p).shst = 1 → s.portQuiet p = true → s.chest.pending = [] → s.chest.ckptActive = false →
    (∀ v ∈ s.ftl.slots, v.state = .mapped) → ∃ t, exec (.shutdownComplete p) s = .next t ∧
    (s.chest.dirty = [] → t.chest.sealed = some true ∧ t.chest.seq = s.chest.seq + 1 ∧
      ((s.ctrl p).en = true → (t.ctrl p).shst = 2 ∧ t.cmds = s.cmds ∧ t.ftl = s.ftl) ∧
      ((s.ctrl p).en = false → (t.ctrl p).resetting = true)) ∧
    (s.chest.dirty ≠ [] → (t.ctrl p).shst = 1 ∧ t.chest.sealed = s.chest.sealed ∧ t.cmds = s.cmds)

/-- R35 to R38, R41, R58 to R60, R425. -/
def Obligations.QueLink : Prop :=
  (∀ (s : State) (p : Bool), s.hasPort p = true →
    let k := if p then 1 else 0
    let sets (q : Port) := s.setPort p q
    (∀ flit speed width, ∃ t, exec (.linkTrained p flit speed width) s = .next t ∧
      t.port p = { s.port p with up := true, training := false, flit := flit, speed := speed, width := width, stalled := [] } ∧
      t.out = s.out ++ (s.port p).stalled ∧
      (speed < s.fieldNow (Reg.HIF_LINK_CTL k) 3 0 → bitOf (t.reg (Reg.HIF_ERR k)).toNat 10 = true) ∧
      (width < (if s.pins.dual then 8 else 16) → bitOf (t.reg (Reg.HIF_ERR k)).toNat 11 = true)) ∧
    exec (.linkPartnerRetrain p) s = .next (sets { s.port p with training := true }) ∧
    (∀ src, src = .host p ∨ src = .host s.ownerPort ∨ (∃ c, src = .cc c) →
      exec (.linkRetrain src p) s = .next (sets { s.port p with training := true })) ∧
    (∀ h, h ≠ p → h ≠ s.ownerPort → ∃ t, exec (.linkRetrain (.host h) p) s = .next t ∧ t = { s with regs := t.regs } ∧
      bitOf (t.reg (Reg.HIF_ERR (if h then 1 else 0))).toNat 7 = true) ∧
    (∃ t, exec (.linkDown p) s = .next t ∧ t.port p = { s.port p with up := false, flit := false, speed := 0, width := 0 } ∧
      bitOf (t.reg (Reg.HIF_ERR k)).toNat 9 = true) ∧
    (∃ t, exec (.ecrcError p) s = .next t ∧ t = { s with regs := t.regs } ∧ bitOf (t.reg (Reg.HIF_ERR k)).toNat 8 = true) ∧
    (∀ replay, ∃ t, exec (.receiverError p replay) s = .next t ∧ t = { s with regs := t.regs } ∧
      t.field (Reg.HIF_ERR_CNT k) 31 16 = min (s.field (Reg.HIF_ERR_CNT k) 31 16 + (if replay then 1 else 0)) 65535 ∧
      t.field (Reg.HIF_ERR_CNT k) 15 0 = min (s.field (Reg.HIF_ERR_CNT k) 15 0 + (if replay then 0 else 1)) 65535) ∧
    (∀ pasid first count, ∃ t, exec (.atsInvalidateRequest p pasid first count) s = .next t ∧ t.out = s.out ++ [.invalidated p] ∧
      ∀ e, e ∈ (t.port p).atc ↔ e ∈ (s.port p).atc ∧ ¬ (e.1 = pasid ∧ first ≤ e.2 ∧ e.2 < first + count)) ∧
    (∀ r w, s.idsLoaded = false → exec (.configurationRequest p (r, w)) s = .next { s with out := s.out ++ [.config p none] }) ∧
    (s.idsLoaded = true →
      (∀ r, ∃ v : DWord, exec (.configurationRequest p (r, none)) s = .next { s with out := s.out ++ [.config p (some v)] } ∧
        (r = .ids → v = 0x64321EA7) ∧ (r = .classRev → v = 0x01800011) ∧ (r = .subsystem → v.toNat = s.subsys.toNat % 2 ^ 32) ∧
        (r = .command → bitOf v.toNat 2 = (s.port p).bme ∧ bitOf v.toNat 1 = (s.port p).cfg.mem) ∧
        (r = .msixCtl → bitOf v.toNat 15 = (s.port p).msixEn ∧ bitOf v.toNat 14 = (s.port p).msixMask)) ∧
      ∀ r (v : DWord), ∃ t, exec (.configurationRequest p (r, some v)) s = .next t ∧
        (r = .command → (t.port p).bme = bitOf v.toNat 2 ∧ (t.port p).cfg.mem = bitOf v.toNat 1) ∧
        (r = .devCtl → (t.port p).relaxed = bitOf v.toNat 4 ∧
          (bits v.toNat 7 5 ≤ 2 → (t.port p).cfg.mps = bits v.toNat 7 5) ∧ (2 < bits v.toNat 7 5 → (t.port p).cfg.mps = (s.port p).cfg.mps)) ∧
        (r = .msixCtl → (t.port p).msixEn = bitOf v.toNat 15 ∧ (t.port p).msixMask = bitOf v.toNat 14) ∧
        (r = .pasidCtl → (t.port p).cfg.pasid = bitOf v.toNat 0) ∧
        (r = .l1ssCtl → (t.port p).l12 = (bitOf v.toNat 0 || bitOf v.toNat 2)))) ∧
  (∀ (s : State) (p a : Bool) (n m : Nat) (src : Src) (r : CfgReg) (w : Option DWord), s.hasPort p = false →
    ∀ c ∈ [Instr.linkTrained p a n m, .linkPartnerRetrain p, .linkRetrain src p, .linkDown p, .ecrcError p, .receiverError p a,
      .atsInvalidateRequest p n m n, .configurationRequest p (r, w)], exec c s = .next s) ∧
  (∀ (s : State) (row : Nat) (cause : DmaCause) (timeout : Bool),
    let run (k : DmaKind) := exec (if timeout then .completionTimeout k else .dmaFault k cause) s
    let bit := if timeout then 4 else causeBit cause
    (let i := (s.sqRow row).inst
     ∃ t, run (.fetch row) = .next t ∧ t.sqRow row = { s.sqRow row with error := true } ∧
      bitOf (t.inst i).err.toNat 3 = true ∧ bitOf (t.reg Reg.QMG_ERR).toNat 0 = true ∧ (s.isManager i = false → t.cmds = s.cmds) ∧
      bitOf (t.reg (Reg.HIF_ERR (if s.portOf i then 1 else 0))).toNat bit = true) ∧
    (let i := (s.cqRow row).inst
     ∃ t, run (.entry row) = .next t ∧ t.cqRow row = { s.cqRow row with error := true } ∧
      bitOf (t.inst i).err.toNat 4 = true ∧ bitOf (t.reg Reg.QMG_ERR).toNat 1 = true ∧ (s.isManager i = false → t.cmds = s.cmds) ∧
      bitOf (t.reg (Reg.HIF_ERR (if s.portOf i then 1 else 0))).toNat bit = true) ∧
    (∀ p, ∃ t, run (.message p) = .next t ∧ t = { s with regs := t.regs } ∧ bitOf (t.reg (Reg.HIF_ERR (if p then 1 else 0))).toNat bit = true) ∧
    (∀ i, ∃ t, run (.bitmap i) = .next t ∧ bitOf (t.reg (Reg.HIF_ERR (if s.portOf i then 1 else 0))).toNat bit = true ∧
      ((s.inst i).dlog.running = true → t.inst i = { s.inst i with dlog := { (s.inst i).dlog with fault := true, pend := [] } }) ∧
      ((s.inst i).dlog.running = false → t.insts = s.insts)) ∧
    (∀ k n, (s.seg k).slot = some n → ∃ t, run (.drawer k) = .next t ∧ n ∈ t.ftl.drawer.bad ∧ t.ftl.span = s.ftl.span ∧
      bitOf (t.reg Reg.FTL_MAP_ERR).toNat 5 = true) ∧
    (∀ tag c n, Answerable s tag c → (∀ r, s.run? tag = some r → r.rbytes = 0 ∨ r.pipe.target ≠ 2) →
      ∃ t, run (.sink tag n) = .next t ∧ Ended s c .peerFailed 0 n [] t ∧ t.run? tag = none) ∧
    ∀ tag c, Answerable s tag c → c.admin = true → c.phase = .active → c.opcode ∉ [0x01, 0x81, 0x8D] → s.run? tag = none →
      (∀ j ∈ s.shd, j.tag ≠ tag) → ∃ t, run (.data tag) = .next t ∧
      Ended s c .dataTransfer 0 0 [] t ∧ bitOf (t.reg (Reg.HIF_ERR (if c.port then 1 else 0))).toNat bit = true)

/-- R5, R9 to R12, R41, R44. -/
def Obligations.RegWrites : Prop :=
  (∀ (s : State) (src : Src) (off : Nat) (v : DWord) (r : RegRow), PlainReg off → MayWrite s src off → s.noPortB off = false →
    regRow off = some r → Sparse.sorted s.regs = true →
    let refused := s.sizeRefused off (r.write (s.reg off).toNat v.toNat)
    (refused = none → ∃ t, exec (.registerWrite src off true [v]) s = .next t ∧
      (∀ f ∈ r.fields, let old := bits (s.reg off).toNat f.hi f.lo
        let x := bits v.toNat f.hi f.lo
        let new := bits (t.reg off).toNat f.hi f.lo
        (f.acc = .rw ∨ f.acc = .rwl → new = if x ∈ f.reserved then old else min (max x f.min) f.max) ∧
        (f.acc = .w1c → new = old - (old &&& x)) ∧ (f.acc = .wo ∨ f.acc = .rc → new = old)) ∧
      (∀ b, b < 32 → (∀ f ∈ r.fields, b < f.lo ∨ f.hi < b) → bitOf (t.reg off).toNat b = bitOf (s.reg off).toNat b) ∧
      (r.atBoundary = true → t.inForce off = s.inForce off) ∧
      (r.atBoundary = false → (∀ e ∈ s.held, e.1 ≠ off) → t.inForce off = t.reg off) ∧
      ((∀ f ∈ r.fields, f.acc ≠ .w1c) → ∀ o, o ≠ off → t.reg o = s.reg o ∧ t.inForce o = s.inForce o) ∧
      t = { s with regs := t.regs, held := t.held, ftl := { s.ftl with recompute := t.ftl.recompute } }) ∧
    (refused ≠ none → ∃ t, exec (.registerWrite src off true [v]) s = .next t ∧ t = { s with regs := t.regs } ∧
      t.reg off = s.reg off ∧ t.inForce off = s.inForce off)) ∧
  (∀ (s : State) (src : Src) (off : Nat) (v w : DWord), off % 8 = 0 → ∃ t, exec (.registerWrite src off true [v]) s = .next t ∧
    exec (.registerWrite src off true [v, w]) s = exec (.registerWrite src (off + 4) true [w]) t) ∧
  (∀ (s : State) (p : Bool) (off : Nat) (v : DWord), s.hasPort p = true → s.otherItem (.host p) off = false →
    off < 0x1000000 → off % 4 = 0 → ¬ (0x1B0000 ≤ off ∧ off < 0x1B1000) → off ≠ Reg.TMR_WDT_CTL → off ≠ Reg.RST_CTL → s.noPortB off = false →
    firmwareOnly off = true ∨ (s.pins.dual = true ∧ p ≠ s.ownerPort ∧ s.ownItem p off = false ∧ 0x10000 ≤ off) →
    ∃ t, exec (.registerWrite (.host p) off true [v]) s = .next t ∧ t = { s with regs := t.regs } ∧
      bitOf (t.reg (Reg.HIF_ERR (if p then 1 else 0))).toNat 7 = true ∧ ∀ o, o ≠ Reg.HIF_ERR (if p then 1 else 0) → t.reg o = s.reg o) ∧
  ∀ (s : State) (off : Nat) (full : Bool) (vs : List DWord),
    full = false ∨ off % 4 ≠ 0 ∨ (vs.length ≠ 1 ∧ vs.length ≠ 2) ∨ (vs.length = 2 ∧ off % 8 ≠ 0) →
    (∀ k, exec (.registerWrite (.cc k) off full vs) s = .next s) ∧
    ∀ p, ∃ t, exec (.registerWrite (.host p) off full vs) s = .next t ∧ t = { s with regs := t.regs, insts := t.insts } ∧
      bitOf (t.reg (Reg.HIF_ERR (if p then 1 else 0))).toNat 0 = true ∧ (∀ o, o ≠ Reg.HIF_ERR (if p then 1 else 0) → t.reg o = s.reg o) ∧
      (off < 0x1000000 ∨ 0x2000000 ≤ off → t.insts = s.insts) ∧
      (0x1000000 ≤ off → off < 0x2000000 → s.inPort p ((off - 0x1000000) / 0x4000) = true →
        bitOf (t.inst ((off - 0x1000000) / 0x4000)).err.toNat 5 = true)

/-- R5, R41, R44, R57, R61, Table 2-17; the withheld message of a store with a new owner is the model's choice (log 169). -/
def Obligations.RegReads : Prop :=
  (∀ (s : State) (src : Src) (off len : Nat) (r : RegRow), (∃ k, src = .cc k) ∨ (∃ p, src = .host p ∧ s.hasPort p = true) →
    let base := off / 4 * 4
    len = 1 ∨ len = 2 ∨ len = 4 → off % len = 0 → PlainReg base → s.otherItem src base = false → s.noPortB base = false →
    regRow base = some r → Sparse.sorted s.regs = true →
    ∃ t, exec (.rcRegisterRead src (off, len)) s = .next t ∧
      t = { s with out := s.out ++ [.readData off (((leBytes 4 (s.view src base).toNat).drop (off % 4)).take len)], regs := t.regs } ∧
      (∀ f ∈ r.fields, bits (t.reg base).toNat f.hi f.lo = if f.acc = .rc then 0 else bits (s.reg base).toNat f.hi f.lo) ∧
      ∀ o, o ≠ base → t.reg o = s.reg o) ∧
  (∀ (s : State) (src : Src) (off : Nat), off % 8 = 0 → ∃ (u v : State) (a b : List Byte),
    exec (.rcRegisterRead src (off, 4)) s = .next { u with out := u.out ++ [.readData off a] } ∧
    exec (.rcRegisterRead src (off + 4, 4)) u = .next { v with out := v.out ++ [.readData (off + 4) b] } ∧
    exec (.rcRegisterRead src (off, 8)) s = .next { v with out := v.out ++ [.readData off (a ++ b)] }) ∧
  (∀ (s : State) (src : Src),
    let sel := (s.reg Reg.QMG_QSEL).toNat
    let q := bits sel 13 0
    let sets (l : List DWord) := exec (.qmgQcmdRead src) s = .next { s with qdata := l }
    let w (n : Nat) : DWord := BitVec.ofNat 32 n
    (s.visible src q = false ∨ (bitOf sel 31 = false ∧ (s.sqRow q).valid = false) ∨ (bitOf sel 31 = true ∧ (s.cqRow q).valid = false) →
      sets [0, 0, 0, 0, 0, 0]) ∧
    (s.visible src q = true → bitOf sel 31 = false → (s.sqRow q).valid = true → let r := s.sqRow q
      sets [w r.base.toNat, w (r.base.toNat / 2 ^ 32), w (r.qsize * 65536 + r.cqid), w (r.tail * 65536 + r.head),
        w (2 ^ 31 + (if r.error then 2 ^ 30 else 0) + r.inst * 65536 + r.loc),
        w (s.cmds.filter (fun c => decide (c.sq = q) && !c.dead)).length]) ∧
    (s.visible src q = true → bitOf sel 31 = true → (s.cqRow q).valid = true → let r := s.cqRow q
      sets [w r.base.toNat, w (r.base.toNat / 2 ^ 32),
        w (r.qsize * 65536 + (if r.ien then 2 ^ 15 else 0) + (if r.imt then 2 ^ 14 else 0) + r.vector % 2 ^ 14),
        w (r.tail * 65536 + r.head),
        w (2 ^ 31 + (if r.error then 2 ^ 30 else 0) + (if r.phase then 2 ^ 29 else 0) + r.inst * 65536 + r.loc),
        w (s.cmds.filter (fun c => decide (c.cq = q) && !c.dead)).length])) ∧
  ∀ (s : State) (src : Src), let n := s.field Reg.QMG_IMTSEL 13 0
    let e := Sparse.get (fun _ => {}) s.imt n
    let d (t : State) (i : Nat) := t.reg (Reg.QMG_IMTDATA i)
    (Sparse.sorted s.regs = true → ∃ t, exec (.qmgImtLoad src) s = .next t ∧ t = { s with regs := t.regs } ∧
      (∀ o, (∀ i, i < 4 → o ≠ Reg.QMG_IMTDATA i) → t.reg o = s.reg o) ∧
      (s.visible src n = false → ∀ i, i < 4 → d t i = 0) ∧
      (s.visible src n = true → e.owner < 1024 → d t 1 ++ d t 0 = e.addr ∧ d t 2 = e.data ∧ bitOf (d t 3).toNat 31 = e.mask ∧
        bitOf (d t 3).toNat 30 = e.pend ∧ bitOf (d t 3).toNat 29 = e.nocoal ∧ bits (d t 3).toNat 25 16 = e.owner)) ∧
    (s.visible src n = false → exec (.qmgImtStore src) s = .next s) ∧
    (s.visible src n = true → Sparse.sorted s.imt = true → ∃ t, exec (.qmgImtStore src) s = .next t ∧
      (∀ m, m ≠ n → Sparse.get (fun _ => {}) t.imt m = Sparse.get (fun _ => {}) s.imt m) ∧
      let f := Sparse.get (fun _ => {}) t.imt n
      let p := s.portOf f.owner
      let unmasks := e.pend = true ∧ bitOf (d s 3).toNat 31 = false
      f.addr = (d s 1 ++ d s 0) &&& ~~~ 3 ∧ f.data = d s 2 ∧ f.mask = bitOf (d s 3).toNat 31 ∧ f.nocoal = bitOf (d s 3).toNat 29 ∧
      f.owner = bits (d s 3).toNat 25 16 ∧
      (unmasks → f.pend = false ∧
        (f.owner = e.owner → (s.port p).training = false →
          t = { s with imt := t.imt, out := s.out ++ [.message p f.addr f.data] }) ∧
        (f.owner = e.owner → (s.port p).training = true → t.out = s.out ∧
          (t.port p).stalled = (s.port p).stalled ++ [.message p f.addr f.data]) ∧
        (f.owner ≠ e.owner → t = { s with imt := t.imt, regs := t.regs } ∧ bitOf (t.reg Reg.QMG_ERR).toNat 4 = true)) ∧
      (¬ unmasks → f.pend = e.pend ∧ t = { s with imt := t.imt }))

/-- R438 to R440, R180, R407; the places of fields in Identify data and log pages are presumed (log 70). -/
def Obligations.AdmReports : Prop :=
  (∀ (s : State) (tag : Nat) (c : Cmd) (segs : List (Nat × Nat)), AdminCmd s tag c → c.opcode = 0x06 →
    let cns := c.f 10 7 0
    let sends (l : List Byte) := Answers (.identify tag segs) s s.tick c .success 0 0 (c.moved s segs l)
    (s.dev = .recovery → cns ≠ 1 → Answers (.identify tag segs) s s c .invalidField 0 0 []) ∧
    (cns = 1 → sends (s.identController c.port s.free) ∧ (s.identController c.port s.free).take 2 = [0xA7, 0x1E]) ∧
    (s.dev ≠ .recovery →
      (cns = 0 ∨ cns = 0x11 → (0 < c.nsid ∧ c.nsid ≤ 256) ∨ c.nsid = full → sends (s.identNamespace c.nsid s.free)) ∧
      (cns = 0 ∨ cns = 0x11 → c.nsid = 0 ∨ (256 < c.nsid ∧ c.nsid ≠ full) →
        Answers (.identify tag segs) s s c .invalidNamespace 0 0 []) ∧
      (cns = 2 ∨ cns = 0x10 → ∃ l, l.length = 4096 ∧ sends l ∧
        l.take (4 * ((s.spaces.map (·.1)).filter (fun n => decide (c.nsid < n))).length) =
          (((s.spaces.map (·.1)).filter (fun n => decide (c.nsid < n))).flatMap (leBytes 4)).take 4096) ∧
      (cns ∈ [3, 5, 6, 7, 8, 0x12, 0x13, 0x1C] → ∃ l, l.length = 4096 ∧ sends l) ∧
      (cns ∉ [0, 1, 2, 3, 5, 6, 7, 8, 0x10, 0x11, 0x12, 0x13, 0x1C] → Answers (.identify tag segs) s s c .invalidField 0 0 []))) ∧
  (∀ (s : State) (tag : Nat) (c : Cmd) (segs : List (Nat × Nat)), AdminCmd s tag c → c.opcode = 0x02 →
    let n := 4 * (c.f 10 31 16 + 65536 * c.f 11 15 0 + 1)
    let lid := c.f 10 7 0
    let page : Option (List Byte) := if lid = 1 then some (s.logError c.port s.free) else if lid = 3 then some (s.logFirmware s.free)
      else if s.dev = .recovery then none else if lid = 2 then some (s.logSmart c.port s.free)
      else if lid = 0xD2 then some c.data else none
    (page = none → Answers (.getLogPage tag segs) s s c .invalidLogPage 0 0 []) ∧
    ∀ l, page = some l →
      (l.length < c.q 12 → Answers (.getLogPage tag segs) s s c .invalidField 0 0 []) ∧
      (c.q 12 ≤ l.length → ∃ t, Answered s s.tick c .success 0 0 (c.moved s segs ((l.drop (c.q 12)).take n)) t ∧
        exec (.getLogPage tag segs) s = .next (if bitOf (c.d 10).toNat 15 then t else t.aenRead c.port lid))) ∧
  ∀ (s : State) (tag : Nat) (c : Cmd) (segs : List (Nat × Nat)), AdminCmd s tag c → c.opcode = 0x0A →
    let fid := c.f 10 7 0
    let v := c.f 11 31 0
    let sel := c.f 10 10 8
    let gives (n : Nat) := Answers (.getFeatures tag segs) s s c .success n 0 []
    let known := fid ∈ [1, 2, 4, 5, 6, 7, 8, 9, 0xA, 0xB, 0xD]
    (¬ known ∨ 3 < sel → Answers (.getFeatures tag segs) s s c .invalidField 0 0 []) ∧
    (known → sel = 3 → gives (if fid = 7 then 0 else 4)) ∧
    (known → sel = 1 ∨ sel = 2 → gives (s.featDefault fid v)) ∧
    (sel = 0 → known → fid ∉ [2, 7, 0xD] → gives ((s.ctrl c.port).feature (featKey fid v) (s.featDefault fid v))) ∧
    (sel = 0 → fid = 2 → gives (s.reg (Reg.PWR_PS_LIMIT (if c.port then 1 else 0))).toNat) ∧
    (sel = 0 → fid = 7 → gives (if s.pins.dual then 0x1FFE1FFE else 0x3FFE3FFE)) ∧
    (sel = 0 → fid = 0xD → ∃ l, l.length = 4096 ∧
      Answers (.getFeatures tag segs) s s.tick c .success ((s.ctrl c.port).feature 0xD 0) 0 (c.moved s segs l))

/-- R439, R440, R407, R151, R155. -/
def Obligations.AdmFeatures : Prop :=
  ∀ (s : State) (tag : Nat) (c : Cmd) (desc : List (Nat × Nat)), AdminCmd s tag c → c.opcode = 0x09 →
    let fid := c.f 10 7 0
    let v := c.f 11 31 0
    let iv := bits v 15 0
    let p := c.port
    let sv := bitOf (c.d 10).toNat 31
    let refuses (i : Instr) (st : Status) := Answers i s s c st 0 0 []
    (sv = true →
      (fid ∉ [2, 7, 0xD] → refuses (.setFeatures tag) .notSaveable) ∧
      (fid = 7 → refuses (.setFeaturesNumberOfQueues tag) .notSaveable) ∧
      (fid = 2 → refuses (.setFeaturesPowerManagement tag) .notSaveable) ∧
      (fid = 0xD → refuses (.setFeaturesHmb tag desc) .notSaveable)) ∧
    (sv = false →
      (fid ∉ [2, 7, 0xD] → stored fid = false ∨ (fid = 9 ∧ 2048 ≤ iv) → refuses (.setFeatures tag) .invalidField) ∧
      (stored fid = true → ¬ (fid = 9 ∧ 2048 ≤ iv) → ∃ t, exec (.setFeatures tag) s = .next t ∧ Ended s c .success 0 0 [] t ∧
        t = { s with out := t.out, cmds := t.cmds, insts := t.insts, cq := t.cq, portA := t.portA, portB := t.portB } ∧
        t.port (!p) = s.port (!p) ∧
        t.port p = { s.port p with ctrl := { s.ctrl p with features := (t.ctrl p).features, noCoal := (t.ctrl p).noCoal } } ∧
        (∀ d, (t.ctrl p).feature (featKey fid v) d = if fid = 4 then iv else v) ∧
        (∀ k d, k ≠ featKey fid v → (t.ctrl p).feature k d = (s.ctrl p).feature k d) ∧
        (∀ j, j ∈ (t.ctrl p).noCoal ↔ if fid = 9 ∧ j = iv then bitOf v 16 = true else j ∈ (s.ctrl p).noCoal)) ∧
      (fid = 7 → Answers (.setFeaturesNumberOfQueues tag) s s c .success (if s.pins.dual then 0x1FFE1FFE else 0x3FFE3FFE) 0 []) ∧
      (fid = 2 → let r := Reg.PWR_PS_LIMIT (if p then 1 else 0)
        ∃ t, exec (.setFeaturesPowerManagement tag) s = .next t ∧ Ended s c .success 0 0 [] t ∧
        t = { s with out := t.out, cmds := t.cmds, insts := t.insts, cq := t.cq, regs := t.regs, held := t.held } ∧
        (Sparse.sorted s.regs = true → (t.reg r).toNat = min 4 (c.f 11 4 0)) ∧ (∀ o, t.inForce o = s.inForce o) ∧
        ∀ o, o ≠ r → t.reg o = s.reg o) ∧
      (fid = 0xD → let on := bitOf (c.d 11).toNat 0
        let l := desc.map (fun e => (e.1, e.2 * 4096 * 2 ^ (s.ctrl p).mps))
        (on = true → (s.port p).hmbOn = true → refuses (.setFeaturesHmb tag desc) .sequenceError) ∧
        (on = true → (s.port p).hmbOn = false → 1024 < c.f 15 31 0 → refuses (.setFeaturesHmb tag desc) .invalidField) ∧
        (on = true → (s.port p).hmbOn = false → c.f 15 31 0 ≤ 1024 → ∃ t, exec (.setFeaturesHmb tag desc) s = .next t ∧
          Ended s c .success 0 0 [] t ∧ t.port (!p) = s.port (!p) ∧ t.regs = s.regs ∧
          t.port p = { s.port p with hmbOn := true, hmb := l, ctrl := t.ctrl p } ∧
          t.ftl = { s.ftl with drawer := { s.ftl.drawer with state := .active, slots := min (hmbSlots l) 1048576, bad := [] } } ∧
          ∀ d, (t.ctrl p).feature 0xD d = v) ∧
        (on = false → ∃ t, exec (.setFeaturesHmb tag desc) s = .next t ∧
          Ended s c .success 0 0 [] t ∧ t.port (!p) = s.port (!p) ∧ t.regs = s.regs ∧
          (t.port p).hmbOn = false ∧ (t.port p).hmb = [] ∧ t.ftl.drawer.state = .none_ ∧ t.ftl.drawer.slots = 0 ∧
          ∀ e ∈ t.ftl.segs, e.2.homed = false ∧ e.2.slot = none)))

/-- R67, R85, R103, R175, R177, R254, R325. -/
def Obligations.AdmNamespaces : Prop :=
  let touches (s t : State) : Prop := t = { s with out := t.out, cmds := t.cmds, insts := t.insts, cq := t.cq, ns := t.ns, ftl := t.ftl,
                                                   idx := t.idx, dram := t.dram, health := t.health, regs := t.regs
                                                   chest := t.chest, jhold := t.jhold, pwr := t.pwr, free := t.free }
  let sick (s : State) : Prop := s.health = .readOnly ∨ s.health = .failed
  let empties (s t : State) (n : Nat) : Prop := Emptied t n ∧ Spared s t n
  (∀ (s : State) (tag : Nat) (c : Cmd) (d : List Byte), AdminCmd s tag c → c.opcode = 0x0D →
    let i := Instr.namespaceManagement tag d
    (1 < c.f 10 3 0 → Answers i s s c .invalidField 0 0 []) ∧
    (c.f 10 3 0 = 0 →
      (kindOf (c.f 11 31 24) = none → Answers i s s c .invalidField 0 0 []) ∧
      (∀ k, kindOf (c.f 11 31 24) = some k →
        let v := s.newNs k d
        let bad := match k with
          | .nvm => v.size = 0 ∨ v.size < v.cap ∨ 3 < v.pi ∨ (v.lbaf < 2 ∧ v.pi ≠ 0)
          | .kv => 16 ≤ s.idx.kvns.length ∨ 2 ^ 36 < v.cap ∨ s.idx.gib = 0
          | .slm => 2 ^ 36 < s.slmTotal + v.size ∨ s.dramFits (s.field Reg.FTL_GRAIN_CFG 4 0) (s.field Reg.IDX_CFG 5 0)
              (s.field Reg.FTL_WB_CFG 5 0) (s.slmTotal + v.size) = false
          | .cprog => False
        let unsound := k = .nvm ∧ 3 < v.lbaf
        let short := v.cap ≠ 0 ∧ s.availOf (v :: s.spaces.map (·.2)) < s.fieldNow Reg.FTL_SPARE_CFG 15 8
        (v.kind = k ∧ (k = .nvm → v.size = leField d 0 8 ∧ v.cap = leField d 8 8 ∧ v.lbaf = bits (leField d 26 1) 3 0 ∧
            v.ext = bitOf (leField d 26 1) 4 ∧ v.pi = bits (leField d 29 1) 2 0 ∧ v.piFirst = bitOf (leField d 29 1) 3) ∧
          (k = .kv → v.cap = leField d 8 8) ∧ (k = .slm → v.size = leField d 0 8 ∧ v.cap = 0)) ∧
        (unsound → Answers i s s c .invalidFormat 0 0 []) ∧ (¬ unsound → bad → Answers i s s c .invalidField 0 0 []) ∧
        (¬ unsound → ¬ bad → short → Answers i s s c .insufficientCapacity 0 0 []) ∧
        (¬ unsound → ¬ bad → ¬ short →
          ((∀ m, 0 < m → m ≤ 256 → s.nsOf m ≠ none) → Answers i s s c .idUnavailable 0 0 []) ∧
          (∀ n, 0 < n → n ≤ 256 → s.nsOf n = none → (∀ m, 0 < m → m < n → s.nsOf m ≠ none) →
            ∃ t, exec i s = .next t ∧ Ended s c .success n 0 [] t ∧
              t.nsOf n = some v ∧ (∀ m, m ≠ n → t.nsOf m = s.nsOf m) ∧
              t.idx = (if k = .kv then { s.idx with kvns := s.idx.kvns ++ [(s.freeKvSlot, n)] } else s.idx) ∧
              t.nsSerial = s.nsSerial + 1 ∧ (t.health = s.health → t.regs = s.regs) ∧ t.ftl = { s.ftl with rot := t.ftl.rot } ∧
              t = { s with out := t.out, cmds := t.cmds, insts := t.insts, cq := t.cq, ns := t.ns, nsSerial := t.nsSerial
                           idx := t.idx, ftl := t.ftl, health := t.health, regs := t.regs }))))) ∧
  (∀ (s : State) (tag : Nat) (c : Cmd) (d : List Byte), AdminCmd s tag c → c.opcode = 0x0D → c.f 10 3 0 = 1 →
    Sparse.sorted s.insts = true → Sparse.sorted s.ns = true →
    let i := Instr.namespaceManagement tag d
    let n := c.nsid
    let named (m : Nat) := n = full ∨ m = n
    (n ≠ full → s.nsOf n = none → Answers i s s c .invalidNamespace 0 0 []) ∧
    ((∃ m v x, named m ∧ s.nsOf m = some v ∧ v.deleting = some x ∧ x ≠ tag) → Answers i s s c .invalidNamespace 0 0 []) ∧
    (∀ v, n ≠ full → s.nsOf n = some v →
      (v.deleting = none → s.nsBusy n tag = true → ∃ t, exec i s = .next t ∧
        t = { s with ns := t.ns, insts := t.insts } ∧ t.nsOf n = some { v with deleting := some tag } ∧
        (∀ m, m ≠ n → t.nsOf m = s.nsOf m) ∧ ∀ j, ∀ a ∈ (t.inst j).attach, a.1 ≠ n) ∧
      (v.deleting = some tag → s.nsBusy n tag = true → exec i s = .next s) ∧
      (v.deleting = none ∨ v.deleting = some tag → s.nsBusy n tag = false → ∃ t, exec i s = .next t ∧
        Ended s c .success 0 0 [] t ∧ t.nsOf n = none ∧ empties s t n ∧ (∀ e ∈ t.idx.kvns, e.2 ≠ n) ∧
        (v.deleting = none → ∀ j, ∀ a ∈ (t.inst j).attach, a.1 ≠ n) ∧ touches s t)) ∧
    (n = full → (∀ m v, s.nsOf m = some v → (v.deleting = none ∨ v.deleting = some tag) ∧ s.nsBusy m tag = false) →
      ∃ t, exec i s = .next t ∧ Ended s c .success 0 0 [] t ∧ touches s t ∧
        ∀ m v, s.nsOf m = some v → t.nsOf m = none ∧ Emptied t m)) ∧
  (∀ (s : State) (tag : Nat) (c : Cmd), AdminCmd s tag c → c.opcode = 0x80 → Sparse.sorted s.ns = true →
    let i := Instr.formatNvm tag
    let n := c.nsid
    let ses := c.f 10 11 9
    let lbaf := c.f 10 3 0
    let pi := c.f 10 7 5
    let named (m : Nat) := (n = full ∨ m = n) ∧ s.nsOf m ≠ none
    let anyNvm := ∃ m v, named m ∧ s.nsOf m = some v ∧ v.kind = .nvm
    let fits := anyNvm → lbaf ≤ 3 ∧ pi ≤ 3 ∧ (lbaf < 2 → pi = 0)
    (n ≠ full → s.nsOf n = none → Answers i s s c .invalidNamespace 0 0 []) ∧
    (n = full ∨ s.nsOf n ≠ none →
      (2 < ses → Answers i s s c .invalidField 0 0 []) ∧
      (ses ≤ 2 → anyNvm → 3 < lbaf → Answers i s s c .invalidFormat 0 0 []) ∧
      (ses ≤ 2 → anyNvm → lbaf ≤ 3 → 3 < pi ∨ (lbaf < 2 ∧ pi ≠ 0) → Answers i s s c .invalidField 0 0 []) ∧
      (ses < 2 → fits → sick s → Answers i s s c .writeProtected 0 0 []) ∧
      (ses ≤ 2 → fits → ¬ sick s ∨ ses = 2 → (∃ m, named m ∧ s.nsBusy m tag = true) → exec i s = .next s) ∧
      (ses ≤ 2 → fits → ¬ sick s ∨ ses = 2 → (∀ m, named m → s.nsBusy m tag = false) → ∃ t, exec i s = .next t ∧
        Ended s c .success 0 0 [] t ∧ touches s t ∧ (n ≠ full → Spared s t n) ∧
        ∀ m v, named m → s.nsOf m = some v → Emptied t m ∧
          t.nsOf m = some { v with
            lbaf := if v.kind = .nvm then lbaf else v.lbaf
            ext := decide (v.kind = .nvm) && bitOf (c.d 10).toNat 4
            pi := if v.kind = .nvm then pi else v.pi
            piFirst := if v.kind = .nvm then bitOf (c.d 10).toNat 8 else v.piFirst
            keyGen := if ses = 2 then v.keyGen + 1 else v.keyGen }))) ∧
  ∀ (s : State) (tag : Nat) (c : Cmd), AdminCmd s tag c → c.opcode = 0x84 → Sparse.sorted s.ns = true →
    let i := Instr.sanitize tag
    let act := c.f 10 2 0
    (sick s → Answers i s s c .writeProtected 0 0 []) ∧
    (¬ sick s → act = 1 → Answers i s s c .success 0 0 []) ∧
    (¬ sick s → act = 0 ∨ 4 < act → Answers i s s c .invalidField 0 0 []) ∧
    (¬ sick s → act = 2 ∨ act = 3 ∨ act = 4 →
      ((∃ n, s.nsOf n ≠ none ∧ s.nsBusy n tag = true) → exec i s = .next s) ∧
      ((∀ n, s.nsOf n ≠ none → s.nsBusy n tag = false) → ∃ t, exec i s = .next t ∧ Ended s c .success 0 0 [] t ∧ touches s t ∧
        ∀ n v, s.nsOf n = some v → t.nsOf n = some { v with keyGen := v.keyGen + 1 } ∧ Emptied t n))

/-- R400 to R403, Table 17-5. -/
def Obligations.AdmFirmware : Prop :=
  (∀ (s : State) (tag : Nat) (c : Cmd) (data : List Byte), AdminCmd s tag c → c.opcode = 0x11 →
    let i := Instr.firmwareImageDownload tag data
    let n := 4 * (c.f 10 31 0 + 1)
    let o := 4 * c.f 11 31 0
    let piece := data.take n ++ List.replicate (n - data.length) 0
    let head : List Byte := match (s.pwr.staging ++ [(o, piece)]).find? (fun e => decide (e.1 = 0)) with
      | some e => e.2
      | none => []
    let fits := (o % 4096 = 0 ∧ n % 4096 = 0) ∨ (28 ≤ head.length ∧ o + n = packageLen head)
    let meets := ∃ e ∈ s.pwr.staging, o < e.1 + e.2.length ∧ e.1 < o + n
    (s.pwr.commit ≠ none → Answers i s s c .sequenceErrorBusy 0 0 []) ∧
    (s.pwr.commit = none → 8388608 < n ∨ 16515072 < o + n → Answers i s s c .invalidField 0 0 []) ∧
    (s.pwr.commit = none → n ≤ 8388608 → o + n ≤ 16515072 →
      (¬ fits → Answers i s s c .invalidField 0 0 []) ∧
      (fits → meets → Answers i s s c .overlappingRange 0 0 []) ∧
      (fits → ¬ meets → Answers i s { s with pwr := { s.pwr with staging := s.pwr.staging ++ [(o, piece)] } } c .success 0 0 []))) ∧
  ∀ (s : State) (tag : Nat) (w : Bool) (c : Cmd), AdminCmd s tag c → c.opcode = 0x10 →
    let i := Instr.firmwareCommit tag w
    let fs := c.f 10 2 0
    let ca := c.f 10 5 3
    let b := s.fwSlot fs
    let rec_ := s.dev = .recovery
    let clear : Power := { s.pwr with staging := [], commit := none }
    let refuses (st : Status) := Answers i s { s with pwr := clear } c st 0 0 []
    let mine := s.pins.dual = false ∨ c.port = s.ownerPort
    let acts := ca < 3 ∧ (rec_ → ca = 1)
    let room := ∃ x j k, s.selCurrent = some x ∧ j < k ∧ k < 32 ∧ bitOf (s.selW x) j = true ∧ bitOf (s.selW x) k = true
    let running := ¬ rec_ ∧ ca ≠ 2 ∧ b = s.car.booted
    (∀ x, s.pwr.commit = some x → x ≠ tag → Answers i s s c .sequenceErrorBusy 0 0 []) ∧
    (s.pwr.commit = none → ¬ mine → refuses .fwProhibited) ∧
    (s.pwr.commit = none → mine → ¬ acts → refuses .invalidField) ∧
    (s.pwr.commit = none → mine → acts → 3 ≤ fs → refuses .invalidFwSlot) ∧
    (s.pwr.commit = none → mine → acts → fs < 3 → running → refuses .invalidFwSlot) ∧
    (s.pwr.commit = none → mine → acts → fs < 3 → ¬ running →
      (s.pwr.stale = true → refuses .fwProhibited) ∧
      (s.pwr.stale = false → ca < 2 → s.packageOk = false → refuses .invalidFwImage) ∧
      (s.pwr.stale = false → ca < 2 → s.packageOk = true → exec i s = .next { s with pwr := { s.pwr with commit := some tag } }) ∧
      let bad := s.carSuspect (bootSector b) 4 = true ∨ blkCheck s.pwr.fuses (s.blkBytes b) (s.blkMedia b) ≠ 0
      (s.pwr.stale = false → ca = 2 → bad → refuses .invalidFwImage) ∧
      (s.pwr.stale = false → ca = 2 → ¬ bad →
        (s.bootSelect = b → refuses .fwNeedsReset) ∧
        (s.bootSelect ≠ b → ∃ t, exec i s = .next t ∧ Ended s c .fwNeedsReset 0 0 [] t ∧ t.pwr = clear ∧
          (room → t.bootSelect = !s.bootSelect) ∧
          ∀ a, a / 2 ^ 15 ≠ 4 → a / 2 ^ 15 ≠ 260 → t.carWord a = s.carWord a))) ∧
    (s.pwr.commit = some tag → s.packageOk = true → ca < 2 →
      let lo := bootSector b
      let hi := lo + 8 + blkXip s.pwr.package / 65536
      ∃ t, exec i s = .next t ∧
        Ended s c (if w then (if ca = 0 then .success else .fwNeedsReset) else .internalErrorCar) 0 0 [] t ∧ t.pwr = clear ∧
        (w = false ∨ ca = 0 → t.bootSelect = s.bootSelect) ∧ (w = true → ca = 1 → room → t.bootSelect = !s.bootSelect) ∧
        (∀ a, ¬ (lo ≤ a / 2 ^ 15 ∧ a / 2 ^ 15 < lo + 4) → ¬ (lo + 8 ≤ a / 2 ^ 15 ∧ a / 2 ^ 15 < hi) → (w = true ∧ ca = 1 → a / 2 ^ 15 ≠ 4 ∧ a / 2 ^ 15 ≠ 260) → t.carWord a = s.carWord a) ∧
        (w = true → ∀ p ∈ packageWords b s.pwr.package, t.carWord p.1 = p.2))

/-- R102, R205, R435. R103, R179, R386. -/
def Obligations.PrgAndSlm : Prop :=
  ((∀ (s : State) (tag : Nat) (c : Cmd) (data : List Byte), Answerable s tag c → c.opcode = 0x85 →
    let i := Instr.loadProgram tag data
    let sel := c.f 10 3 0
    let j := c.f 11 5 0
    let slot := s.prog c.port j
    let n := (c.d 13).toNat
    let clean := c.f 10 31 4 = 0 ∧ c.f 11 31 6 = 0 ∧ c.f 0 13 8 = 0 ∧ c.zero [2, 3, 4, 5, 14, 15] = true
    let sets (v : ProgSlot) := ∃ t, exec i s = .next t ∧ Ended s c .success 0 0 [] t ∧ t.prog c.port j = v ∧
      (∀ p x, x < 64 → (p, x) ≠ (c.port, j) → t.prog p x = s.prog p x) ∧
      t = { s with out := t.out, cmds := t.cmds, insts := t.insts, cq := t.cq, progs := t.progs }
    let away := c.admin = true ∧ ∀ a ∈ (s.inst c.inst).attach, a.1 ≠ c.nsid
    (away ∨ (c.admin = true ∧ s.kindNs c .cprog = none) → Answers i s s c .invalidNamespace 0 0 []) ∧
    (c.admin = false → s.kindNs c .cprog = none → exec i s = .next s) ∧
    (∀ v, s.kindNs c .cprog = some v → ¬ away → Sparse.sorted s.progs = true →
      (¬ clean ∨ 1 < sel → Answers i s s c .invalidField 0 0 []) ∧
      (clean → sel = 0 → n = 0 ∨ 8388608 < n → Answers i s s c .invalidField 0 0 []) ∧
      (clean → sel = 0 → 0 < n → n ≤ 8388608 → c.sgl = true → data.length < n → Answers i s s c .sglLength 0 0 []) ∧
      (clean → sel = 0 → 0 < n → n ≤ 8388608 → c.sgl = false ∨ n ≤ data.length →
        let l := slot.bytes ++ data.take n ++ List.replicate (n - data.length) 0
        (slot.active = true ∨ (c.d 12).toNat ≠ slot.bytes.length → Answers i s s c .sequenceError 0 0 []) ∧
        (slot.active = false → (c.d 12).toNat = slot.bytes.length → 64 ≤ l.length → leField l 8 4 < l.length →
          Answers i s s c .lengthMismatch 0 0 []) ∧
        (slot.active = false → (c.d 12).toNat = slot.bytes.length → l.length < 64 ∨ l.length ≤ leField l 8 4 →
          sets { slot with bytes := l })) ∧
      (clean → sel = 1 → c.zero [6, 7, 8, 9, 12, 13] = false → Answers i s s c .invalidField 0 0 []) ∧
      (clean → sel = 1 → c.zero [6, 7, 8, 9, 12, 13] = true →
        (slot.active = true → Answers i s s c .sequenceError 0 0 []) ∧
        (slot.active = false → sets {})))) ∧
  ∀ (s : State) (tag : Nat) (c : Cmd), Answerable s tag c → c.opcode = 0x88 →
    let i := Instr.programActivationManagement tag
    let sel := c.f 10 3 0
    let j := c.f 11 5 0
    let slot := s.prog c.port j
    let x := progInfo j 0 slot.bytes
    let clean := c.f 10 31 4 = 0 ∧ c.f 11 31 6 = 0 ∧ c.f 0 13 8 = 0 ∧ c.zero [2, 3, 4, 5, 6, 7, 8, 9, 12, 13, 14, 15] = true
    let whole := 64 ≤ slot.bytes.length ∧ slot.bytes.length = leField slot.bytes 8 4
    let good := skovzitOk slot.bytes = true ∧ (s.activeProgs.map (·.codeWords)).sum + x.codeWords ≤ 63488 ∧
      (s.activeProgs.map (·.ldWords)).sum + x.ldWords ≤ 32768
    let others (t : State) := ∀ p y, y < 64 → (p, y) ≠ (c.port, j) → t.prog p y = s.prog p y
    let open_ (b : Nat) := b + x.codeWords ≤ 63488 ∧ ∀ r ∈ s.codeRuns, b + x.codeWords ≤ r.1 ∨ r.1 + r.2 ≤ b
    let word (t : State) (k a : Nat) := Sparse.get (fun _ => 0) (t.strand k).code a
    let away := c.admin = true ∧ ∀ a ∈ (s.inst c.inst).attach, a.1 ≠ c.nsid
    (away ∨ s.kindNs c .cprog = none → Answers i s s c .invalidNamespace 0 0 []) ∧
    (∀ v, s.kindNs c .cprog = some v → ¬ away → Sparse.sorted s.progs = true →
      (¬ clean ∨ 1 < sel → Answers i s s c .invalidField 0 0 []) ∧
      (clean → sel = 0 → ∃ t, exec i s = .next t ∧ Ended s c .success 0 0 [] t ∧ t.prog c.port j = { slot with active := false } ∧
        others t ∧ t = { s with out := t.out, cmds := t.cmds, insts := t.insts, cq := t.cq, progs := t.progs }) ∧
      (clean → sel = 1 → slot.active = true → Answers i s s c .success 0 0 []) ∧
      (clean → sel = 1 → slot.active = false → ¬ whole → Answers i s s c .lengthMismatch 0 0 []) ∧
      (clean → sel = 1 → slot.active = false → whole → ¬ good → Answers i s s c .invalidField 0 0 []) ∧
      (clean → sel = 1 → slot.active = false → whole → good →
        Sparse.sorted s.strands = true → (∀ k, Sparse.sorted (s.strand k).code = true) →
        ∃ t b, exec i s = .next t ∧ Ended s c .success 0 0 [] t ∧ t.prog c.port j = { slot with active := true, base := b } ∧ others t ∧
          ((∃ y, open_ y) → open_ b) ∧
          (∀ k a, k < 32 → word t k a = if b ≤ a ∧ a < b + x.codeWords then
              BitVec.ofNat 16 (leField slot.bytes (64 + 2 * (a - b) + 1) 1 + 256 * leField slot.bytes (64 + 2 * (a - b)) 1) else word s k a) ∧
          t = { s with out := t.out, cmds := t.cmds, insts := t.insts, cq := t.cq, progs := t.progs
                       strands := t.strands, free := t.free }))) ∧
  ((∀ (s : State) (tag : Nat) (c : Cmd) (n : Namespace) (segs : List (Nat × Nat)), IoCmd s tag c 0x02 .slm n →
    let i := Instr.memoryRead tag segs
    let a := c.q 10
    let k := (c.d 12).toNat
    (8388608 < k → Answers i s s c .invalidField 0 0 []) ∧
    (k ≤ 8388608 → n.size < a + k → Answers i s s c .lbaRange 0 0 []) ∧
    (k ≤ 8388608 → a + k ≤ n.size → c.sgl = true → segLen segs < k → Answers i s s c .sglLength 0 0 []) ∧
    (k ≤ 8388608 → a + k ≤ n.size → c.sgl = false ∨ k ≤ segLen segs →
      (s.slmPlaced = false → Answers i s s c .nsNotReady 0 0 []) ∧
      (s.slmPlaced = true →
        ((∃ l ∈ s.dram.slmPoison, ∃ b, b < k ∧ slmKey c.nsid (a + b) / 64 = l) → Answers i s { s with ftl := { s.ftl with dataErrors := s.ftl.dataErrors + 1 } } c .unrecoveredRead 0 0 []) ∧
        ((∀ l ∈ s.dram.slmPoison, ∀ b, b < k → slmKey c.nsid (a + b) / 64 ≠ l) → ∃ d : List Byte, d.length = k ∧
          (∀ b, b < k → nth 0 d b = s.slmByte c.nsid (a + b)) ∧ Answers i s s c .success 0 0 (c.moved s segs d))))) ∧
  ∀ (s : State) (tag : Nat) (c : Cmd) (n : Namespace) (data : List Byte), IoCmd s tag c 0x05 .slm n →
    let i := Instr.memoryWrite tag data
    let a := c.q 10
    let k := (c.d 12).toNat
    (8388608 < k → Answers i s s c .invalidField 0 0 []) ∧
    (k ≤ 8388608 → n.size < a + k → Answers i s s c .lbaRange 0 0 []) ∧
    (k ≤ 8388608 → a + k ≤ n.size → c.sgl = true → data.length < k → Answers i s s c .sglLength 0 0 []) ∧
    (k ≤ 8388608 → a + k ≤ n.size → c.sgl = false ∨ k ≤ data.length →
      (s.slmPlaced = false → Answers i s s c .nsNotReady 0 0 []) ∧
      (s.slmPlaced = true → c.ro = true → Answers i s s c .writeProtected 0 0 []) ∧
      (s.slmPlaced = true → c.ro = false → Sparse.sorted s.dram.slm = true → ∃ t, exec i s = .next t ∧
        Ended s c .success 0 0 [] t ∧
        (∀ b, b < k → t.slmByte c.nsid (a + b) = nth 0 data b) ∧
        (∀ x, ¬ (slmKey c.nsid a ≤ x ∧ x < slmKey c.nsid a + k) → Sparse.get (fun _ => 0) t.dram.slm x = Sparse.get (fun _ => 0) s.dram.slm x) ∧
        (∀ l, l ∈ t.dram.slmPoison ↔ l ∈ s.dram.slmPoison ∧ ¬ (slmKey c.nsid a ≤ l * 64 ∧ l * 64 + 64 ≤ slmKey c.nsid a + k)) ∧
        t = { s with out := t.out, cmds := t.cmds, insts := t.insts, cq := t.cq, dram := { s.dram with slm := t.dram.slm, slmPoison := t.dram.slmPoison } })))

/-- R86, R107, R128, R133, R142; R28 and R156 for the map; protection information as log 200 has it. -/
def Obligations.NvmReads : Prop :=
  (∀ (c : Cmd) (n : Namespace) (a : Nat) (l : List (List Byte)), n.pi = 0 →
    c.piBad n a = false ∧ c.piCheck n l = none ∧ c.hostNs n = n ∧ c.toHost n l = l) ∧
  (∀ (s : State) (nsid sp g : Nat) (n : Namespace), s.spanEntry nsid sp = 0 → (nsid, sp, g) ∉ s.dram.grains →
    s.readGrain [] n nsid sp g = .ok (List.replicate 4096 0 ++ List.replicate (metaSize n.lbaf) (if n.pi = 0 then 0 else 0xFF))) ∧
  ∀ (s : State) (tag op : Nat) (c : Cmd) (n : Namespace) (i : Instr) (segs mseg : List (Nat × Nat)) (data mdata : List Byte),
    (op = 0x02 ∧ i = .nvmRead tag segs mseg) ∨ (op = 0x05 ∧ i = .nvmCompare tag data mdata) ∨ (op = 0x0C ∧ i = .nvmVerify tag) →
    IoCmd s tag c op .nvm n →
    let k := c.blocks
    let a := c.slba
    let h := c.hostNs n
    let spans := (lbaSpans a k).map (·.1)
    let short := op ≠ 0x0C ∧ c.sgl = true ∧ (if op = 0x02 then segLen segs else data.length) < bufLen h k
    let fits := op = 0x0C ∨ k ≤ 2048
    (c.phase = .fetched →
      (s.health = .failed → Answers i s s c .internalError 0 0 []) ∧
      (s.health ≠ .failed → ¬ fits → Answers i s s c .invalidField 0 0 []) ∧
      (s.health ≠ .failed → fits → n.size < a + k → Answers i s s c .lbaRange 0 0 []) ∧
      (s.health ≠ .failed → fits → a + k ≤ n.size → short → Answers i s s c .sglLength 0 0 []) ∧
      (s.health ≠ .failed → fits → a + k ≤ n.size → ¬ short → c.piBad n a = true → Answers i s s c .invalidProt 0 0 []) ∧
      (s.health ≠ .failed → fits → a + k ≤ n.size → ¬ short → c.piBad n a = false →
        AwaitsMap i s tag c (s.partsOf c.nsid spans) (s.segsFor c.nsid spans) ∧
        (InPlace s (s.partsOf c.nsid spans) (s.segsFor c.nsid spans) → ∃ t v, exec i s = .next t ∧
          t.cmd? tag = some v ∧ Becomes s t tag v ∧
          v = { c with phase := .active, issued := true, imgs := v.imgs, data := v.data, rd := v.rd } ∧
          (∀ l : List (List Byte), l.length = k →
            (∀ j, j < k → s.readGrain [] n c.nsid ((a + j) / 64) ((a + j) % 64) = .ok (nth [] l j)) → v.data = l.flatten ∧ v.rd = c.rd) ∧
          (∀ ch m, (ch, m) ∈ v.imgs ↔ ∃ j, j < k ∧ ∃ g, s.resolve c.nsid ((a + j) / 64) ((a + j) % 64) = .stored ch m g) ∧
          (v.imgs = [] → t.luns = s.luns ∧ t.recon = s.recon ∧ t.ftl.nextOp = s.ftl.nextOp) ∧
          t = { s with cmds := t.cmds, luns := t.luns, recon := t.recon
                       ftl := { s.ftl with nextOp := t.ftl.nextOp, segs := t.ftl.segs } }))) ∧
    (c.phase = .active → c.issued = true →
      (s.ioDone tag = false → exec i s = .next s) ∧
      (s.ioDone tag = true →
        (∀ ch m r, c.badImgs = (ch, m) :: r → ∃ t sp, exec i s = .next t ∧ Logged s c .unrecoveredRead 0 0 (sp * 64) sp t ∧
          (∀ x, s.img? ch m = some x → sp = x.span) ∧ t.ftl = { s.ftl with dataErrors := s.ftl.dataErrors + 1 }) ∧
        (∀ e, c.badImgs = [] → c.rd = some e → ∃ t, exec i s = .next t ∧ Logged s c e.st e.dw0 e.dw1 (e.span * 64) e.span t) ∧
        (∀ l : List (List Byte), c.badImgs = [] → c.rd = none → l.length = k → (∀ b ∈ l, b.length = 4096 + metaSize n.lbaf) →
          c.data = l.flatten → ∃ t, exec i s = .next t ∧ t.ftl = s.ftl ∧
          let b := c.toHost n l
          (∀ st, c.piCheck n l = some st → Ended s c st 0 0 [] t) ∧
          (c.piCheck n l = none →
            (op = 0x02 → Ended s c .success 0 0 (c.moved s segs (dataOf h b) ++ c.moved s mseg (metaOf h b)) t) ∧
            (op = 0x05 → dataOf h b = data.take (bufLen h k) → metaOf h b = mdata.take (metaLen h k) → Ended s c .success 0 0 [] t) ∧
            (op = 0x05 → ¬ (dataOf h b = data.take (bufLen h k) ∧ metaOf h b = mdata.take (metaLen h k)) → Ended s c .compareFailure 0 0 [] t) ∧
            (op = 0x0C → Ended s c .success 0 0 [] t)))))

/-- R15, R16, R86, R143, R144, R167, R177, Table 7-5; R28 and R156 for the map. -/
def Obligations.NvmWrites : Prop :=
  let keeps (s t : State) := t.out = s.out ∧ KeepsMap s t
  let ordered (s : State) := (s.ftl.slots.map (·.idx)).Nodup
  let gathers (t : State) (tag nsid sp g : Nat) (b : List Byte) := ∃ v ∈ t.ftl.slots, v.nsid = nsid ∧ v.span = sp ∧ (tag, g, b) ∈ v.recv ∧
    ∃ r ∈ t.chest.pending, r.change = .slot v.idx tag
  let sick (s : State) (c : Cmd) := s.health = .readOnly ∨ s.chest.failed = true ∨ c.ro = true
  let bad (s : State) (c : Cmd) (spans : List (Nat × List Nat)) := ∃ p ∈ spans, p.2.length < 64 ∧ s.partialBad c.nsid p.1 = true
  (∀ (s : State) (tag : Nat) (c : Cmd) (n : Namespace) (data mdata : List Byte), IoCmd s tag c 0x01 .nvm n → c.phase = .fetched →
    let i := Instr.nvmWrite tag data mdata
    let k := c.blocks
    let a := c.slba
    let h := c.hostNs n
    let spans := lbaSpans a k
    let names := spans.map (·.1)
    let bs := blocksOf h data mdata k
    let room := s.nuseNvm c.nsid + s.newUnits c.nsid spans ≤ n.cap
    let fits := k ≤ 2048 ∧ a + k ≤ n.size
    let short := c.sgl = true ∧ data.length < bufLen h k
    let whole := bufLen h k ≤ data.length ∧ metaLen h k ≤ mdata.length
    let passes := whole ∧ (c.pract = true ∨ c.piCheck n bs = none)
    (2048 < k → Answers i s s c .invalidField 0 0 []) ∧
    (k ≤ 2048 → n.size < a + k → Answers i s s c .lbaRange 0 0 []) ∧
    (fits → short → Answers i s s c .sglLength 0 0 []) ∧
    (fits → ¬ short → c.piBad n a = true → Answers i s s c .invalidProt 0 0 []) ∧
    (fits → ¬ short → c.piBad n a = false →
      (¬ whole → exec i s = .next s) ∧
      (∀ st, whole → c.pract = false → c.piCheck n bs = some st → st ≠ .unrecoveredRead → Answers i s s c st 0 0 []) ∧
      (passes → s.health = .failed → Answers i s s c .internalError 0 0 []) ∧
      (passes → s.health ≠ .failed → sick s c → Answers i s s c .writeProtected 0 0 []) ∧
      (passes → s.health ≠ .failed → ¬ sick s c → ¬ room → Answers i s s c .capacityExceeded 0 0 []) ∧
      (passes → s.health ≠ .failed → ¬ sick s c → room → bad s c spans → ∃ t, exec i s = .next t ∧
        Logged s c .unrecoveredRead 0 0 (a / 64 * 64) (a / 64) t) ∧
      (passes → s.health ≠ .failed → ¬ sick s c → room → ¬ bad s c spans →
        AwaitsMap i s tag c (s.partsOf c.nsid names) (s.segsFor c.nsid names) ∧
        (InPlace s (s.partsOf c.nsid names) (s.segsFor c.nsid names) → ordered s → ∃ t, exec i s = .next t ∧ keeps s t ∧
          Becomes s t tag { c with phase := .received } ∧
          (n.pi = 0 ∨ c.pract = false → c.fromHost n bs = bs) ∧
          (n.pi ≠ 0 → c.pract = true → ∀ j, j < k → nth [] (c.fromHost n bs) j = n.protect c.appTag (c.refOf n j) (nth [] bs j)) ∧
          ∀ j, j < k → gathers t tag c.nsid ((a + j) / 64) ((a + j) % 64) (nth [] (c.fromHost n bs) j))))) ∧
  ∀ (s : State) (tag op : Nat) (c : Cmd) (n : Namespace) (i : Instr) (ranges : List (Nat × Nat)),
    (op = 0x08 ∧ i = .writeZeroes tag) ∨ (op = 0x09 ∧ i = .datasetManagement tag ranges) → IoCmd s tag c op .nvm n →
    c.phase = .fetched ∨ c.phase = .active →
    let k := c.blocks
    let a := c.slba
    let deac := op = 0x09 ∨ bitOf (c.d 12).toNat 25 = true
    let rs := ranges.take (c.f 10 7 0 + 1)
    let spans := if op = 0x09 then mergeRanges rs else lbaSpans a k
    let names := spans.map (·.1)
    let inside := if op = 0x09 then ∀ r ∈ rs, r.1 + r.2 ≤ n.size else a + k ≤ n.size
    let first := if op = 0x09 then 0 else a / 64
    let rest := spans.drop c.at_
    let need (p : Nat × List Nat) := if deac ∧ (p.2.length = 64 ∨ s.splintered c.nsid p.1 = true) then 0
      else p.2.length * (4096 + metaSize n.lbaf)
    let zeros := List.replicate (4096 + metaSize n.lbaf) (0 : Byte)
    let block (l : Nat) := if n.pi ≠ 0 ∧ c.pract = true then n.protect c.appTag (c.refOf n (l - a)) zeros else zeros
    let admitted := s.health ≠ .failed ∧ ¬ sick s c ∧ (deac ∨ s.nuseNvm c.nsid + s.newUnits c.nsid spans ≤ n.cap) ∧ ¬ bad s c spans
    (op = 0x09 → bitOf (c.d 11).toNat 2 = false → Answers i s s c .success 0 0 []) ∧
    ((op = 0x09 → bitOf (c.d 11).toNat 2 = true) →
      (¬ inside → Answers i s s c .lbaRange 0 0 []) ∧
      (inside → c.phase = .fetched →
        (s.health = .failed → Answers i s s c .internalError 0 0 []) ∧
        (s.health ≠ .failed → sick s c → Answers i s s c .writeProtected 0 0 []) ∧
        (s.health ≠ .failed → ¬ sick s c → ¬ deac → n.cap < s.nuseNvm c.nsid + s.newUnits c.nsid spans →
          Answers i s s c .capacityExceeded 0 0 []) ∧
        (s.health ≠ .failed → ¬ sick s c → deac ∨ s.nuseNvm c.nsid + s.newUnits c.nsid spans ≤ n.cap → bad s c spans → ∃ t, exec i s = .next t ∧
          Logged s c .unrecoveredRead 0 0 (first * 64) first t) ∧
        (admitted → AwaitsMap i s tag c (s.partsOf c.nsid names) (s.segsFor c.nsid names))) ∧
      (inside → c.phase = .active ∨ admitted → InPlace s (s.partsOf c.nsid names) (s.segsFor c.nsid names) → ordered s →
        (∀ p r, rest = p :: r → s.dirtyMax < s.dirtyBytes + need p → ∃ t, exec i s = .next t ∧ keeps s t ∧
          Becomes s t tag { c with phase := .active } ∧ t.ftl.slots = s.ftl.slots ∧ t.chest.pending = s.chest.pending) ∧
        (s.dirtyBytes + (rest.map need).sum ≤ s.dirtyMax → ∃ t, exec i s = .next t ∧
          keeps s t ∧ Becomes s t tag { c with phase := .received, at_ := c.at_ + rest.length } ∧
          ∀ p ∈ rest,
            (¬ deac → ∀ g ∈ p.2, gathers t tag c.nsid p.1 g (block (p.1 * 64 + g))) ∧
            (deac → p.2.length = 64 ∨ s.splintered c.nsid p.1 = true → ∃ r ∈ t.chest.pending, r.change = .trim (some tag) c.nsid p.1 p.2) ∧
            (deac → p.2.length ≠ 64 → s.splintered c.nsid p.1 = false → ∀ g ∈ p.2, gathers t tag c.nsid p.1 g []))))

/-- R15, R90, R143, R145. -/
def Obligations.NvmOrder : Prop :=
  (∀ (s : State) (tag : Nat) (c : Cmd), Answerable s tag c → c.admin = false →
    let i := Instr.writeCommandAck tag
    let lba := c.opcode = 0x81 ∨ ∃ n, s.kindNs c .nvm = some n
    let through := (c.opcode = 0x81 ∧ bitOf (c.d 13).toNat 28 = true) ∨ (c.opcode = 0x01 ∧ bitOf (c.d 12).toNat 30 = true) ∨
      (c.opcode = 0x08 ∧ (bitOf (c.d 12).toNat 30 = true ∨ bitOf (c.d 12).toNat 25 = true)) ∨ c.opcode = 0x09
    let held := c.phase = .received ∧ (∀ r ∈ s.chest.pending, r.change.tag? ≠ some tag) ∧ c.encodes = 0 ∧ c.shards = 0 ∧
      (∀ v ∈ s.ftl.slots, ∀ r ∈ v.recv, r.1 ≠ tag) ∧
      (through → lba → ∀ v ∈ s.ftl.slots, tag ∉ v.tags ∧ tag ∉ v.flight)
    (¬ held → exec i s = .next s) ∧
    (held → c.fail = none → Answers i s s c .success (if c.opcode = 0x81 then c.stored else c.dw0) c.dw1 []) ∧
    (∀ st a b, held → c.fail = some (st, a, b) → st ≠ .unrecoveredRead → Answers i s s c st a b []) ∧
    (∀ a b, held → c.fail = some (.unrecoveredRead, a, b) →
      Answers i s { s with ftl := { s.ftl with dataErrors := s.ftl.dataErrors + 1 } } c .unrecoveredRead a b [])) ∧
  ∀ (s : State) (tag : Nat) (c : Cmd), Answerable s tag c → c.admin = false → c.opcode = 0x00 →
    let i := Instr.flush_ tag
    let held := (∀ x ∈ c.waits, ∀ r ∈ s.chest.pending, r.change.tag? ≠ some x) ∧
      ∀ v ∈ s.ftl.slots, ∀ x ∈ c.waits, x ∉ v.tags ∧ x ∉ v.flight ∧ ∀ r ∈ v.recv, r.1 ≠ x
    (¬ held → exec i s = .next s) ∧ (held → Answers i s s c .success 0 0 [])

/-- R64 to R68, Tables 3-3 to 3-5. -/
def Obligations.InsManage : Prop :=
  let same (s t : State) (r : Nat) (c : Cmd) := (∀ j, j ≠ r → j ≠ c.inst → t.inst j = s.inst j) ∧
    t = { s with out := t.out, cmds := t.cmds, insts := t.insts, cq := t.cq }
  (∀ (s : State) (tag : Nat) (c : Cmd) (i : Instr), s.cmd? tag = some c → c.admin = true → c.expired = false → c.checked = false →
    (c.opcode = 0xC0 ∧ bitOf (c.d 14).toNat 0 = false ∧ i = .instanceCreate tag []) ∨ (c.opcode = 0xC1 ∧ i = .instanceDelete tag) ∨
      (c.opcode = 0xC2 ∧ i = .instanceSetShare tag) ∨ (c.opcode = 0xC3 ∧ i = .instanceReset tag) ∨
      (c.opcode = 0xC4 ∧ i = .instanceAttachNamespace tag) ∨ (c.opcode = 0xC5 ∧ i = .instanceQuery tag) ∨
      (c.opcode = 0xC8 ∧ i = .dirtyLogStart tag) ∨ (c.opcode = 0xC9 ∧ i = .dirtyLogStop tag) ∨
      (c.opcode = 0xCA ∧ i = .dirtyLogHarvest tag) ∨ (c.opcode = 0xCD ∧ i = .setLatencyTolerance tag) →
    (s.cmds.map (·.tag)).Nodup → exec i (s.takeMgmt c) = exec i s) ∧
  (∀ (s : State) (tag : Nat) (c : Cmd) (rec : List Byte), AdminCmd s tag c → c.opcode = 0xC0 →
    let i := Instr.instanceCreate tag rec
    let auto := bitOf (c.d 10).toNat 31
    let restore := bitOf (c.d 14).toNat 0
    let masks := [(10, 2 ^ 31 + 0x3FF), (11, 0xFFFFF), (12, 0x1FFFF), (13, 0xFFFF), (14, 1)] ++ if restore then prp1Masks else []
    let open_ (r : Nat) := s.inPort c.port r = true ∧ s.isManager r = false ∧ (s.inst r).state = .free
    let closing := (s.inst c.row).state = .resetting ∨ (s.inst c.row).state = .deleting
    let pasid := c.f 11 19 0
    let share := c.f 12 16 0
    let unused := ∀ e ∈ s.insts, e.2.state ≠ .free → e.2.pasid ≠ some pasid
    let room := share ≤ 65536 ∧ s.shareSum c.port none + share ≤ s.shareMax
    let att := if restore then nsBits (slice rec 80 32) else []
    let fits := c.fits masks = true ∧ c.prp1 % 8 = 0
    let mine := s.inPort c.port c.row = true ∧ s.isManager c.row = false
    (c.checked = true → Answers i s s c .success c.dw0 c.dw1 []) ∧
    (c.checked = false →
      (¬ fits → Answers i s s c .invalidField 0 0 []) ∧
      (fits → auto = false → ¬ mine → Answers i s s c .invalidField 0 0 []) ∧
      (fits → auto = false → mine → closing → Answers i s s c .instanceReset 0 0 []) ∧
      (fits → auto = false → mine → (s.inst c.row).state = .active → Answers i s s c .invalidField 0 0 []) ∧
      (fits → auto = true → (∀ r, ¬ open_ r) → Answers i s s c .invalidField 0 0 []) ∧
      (∀ r, fits → (if auto then open_ r ∧ ∀ x, x < r → ¬ open_ x else r = c.row ∧ open_ r) →
        (¬ unused ∨ ¬ room → Answers i s s c .invalidField 0 0 []) ∧
        (unused → room → (∃ n ∈ att, s.nsOf n = none) → Answers i s s c .invalidNamespace 0 0 []) ∧
        (unused → room → (∀ n ∈ att, s.nsOf n ≠ none) → Sparse.sorted s.regs = true → Sparse.sorted s.insts = true → ∃ t, exec i s = .next t ∧
          Ended s c .success r c.dw1 [] t ∧ (∀ j, j ≠ r → j ≠ c.inst → t.inst j = s.inst j) ∧
          t = { s with out := t.out, cmds := t.cmds, insts := t.insts, cq := t.cq, regs := t.regs } ∧
          (∀ o, o ≠ Reg.INS_CMD_DEADLINE r → t.reg o = s.reg o) ∧
          (t.reg (Reg.INS_CMD_DEADLINE r)).toNat = (if c.f 13 15 0 = 0 then 500 else min (c.f 13 15 0) 60000) ∧
          t.inst r = { state := .active, pasid := some pasid, share := share, gen := (s.inst r).gen
                       attach := att.map (fun n => (n, (nsBits (slice rec 112 32)).contains n))
                       heldSq := if restore then heldOf rec 64 1024 true else []
                       heldCq := if restore then heldOf rec 72 1536 false else [] })))) ∧
  (∀ (s : State) (tag : Nat) (c : Cmd), AdminCmd s tag c → c.opcode = 0xC2 →
    let i := Instr.instanceSetShare tag
    let v := c.f 11 16 0
    let fits := c.fits [(10, 0x3FF), (11, 0x1FFFF)] = true
    (c.checked = true → Answers i s s c .success c.dw0 c.dw1 []) ∧
    (c.checked = false →
      (¬ fits → Answers i s s c .invalidField 0 0 []) ∧
      (∀ e, fits → s.rowCheck c false = some e → Answers i s s c e 0 0 []) ∧
      (fits → s.rowCheck c false = none →
        (v = 0 → s.isManager c.row = true → Answers i s s c .shareZero 0 0 []) ∧
        (v ≠ 0 ∨ s.isManager c.row = false →
          (65536 < v ∨ s.shareMax < s.shareSum c.port (some c.row) + v → Answers i s s c .invalidField 0 0 []) ∧
          (v ≤ 65536 → s.shareSum c.port (some c.row) + v ≤ s.shareMax → Sparse.sorted s.insts = true → ∃ t, exec i s = .next t ∧
            Ended s c .success c.dw0 c.dw1 [] t ∧ same s t c.row c ∧
            (c.row ≠ c.inst → t.inst c.row = { s.inst c.row with share := v }) ∧ (t.inst c.row).share = v))))) ∧
  (∀ (s : State) (tag : Nat) (c : Cmd), AdminCmd s tag c → c.opcode = 0xC4 → Sparse.sorted s.insts = true →
    let i := Instr.instanceAttachNamespace tag
    let n := c.f 11 31 0
    let off := bitOf (c.d 12).toNat 0
    let has := ∃ ro, (n, ro) ∈ (s.inst c.row).attach
    let gone := ∀ v, s.nsOf n = some v → v.deleting ≠ none
    let fits := c.fits [(10, 0x3FF), (11, full), (12, 3)] = true
    let passes := c.checked = true ∨ (fits ∧ s.rowCheck c false = none ∧ 0 < n ∧ n ≤ 256)
    let sets (l : List (Nat × Bool)) := ∃ t, exec i s = .next t ∧ Ended s c .success c.dw0 c.dw1 [] t ∧ same s t c.row c ∧
      (t.inst c.row).attach = l ∧ bitOf (t.inst c.row).err.toNat 10 = true ∧
      (c.row ≠ c.inst → t.inst c.row = { s.inst c.row with attach := l, err := (s.inst c.row).err ||| 0x400 })
    (c.checked = false → ¬ fits → Answers i s s c .invalidField 0 0 []) ∧
    (∀ e, c.checked = false → fits → s.rowCheck c false = some e → Answers i s s c e 0 0 []) ∧
    (c.checked = false → fits → s.rowCheck c false = none → n = 0 ∨ 256 < n → Answers i s s c .invalidField 0 0 []) ∧
    (passes → off = true → has → sets ((s.inst c.row).attach.filter (fun a => decide (a.1 ≠ n)))) ∧
    (passes → off = true → ¬ has → Answers i s s c .success c.dw0 c.dw1 []) ∧
    (passes → off = false → gone → Answers i s s c (if c.checked then .success else .invalidNamespace)
      (if c.checked then c.dw0 else 0) (if c.checked then c.dw1 else 0) []) ∧
    (passes → off = false → ¬ gone →
      sets ((s.inst c.row).attach.filter (fun a => decide (a.1 ≠ n)) ++ [(n, bitOf (c.d 12).toNat 1)]))) ∧
  ∀ (s : State) (tag : Nat) (c : Cmd), AdminCmd s tag c → c.opcode = 0xC5 →
    let i := Instr.instanceQuery tag
    let ok := c.fits ((10, 0x3FF) :: prp1Masks) = true ∧ c.prp1 % 8 = 0 ∧ s.inPort c.port c.row = true
    let writes (l : List Byte) := Answers i s s c .success c.dw0 c.dw1 [.write c.port none c.prp1 l false (s.port c.port).cfg.ido]
    (s.instRecord c.row).length = 2048 ∧
    (c.checked = true → c.data ≠ [] → writes c.data) ∧
    (c.checked = false → ¬ ok → Answers i s s c .invalidField 0 0 []) ∧
    (c.checked = false → ok → writes (s.instRecord c.row))

/-- R65, R73 to R77, Table 3-8. -/
def Obligations.InsReset : Prop :=
  (∀ (s : State) (tag : Nat) (c : Cmd) (i : Instr) (st : InstState), AdminCmd s tag c →
    (c.opcode = 0xC3 ∧ i = .instanceReset tag ∧ st = .resetting) ∨ (c.opcode = 0xC1 ∧ i = .instanceDelete tag ∧ st = .deleting) →
    let fits := c.fits [(10, 0x3FF)] = true
    (c.checked = true → exec i s = .next s) ∧
    (c.checked = false → ¬ fits → Answers i s s c .invalidField 0 0 []) ∧
    (∀ e, c.checked = false → fits → s.rowCheck c true = some e → Answers i s s c e 0 0 []) ∧
    (c.checked = false → fits → s.rowCheck c true = none → Sparse.sorted s.insts = true → (s.cmds.map (·.tag)).Nodup → ∃ t, exec i s = .next t ∧ t.out = s.out ∧
      (t.inst c.row).state = st ∧ (t.inst c.row).gen = (s.inst c.row).gen + 1 ∧ (t.inst c.row).mgmtTag = tag ∧
      (t.inst c.row).drain = 0 ∧ (∀ j, j ≠ c.row → t.inst j = s.inst j) ∧
      (∀ g, g ≤ (s.inst c.row).gen → t.alive c.row g = false) ∧
      t.cmd? tag = some { c with checked := true } ∧
      (∀ x ∈ t.cmds, x.inst = c.row → x.admin = false → x.dead = true) ∧
      (∀ x ∈ s.cmds, x.tag ≠ tag → x.inst ≠ c.row ∨ x.admin = true ∨ x.dead = true → x ∈ t.cmds) ∧
      (∀ x ∈ s.cmds, x.inst = c.row → x.admin = false → x.dead = false → s.gotAll x = true →
        ∃ y ∈ t.cmds, y = { x with dead := true, owed := true, shards := y.shards }) ∧
      (∀ x ∈ s.cmds, x.inst = c.row → x.admin = false → x.dead = false → s.gotAll x = false → ∀ y ∈ t.cmds, y.tag ≠ x.tag) ∧
      (∀ j ∈ t.shd, j.inst = c.row → j.started = true) ∧ t.ksu.owner ≠ some c.row)) ∧
  ∀ (s : State) (r : Nat) (c : Cmd), AdminCmd s (s.inst r).mgmtTag c → r ≠ c.inst →
    (∀ i, (i = .instanceResetComplete r ∧ (s.inst r).state ≠ .resetting) ∨ (i = .instanceDeleteComplete r ∧ (s.inst r).state ≠ .deleting) ∨
      ((i = .instanceResetComplete r ∨ i = .instanceDeleteComplete r) ∧ (s.inst r).drain < 4) → exec i s = .next s) ∧
    (4 ≤ (s.inst r).drain → Sparse.sorted s.insts = true →
      ((s.inst r).state = .resetting → ∃ t, exec (.instanceResetComplete r) s = .next t ∧ Ended s c .success 0 0 [] t ∧
        t.inst r = { s.inst r with state := .active, err := (s.inst r).err ||| 0x100 } ∧
        (∀ e ∈ t.sq, s.isAdminRow e.1 = false → e.2.valid = true → e.2.inst ≠ r) ∧
        (∀ e ∈ t.cq, s.isAdminRow e.1 = false → e.2.valid = true → e.2.inst ≠ r) ∧
        (∀ j, j ≠ r → j ≠ c.inst → t.inst j = s.inst j)) ∧
      ((s.inst r).state = .deleting → ∃ t, exec (.instanceDeleteComplete r) s = .next t ∧
        Ended s c .success 0 0 [] t ∧ t.inst r = { gen := (s.inst r).gen } ∧
        (∀ e ∈ t.sq, s.isAdminRow e.1 = false → e.2.valid = true → e.2.inst ≠ r) ∧
        (∀ e ∈ t.cq, s.isAdminRow e.1 = false → e.2.valid = true → e.2.inst ≠ r) ∧
        (r ≠ 0 → ∀ e ∈ t.imt, e.2.owner ≠ r) ∧
        (s.ksu.slots.length = 64 → ∀ n, n < 64 → (s.slot n).loaded = true → (s.slot n).owner = r → t.slot n = { gcm := (s.slot n).gcm }) ∧
        (∀ j, j ≠ r → j ≠ c.inst → t.inst j = s.inst j)))

/-- R65, R78 to R83. -/
def Obligations.InsLogs : Prop :=
  (∀ (s : State) (tag : Nat) (c : Cmd) (i : Instr), AdminCmd s tag c → c.checked = true →
    (c.opcode = 0xC8 ∧ i = .dirtyLogStart tag) ∨ (c.opcode = 0xC9 ∧ i = .dirtyLogStop tag) ∨
      (c.opcode = 0xCA ∧ i = .dirtyLogHarvest tag) ∨ (c.opcode = 0xCD ∧ i = .setLatencyTolerance tag) →
    Answers i s s c .success c.dw0 c.dw1 []) ∧
  (∀ (s : State) (tag : Nat) (c : Cmd), AdminCmd s tag c → c.opcode = 0xC8 → c.checked = false → c.dw0 = 0 → c.dw1 = 0 →
    let i := Instr.dirtyLogStart tag
    let fits := c.fits ([(10, 0x3FF), (11, full), (12, 0xFFFFF), (13, full)] ++ prp1Masks ++ prp2Masks) = true
    let first := c.f 11 31 0 + 2 ^ 32 * c.f 12 19 0
    let n := c.f 13 31 0
    let d : DirtyLog := { running := true, first := first, npages := n, bufA := BitVec.ofNat 64 c.prp1, bufB := BitVec.ofNat 64 c.prp2 }
    let run := (s.inst c.row).dlog.running
    (¬ fits → Answers i s s c .invalidField 0 0 []) ∧
    (∀ e, fits → s.rowCheck c true = some e → Answers i s s c e 0 0 []) ∧
    (fits → s.rowCheck c true = none →
      (c.prp1 % 64 ≠ 0 ∨ c.prp2 % 64 ≠ 0 → Answers i s s c .invalidField 0 0 []) ∧
      (c.prp1 % 64 = 0 → c.prp2 % 64 = 0 →
        (run = true → Answers i s s c .sequenceError 0 0 []) ∧
        (run = false → 2 ^ 52 < first + n + 1 → Answers i s s c .invalidField 0 0 []) ∧
        (run = false → first + n + 1 ≤ 2 ^ 52 → Sparse.sorted s.insts = true → ∃ t, exec i s = .next t ∧ Ended s c .success 0 0 [] t ∧
          t.inst c.row = { s.inst c.row with dlog := d } ∧ (∀ j, j ≠ c.row → j ≠ c.inst → t.inst j = s.inst j) ∧
          t = { s with out := t.out, cmds := t.cmds, insts := t.insts, cq := t.cq })))) ∧
  (∀ (s : State) (tag : Nat) (c : Cmd) (i : Instr), AdminCmd s tag c → c.checked = false → c.dw0 = 0 → c.dw1 = 0 →
    (c.opcode = 0xC9 ∧ i = .dirtyLogStop tag) ∨ (c.opcode = 0xCA ∧ i = .dirtyLogHarvest tag) →
    let fits := c.fits [(10, 0x3FF)] = true
    let ok := fits ∧ s.rowCheck c false = none
    let d := (s.inst c.row).dlog
    let all := d.inBuf ++ d.pend.filter (fun p => !d.inBuf.contains p)
    let lines := (d.pend.map (fun p => (p - d.first) / 512)).dedup
    let base := if d.activeB then d.bufB.toNat else d.bufA.toNat
    let w := if d.fault then [] else
      lines.map (fun k => Out.orLine (s.portOf c.row) (base + 64 * k) (bitmapLine d.first k d.pend))
    let g := (d.gen + 1) % 65536
    let same (t : State) := (∀ j, j ≠ c.row → j ≠ c.inst → t.inst j = s.inst j) ∧
      t = { s with out := t.out, cmds := t.cmds, insts := t.insts, cq := t.cq }
    (¬ fits → Answers i s s c .invalidField 0 0 []) ∧
    (∀ e, fits → s.rowCheck c false = some e → Answers i s s c e 0 0 []) ∧
    (ok → d.running = false → Answers i s s c .sequenceError 0 0 []) ∧
    (ok → d.running = true → c.opcode = 0xCA → d.fault = true → Answers i s s c .dataTransfer 0 0 []) ∧
    (ok → d.running = true → c.opcode = 0xCA → d.fault = false → c.row ≠ c.inst → Sparse.sorted s.insts = true → ∃ t, exec i s = .next t ∧
      Ended s c .success (g * 65536 + b2n d.activeB) all.length [] t ∧ (∃ x, t.out = s.out ++ w ++ x) ∧ same t ∧
      t.inst c.row = { s.inst c.row with dlog := { d with activeB := !d.activeB, gen := g, inBuf := [], pend := [] } }) ∧
    (ok → d.running = true → c.opcode = 0xC9 → c.row ≠ c.inst → Sparse.sorted s.insts = true → ∃ t, exec i s = .next t ∧
      Ended s c .success 0 0 [] t ∧ (∃ x, t.out = s.out ++ w ++ x) ∧ same t ∧
      t.inst c.row = { s.inst c.row with dlog := { d with running := false, inBuf := all, pend := [] } })) ∧
  (∀ (s : State) (tag : Nat) (c : Cmd) (data : List Byte), AdminCmd s tag c → c.opcode = 0xCC →
    let i := Instr.peerTableSet tag data
    let first := c.f 10 6 0
    let n := c.f 11 7 0
    let key (k : Nat) := 128 * b2n c.port + first + k
    let entry (k : Nat) := slice data (16 * k) 16
    let ok := c.fits ([(10, 0x7F), (11, 0xFF)] ++ prp1Masks) = true ∧ c.prp1 % 16 = 0 ∧ 0 < n ∧ first + n ≤ 128 ∧ ∀ k, k < n → peerFits (entry k) = true
    (¬ ok → Answers i s s c .invalidField 0 0 []) ∧
    (ok → ∃ t, exec i s = .next t ∧ Ended s c .success 0 0 [] t ∧ t.peers = s.peers ∧
      (∀ k, k < n → (key k, peerOf (entry k)) ∈ t.peerNext) ∧
      (∀ e ∈ t.peerNext, e ∈ s.peerNext ∨ ∃ k, k < n ∧ e = (key k, peerOf (entry k))) ∧
      (∀ e ∈ s.peerNext, (∀ k, k < n → e.1 ≠ key k) → e ∈ t.peerNext) ∧
      (∀ k, k < n → ∀ e ∈ t.peerNext, e.1 = key k → e.2 = peerOf (entry k)) ∧
      t = { s with out := t.out, cmds := t.cmds, insts := t.insts, cq := t.cq, peerNext := t.peerNext })) ∧
  ∀ (s : State) (tag : Nat) (c : Cmd), AdminCmd s tag c → c.opcode = 0xCD → c.checked = false →
    let r := Reg.PWR_LAT_TOL (if c.port then 1 else 0)
    (c.fits [(11, 0xFFFFFF)] = false → Answers (.setLatencyTolerance tag) s s c .invalidField 0 0 []) ∧
    (c.fits [(11, 0xFFFFFF)] = true → Sparse.sorted s.regs = true →
      ∃ t, exec (.setLatencyTolerance tag) s = .next t ∧ Ended s c .success c.dw0 c.dw1 [] t ∧ (t.reg r).toNat = c.f 11 23 0 ∧
        (∀ o, o ≠ r → t.reg o = s.reg o) ∧ t = { s with out := t.out, cmds := t.cmds, insts := t.insts, cq := t.cq, regs := t.regs })

/-- R87, R128, R254, R256, R257; R28 for the partitions. -/
def Obligations.KvLookups : Prop :=
  (∀ (s : State) (tag op : Nat) (c : Cmd) (n : Namespace) (ns : Nat) (i : Instr) (segs : List (Nat × Nat)), KvCmd s tag c op n ns → c.phase = .fetched →
    (op = 0x14 ∧ i = .kvExist tag) ∨ (op = 0x10 ∧ i = .kvDelete tag) ∨ (op = 0x02 ∧ i = .kvRetrieve tag segs) →
    let u := s.bump Reg.IDX_LOOKUP_CNT
    let k := c.key
    let part := [(1, s.keyPart ns k)]
    let sized := 0 < c.kl ∧ c.kl ≤ 16
    let admitted := if op = 0x10 then s.writeCheck c = none else s.health ≠ .failed
    (¬ sized → Answers i s s c .invalidKeySize 0 0 []) ∧
    (sized → op ≠ 0x10 → s.health = .failed → Answers i s s c .internalError 0 0 []) ∧
    (∀ st, sized → op = 0x10 → s.writeCheck c = some st → Answers i s s c st 0 0 []) ∧
    (sized → admitted → AwaitsMap i s tag c part []) ∧
    (sized → admitted → InPlace s part [] →
      (s.lookup ns k = none → Answers i s u c .keyAbsent 0 0 []) ∧
      (∀ len first, s.lookup ns k = some (len, first) →
        (op = 0x14 → Answers i s u c .success 0 0 []) ∧
        (op = 0x10 → ∃ t, exec i s = .next t ∧ Becomes s t tag { c with phase := .active } ∧ t = { u with cmds := t.cmds }) ∧
        (op = 0x02 → let m := spansOfLen (min len (c.d 10).toNat)
          let spans := (List.range m).map (fun j => first + j)
          InPlace s (s.partsOf c.nsid spans) (s.segsFor c.nsid spans) →
          ∃ t v, exec i s = .next t ∧ Becomes s t tag v ∧ SameKeys s t ∧ t.out = s.out ∧
          v = { c with phase := .active, issued := true, dw0 := len, imgs := v.imgs, data := v.data, rd := v.rd } ∧
          (∀ l : List (List Byte), l.length = m → (∀ j, j < m → s.readKvSpan [] n c.nsid (first + j) (kvSpanLen len j) = .ok (nth [] l j)) →
            v.data = l.flatten ∧ v.rd = c.rd))))) ∧
  (∀ (s : State) (tag : Nat) (c : Cmd) (n : Namespace) (ns : Nat) (segs : List (Nat × Nat)), KvCmd s tag c 0x02 n ns → c.phase = .active → c.issued = true →
    let i := Instr.kvRetrieve tag segs
    (s.ioDone tag = false → exec i s = .next s) ∧
    (s.ioDone tag = true →
      (∀ ch m r, c.badImgs = (ch, m) :: r → ∃ t sp, exec i s = .next t ∧ Logged s c .unrecoveredRead 0 0 0 sp t ∧
        t.ftl = { s.ftl with dataErrors := s.ftl.dataErrors + 1 }) ∧
      (∀ e, c.badImgs = [] → c.rd = some e → ∃ t, exec i s = .next t ∧ Logged s c e.st e.dw0 e.dw1 0 e.span t) ∧
      (c.badImgs = [] → c.rd = none → ∃ t, exec i s = .next t ∧
        Ended s c .success c.dw0 0 (c.moved s segs (c.data.take (c.d 10).toNat)) t ∧ SameKeys s t))) ∧
  ∀ (s : State) (tag : Nat) (c : Cmd) (n : Namespace) (ns : Nat) (segs : List (Nat × Nat)), KvCmd s tag c 0x06 n ns → c.phase = .fetched →
    let i := Instr.kvList tag segs
    let room := (c.d 10).toNat
    let start := s.listStart c ns
    (16 < c.kl → Answers i s s c .invalidKeySize 0 0 []) ∧
    (c.kl ≤ 16 → s.health = .failed → Answers i s s c .internalError 0 0 []) ∧
    (c.kl ≤ 16 → s.health ≠ .failed → s.rebuild.phase = 1 → AwaitsMap i s tag c [(1, start / 2 ^ 33)] []) ∧
    (c.kl ≤ 16 → s.health ≠ .failed → (∀ p, s.unbuilt (1, p) = false) → ∃ t got rest, exec i s = .next t ∧
      (s.idx.walk ns).filter (fun e => decide (start ≤ e.1)) = got ++ rest ∧
      (got.map (fun e => (listItem e.2).length)).sum ≤ room - 4 ∧
      (∀ e r, rest = e :: r → room - 4 < (got.map (fun e => (listItem e.2).length)).sum + (listItem e.2).length) ∧
      Ended s c .success 0 0 (c.moved s segs ((leBytes 4 got.length ++ got.flatMap (fun e => listItem e.2)).take room)) t ∧
      SameKeys s t ∧ t = { s with regs := (if c.kl = 0 then s else s.bump Reg.IDX_LOOKUP_CNT).regs, out := t.out, cmds := t.cmds, insts := t.insts, cq := t.cq, idx := { s.idx with seqs := t.idx.seqs } } ∧
      (c.kl = 0 → start = 0))

/-- R87, R90, R100, R101, R177, R253 to R255; R28 for the partitions. -/
def Obligations.KvStores : Prop :=
  (∀ (s : State) (tag : Nat) (c : Cmd) (n : Namespace) (ns : Nat) (data : List Byte), KvCmd s tag c 0x01 n ns → c.phase = .fetched →
    let i := Instr.kvStore tag data
    let k := spansOfLen c.vlen
    let part := [(1, s.keyPart ns c.key)]
    let sized := 0 < c.kl ∧ c.kl ≤ 16
    let much := s.kvOver n ns [(c.key, c.vlen)]
    (¬ sized → Answers i s s c .invalidKeySize 0 0 []) ∧
    (sized → 8388608 < c.vlen → Answers i s s c .invalidValueSize 0 0 []) ∧
    (sized → c.vlen ≤ 8388608 → c.sgl = true → data.length < c.vlen → Answers i s s c .sglLength 0 0 []) ∧
    (sized → c.vlen ≤ 8388608 → c.sgl = false → data.length < c.vlen → exec i s = .next s) ∧
    (sized → c.vlen ≤ 8388608 → c.vlen ≤ data.length →
      (∀ st, s.writeCheck c = some st → Answers i s s c st 0 0 []) ∧
      (s.writeCheck c = none → much = true → Answers i s s c .capacityExceeded 0 0 []) ∧
      (s.writeCheck c = none → much = false → AwaitsMap i s tag c part []) ∧
      (s.writeCheck c = none → much = false → InPlace s part [] →
        (0 < c.vlen → firstFit (s.usedRuns ns c.nsid) (kvSpans n) k = none → ∃ t, exec i s = .next t ∧ Ended s c .capacityExceeded 0 0 [] t) ∧
        (∀ a, (if c.vlen = 0 then a = 0 else firstFit (s.usedRuns ns c.nsid) (kvSpans n) k = some a) → (s.ftl.slots.map (·.idx)).Nodup →
          ∃ t, exec i s = .next t ∧ Becomes s t tag { c with phase := .active, waits := [a] } ∧ t.out = s.out ∧ SameKeys s t ∧
          KeepsMap s t ∧ (0 < c.vlen → (tag, c.nsid, a, k) ∈ t.idx.taken) ∧
          ∀ j, j < k → ∃ v ∈ t.ftl.slots, v.nsid = c.nsid ∧ v.span = a + j ∧ (∃ r ∈ t.chest.pending, r.change = .slot v.idx tag) ∧
            ∀ g, 262144 * j + 4096 * g < min c.vlen (262144 * (j + 1)) →
              (tag, g, slice (data.take c.vlen) (262144 * j + 4096 * g) 4096) ∈ v.recv)))) ∧
  (∀ (s : State) (tag : Nat) (c : Cmd) (n : Namespace) (ns : Nat) (list data : List Byte), KvCmd s tag c 0x8D n ns → c.phase = .fetched →
    let i := Instr.kvBatchCommit tag list data
    let m := c.f 12 5 0 + 1
    let tlen := (c.d 13).toNat
    let es := batchEntries list m
    let parts := (es.map (fun e => (1, s.keyPart ns e.key))).dedup
    let looked := s.count Reg.IDX_LOOKUP_CNT 31 0 es.length
    let clean := c.vendorOk = true ∧ c.zero [2, 3, 14, 15] = true ∧ c.f 12 31 6 = 0 ∧ c.q 10 % 32 = 0 ∧ (tlen = 0 → c.zero [6, 7, 8, 9] = true)
    let listed := 32 * m ≤ list.length
    let formed := ∀ e ∈ es, e.ok = true
    let small := tlen ≤ 8388608 ∧ ∀ e ∈ es, e.vlen ≤ 8388608
    let inside := ∀ e ∈ es, e.voff + e.vlen ≤ tlen
    (¬ clean → Answers i s s c .invalidField 0 0 []) ∧
    (clean → ¬ listed → exec i s = .next s) ∧
    (clean → listed → ¬ formed → Answers i s s c .invalidField 0 0 []) ∧
    (clean → listed → formed → ¬ small → Answers i s s c .invalidValueSize 0 0 []) ∧
    (clean → listed → formed → small → ¬ inside → Answers i s s c .invalidField 0 0 []) ∧
    (clean → listed → formed → small → inside →
      (∀ x, dupEntry 0 [] es = some x → Answers i s s c .batchConflict x 1 []) ∧
      (dupEntry 0 [] es = none → c.sgl = true → data.length < tlen → Answers i s s c .sglLength 0 0 []) ∧
      (dupEntry 0 [] es = none → c.sgl = false → data.length < tlen → exec i s = .next s) ∧
      (dupEntry 0 [] es = none → tlen ≤ data.length →
        (∀ st, s.writeCheck c = some st → Answers i s s c st 0 0 []) ∧
        (s.writeCheck c = none → s.batchOver n ns es = true → Answers i s s c .capacityExceeded 0 0 []) ∧
        (s.writeCheck c = none → s.batchOver n ns es = false → AwaitsMap i s tag c parts []) ∧
        (s.writeCheck c = none → s.batchOver n ns es = false → InPlace s parts [] →
          (∀ p, looked.batchValues c n ns data es [] = .error p → ∃ t, exec i s = .next t ∧ Ended s c .capacityExceeded 0 0 [] t) ∧
          (∀ u fs, looked.batchValues c n ns data es [] = .ok (u, fs) → ∃ t, exec i s = .next t ∧ t = { u with cmds := t.cmds } ∧
            t.out = s.out ∧ SameKeys s t ∧ KeepsMap s t ∧
            Becomes s t tag { c with phase := .active, waits := fs, data := list.take (32 * m) } ∧
            fs.length = (es.filter (fun e => decide (e.op ≠ 4) && decide (e.vlen ≠ 0))).length))))) ∧
  ∀ (s : State) (tag op : Nat) (c : Cmd) (n : Namespace) (ns : Nat), s.cmd? tag = some c → c.admin = false → c.opcode = op →
    s.kindNs c .kv = some n → s.kvSlot c.nsid = some ns →
    let i := Instr.kvCommitPoint tag
    let here := s.lookup ns c.key
    let held := c.phase = .active ∧ (∀ r ∈ s.chest.pending, r.change.tag? ≠ some tag) ∧ ∀ v ∈ s.ftl.slots, ∀ r ∈ v.recv, r.1 ≠ tag
    let fails (st : Status) (a b : Nat) := Answerable s tag c → let f := c.fail.getD (st, a, b)
      ∃ t, exec i s = .next t ∧ Ended s c f.1 f.2.1 f.2.2 [] t ∧ SameKeys s t ∧ ∀ h ∈ t.idx.taken, h.1 ≠ tag
    let es := batchEntries c.data (c.f 12 5 0 + 1)
    let sorted := Sparse.sorted s.idx.table = true ∧ Sparse.sorted s.idx.stash = true
    (¬ held → exec i s = .next s) ∧
    (held → op = 0x01 ∨ op = 0x81 →
      (here ≠ none → c.mustNotExist = true → fails .keyExists 0 0) ∧
      (here = none → c.mustExist = true → fails .keyAbsent 0 0) ∧
      ((here = none ∧ c.mustExist = false) ∨ (here ≠ none ∧ c.mustNotExist = false) →
        (s.kvOver n ns [(c.key, c.vlen)] = true ∨ s.idx.store s.free (.key ns c.key c.vlen (c.waits.headD 0)) = none →
          fails .capacityExceeded 0 0) ∧
        (s.kvOver n ns [(c.key, c.vlen)] = false → sorted →
          here ≠ none ∨ (s.idx.find (keyItem ns c.key) = none ∧ s.idx.gib ≠ 0 ∧ s.idx.placed = true ∧
            s.idx.freeSlot (s.keyPart ns c.key) (s.idx.placeOf (keyItem ns c.key)).2.1 ≠ none) →
          ∃ t, exec i s = .next t ∧ t.out = s.out ∧ Becomes s t tag { c with phase := .received, waits := [] } ∧
            t.lookup ns c.key = some (c.vlen, c.waits.headD 0) ∧ (∀ k, k ≠ c.key → t.lookup ns k = s.lookup ns k) ∧
            (∀ x, x ≠ ns → ∀ k, t.lookup x k = s.lookup x k) ∧ (∀ h ∈ t.idx.taken, h.1 ≠ tag) ∧
            ∀ len first, here = some (len, first) → ∀ j, j < spansOfLen len → t.spanEntry c.nsid (first + j) = trimEntry))) ∧
    (held → op = 0x10 →
      (here = none → Answerable s tag c → Answers i s s c .keyAbsent 0 0 []) ∧
      (here ≠ none → sorted → (s.idx.erase (keyItem ns c.key)).find (keyItem ns c.key) = none →
        ∃ t, exec i s = .next t ∧ t.out = s.out ∧ Becomes s t tag { c with phase := .received } ∧ t.lookup ns c.key = none ∧
          (∀ k, k ≠ c.key → t.lookup ns k = s.lookup ns k) ∧ ∀ x, x ≠ ns → ∀ k, t.lookup x k = s.lookup x k)) ∧
    (held → op = 0x8D →
      (∀ x r, s.batchConflict ns 0 es = some (x, r) → fails .batchConflict x r) ∧
      (s.batchConflict ns 0 es = none → s.batchOver n ns es = true ∨ (∃ p, s.applyBatch c.nsid ns c.waits es = .error p) →
        fails .capacityExceeded 0 0) ∧
      (∀ u, s.batchConflict ns 0 es = none → s.batchOver n ns es = false → s.applyBatch c.nsid ns c.waits es = .ok u →
        ∃ t, exec i s = .next t ∧ t.out = u.out ∧ SameKeys u t ∧ (∀ h ∈ t.idx.taken, h.1 ≠ tag) ∧
          Becomes u t tag { c with phase := .received, waits := [] }))

/-- R91 to R93, R97, R98, R223; R28 and R156 for the partitions and the segments. -/
def Obligations.PipStarts : Prop :=
  (∀ (s : State) (tag op : Nat) (c : Cmd) (i : Instr) (d tb : List Byte) (segs : List (Nat × Nat)), Answerable s tag c → c.admin = false →
    c.opcode = op → (op = 0x82 ∧ i = .pipeRead tag d tb segs) ∨ (op = 0x86 ∧ i = .pipeScan tag d tb segs) →
    (c.phase ≠ .fetched → exec i s = .next s) ∧
    (c.phase = .fetched → c.pipeCmdOk = false → Answers i s s c .invalidField 0 0 []) ∧
    (c.phase = .fetched → c.pipeCmdOk = true → leField d 1 1 ≠ 0 → s.claspWaiting ≠ [] ∨ 64 ≤ s.runs.length → ∃ t, exec i s = .next t ∧
      Becomes s t tag { c with phase := .waitClasp } ∧ t = { s.bump Reg.CLP_WAIT_CNT with cmds := t.cmds })) ∧
  (∀ (s : State) (d tb : List Byte) (segs : List (Nat × Nat)), s.claspWaiting = [] ∨ 64 ≤ s.runs.length →
    exec (.claspContextGrant d tb segs) s = .next s) ∧
  ∀ (s : State) (tag : Nat) (c : Cmd) (i : Instr) (d0 tb0 : List Byte) (segs : List (Nat × Nat)), Answerable s tag c → c.admin = false →
    (i = .claspContextGrant d0 tb0 segs ∧ s.claspWaiting.head? = some c ∧ s.runs.length < 64) ∨
      (c.phase = .fetched ∧ c.pipeCmdOk = true ∧ (leField d0 1 1 = 0 ∨ (s.claspWaiting = [] ∧ s.runs.length < 64)) ∧
        ((c.opcode = 0x82 ∧ i = .pipeRead tag d0 tb0 segs) ∨ (c.opcode = 0x86 ∧ i = .pipeScan tag d0 tb0 segs))) →
    let d := (c.desc.getD (d0, tb0)).1
    let tb := (c.desc.getD (d0, tb0)).2
    (s.nsOf c.nsid = none → Answers i s s c .invalidNamespace 0 0 []) ∧
    ∀ n, s.nsOf c.nsid = some n →
    (s.health = .failed → Answers i s s c .internalError 0 0 []) ∧
    (s.health ≠ .failed →
      let found := s.pipeStart c n d tb segs
      (∀ st a, found = .ends st a → Answers i s s c st a 0 []) ∧
      (found = .success → Answers i s s c .success 0 0 []) ∧
      (∀ p, found = .empty p →
        (∀ u, s.sinkWrite c p segs 0 (List.replicate 64 0) = some u → ∃ t, exec i s = .next t ∧ Ended u c .success 0 0
          (if p.target = 2 then [.zeroRead c.port none ((u.peerEntry c.port p.peer).base + p.offset)] else []) t) ∧
        (s.sinkWrite c p segs 0 (List.replicate 64 0) = none → ∃ t, exec i s = .next t ∧ Ended s c .peerFailed 0 p.peer [] t)) ∧
      ∀ p g, found = .runs p g →
      let c1 := { c with desc := some (d, tb) }
      let asks (x : RunSpan) : RunSpan := if s.spanResident c.nsid x.span && x.dir.isEmpty then { x with asked := true } else x
      let starts (t : State) (r : Run) := exec i s = .next t ∧ t.out = s.out ∧ t.runs = s.runs ++ [r] ∧ SameKeys s t ∧ KeepsMap s t ∧
        Becomes s t tag { c1 with phase := .active, issued := true } ∧
        r = { tag := tag, inst := c.inst, pipe := p, prog := g, mem := p.memory, segs := segs, spans := r.spans }
      (s.claspRoom p.memory = false → ∃ t, exec i s = .next t ∧ t.out = s.out ∧ t.runs = s.runs ∧ Becomes s t tag { c1 with phase := .waitClasp }) ∧
      (s.claspRoom p.memory = true → n.kind = .nvm →
        let a := if p.kind = 0 then p.slba else 0
        let k := if p.kind = 0 then p.lbacnt else n.size
        let parts := s.partsOf c.nsid ((lbaSpans a k).map (·.1))
        AwaitsMap i s tag c1 parts [] ∧
        (InPlace s parts [] → ∃ (t : State) (r : Run), starts t r ∧ r.spans = (s.nvmRunSpans p n c.nsid a k).map asks)) ∧
      (s.claspRoom p.memory = true → n.kind = .kv → s.kvSlot c.nsid = none → Answers i s s c .invalidNamespace 0 0 []) ∧
      (∀ ns, s.claspRoom p.memory = true → n.kind = .kv → s.kvSlot c.nsid = some ns →
        let keys := if p.kind = 1 then [(1, s.keyPart ns p.lkey)] else (s.rebuild.idxLeft ++ s.idx.damaged).map (fun q => (1, q))
        let vs := if p.kind = 1 then (s.lookup ns p.lkey).toList
          else s.valuesIn ns (fun k => decide (p.kind ≠ 2) || (!bytesLt k p.lkey && !bytesLt p.hkey k))
        let spans := vs.flatMap (fun v => (List.range (spansOfLen v.1)).map (v.2 + ·))
        let parts := s.partsOf c.nsid spans
        AwaitsMap i s tag c1 keys [] ∧
        (InPlace s keys [] → p.kind = 1 → s.lookup ns p.lkey = none → Answers i s (s.bump Reg.IDX_LOOKUP_CNT) c .keyAbsent 0 0 []) ∧
        (InPlace s keys [] → p.kind ≠ 1 ∨ s.lookup ns p.lkey ≠ none → AwaitsMap i s tag c1 parts [] ∧
          (InPlace s parts [] → ∃ (t : State) (r : Run), starts t r ∧ r.spans.map (·.span) = spans))))

/-- R55, R82, R97, R98, R156, R206, R216, R222, R228, R262. -/
def Obligations.PipRuns : Prop :=
  (∀ (s : State) (tag sp : Nat), s.cmd? tag = none ∨ s.run? tag = none ∨ (∃ r, s.run? tag = some r ∧ r.nextSpan sp = none) →
    exec (.spanDecode tag sp) s = .next s) ∧
  (∀ (s : State) (tag : Nat) (c : Cmd) (r : Run) (x : RunSpan), Answerable s tag c → s.run? tag = some r → r.nextSpan x.span = some x →
    let i := Instr.spanDecode tag x.span
    let segs := s.segsFor c.nsid [x.span]
    let fails (e : RdErr) := ∃ t lba, exec i s = .next t ∧ told t.out = told s.out ++ r.peerRead s c ++ [c.entry s e.st e.dw0 e.dw1 true] ∧
      t.cmds = s.cmds.filter (fun y => decide (y.tag ≠ tag)) ∧ (t.ctrl c.port).errLog = (e.st.code, c.sq, lba, e.span) :: (s.ctrl c.port).errLog ∧
      (e.st = .unrecoveredRead → t.ftl.dataErrors = s.ftl.dataErrors + 1) ∧ t.run? tag = none
    (x.asked = false →
      ((∃ k ∈ segs, s.segLost k = true) → ∃ t, exec i s = .next t ∧ Broken s c r .drawerUnavailable 0 0 t) ∧
      ((∀ k ∈ segs, s.segLost k = false) → s.spanResident c.nsid x.span = false ∨ s.imgsDone tag x.dir = false → exec i s = .next s) ∧
      ((∀ k ∈ segs, s.segLost k = false) → s.spanResident c.nsid x.span = true → s.imgsDone tag x.dir = true →
        let passed := (x.skip = 1 ∨ x.skip = 2) ∧ ∀ im ∈ x.dir, im ∉ c.badImgs
        ∃ t, exec i s = .next t ∧ t.out = s.out ∧ t.cmds = s.cmds ∧
          (passed → t = (s.setRun (r.dropSpan x.span)).bump (if x.skip = 1 then Reg.IDX_BLOOM_SKIP else Reg.IDX_DIR_SKIP)) ∧
          (¬ passed → t.run? tag = some (r.putSpan { x with dir := [], asked := true })))) ∧
    (x.asked = true → s.imgsDone tag x.imgs = false → exec i s = .next s) ∧
    (x.asked = true → s.imgsDone tag x.imgs = true →
      (∀ im ∈ x.imgs, im ∈ c.badImgs → fails ⟨.unrecoveredRead, 0, 0, x.span⟩) ∧
      (∀ e, (∀ im ∈ x.imgs, im ∉ c.badImgs) → x.bad = some e → fails e) ∧
      ((∀ im ∈ x.imgs, im ∉ c.badImgs) → x.bad = none →
        let l := formLeaf r.pipe x.data 0 x.lo x.hi
        let u := s.strand x.strand
        let flags := if l.recs.any (fun y => y.1.overLong) then r.flags ||| 32 else r.flags
        let counted : Run := { r.dropSpan x.span with leaves := r.leaves + 1, flags := flags }
        let o := leafOutput r.pipe x.data l
        (∃ (t : State) (q : Run) (k : Nat), exec i s = .next t ∧ t.out = s.out ∧ t.cmds = s.cmds ∧ x.next ≤ k ∧ q.rbytes = r.rbytes ∧ q.records = r.records ∧ q.pipe = r.pipe ∧
          q.spans = r.spans ∧ t.run? tag = some (if leavesOf x.data.length ≤ k then q.dropSpan x.span else q.putSpan { x with next := k })) ∧
        (x.next = 0 → leavesOf x.data.length = 1 → x.lo < min x.hi x.data.length →
          (∀ g, r.prog = some g →
            let empty := r.pipe.skipEmpty = true ∧ r.pipe.hasPred = true ∧ l.nsel = 0
            (empty → ∃ t, exec i s = .next t ∧ t.run? tag = some { counted with skipped := r.skipped + 1 } ∧ t.strand x.strand = u) ∧
            (¬ empty → s.leafFree x.strand = [] → ∃ t, exec i s = .next t ∧ t.run? tag = some (r.putSpan { x with next := 0 }) ∧ t.strand x.strand = u) ∧
            (¬ empty → s.leafFree x.strand ≠ [] → ∃ t, ∃ j ∈ s.leafFree x.strand, exec i s = .next t ∧ t.run? tag = some counted ∧
              (t.strand x.strand).leaves = u.leaves ++ [{ tag := r.tag, span := x.span, k := 0, seq := r.leaves, slot := j }] ∧
              (t.strand x.strand).mover = u.mover ∧ (t.strand x.strand).outUsed = u.outUsed)) ∧
          (r.prog = none → o.1.length ≤ 16384 →
            (o.1 = [] → ∃ t, exec i s = .next t ∧ t.run? tag = some counted ∧ t.strand x.strand = u) ∧
            (o.1 ≠ [] → u.outFree = [] → ∃ t, exec i s = .next t ∧ t.run? tag = some (r.putSpan { x with next := 0 }) ∧ t.strand x.strand = u) ∧
            (o.1 ≠ [] → u.outFree ≠ [] → ∃ t, ∃ j ∈ u.outFree, exec i s = .next t ∧ t.run? tag = some counted ∧ (t.strand x.strand).leaves = u.leaves ∧
              (t.strand x.strand).outUsed = u.outUsed ++ [j] ∧ (t.strand x.strand).mover = u.mover ++
                [{ tag := r.tag, slots := [j], seq := r.leaves, bytes := o.1, cuts := o.2.1, records := o.2.2 }])))))) ∧
  (∀ (s : State) (n : Nat),
    let i := Instr.moverForward n
    let u := s.strand n
    ((∀ o ∈ u.mover, s.mayForward n o = false) → exec i s = .next s) ∧
    ∀ o, u.mover.find? (s.mayForward n) = some o →
      let v := (s.setStrand n { u with mover := u.mover.erase o, outUsed := u.outUsed.filter (fun j => !o.slots.contains j) }).bump64
        (Reg.STR_MOV_LO n) o.bytes.length
      (s.run? o.tag = none → exec i s = .next v) ∧
      ∀ c r, s.run? o.tag = some r → Answerable s o.tag c →
        let recs := cutRecords r.pipe.rlen o.bytes
        let r1 : Run := if o.bytes.length % max 1 r.pipe.rlen = 0 then r else { r with flags := r.flags ||| 16 }
        let q : Run := { r1 with heads := upsert r1.heads n (headsOf r1.heads n ++ recs) }
        (r.pipe.op = 1 → Delivers i s v c r (concatPieces o) (fun w k => exec i s = .next (w.setRun k))) ∧
        (r.pipe.op = 2 → ∀ j, j < 32 → headsOf q.heads j = [] → v.streamLive q j = true →
          ∃ t, exec i s = .next t ∧ t.out = s.out ∧ t.cmds = s.cmds ∧ t.strands = v.strands ∧ t.run? o.tag = some q) ∧
        (r.pipe.op = 2 → (∀ j, j < 32 → headsOf q.heads j ≠ [] ∨ v.streamLive q j = false) → ∃ w : State, w.out = s.out ∧ w.cmds = s.cmds ∧
          w.strands = v.strands ∧ ∃ (got : List (List Byte)) (k : Run), Delivers i s w c k (got.map (fun y => (y, 1))) (fun z y => exec i s = .next (z.setRun y)) ∧
            got.head? = q.bestHead.map (fun b => (headsOf q.heads b).headD [])) ∧
        (r.pipe.op = 3 → ∃ t, exec i s = .next t ∧ t.out = s.out ∧ t.cmds = s.cmds ∧ t.strands = v.strands ∧ t.run? o.tag = some (recs.foldl Run.aggregate r1)) ∧
        (r.pipe.op = 4 → r.top.length ≤ r.pipe.count → ∃ t l, exec i s = .next t ∧ t.out = s.out ∧ t.cmds = s.cmds ∧ t.strands = v.strands ∧
          t.run? o.tag = some { r1 with top := l } ∧ l.length = min r.pipe.count (r.top.length + recs.length))) ∧
  (∀ (s : State) (n : Nat) (body : List Byte),
    let i := Instr.sinkFrame n body
    ((∀ o ∈ (s.strand n).mover, s.wantsFrame o = false) → exec i s = .next s) ∧
    ∀ pre o post c r, (s.strand n).mover = pre ++ o :: post → (∀ x ∈ pre, s.wantsFrame x = false) → s.wantsFrame o = true →
    s.run? o.tag = some r → Answerable s o.tag c →
    let f := sinkFormat r.pipe.format
    let frame := wrapFormat f o.bytes body
    let keep := frame.length ≤ keepLimit o.bytes.length (s.fieldNow (Reg.PRS_MIN_SAVING n) 7 0) ∧
      (inflateAny f frame none).1 = o.bytes ∧ (inflateAny f frame none).2.1 = 0
    let becomes (b : List Byte) := ∃ t, exec i s = .next t ∧ t.out = s.out ∧ t.cmds = s.cmds ∧ t.runs = s.runs ∧
      (t.strand n).mover = pre ++ { o with bytes := b, cuts := [b.length], framed := true } :: post
    (keep → becomes frame) ∧ (¬ keep → r.pipe.expandFail = false → becomes (storedForm f o.bytes)) ∧
    (¬ keep → r.pipe.expandFail = true → ∃ t, exec i s = .next t ∧ Broken s c r .notCompressible (min r.rbytes 0xFFFFFFFF) 0 t)) ∧
  (∀ (s : State) (tag : Nat), s.cmd? tag = none ∨ s.run? tag = none → exec (.claspStreamEnd tag) s = .next s) ∧
  (∀ (s : State) (tag : Nat) (c : Cmd) (r : Run), Answerable s tag c → s.run? tag = some r →
    let i := Instr.claspStreamEnd tag
    let a := s.rest r
    ((∃ n, n < 32 ∧ s.streamLive r n = true) → exec i s = .next s) ∧
    ((∀ n, n < 32 → s.streamLive r n = false) → ∃ v : State, v.out = s.out ∧ v.cmds = s.cmds ∧ v.insts = s.insts ∧ v.peers = s.peers ∧ v.dram = s.dram ∧
      (r.pipe.op = 1 → v = s ∧ a.1 = r ∧ a.2 = []) ∧
      Delivers i s v c a.1 (a.2.map (fun x => (x, 1))) (fun w k => ∃ t, exec i s = .next t ∧ Closed w c k .success t))) ∧
  ∀ (s : State) (c : Cmd) (p : Pipe) (segs : List (Nat × Nat)) (off : Nat) (b : List Byte), b ≠ [] → s.alive c.inst c.gen = true → Linked s →
    (∀ a m, p.target = 0 → segs = [(a, m)] → off + b.length ≤ m → ∃ u, s.sinkWrite c p segs off b = some u ∧ told u.out = told s.out ++
      [.write (s.portOf c.inst) (if s.isManager c.inst then none else (s.inst c.inst).pasid) (a + off) b (s.port c.port).relaxed
        (s.port (s.portOf c.inst)).cfg.ido]) ∧
    (p.target = 1 → s.sinkWrite c p segs off b = some (s.slmWrite p.nsid (p.offset + off) b)) ∧
    (2 ≤ p.target → let e := s.peerEntry c.port p.peer
      let adr := e.base + (p.offset + off)
      (s.peerOk c.port c.inst p.peer adr b.length = false → s.sinkWrite c p segs off b = none) ∧
      (s.peerOk c.port c.inst p.peer adr b.length = true →
        s.sinkWrite c p segs off b = some (s.emit (.peer c.port adr b e.relaxed e.atTranslated))))

/-- R55, R67, R82, R99, R263 to R269, R373. -/
def Obligations.ShdJobs : Prop :=
  (∀ (s : State) (tag : Nat) (c : Cmd) (d data : List Byte), Answerable s tag c → c.admin = false → c.opcode = 0x85 →
    let i := Instr.shardEncode tag d data
    let len := (c.d 12).toNat
    let slm := bitOf (c.d 13).toNat 0
    let good := c.vendorOk = true ∧ c.zero [2, 3] = true ∧ c.q 10 % 64 = 0 ∧ len ≤ 8388608 ∧ (c.d 13).toNat < 2 ∧
      (if slm then c.zero [6, 7, 8, 9] = true else c.nsid = 0 ∧ c.zero [14, 15] = true)
    let bytes := if slm then s.slmRead c.nsid (c.q 14) len else data.take len
    (c.phase ≠ .fetched → exec i s = .next s) ∧
    (c.phase = .fetched → ¬ good → Answers i s s c .invalidField 0 0 []) ∧
    (c.phase = .fetched → good → len = 0 → Answers i s s c .success 0 0 []) ∧
    (c.phase = .fetched → good → 0 < len →
      (slm = true → s.slmHolds c.nsid (c.q 14) len = false → Answers i s s c .invalidField 0 0 []) ∧
      (slm = false → data.length < len → c.sgl = true → Answers i s s c .sglLength 0 0 []) ∧
      (slm = false → data.length < len → c.sgl = false → exec i s = .next s) ∧
      ((slm = true → s.slmHolds c.nsid (c.q 14) len = true) → (slm = false → len ≤ data.length) →
        (∀ st, s.encodeCheck c d len = some st → Answers i s s c st 0 0 []) ∧
        (s.encodeCheck c d len = none → slm = true → s.slmPlaced = false → Answers i s s c .nsNotReady 0 0 []) ∧
        (s.encodeCheck c d len = none → slm = true → s.slmPlaced = true → s.slmBad c.nsid (c.q 14) len = true →
          ∃ t, exec i s = .next t ∧ Ended s c .unrecoveredRead 0 0 [] t ∧ t.ftl.dataErrors = s.ftl.dataErrors + 1) ∧
        (s.encodeCheck c d len = none → (slm = true → s.slmPlaced = true ∧ s.slmBad c.nsid (c.q 14) len = false) →
          (s.shardRoom = false → exec i s = .next s) ∧
          (s.shardRoom = true → ∃ t j, exec i s = .next t ∧ Becomes s t tag { c with phase := .active } ∧
            t = { s with cmds := t.cmds, shd := s.shd ++ [j] } ∧ j.tag = tag ∧ j.gen = c.gen ∧ j.inst = c.inst ∧ j.rebuild = false ∧
            j.fromPipe = false ∧ j.k = leField d 1 1 ∧ j.m = leField d 2 1 ∧ j.unit = 2 ^ leField d 3 1 ∧ j.data = bytes ∧
            j.dests = shardDests d ∧ j.started = false ∧ j.suppressed = false))))) ∧
  (∀ (s : State) (tag : Nat) (c : Cmd) (d : List Byte) (srcs : List (List Byte)), Answerable s tag c → c.admin = false → c.opcode = 0x89 →
    let i := Instr.shardRebuild tag d srcs
    let k := leField d 1 1
    let len := leField d 4 4
    let use := (presentOf d).take k
    let isHost (j : Nat) : Bool := decide ((shardDest d j).kind = 1)
    let good := c.vendorOk = true ∧ c.nsid = 0 ∧ c.zero [2, 3, 6, 7, 8, 9, 12, 13, 14, 15] = true ∧ c.q 10 % 64 = 0 ∧
      shardLayout d true = true ∧ s.shardTargets c len (shardDests d) = true
    let lost := ∃ j ∈ use, (shardDest d j).kind = 2 ∧ s.slmBad (shardDest d j).nsid (shardDest d j).addr len = true
    let unread := ∃ t, exec i s = .next t ∧ Ended s c .unrecoveredRead 0 0 [] t ∧ t.ftl.dataErrors = s.ftl.dataErrors + 1
    (c.phase ≠ .fetched → exec i s = .next s) ∧
    (c.phase = .fetched → ¬ good → Answers i s s c .invalidField 0 0 []) ∧
    (c.phase = .fetched → good → s.shardNotReady (shardDests d) = true → Answers i s s c .nsNotReady 0 0 []) ∧
    (c.phase = .fetched → good → s.shardNotReady (shardDests d) = false →
      (use.length < k → unread) ∧
      (use.length = k → (∀ x ∈ shardDests d, x.rebuild = false) → Answers i s s c .success 0 0 []) ∧
      (use.length = k → (∃ x ∈ shardDests d, x.rebuild = true) →
        (lost → unread) ∧ (¬ lost → s.shardRoom = false → exec i s = .next s) ∧
        (¬ lost → s.shardRoom = true → ∃ t j, exec i s = .next t ∧ Becomes s t tag { c with phase := .active } ∧
          t = { s with cmds := t.cmds, shd := s.shd ++ [j] } ∧ j.tag = tag ∧ j.rebuild = true ∧ j.fromPipe = false ∧ j.k = k ∧ j.shlen = len ∧
          j.dests = shardDests d ∧ j.srcs.map (·.1) = use ∧ ∀ n, n < k → nth [] (j.srcs.map (·.2)) n =
            if isHost (nth 0 use n) then fit len (nth [] srcs ((use.take n).filter isHost).length)
            else s.slmRead (shardDest d (nth 0 use n)).nsid (shardDest d (nth 0 use n)).addr len)))) ∧
  (∀ (s : State) (stall : Option Nat), (s.shd = [] ∨ ∃ j ∈ s.shd, j.started = true) → exec (.shardJobStart stall) s = .next s) ∧
  (∀ (s : State) (j : ShardJob) (rest : List ShardJob) (stall : Option Nat), s.shd = j :: rest → (∀ x ∈ s.shd, x.started = false) → Linked s →
    let i := Instr.shardJobStart stall
    let s1 := s.bump64 Reg.SHD_IN_LO (if j.rebuild then j.k * j.shlen else j.data.length)
    let sends (l : List (Nat × Nat × List Byte)) : Option State :=
      l.foldlM (fun u w => (u.shardWrite j w).map (fun v => v.bump64 Reg.SHD_OUT_LO w.2.2.length)) s1
    (∀ u, stall = none → sends j.writes = some u → ∃ t, exec i s = .next t ∧
      ShardLeaves u j .success (if j.rebuild then 0 else padOf j.data.length j.k j.unit) j.targets.length none t) ∧
    (∀ m u, stall = some m → sends (j.writes.take m) = some u → ∃ t, exec i s = .next t ∧ t = { u with shd := t.shd } ∧
      t.shd = u.shd.map (fun x => if x.tag = j.tag then { x with started := true, issued := min m j.writes.length } else x)) ∧
    (∀ pre w post u, j.writes = pre ++ w :: post → pre.length < stall.getD j.writes.length → sends pre = some u → u.shardWrite j w = none →
      ∃ t, exec i s = .next t ∧ ShardLeaves u j .peerFailed w.1 (u.shardDw1 (j.dest w.1)) (some (.peerFailed, w.1, u.shardDw1 (j.dest w.1))) t)) ∧
  (∀ (s : State) (j : ShardJob) (w : Nat × Nat × List Byte), Linked s → w.2.2 ≠ [] →
    let d := j.dest w.1
    let at_ := (s.peerEntry j.port d.peer).base + (d.addr + w.2.1)
    (s.alive j.inst j.gen = true → s.jobAlive j = false → s.shardWrite j w = some s) ∧
    (s.jobAlive j = true → d.kind = 1 → ∃ u, s.shardWrite j w = some u ∧ told u.out = told s.out ++
      [.write (s.portOf j.inst) (if s.isManager j.inst then none else (s.inst j.inst).pasid) (d.addr + w.2.1) w.2.2 (s.port j.port).relaxed
        (s.port (s.portOf j.inst)).cfg.ido]) ∧
    (s.jobAlive j = true → d.kind = 2 → s.shardWrite j w = if s.slmPlaced then some (s.slmWrite d.nsid (d.addr + w.2.1) w.2.2) else none) ∧
    (s.jobAlive j = true → d.kind = 3 → s.shardWrite j w = if s.peerOk j.port j.inst d.peer at_ w.2.2.length then
      some (s.emit (.peer j.port at_ w.2.2 (s.peerEntry j.port d.peer).relaxed (s.peerEntry j.port d.peer).atTranslated)) else none)) ∧
  (∀ (k u : Nat) (data : List Byte) (st n : Nat), n < k → encodeUnit k u data st n = fit u (slice data ((st * k + n) * u) u)) ∧
  ∀ (s : State), ((∀ j ∈ s.shd, j.started = false) → exec .shardJobTimeout s = .next s) ∧
    ∀ (j : ShardJob), Linked s → s.shd.find? (fun x => x.started) = some j →
      ∃ t n, exec .shardJobTimeout s = .next t ∧ (∀ x, j.nextShard = some x → n = x) ∧ bitOf (t.reg Reg.SHD_ERR).toNat 3 = true ∧
        ShardLeaves s j .peerFailed n (s.shardDw1 (j.dest n)) (some (.peerFailed, n, s.shardDw1 (j.dest n))) t

/-- R90, R135, R137, R139, R143, R144, R167, R177, R239, R259; R28 and R156 for the map. -/
def Obligations.IngWrites : Prop :=
  (∀ (s : State) (tag : Nat) (c : Cmd) (n : Namespace) (idesc shdesc data : List Byte), Answerable s tag c → c.admin = false → c.opcode = 0x81 →
    s.nsOf c.nsid = some n →
    let i := Instr.pipeWrite tag idesc shdesc data
    let len := (c.d 12).toNat
    let k := len / 4096
    let a := c.q 10
    let kv : Bool := decide (n.kind = .kv)
    let bytes := data.take len
    let good := (n.kind = .kv ∨ (n.kind = .nvm ∧ n.lbaf = 0)) ∧ pipeWriteOk c kv idesc = true
    let sized := n.kind = .kv → len ≤ 8388608
    let check := if c.shd = true ∧ len ≠ 0 then s.encodeCheck c shdesc len
      else if c.shd = true ∧ shardLayout shdesc false = false then some .invalidField else none
    let room := c.shd = false ∨ len = 0 ∨ s.shardRoom = true
    let sharded := c.shd = true ∧ bytes ≠ []
    let ingested (t : State) (v : Cmd) (spans : Nat) :=
      told t.out = told s.out ++ (if c.digest then [.write (s.portOf c.inst) (if s.isManager c.inst then none else (s.inst c.inst).pasid)
        (leField idesc 8 8) (hash 0 bytes) (s.port c.port).relaxed (s.port (s.portOf c.inst)).cfg.ido] else []) ∧
      t.shd = s.shd ++ (if sharded then [shardJob c shdesc bytes true] else []) ∧
      Becomes s t tag { v with encodes := spans, shards := if sharded then 1 else 0
                               dw1 := if sharded then padOf bytes.length (leField shdesc 1 1) (2 ^ leField shdesc 3 1) else 0 }
    (c.phase ≠ .fetched → exec i s = .next s) ∧
    (c.phase = .fetched →
    (¬ good → Answers i s s c .invalidField 0 0 []) ∧
    (good → ¬ sized → Answers i s s c .invalidValueSize 0 0 []) ∧
    (good → sized → data.length < len → c.sgl = true → Answers i s s c .sglLength 0 0 []) ∧
    (good → sized → data.length < len → c.sgl = false → exec i s = .next s) ∧
    (∀ st, good → sized → len ≤ data.length → check = some st → Answers i s s c st 0 0 []) ∧
    (good → sized → len ≤ data.length → check = none → ¬ room → exec i s = .next s) ∧
    (good → sized → len ≤ data.length → check = none → room → n.kind = .nvm →
      let names := (lbaSpans a k).map (·.1)
      let parts := s.partsOf c.nsid names
      let segs := s.segsFor c.nsid names
      (len = 0 → ∃ t, exec i s = .next t ∧ Ended s c .success 0 0 (if c.digest then
        [.write (s.portOf c.inst) (if s.isManager c.inst then none else (s.inst c.inst).pasid) (leField idesc 8 8) (hash 0 [])
          (s.port c.port).relaxed (s.port (s.portOf c.inst)).cfg.ido] else []) t) ∧
      (0 < len → n.size < a + k → Answers i s s c .lbaRange 0 0 []) ∧
      (0 < len → a + k ≤ n.size →
        (∀ st, s.nvmAdmit c n a k = some st → st ≠ .unrecoveredRead → Answers i s s c st 0 0 []) ∧
        (s.nvmAdmit c n a k = some .unrecoveredRead → ∃ t, exec i s = .next t ∧ Logged s c .unrecoveredRead 0 0 (a / 64 * 64) (a / 64) t) ∧
        (s.nvmAdmit c n a k = none → AwaitsMap i s tag c parts segs) ∧
        (s.nvmAdmit c n a k = none → InPlace s parts segs → (s.ftl.slots.map (·.idx)).Nodup → ∃ t, exec i s = .next t ∧
          ingested t { c with phase := .received } (lbaSpans a k).length ∧ KeepsMap s t ∧
          ∀ j, j < k → ∃ v ∈ t.ftl.slots, v.nsid = c.nsid ∧ v.span = (a + j) / 64 ∧
            (tag, (a + j) % 64, slice data (4096 * j) 4096) ∈ v.recv ∧ ∃ r ∈ t.chest.pending, r.change = .slot v.idx tag))) ∧
    (∀ ns, good → sized → len ≤ data.length → check = none → room → n.kind = .kv → s.kvSlot c.nsid = some ns →
      let m := spansOfLen len
      let part := [(1, s.keyPart ns c.key)]
      (∀ st, s.writeCheck c = some st → Answers i s s c st 0 0 []) ∧
      (s.writeCheck c = none → s.kvOver n ns [(c.key, len)] = true → Answers i s s c .capacityExceeded 0 0 []) ∧
      (s.writeCheck c = none → s.kvOver n ns [(c.key, len)] = false → AwaitsMap i s tag c part []) ∧
      (s.writeCheck c = none → s.kvOver n ns [(c.key, len)] = false → InPlace s part [] →
        (0 < len → firstFit (s.usedRuns ns c.nsid) (kvSpans n) m = none → ∃ t, exec i s = .next t ∧ Ended s c .capacityExceeded 0 0 [] t) ∧
        (∀ b, (if len = 0 then b = 0 else firstFit (s.usedRuns ns c.nsid) (kvSpans n) m = some b) → (s.ftl.slots.map (·.idx)).Nodup →
          ∃ t, exec i s = .next t ∧ ingested t { c with phase := .active, waits := [b] } m ∧ SameKeys s t ∧ KeepsMap s t ∧
            ∀ j, j < m → ∃ v ∈ t.ftl.slots, v.nsid = c.nsid ∧ v.span = b + j ∧ ∃ r ∈ t.chest.pending, r.change = .slot v.idx tag))))) ∧
  ∀ (s : State) (x : Nat) (g : Option Nat) (body : List Byte) (parts : List (Nat × List Byte)) (p : Place),
    let i := Instr.imageEncode x g body parts p.toSpot p.stripes
    (s.slotAt x = none → exec i s = .next s) ∧
    ∀ v, s.slotAt x = some v →
    (s.nsOf v.nsid = none → exec i s = .next s) ∧
    ∀ n, s.nsOf v.nsid = some n →
    let save := s.fieldNow (Reg.PRS_MIN_SAVING p.ch) 7 0
    let due := v.state = .held ∧ v.done = false ∧ (v.fresh ≠ [] ∨ g = some 64) ∧ s.placeOk v g.isNone p = true
    let grains := v.imgs.any (fun l => decide (l.grain ≠ some 64))
    let old := s.needsOld v
    let stores (plain : List Byte) (fresh tags : List Nat) :=
      let enc := encodeImage save body plain
      let u := unitsOf enc.2.length
      (s.placeImage (if p.slc then 0 else 1) p u = none → exec i s = .next s) ∧
      ∀ w m, s.placeImage (if p.slc then 0 else 1) p u = some (w, m) → ∃ (t : State) (img : Img) (o : LunOp) (y : Slot), exec i s = .next t ∧
        t.out = s.out ∧ img ∈ t.ftl.imgs ∧ img.ch = p.ch ∧ img.maddr = m ∧ img.len = u ∧ img.raw = enc.1 ∧ img.bytes = enc.2 ∧
        img.nsid = v.nsid ∧ img.span = v.span ∧ img.grain = g ∧ img.shelf = p.slc ∧ img.stripes = p.stripes ∧
        o ∈ (t.lun p.ch p.lun).queue ∧ o.kind = .program ∧ o.maddr = m ∧ o.cls = 3 ∧ o.slot = some v.idx ∧
        (∃ r ∈ t.chest.pending, r.change = .image p.ch m) ∧
        t.slotAt x = some y ∧ y.fresh = fresh ∧ y.tags = tags ∧ y.programs = v.programs + 1 ∧ y.state = v.state ∧ y.grains = v.grains ∧
        y.imgs = v.imgs ++ [{ grain := g, maddr := m, len := u, raw := enc.1, shelf := p.slc }]
    let splits := ∃ t y, exec i s = .next t ∧ t.out = s.out ∧ t.slotAt x = some y ∧ y.rmwBad = false ∧
      (s.blockFree = true → y.grainImages = true ∧ y.stuck = false ∧ ∃ r ∈ t.chest.pending, r.change = .splinter v.nsid v.span) ∧
      (s.blockFree = false → y.grainImages = v.grainImages ∧ y.stuck = true)
    (¬ due → exec i s = .next s) ∧
    (due → g = some 64 → v.dir = none ∨ (∃ l ∈ v.imgs, l.grain = some 64) → exec i s = .next s) ∧
    (∀ d, due → g = some 64 → v.dir = some d → (∀ l ∈ v.imgs, l.grain ≠ some 64) → stores d v.fresh v.tags) ∧
    (∀ y, due → g = some y → y ≠ 64 →
      let wanted := v.grainImages = true ∧ y ∈ v.fresh ∧ s.splintered v.nsid v.span = true
      (¬ wanted ∨ (∀ e ∈ v.grains, e.1 ≠ y) → exec i s = .next s) ∧
      (∀ b, wanted → v.grains.find? (fun e => decide (e.1 = y)) = some b →
        let left := v.fresh.filter (fun e => decide (e ≠ y))
        stores b.2 left (if left = [] then [] else v.tags))) ∧
    (due → g = none → v.grainImages = true ∨ v.stuck = true ∨ grains = true → exec i s = .next s) ∧
    (due → g = none → v.grainImages = false → v.stuck = false → grains = false →
      (old ≠ [] → v.rmwAsked = false → ∃ t, exec i s = .next t ∧ t.out = s.out ∧ t.slotAt x = some { v with rmwAsked := true }) ∧
      (old = [] ∨ v.rmwAsked = true → s.reading (.rmw v.idx) = true → exec i s = .next s) ∧
      (old = [] ∨ v.rmwAsked = true → s.reading (.rmw v.idx) = false →
        (v.rmwBad = true → splits) ∧ (∀ e, v.rmwBad = false → s.slotPlain v n = .error e → splits) ∧
        (∀ plain, v.rmwBad = false → s.slotPlain v n = .ok plain → stores plain [] [])))

/-- R233, R235, R238 to R240. -/
def Obligations.ImageReads : Prop :=
  ∀ (save : Nat) (body p : List Byte), p.length < 2 ^ 32 →
    let e := encodeImage save body p
    spanDecode e.1 p.length (unitsOf e.2.length) e.2 = .ok p ∧ e.2.length ≤ 512 * unitsOf e.2.length ∧
    e.2.length ≤ max (p.length + 16) 17

/-- R13, R41, R238, R240, R243 to R248. -/
def Obligations.PrsJobs : Prop :=
  (∀ (s : State) (src : Src) (n : Nat) (hi : DWord) (p : Bool), (src = .host p ∧ (s.pins.dual = false ∨ p = s.ownerPort)) ∨ ((∃ k, src = .cc k) ∧ p = s.ownerPort) →
    let i := Instr.pressJobSubmit src n hi
    let lo := (s.staged src (Reg.PRS_JOB_LO n)).toNat
    let q := (s.strand n).press
    let refuses (b : Nat) := ∃ t, exec i s = .next t ∧ t = { s with regs := t.regs } ∧ bitOf (t.reg (Reg.PRS_ERR n)).toNat b = true
    (lo % 64 ≠ 0 → refuses 3) ∧
    (lo % 64 = 0 → s.field (Reg.PRS_CTL n) 0 0 = 0 ∨ 4 ≤ q.length → refuses 2) ∧
    (lo % 64 = 0 → s.field (Reg.PRS_CTL n) 0 0 ≠ 0 → q.length < 4 → ∃ t, exec i s = .next t ∧
      (t.strand n).press = q ++ [{ desc := BitVec.ofNat 64 (hi.toNat * 2 ^ 32 + lo), port := p }] ∧
      (∀ m, m ≠ n → t.strand m = s.strand m) ∧ t = { s with strands := t.strands, pwr := t.pwr })) ∧
  (∀ (s : State) (n : Nat) (hi : DWord) (p : Bool), s.pins.dual = true → p ≠ s.ownerPort → ∃ t, exec (.pressJobSubmit (.host p) n hi) s = .next t ∧
    t = { s with regs := t.regs } ∧ bitOf (t.reg (Reg.HIF_ERR (if p then 1 else 0))).toNat 7 = true) ∧
  (∀ (s : State) (n k : Nat) (hi : DWord) (p : Bool), exec (.pressJobSubmit (.page p k) n hi) s = .next s) ∧
  (∀ (s : State) (n : Nat) (desc src dst data body : List Byte) (rf : Bool), (s.strand n).press = [] →
    exec (.pressJobStart n desc src dst) s = .next s ∧ exec (.pressJobSlice n data body rf) s = .next s) ∧
  (∀ (s : State) (n : Nat) (j : PressJob) (rest : List PressJob) (d src dst data body : List Byte) (rf : Bool), (s.strand n).press = j :: rest →
    Linked s → Sparse.sorted s.strands = true →
    let fl := leField d 3 1
    let who : PressJob := { j with pv := bitOf fl 0, pasid := leField d 4 4 % 2 ^ 20 }
    let from_ := chainOf src (leField d 16 2)
    let into := chainOf dst (leField d 18 2)
    let x : PressJob := { who with
      started := true, op := leField d 0 1, format := leField d 1 1, expandFail := decide (leField d 2 1 = 1), irq := bitOf fl 1
      olen := if bitOf fl 2 then some (leField d 20 4) else none, status := BitVec.ofNat 64 (leField d 32 8 / 32 * 32), vector := leField d 40 2 % 2048
      src := from_, dst := into, saving := s.fieldNow (Reg.PRS_MIN_SAVING n) 7 0, left := chainLen from_ }
    let ok := pressDescOk d = true ∧ s.chainOk (s.pressInst who) (2 ^ 26) from_ = true ∧ s.chainOk (s.pressInst who) (2 ^ 28) into = true
    (j.started = true → exec (.pressJobStart n d src dst) s = .next s) ∧
    (j.started = false → exec (.pressJobSlice n data body rf) s = .next s) ∧
    (j.started = false → ok → ∃ t, exec (.pressJobStart n d src dst) s = .next t ∧ (t.strand n).press = x :: rest ∧ t = { s with strands := t.strands }) ∧
    (j.started = false → ¬ ok → ∃ t chk, exec (.pressJobStart n d src dst) s = .next t ∧ PressEnds s n rest x 0x80 0 0 0 chk false t)) ∧
  ∀ (s : State) (n : Nat) (j : PressJob) (rest : List PressJob) (data body : List Byte) (rf : Bool), (s.strand n).press = j :: rest → j.started = true →
    Linked s → Sparse.sorted s.strands = true →
    let i := Instr.pressJobSlice n data body rf
    let k := min 65536 j.left
    let cut := chainCut j.src j.input.length k
    let inp := j.input ++ s.gather cut data
    let x : PressJob := { j with input := inp, left := j.left - k }
    let bad := ∃ e ∈ cut, e.2.2 ≠ 0 ∧ s.slmBad e.2.2 e.1 e.2.1 = true
    let room := chainLen j.dst
    let r := inflateAny j.format inp j.olen
    let frame := pressFrame j.format j.saving inp body
    let ends (st raw a b c : Nat) (out : List Byte) := ∃ t, exec i s = .next t ∧ PressEnds (s.chainWrite x j.dst out) n rest x st raw a b c rf t
    let full (raw : Nat) (out : List Byte) := ∃ a c, ends 7 raw a room c (out.take room)
    let writes (raw a c : Nat) (out : List Byte) := (out.length ≤ room → ends 0 raw a out.length c out) ∧ (room < out.length → full raw out)
    let sum := (crc32c inp).toNat
    (bad → ∃ t a b c, exec i s = .next t ∧ PressEnds s n rest j 0x81 0 a b c false t) ∧
    (¬ bad → k < j.left → ∃ t, exec i s = .next t ∧ (t.strand n).press = x :: rest ∧ t = { s with strands := t.strands }) ∧
    (¬ bad → j.left = k →
      (j.op = 1 → inp = [] → writes 0 0 sum (emptyForm j.format)) ∧
      (∀ f, j.op = 1 → inp ≠ [] → frame = some f → writes 0 inp.length sum f) ∧
      (j.op = 1 → inp ≠ [] → frame = none → j.expandFail = false → writes 1 inp.length sum (storedForm j.format inp)) ∧
      (j.op = 1 → inp ≠ [] → frame = none → j.expandFail = true → ∃ junk a c, ends 1 0 a 0 c junk) ∧
      (j.op ≠ 1 → r.2.1 = 0 → writes 0 inp.length (crc32c r.1).toNat r.1) ∧
      (j.op ≠ 1 → r.2.1 ≠ 0 → r.1.length ≤ room → ∃ c, ends r.2.1 0 r.2.2.1 r.2.2.2 c r.1) ∧
      (j.op ≠ 1 → r.2.1 ≠ 0 → room < r.1.length → full 0 r.1))

/-- R110, R112, R113, R119, R121 to R123, R127, R128, R131, R160, R170, Tables 5-8 and 5-11. -/
def Obligations.MediaOps : Prop :=
  let others (s t : State) (ch l : Nat) := ∀ c m, lunKey c m ≠ lunKey ch l → t.lun c m = s.lun c m
  let issues (s t : State) (l : List Change) := t.chest.pending.map (·.change) = s.chest.pending.map (·.change) ++ l
  let pends (t : State) (c : Change) := ∃ r ∈ t.chest.pending, r.change = c
  let freed (s t : State) (ch l : Nat) := t.lun ch l = { (s.lun ch l).ended with timeouts := 0, queue := (t.lun ch l).queue, ready := (t.lun ch l).ready }
  let retiring (s t : State) (ch l b cause : Nat) := (s.row ch l b).marked = false → (s.row ch l b).state ≠ .retired → (s.row ch l b).state ≠ .bad →
    (∀ x, ¬ pends s (.row ch l b (.retire x))) → (t.row ch l b).closing = true ∧ pends t (.row ch l b (.retire cause))
  let works (t : State) (ch l : Nat) (f : LunOp → Prop) := ∃ o ∈ (t.lun ch l).queue ++ (t.lun ch l).ready, f o
  (∀ (s : State) (ch l done : Nat) (pass : Bool) (cws : List CwOut),
    let runs (k : OpKind) := ∃ o, (s.lun ch l).running = some o ∧ o.kind = k
    (¬ runs .read ∨ s.profile? ch = none ∨ (s.chan ch).cal = true ∨ (∃ o, (s.lun ch l).running = some o ∧ cws.length ≠ o.cw) →
      exec (.nandReadComplete ch l cws) s = .next s) ∧
    (¬ runs .program → exec (.nandProgramComplete ch l pass done) s = .next s) ∧ (¬ runs .erase → exec (.nandEraseComplete ch l pass) s = .next s)) ∧
  (∀ (s : State) (ch l : Nat) (o : LunOp) (p : Profile) (cws : List CwOut), ch < 32 → s.profile? ch = some p → (s.chan ch).cal = false →
    (s.lun ch l).running = some o → (s.lun ch l).state = .active → o.kind = .read → cws.length = o.cw →
    let i := Instr.nandReadComplete ch l cws
    let soft := s.softWork ch l o cws
    let k := (cws.map (CwOut.moves (p.nretry o.slc))).sum
    let r := s.row ch l o.block
    let fits := (∀ w ∈ cws, CwOut.fits (p.nretry o.slc) w = true) ∧ s.soft.length + soft.length ≤ 1024
    let own := ∀ n, o.use ≠ .verify n
    (soft.length = (cws.filter CwOut.isSoft).length ∧ ∀ w ∈ soft, w.tag = o.tag ∧ w.cls = o.cls ∧ w.ch = ch ∧ w.lun = l ∧ w.block = o.block ∧
      w.maddr = o.maddr ∧ w.use = o.use) ∧
    (own → ¬ fits → exec i s = .next s) ∧
    (own → fits → ∃ t, exec i s = .next t ∧ t.soft = s.soft ++ soft ∧ t.out = s.out ∧ t.cmds = s.cmds ∧
      t.lun ch l = { (s.lun ch l).ended with timeouts := 0, queue := (t.lun ch l).queue, ready := (t.lun ch l).ready
                                             lastRetry := ((cws.filterMap CwOut.entry?).getLast?).getD (s.lun ch l).lastRetry } ∧
      ((∀ n, o.use ≠ .copy n) → others s t ch l ∧ (t.lun ch l).queue = (s.lun ch l).queue ∧ (t.lun ch l).ready = (s.lun ch l).ready) ∧
      (o.tag = none → t.insts = s.insts) ∧
      (o.tag ≠ none → Sparse.sorted s.insts = true → (∀ j, j ≠ o.inst → t.inst j = s.inst j) ∧
        t.inst o.inst = { s.inst o.inst with mtok := (s.inst o.inst).mtok - 65536 * (k : Int), charged := (s.inst o.inst).charged + k }) ∧
      (r.state ≠ .bad → (t.row ch l o.block).reads = min (r.reads + extraReads (p.nretry o.slc) (s.planesOf ch) (splitPages (s.opPages ch o) cws)) 0xFFFFFF) ∧
      (r.state = .opened ∨ r.state = .closed → r.marked = false → cws.any (CwOut.worn p.flipRefresh) = true → (t.row ch l o.block).candidate = true ∧
        (r.state = .opened → r.candidate = false → r.closing = false → (t.row ch l o.block).closing = true ∧ pends t (.row ch l o.block .close))) ∧
      (∀ n c, o.use = .copy n → s.copy? n = some c → c.stage = .reading → t.reading (.copy n) = false → s.profile? c.ch ≠ none →
        works t c.ch (maLun c.loc.maddr) (fun x => x.kind = .program ∧ x.copy = some c.id ∧ x.cls = 4 ∧ x.maddr = c.loc.maddr))) ∧
    (∀ n c, o.use = .verify n → s.copy? n = some c →
      let clean := ∀ w ∈ cws, CwOut.clean p.flipRefresh w = true
      let dropped (t : State) := (∀ m ∈ t.ftl.imgs, ¬ (m.ch = c.ch ∧ m.maddr = c.loc.maddr)) ∧ t.copy? n = none
      ∃ t, exec i s = .next t ∧ t.out = s.out ∧ t.cmds = s.cmds ∧ freed s t ch l ∧ others s t ch l ∧
        (clean → s.commits c.change = true → pends t c.change) ∧ (clean → s.commits c.change = false → dropped t) ∧
        (¬ clean → dropped t ∧ bitOf (t.reg Reg.FTL_CARE_ERR).toNat 3 = true ∧ (¬ pends s c.change → ¬ pends t c.change))) ∧
    (∀ n, o.use = .verify n → s.copy? n = none → ∃ t, exec i s = .next t ∧ t.out = s.out ∧ t.cmds = s.cmds ∧ freed s t ch l ∧ others s t ch l)) ∧
  (∀ (s : State) (ch l : Nat) (o : LunOp) (pass : Bool) (done : Nat), ch < 32 → (s.lun ch l).running = some o → (s.lun ch l).state = .active → o.kind = .program →
    ∃ t, exec (.nandProgramComplete ch l pass done) s = .next t ∧ t.out = s.out ∧ freed s t ch l ∧
      (pass = false → bitOf (t.reg (Reg.MED_ERR ch)).toNat 2 = true ∧ retiring s t ch l o.block 2 ∧
        (∀ n v, o.slot = some n → s.slotAt n = some v → (∃ w, t.slotAt n = some w ∧ w.state = .held ∧ w.programs = v.programs - 1 ∧
          ∀ m ∈ w.imgs, m.maddr ≠ o.maddr) ∧ ∀ m ∈ t.ftl.imgs, ¬ (m.ch = ch ∧ m.maddr = o.maddr)) ∧
        (∀ n c, o.slot = none → o.parity = none → o.copy = some n → s.copy? n = some c → t.copy? n = none)) ∧
      (∀ n v, pass = true → o.parity = none → o.slot = some n → s.slotAt n = some v →
        let last := v.programs ≤ 1 ∧ (∃ m ∈ v.imgs, m.grain ≠ some 64) ∧ (v.dir = none ∨ ∃ m ∈ v.imgs, m.grain = some 64)
        (last → issues s t [.spanCommit n]) ∧ (¬ last → issues s t []) ∧ ∃ w, t.slotAt n = some w ∧ w.programs = v.programs - 1) ∧
      (∀ id v, pass = true → o.parity = some id → s.stripe? id = some v →
        let a : PageAt := ⟨ch, l, o.block, o.page⟩
        (v.next = some a → issues s t [.stripe id (some a)]) ∧
        (v.next ≠ some a → v.parity = some a → t.stripe? id = some { v with done := true })) ∧
      (∀ n c, pass = true → o.parity = none → o.slot = none → o.copy = some n → s.copy? n = some c → s.img? c.ch c.loc.maddr ≠ none →
        issues s t [] ∧ t.copy? n = some { c with stage := .verifying } ∧
        works t c.ch (maLun c.loc.maddr) (fun x => x.kind = .read ∧ x.use = .verify c.id ∧ x.cls = 2 ∧ x.maddr = c.loc.maddr)) ∧
      (∀ g e, pass = true → o.parity = none → o.slot = none → o.copy = none → o.ckpt = some g →
        s.chest.ckptBusy.find? (fun x => decide (x.1 = g)) = some e → issues s t [.sysCommit g ch o.maddr o.units, .ckpt g e.2])) ∧
  (∀ (s : State) (ch l : Nat) (o : LunOp) (pass : Bool), ch < 32 → (s.lun ch l).running = some o → (s.lun ch l).state = .active → o.kind = .erase →
    ∃ t, exec (.nandEraseComplete ch l pass) s = .next t ∧ t.out = s.out ∧ t.cmds = s.cmds ∧ others s t ch l ∧ freed s t ch l ∧
      let r := s.row ch l o.block
      let v := t.row ch l o.block
      (pass = true → 1 < o.pages → (t.lun ch l).queue = { o with pages := o.pages - 1, ran := 0, ranSince := 0, suspends := 0 } :: (s.lun ch l).queue ∧
        t = { s with luns := t.luns }) ∧
      (pass = true → o.pages ≤ 1 → issues s t [] ∧ v.state = .free ∧ v.reads = 0 ∧ v.written = 0 ∧ v.eraseOpen = false ∧ v.pinned = false ∧
        v.candidate = false ∧ v.closing = false ∧ v.superblock = 0 ∧
        v.nativeErases = r.nativeErases + b2n (!r.slc) ∧ v.slcErases = r.slcErases + b2n r.slc ∧
        ∀ m, m ∈ t.ftl.imgs ↔ m ∈ s.ftl.imgs ∧ m.inRow ch l o.block = false) ∧
      (pass = false → retiring s t ch l o.block (if r.state = .suspect then 1 else 0) ∧ t.ftl.imgs = s.ftl.imgs ∧
        bitOf (t.reg (Reg.MED_ERR ch)).toNat 3 = true)) ∧
  (∀ (s : State) (ch l : Nat),
    let i := Instr.nandSuspendComplete ch l
    let u := s.lun ch l
    (∀ o, u.op = some o → o.suspReq = true →
      exec i s = .next (s.setLun ch l { u with op := some { o with suspReq := false, suspended := true, served := 0 } })) ∧
    ((∀ o, u.op = some o → o.suspReq = false) → exec i s = .next s)) ∧
  (∀ (s : State) (ch l : Nat) (pass : Bool), ch < 32 → s.chans.length = 32 →
    let i := Instr.lunResetComplete ch l pass
    let u := s.lun ch l
    (u.state ≠ .resetting → exec i s = .next s) ∧
    (u.state = .resetting → ∃ t, exec i s = .next t ∧ others s t ch l ∧
      (pass = true → (t.chan ch).cal = true ∧ (t.chan ch).xrFailed = (s.chan ch).xrFailed ∧ t = { s with luns := t.luns, chans := t.chans } ∧
        t.lun ch l = { u with state := .active, feats := (t.lun ch l).feats } ∧ ∀ p, s.profile? ch = some p → (t.lun ch l).feats = p.features) ∧
      (pass = false → (t.lun ch l).state = .failed ∧ (t.lun ch l).op = none ∧ (t.lun ch l).rd = none ∧ lunKey ch l ∈ t.ftl.reloc ∧
        (t.lun ch l).queue = (u.op.toList ++ u.queue ++ u.ready).filter (fun o => decide (o.kind = .program)) ∧
        ∀ o ∈ u.rd.toList ++ u.op.toList ++ u.queue ++ u.ready, o.kind = .read → 0 < o.cw → s.profile? ch ≠ none → (∀ a b, o.use ≠ .rebuild a b) →
          ∃ x ∈ t.recon, x.tag = o.tag ∧ x.ch = ch ∧ x.maddr = o.maddr ∧ x.use = o.use))) ∧
  (∀ (s : State) (ch line : Nat), exec (.nandRbFall ch line) s = .next s) ∧
  (∀ (s : State) (ch : Nat), (32 ≤ ch → exec (.medRecal ch) s = .next s) ∧
    (ch < 32 → s.chans.length = 32 → ∃ t, exec (.medRecal ch) s = .next t ∧ t = { s with chans := t.chans } ∧
      (∀ c, c ≠ ch → t.chan c = s.chan c) ∧ t.chan ch = { s.chan ch with cal := true, xrFailed := false, xrOn := (t.chan ch).xrOn } ∧
      ((t.chan ch).xrOn = true ↔ ∃ p, s.profile? ch = some p ∧ p.xr = true ∧ bitOf (s.reg (Reg.MED_CH_CTL ch)).toNat 1 = true ∧
        ∀ l ∈ s.usedOn ch, (s.lun ch l).xrDeclared = true))) ∧
  (∀ (s : State) (ch margin : Nat) (pass : Bool), s.profile? ch = none ∨ (s.chan ch).cal = false →
    exec (.calibrationComplete ch margin pass) s = .next s) ∧
  (∀ (s : State) (ch margin : Nat) (pass : Bool) (p : Profile), ch < 32 → s.chans.length = 32 → s.profile? ch = some p → (s.chan ch).cal = true →
    let c := s.chan ch
    ∃ t, exec (.calibrationComplete ch margin pass) s = .next t ∧ (∀ x, x ≠ ch → t.chan x = s.chan x) ∧
      (c.xrOn = true → pass = true → p.xrMargin ≤ margin → t.chan ch = { c with cal := false, rate := 6400 } ∧ t = { s with chans := t.chans }) ∧
      (c.xrOn = true → pass = false ∨ margin < p.xrMargin → t.chan ch = { c with xrOn := false, xrFailed := true } ∧
        t = { s with chans := t.chans, regs := t.regs } ∧ bitOf (t.reg (Reg.MED_ERR ch)).toNat 7 = true) ∧
      (c.xrOn = false → pass = true → t.chan ch = { c with cal := false, rate := c.base } ∧ t = { s with chans := t.chans }) ∧
      (c.xrOn = false → pass = false → t.chan ch = { c with cal := false, rate := 0 } ∧ bitOf (t.reg (Reg.MED_ERR ch)).toNat 6 = true ∧
        ∀ l ∈ s.usedOn ch, (t.lun ch l).state = .failed))

/-- R123, R127 to R131, R167, R170, R174, Tables 5-8 and 5-11. -/
def Obligations.MediaRetry : Prop :=
  (∀ (s : State) (pass : Bool), s.soft = [] → exec (.softDecodeComplete pass) s = .next s) ∧
  (∀ (s : State) (pass : Bool) (a b : List SoftCw) (c : SoftCw), s.soft = a ++ c :: b →
    (c.cls = 1 ∧ ∀ x ∈ a, x.cls ≠ 1) ∨ (a = [] ∧ ∀ x ∈ c :: b, x.cls ≠ 1) →
    let same (x : SoftCw) : Bool :=
      decide (x.tag = c.tag) && decide (x.use = c.use) && decide (x.ch = c.ch) && decide (x.maddr = c.maddr) && decide (x.page = c.page)
    ∃ t, exec (.softDecodeComplete pass) s = .next t ∧ t = { s with soft := a ++ b, recon := t.recon, luns := t.luns, ftl := t.ftl } ∧
      ((∀ n, c.use ≠ .copy n) → t.luns = s.luns) ∧
      (pass = true → t.recon = s.recon) ∧
      (∀ n h, pass = false → c.use = .rebuild n h → t.recon = s.recon.map (fun x => if x.id = n then { x with failed := true } else x)) ∧
      (pass = false → (∀ n h, c.use ≠ .rebuild n h) →
        ((∃ x ∈ s.recon, same x = true) → t.recon = s.recon.map (fun x => if same x then { x with n := x.n + 1 } else x)) ∧
        ((∀ x ∈ s.recon, same x = false) → ∃ k, t.recon = s.recon ++ [{ c with id := k }]))) ∧
  (∀ (s : State) (ch n : Nat), (∀ c, s.recon[n]? = some c → c.ch ≠ ch) → exec (.stripeReconstruction ch n) s = .next s) ∧
  (∀ (s : State) (n : Nat) (c : SoftCw), s.recon[n]? = some c → c.ch < 32 →
    let i := Instr.stripeReconstruction c.ch n
    let good := s.dieParity = true ∧ c.asked = true ∧ c.failed = false ∧ s.reading (.rebuild c.id c.ch) = false
    let lost := s.dieParity = false ∨ (c.asked = false ∧ s.stripeFor c.at_ = none) ∨
      (c.asked = true ∧ c.failed = true ∧ s.reading (.rebuild c.id c.ch) = false)
    (∀ v, s.stripeFor c.at_ = some v → v ∈ s.ftl.stripes ∧ c.at_ ∈ v.pages ∧ v.done = true ∧
      ∀ x ∈ v.pages ++ v.parity.toList, x ≠ c.at_ → (s.lun x.ch x.lun).state ≠ .failed ∧ (s.lun x.ch x.lun).state ≠ .absent) ∧
    (s.dieParity = true → c.asked = true → s.reading (.rebuild c.id c.ch) = true → exec i s = .next s) ∧
    (∀ v, s.dieParity = true → c.asked = false → s.stripeFor c.at_ = some v → ∃ t, exec i s = .next t ∧ t.out = s.out ∧ t.cmds = s.cmds ∧
      t.soft = s.soft ∧ ∀ x ∈ v.pages ++ v.parity.toList, x ≠ c.at_ → s.profile? x.ch ≠ none →
        ∃ o ∈ (t.lun x.ch x.lun).queue ++ (t.lun x.ch x.lun).ready, o.kind = .read ∧ o.use = .rebuild c.id c.ch ∧ o.block = x.block ∧ o.tag = none) ∧
    (good → ∃ t, exec i s = .next t ∧ t.recon = s.recon.eraseIdx n ∧ t.out = s.out ∧ t.cmds = s.cmds ∧ t.soft = s.soft ∧
      t.field (Reg.MED_PARITY_CNT c.ch) 31 0 = min (s.field (Reg.MED_PARITY_CNT c.ch) 31 0 + 1) (2 ^ 32 - 1)) ∧
    (lost → ∃ t, exec i s = .next t ∧ t.recon = s.recon.eraseIdx n ∧ t.out = s.out ∧ t.soft = s.soft ∧
      bitOf (t.reg (Reg.MED_ERR c.ch)).toNat 5 = true ∧
      (Sparse.sorted s.regs = true → t.field (Reg.MED_UNCORR_CNT c.ch) 31 0 = min (s.field (Reg.MED_UNCORR_CNT c.ch) 31 0 + c.n) (2 ^ 32 - 1)) ∧
      (c.use ≠ .host ∨ c.tag = none → t.cmds = s.cmds) ∧
      ∀ tag d, c.use = .host → c.tag = some tag → s.cmd? tag = some d →
        Becomes s t tag { d with badImgs := (d.badImgs ++ [(c.ch, c.maddr)]).dedup })) ∧
  ∀ (s : State) (ch l : Nat),
    let i := Instr.medOpTimeout ch l
    let u := s.lun ch l
    (u.running = none ∨ u.state ≠ .active → exec i s = .next s) ∧
    ∀ o, ch < 32 → u.running = some o → u.state = .active →
    (o.ran ≤ o.limit → exec i s = .next s) ∧
    (o.limit < o.ran →
      let r := s.row ch l o.block
      let retiring (t : State) (cause : Nat) := r.marked = false → r.state ≠ .retired → r.state ≠ .bad →
        (∀ x ∈ s.chest.pending, ∀ k, x.change ≠ .row ch l o.block (.retire k)) → ∃ x ∈ t.chest.pending, x.change = .row ch l o.block (.retire cause)
      ∃ t, exec i s = .next t ∧ t.out = s.out ∧ bitOf (t.reg (Reg.MED_ERR ch)).toNat 1 = true ∧ (t.lun ch l).op = none ∧ (t.lun ch l).rd = none ∧
        (t.lun ch l).timeouts = u.timeouts + 1 ∧
        (u.timeouts < 2 → (t.lun ch l).state = .resetting) ∧ (2 ≤ u.timeouts → (t.lun ch l).state = .failed ∧ lunKey ch l ∈ t.ftl.reloc) ∧
        (o.kind = .read → o.reissued = false → u.rd = none → u.timeouts < 2 → t.recon = s.recon ∧
          (t.lun ch l).queue = { o with reissued := true, ran := 0, ranSince := 0 } :: u.queue) ∧
        (o.kind = .read → o.reissued = true → 0 < o.cw → s.profile? ch ≠ none → (∀ a b, o.use ≠ .rebuild a b) → (∀ n, o.use ≠ .verify n) →
          ∃ x ∈ t.recon, x.tag = o.tag ∧ x.ch = ch ∧ x.maddr = o.maddr ∧ x.use = o.use) ∧
        (∀ n h c, o.kind = .read → o.reissued = true → o.use = .rebuild n h → c ∈ s.recon → c.id = n → { c with failed := true } ∈ t.recon) ∧
        (∀ n c, o.kind = .read → o.reissued = true → o.use = .verify n → s.copy? n = some c → t.copy? n = none) ∧
        (o.kind = .program → bitOf (t.reg (Reg.MED_ERR ch)).toNat 2 = true ∧ retiring t 2) ∧
        (o.kind = .erase → bitOf (t.reg (Reg.MED_ERR ch)).toNat 3 = true ∧ (t.row ch l o.block).eraseOpen = true ∧
          retiring t (if r.state = .suspect then 1 else 0)) ∧
        (∀ x, u.rd = some o → u.op = some x → x.kind = .erase → (t.row ch l x.block).state = .suspect ∧ (t.row ch l x.block).eraseOpen = true))

/-- R140, R141, R148, R160, R163, R166, R167, R170, R171, R173, R174, R177. -/
def Obligations.CareMoves : Prop :=
  let still (s t : State) := t.ftl.span = s.ftl.span ∧ t.ftl.grain = s.ftl.grain ∧ t.ftl.mask = s.ftl.mask
  let engine (i : Instr) (s : State) (b : Mover) := (∃ m, i = .foldImage m ∧ b = .fold) ∨ (∃ ms, i = .gcPass ms ∧ b = .gc) ∨
    (∃ c l k ms, i = .refreshRow c l k ms ∧ b = (if (s.row c l k).marked then .evac else .refresh)) ∨
    (∃ ms, i = .wearLevellingPeriod ms ∧ b = .wear) ∨ (∃ c l ms st, i = .lunRelocation c l ms st ∧ b = .reloc) ∨
    ∃ n sp body p st, i = .coalesceSpan n sp body p st ∧ b = .coalesce
  let movable (s : State) (m : Move) (a : Img) := s.img? m.ch m.maddr = some a ∧ a.nsid ≠ 0 ∧ s.imgEntries a ≠ [] ∧
    a.unreadable = false ∧ (m.place.ch, m.place.lun, m.place.block) ∉ a.avoid ∧ ∀ c ∈ s.ftl.copies, c.src ≠ (a.ch, a.maddr)
  let works (t : State) (ch l : Nat) (f : LunOp → Prop) := ∃ o ∈ (t.lun ch l).queue ++ (t.lun ch l).ready, f o
  let gone (s : State) (ch l : Nat) := (s.lun ch l).state = .failed ∨ (s.lun ch l).state = .absent
  let copied (s t : State) (m : Move) (a : Img) (by_ : Mover) (at_ : Nat) := ∃ c,
    t.ftl.copies = s.ftl.copies ++ [c] ∧ c.nsid = a.nsid ∧ c.span = a.span ∧ c.ents = s.imgEntries a ∧ c.src = (a.ch, a.maddr) ∧
    c.ch = m.place.ch ∧ c.loc = { grain := a.grain, maddr := at_, len := a.len, raw := a.raw, shelf := m.place.slc } ∧ c.by_ = by_ ∧
    c.stage = .reading ∧ (∃ x ∈ t.ftl.imgs, x.ch = m.place.ch ∧ x.maddr = at_ ∧ x.bytes = a.bytes ∧ x.nsid = a.nsid ∧ x.span = a.span) ∧
    (¬ gone s a.ch (maLun a.maddr) → works t a.ch (maLun a.maddr) (fun o => o.kind = .read ∧ o.cls = 2 ∧ o.maddr = a.maddr ∧ o.use = .copy c.id)) ∧
    (gone s a.ch (maLun a.maddr) → (∃ p, s.profile? a.ch = some p ∧ 0 < cwsOf (p.unit a.maddr) a.len) →
      ∃ x ∈ t.recon, x.ch = a.ch ∧ x.maddr = a.maddr ∧ x.use = .copy c.id)
  (∀ (i : Instr) (s : State) (b : Mover), engine i s b → ∃ t, exec i s = .next t ∧ still s t ∧
    (∀ c ∈ t.ftl.copies, c ∈ s.ftl.copies ∨ c.by_ = b) ∧ (s.internalOk = false → ∀ c ∈ t.ftl.copies, c ∈ s.ftl.copies)) ∧
  (∀ (s : State) (m : Move), m.ch < 32 → s.chans.length = 32 →
    let start := s.fieldNow Reg.FTL_FOLD_CTL 7 4
    let stop := if start ≤ s.fieldNow Reg.FTL_FOLD_CTL 3 0 then start - 1 else s.fieldNow Reg.FTL_FOLD_CTL 3 0
    let c := s.chan m.ch
    let on := if c.foldOn then decide (stop * s.shelfRows m.ch ≤ 16 * s.shelfUsed m.ch) else decide (start * s.shelfRows m.ch < 16 * s.shelfUsed m.ch)
    let u := s.setChan m.ch { c with foldOn := on }
    let l := maLun m.maddr
    let k := maBlock m.maddr
    (s.internalOk = false ∨ on = false ∨ s.oldestShelf m.ch l k = false → exec (.foldImage m) s = .next u) ∧
    (∀ a v at_, s.internalOk = true → on = true → s.oldestShelf m.ch l k = true → movable s m a → m.place.slc = false →
      m.place.ch = m.ch → (u.selectRow .fold m.ch l k).placeImage 2 m.place a.len = some (v, at_) →
      ∃ t, exec (.foldImage m) s = .next t ∧ copied s t m a .fold at_)) ∧
  (∀ (s : State), s.internalOk = true →
    let low := ∃ c, c < 32 ∧ s.present c = true ∧ s.freeLevel c < s.startLevel
    let g := { s with ftl := { s.ftl with gcOn := true } }
    (∀ ms, ¬ low → exec (.gcPass ms) s = .next { s with ftl := { s.ftl with
      gcOn := false, gcSel := none
      rows := s.ftl.rows.map (fun e => if e.2.owner = some .gc then (e.1, { e.2 with owner := none }) else e) } }) ∧
    (∀ b, s.ftl.gcSel = none → low → Sparse.sorted s.ftl.rows = true → s.collectable b = true → 0 < s.superScore b →
      (∀ x e, e ∈ s.ftl.rows → e.2.superblock = x → s.collectable x = true → s.superScore x < s.superScore b ∨ s.superScore x = s.superScore b ∧ b ≤ x) →
      ∃ t, exec (.gcPass []) s = .next t ∧ t.ftl.gcSel = some b ∧
        ∀ e ∈ t.ftl.rows, e.2.superblock = b → e.2.owner = some .gc) ∧
    (∀ b m a v at_, low → s.ftl.gcSel = some b → (s.row m.ch (maLun m.maddr) (maBlock m.maddr)).superblock = b → movable s m a →
      m.place.ch = m.ch → (m.place.slc = true → a.shelf = true) →
      g.placeImage (if m.place.slc then 19 else 3) m.place a.len = some (v, at_) →
      ∃ t, exec (.gcPass [m]) s = .next t ∧ copied s t m a .gc at_) ∧
    (∀ b, low → s.ftl.gcSel = some b →
      (∀ e ∈ s.ftl.rows, e.2.superblock = b → e.2.pinned = true ∧ keyEmptied s e.1 = true ∨ e.2.state = .retired) →
      ∃ t, exec (.gcPass []) s = .next t ∧ t.ftl.gcSel = none ∧ t.ftl.reclaimed = s.ftl.reclaimed + 1 ∧
        t.field Reg.FTL_GC_CNT 31 0 = min (s.field Reg.FTL_GC_CNT 31 0 + 1) (2 ^ 32 - 1))) ∧
  (∀ (s : State) (c l k : Nat), c < 32 → l < 64 → k < 65536 →
    let r := s.row c l k
    let b : Mover := if r.marked then .evac else .refresh
    let may := s.internalOk = true ∧ (r.candidate = true ∨ r.marked = true) ∧ r.selectable b = true
    (∀ ms, ¬ may → exec (.refreshRow c l k ms) s = .next s) ∧
    (may → s.ftl.gcSel = none → (∀ e ∈ s.ftl.rows, e.1 ≠ rowKey c l k → e.2.owner = none) → Sparse.sorted s.ftl.rows = true →
      ∃ t, exec (.refreshRow c l k []) s = .next t ∧
        (s.emptied c l k = true → (t.row c l k).owner = none ∧ (r.marked = false → (t.row c l k).candidate = false ∧
          t.field Reg.FTL_REFRESH_CNT 31 0 = min (s.field Reg.FTL_REFRESH_CNT 31 0 + 1) (2 ^ 32 - 1))) ∧
        (s.emptied c l k = false → (t.row c l k).owner = some b ∧ t.regs = s.regs)) ∧
    (∀ m a v at_, may → m.ch = c → maLun m.maddr = l → maBlock m.maddr = k → movable s m a → m.place.ch = c →
      (m.place.slc = true → a.shelf = true) →
      (s.selectRow b c l k).placeImage (if m.place.slc then 19 else 3) m.place a.len = some (v, at_) →
      ∃ t, exec (.refreshRow c l k [m]) s = .next t ∧ copied s t m a b at_)) ∧
  (∀ (s : State), s.internalOk = true →
    (s.ftl.wlTimer ≤ s.wlBeats → exec (.wearLevellingPeriod []) s = .next s ∧
      ∀ m a v at_, (s.row m.ch (maLun m.maddr) (maBlock m.maddr)).owner = some .wear → movable s m a → m.place.slc = false →
        m.place.ch = m.ch → s.placeImage 4 m.place a.len = some (v, at_) →
        ∃ t, exec (.wearLevellingPeriod [m]) s = .next t ∧ copied s t m a .wear at_) ∧
    (s.wlBeats < s.ftl.wlTimer → ∀ ms,
      ∃ t, exec (.wearLevellingPeriod ms) s = .next t ∧ t.ftl.wlTimer = 0 ∧ (∀ c, c < 32 → s.spread c ≤ t.ftl.lastSpread) ∧
        (0 < t.ftl.lastSpread → t.ftl.lastSpreadCh < 32 ∧ s.spread t.ftl.lastSpreadCh = t.ftl.lastSpread ∧
          ∀ c, c < t.ftl.lastSpreadCh → s.spread c < t.ftl.lastSpread) ∧
        (ms = [] → Sparse.sorted s.ftl.rows = true → ∀ e ∈ t.ftl.rows, e.2.owner = some .wear → e ∈ s.ftl.rows ∨
          e.2.slc = false ∧ e.2.state = .closed ∧ e.2.marked = false ∧ e.2.pinned = false ∧
            s.fieldNow Reg.FTL_WL_SPREAD 15 0 < s.spread (keyCh e.1)))) ∧
  (∀ (s : State) (ch l : Nat), ch < 32 → l < 64 →
    let lone := s.internalOk = true ∧ (s.lun ch l).state = .failed
    let u := s.redoPrograms ch l
    (∀ ms st, ¬ lone → exec (.lunRelocation ch l ms st) s = .next s) ∧
    (∀ st, lone → lunKey ch l ∈ s.ftl.reloc → (s.lun ch l).queue = [] →
      (∀ a ∈ s.ftl.imgs, a.ch = ch → maLun a.maddr = l → a.unreadable = true ∨ s.imgRef a = false) →
      ∃ t, exec (.lunRelocation ch l [] st) s = .next t ∧ lunKey ch l ∉ t.ftl.reloc ∧
        ∀ k, k < 65536 → (∃ e ∈ s.ftl.rows, e.1 = rowKey ch l k) →
          (s.row ch l k).marked = true ∨ (s.row ch l k).state = .retired ∨ (s.row ch l k).state = .bad ∨
            ∃ r ∈ t.chest.pending, ∃ x, r.change = .row ch l k (.retire x)) ∧
    (lone → lunKey ch l ∉ s.ftl.reloc → ∀ o n v st, (s.lun ch l).queue = [o] → o.slot = some n → s.slotAt n = some v →
      ∃ t w, exec (.lunRelocation ch l [] st) s = .next t ∧ t.slotAt n = some w ∧ w.state = .held ∧ ∀ m ∈ w.imgs, m.maddr ≠ o.maddr) ∧
    (∀ m a v at_ st, lone → lunKey ch l ∈ s.ftl.reloc → (s.lun ch l).queue = [] → m.ch = ch → maLun m.maddr = l →
      (s.row ch l (maBlock m.maddr)).owner = none ∨ (s.row ch l (maBlock m.maddr)).owner = some .reloc → movable s m a → m.place.slc = false →
      (u.selectRow .reloc ch l (maBlock m.maddr)).moverChannel .reloc a m.place.ch = true →
      (u.selectRow .reloc ch l (maBlock m.maddr)).placeImage 5 m.place a.len = some (v, at_) →
      ∃ t, exec (.lunRelocation ch l [m] st) s = .next t ∧ copied s t m a .reloc at_) ∧
    (∀ v w a st, lone → v.id ∈ st → lunKey ch l ∉ s.ftl.reloc → (s.lun ch l).queue = [] → s.ftl.stripes.filter (s.wantsReparity ch l) = [v] →
      s.stripe? v.id = some v → let x := { v with pages := v.pages.filter (fun y => !y.on ch l) }
      (u.parityChan x (u.superOf 5)).isSome = true → u.parityPage x (u.superOf 5) = some (w, a) →
      ∃ t, exec (.lunRelocation ch l [] st) s = .next t ∧ t.stripe? v.id = some { v with next := some a } ∧
        works t a.ch a.lun (fun o => o.kind = .program ∧ o.cls = 4 ∧ o.parity = some v.id ∧ o.block = a.block ∧ o.page = a.page))) ∧
  ∀ (s : State) (n sp : Nat) (body : List Byte) (p : Place),
    let i := Instr.coalesceSpan n sp body p.toSpot p.stripes
    let ims := s.spanImages n sp
    let fits := p.ch = eCh (s.spanEntry n sp) ∧ (ims = [] ∨ ∃ a ∈ ims, ∃ m, s.img? a.1 a.2 = some m ∧ m.shelf = p.slc)
    let off (t : State) := (n, sp) ∉ t.ftl.coalesce ∧ ∀ x, x ≠ (n, sp) → (x ∈ t.ftl.coalesce ↔ x ∈ s.ftl.coalesce)
    let quiet := (∀ e ∈ s.spanEnts n sp, eWbuf e.2 = false) ∧ ∀ c ∈ s.ftl.copies, ¬ (c.nsid = n ∧ c.span = sp)
    (s.nsOf n = none → ∃ t, exec i s = .next t ∧ off t) ∧
    (∀ ns, s.nsOf n = some ns →
      (s.internalOk = false ∨ (n, sp) ∉ s.ftl.coalesce ∨ ¬ fits → exec i s = .next s) ∧
      (s.internalOk = true → (n, sp) ∈ s.ftl.coalesce → fits →
        (s.splintered n sp = false → ∃ t, exec i s = .next t ∧ off t) ∧
        (s.splintered n sp = true →
          (¬ quiet → exec i s = .next s) ∧
          (quiet → (n, sp, ims) ∉ s.ftl.coalRead → ∃ t, exec i s = .next t ∧ t.ftl.coalesce = s.ftl.coalesce ∧ (n, sp, ims) ∈ t.ftl.coalRead ∧
            t.ftl.copies = s.ftl.copies ∧ ∀ a ∈ ims, ∀ m, s.img? a.1 a.2 = some m → ¬ gone s m.ch (maLun m.maddr) →
              works t m.ch (maLun m.maddr) (fun o => o.kind = .read ∧ o.cls = 2 ∧ o.maddr = m.maddr ∧ o.use = .coalesce n sp)) ∧
          (quiet → (n, sp, ims) ∈ s.ftl.coalRead →
            (s.reading (.coalesce n sp) = true → exec i s = .next s) ∧
            (s.reading (.coalesce n sp) = false →
              (∀ e, s.storedGrains ns n sp (List.range 64) = .error e → ∃ t, exec i s = .next t ∧ off t ∧ t.ftl.copies = s.ftl.copies ∧
                ∀ a ∈ ims, ∀ m, t.img? a.1 a.2 = some m → m.unreadable = true) ∧
              (∀ gs v at_, s.storedGrains ns n sp (List.range 64) = .ok gs → (∀ x ∈ s.ftl.copies, x.id < s.ftl.nextOp) →
                let enc := encodeImage (s.fieldNow (Reg.PRS_MIN_SAVING p.ch) 7 0) body (plainOfGrains gs)
                let len := unitsOf enc.2.length
                s.placeImage (if p.slc then 22 else 6) p len = some (v, at_) →
                ∃ t c m, exec i s = .next t ∧ off t ∧
                  t.ftl.copies = s.ftl.copies ++ [c] ∧ c.nsid = n ∧ c.span = sp ∧ c.ents = s.spanEnts n sp ∧ c.ch = p.ch ∧ c.by_ = .coalesce ∧
                  c.loc = { grain := none, maddr := at_, len := len, raw := enc.1, shelf := p.slc } ∧ c.stage = .programming ∧
                  m ∈ t.ftl.imgs ∧ m.ch = p.ch ∧ m.maddr = at_ ∧ m.bytes = enc.2 ∧ m.nsid = n ∧ m.span = sp ∧
                  works t p.ch (maLun at_) (fun o => o.kind = .program ∧ o.cls = 4 ∧ o.maddr = at_ ∧ o.copy = some c.id)))))))

/-- R121, R131, R140, R161, R174, R184, R187. -/
def Obligations.CareGate : Prop :=
  (∀ (s : State) (ch l k : Nat), ch < 32 → l < 64 → k < 65536 →
    let i := Instr.eraseGateRequest ch l k
    let r := s.row ch l k
    let may := (r.state = .closed ∨ r.state = .suspect) ∧ r.closing = false
    let settled := ∀ e ∈ r.freed, ∃ c ∈ s.chest.ckptSeq, c.1 = e.1 ∧ e.2 < c.2
    (¬ may → exec i s = .next s) ∧
    (may → s.rowCounted ch l k = true → ∃ t, exec i s = .next t ∧ t = { s with regs := t.regs } ∧
      t.field Reg.FTL_GATE_REFUSED 31 0 = min (s.field Reg.FTL_GATE_REFUSED 31 0 + 1) (2 ^ 32 - 1) ∧
      bitOf (t.reg Reg.FTL_CARE_ERR).toNat 0 = true) ∧
    (may → s.rowCounted ch l k = false → ¬ settled → exec i s = .next s) ∧
    (may → s.rowCounted ch l k = false → settled → ∃ t, exec i s = .next t ∧
      (r.marked = true → t = { s with chest := { s.chest with
        pending := s.chest.pending ++ [{ seq := s.chest.seq, change := .row ch l k .release }], seq := s.chest.seq + 1 } }) ∧
      (r.marked = false → t = { s with ftl := { s.ftl with rows := t.ftl.rows } } ∧
        (∀ c m b, rowKey c m b ≠ rowKey ch l k → t.row c m b = s.row c m b) ∧ t.row ch l k = { r with gateWait := true }))) ∧
  (∀ (s : State) (ch l k : Nat), ch < 32 → l < 64 → k < 65536 →
    let i := Instr.eraseGateIssue ch l k
    let r := s.row ch l k
    let clear := s.internalOk = true ∧ r.gateWait = true ∧ s.chest.failed = false ∧ s.rowCounted ch l k = false ∧ s.readsInto ch l k = false ∧
      (∀ id ∈ r.copyStripes, ∀ v, s.stripe? id = some v → v.done = true ∨ v.parity = none ∧ s.dieParity = false) ∧ (s.lun ch l).state = .active
    (¬ clear → exec i s = .next s) ∧
    (clear → r.eraseReady = false → r.erasePend = true → exec i s = .next s) ∧
    (clear → r.eraseReady = false → r.erasePend = false → ∃ t, exec i s = .next t ∧ t.luns = s.luns ∧
      t.row ch l k = { r with erasePend := true } ∧
      t.chest.pending = s.chest.pending ++ [{ seq := s.chest.seq, change := .eraseStart ch l k }]) ∧
    (clear → r.eraseReady = true → Sparse.sorted s.ftl.rows = true → ∃ t o, exec i s = .next t ∧
      t.lun ch l = { s.lun ch l with queue := (s.lun ch l).queue ++ [o] } ∧
      o.kind = .erase ∧ o.cls = 5 ∧ o.block = k ∧ t.row ch l k = { r with gateWait := false, eraseReady := false } ∧
      (∀ p, s.profile? ch = some p → o.pages = if bitOf p.mpRule 2 then 1 else p.planes) ∧
      t.chest = s.chest ∧ t.ftl.erases = s.ftl.erases + 1)) ∧
  ∀ (s : State),
    (s.ftl.splinterTimer ≤ s.fieldNow Reg.FTL_SPLINTER_WIN 24 0 → exec .splinterWindowExpiry s = .next s) ∧
    (s.fieldNow Reg.FTL_SPLINTER_WIN 24 0 < s.ftl.splinterTimer → Sparse.sorted s.ftl.rewrites = true →
      ∃ t, exec .splinterWindowExpiry s = .next t ∧ t = { s with ftl := t.ftl, pwr := t.pwr } ∧
        t.ftl = { s.ftl with splinterTimer := 0, rewrites := t.ftl.rewrites, coalesce := t.ftl.coalesce } ∧
        (∀ n sp, t.rewriteCount n sp = s.rewriteCount n sp / 2) ∧
        ∀ x, x ∈ t.ftl.coalesce ↔ x ∈ s.ftl.coalesce ∨ (x ∈ s.splinters ∧
          t.rewriteCount x.1 x.2 ≤ min (s.fieldNow Reg.FTL_COALESCE_THR 7 0) (s.fieldNow Reg.FTL_SPLINTER_THR 7 0 - 1)))

/-- R129, R131, R141, R143, R144, R161, R167, R171, R174, R184, R185, R200. -/
def Obligations.ChestCommits : Prop :=
  (∀ (s : State), s.chest.pending = [] → exec .chestRecordCommit s = .next s) ∧
  (∀ (s : State) (r : Rec) (rest : List Rec), s.chest.pending = r :: rest → ∃ t more, exec .chestRecordCommit s = .next t ∧
    t.chest.pending = rest ++ more ∧
    (s.commits r.change = true → t.chest.sealed = none) ∧
    (s.commits r.change = false ∨ r.change.bytes = 0 → t.chest.journal = s.chest.journal) ∧
    (s.commits r.change = true → r.change.bytes ≠ 0 → ∃ gone kept segs, s.chest.journal = gone ++ kept ∧
      t.chest.journal = kept ++ [(r.seq, r.change.bytes, segs)] ∧ (gone ≠ [] → ∃ a b, r.change = .ckpt a b) ∧
      ∀ k ∈ segs, k ∈ t.chest.dirty ∨ k ∈ t.chest.ckptLeft) ∧
    (∀ n sp e ch loc by_ src, r.change = .copyCommit n sp [(none, e)] ch loc by_ src → Sparse.sorted s.ftl.span = true →
      (∀ c ∈ t.ftl.copies, ¬ (c.ch = ch ∧ c.loc.maddr = loc.maddr)) ∧
      (s.spanEntry n sp = e → t.spanEntry n sp = imgEntry ch loc false ∧
        ∀ m q, spanKey m q ≠ spanKey n sp → t.spanEntry m q = s.spanEntry m q) ∧
      (s.spanEntry n sp ≠ e → t.ftl.span = s.ftl.span ∧ t.ftl.grain = s.ftl.grain)) ∧
    (∀ n sp ents ch loc, r.change = .coalesced n sp ents ch loc →
      (s.commits r.change = true → t.spanEntry n sp = imgEntry ch loc false) ∧
      (s.commits r.change = false → t.ftl.span = s.ftl.span ∧ t.ftl.grain = s.ftl.grain)) ∧
    (∀ n sp, r.change = .splinter n sp → s.ftl.grain.length < 2 ^ 24 → let e := s.spanEntry n sp
      eSplit e = false → eWbuf e = false → eImage e = true → t.splintered n sp = true ∧ ∀ g, g < 64 →
        t.grainEntry n sp g = mkEntry false (eShelf e) false true (eRaw e) (eCh e) (eLen e) (eMaddr e)) ∧
    (∀ tag n sp gs, r.change = .trim tag n sp gs → 64 ≤ gs.length → Sparse.sorted s.ftl.span = true → Sparse.sorted s.ftl.mask = true →
      t.spanEntry n sp = trimEntry ∧ t.maskOf n sp = 0 ∧ ∀ m q, spanKey m q ≠ spanKey n sp → t.spanEntry m q = s.spanEntry m q) ∧
    (∀ ch l k, r.change = .eraseStart ch l k →
      t.row ch l k = { s.row ch l k with erasePend := false, eraseOpen := true, eraseReady := true }) ∧
    (∀ ch l k w, r.change = .row ch l k w → ch < 32 → l < 64 → k < 65536 → let a := s.row ch l k
      (w = .close → a.state = .opened → t.row ch l k = { a with state := .closed, closing := false, closeBeat := s.beat }) ∧
      (w = .pin → (t.row ch l k).pinned = true ∧ bitOf (t.reg Reg.FTL_CARE_ERR).toNat 1 = true) ∧
      (w = .unpin → Sparse.sorted s.ftl.rows = true → t.row ch l k = { a with pinned := false }) ∧
      (w = .release → t.row ch l k = { a with state := .retired, gateWait := false }) ∧
      (∀ c, w = .retire c → a.marked = false → a.closing = true → Sparse.sorted s.ftl.rows = true → (t.row ch l k).marked = true ∧ (t.row ch l k).gateWait = false ∧
        (t.row ch l k).state = (if c < 2 ∨ c = 4 ∨ a.state = .free ∨ a.state = .suspect then .retired else if a.state = .opened then .closed else a.state) ∧
        t.ftl.retired = s.ftl.retired + 1 ∧ bitOf (t.reg Reg.FTL_CARE_ERR).toNat 2 = true ∧
        ∀ o ∈ (t.lun ch l).queue ++ (t.lun ch l).ready, ¬ (o.kind = .program ∧ o.block = k))) ∧
    (∀ i v loc, r.change = .spanCommit i → s.slotAt i = some v → v.imgs = [loc] → loc.grain = none → v.fresh = [] → v.recv = [] →
      eWbuf (s.spanEntry v.nsid v.span) = true → eMaddr (s.spanEntry v.nsid v.span) = i → Sparse.sorted s.ftl.span = true →
      t.spanEntry v.nsid v.span = imgEntry v.ch loc false ∧ ∀ w, t.slotAt i = some w → w.state = .mapped ∧ w.done = true) ∧
    (∀ i v, r.change = .slotFree i → s.slotAt i = some v → v.done = true → v.freeing = true → t.slotAt i = none) ∧
    (∀ i tag v, r.change = .slot i tag → s.slotAt i = some v → ((v.recv.filter (fun x => decide (x.1 = tag))).map (·.2.1)).Nodup →
      ∃ w, t.slotAt i = some w ∧ w.state = .held ∧ (∀ x ∈ w.recv, x.1 ≠ tag) ∧
        ∀ g b, (tag, g, b) ∈ v.recv → b ≠ [] → (g, b) ∈ w.grains) ∧
    (∀ id a v, r.change = .stripe id (some a) → s.stripe? id = some v →
      t.stripe? id = some { v with pages := v.pages.filter (fun x => !s.pageGone x), parity := some a, next := none, done := true }) ∧
    (∀ k q, r.change = .ckpt k q → (k, q) ∈ t.chest.ckptSeq ∧ (∀ e ∈ t.chest.ckptBusy, e.1 ≠ k) ∧
      (s.chest.ckptActive = true → k ∉ t.chest.ckptLeft)) ∧
    (∀ k ch m n, r.change = .sysCommit k ch m n → t.spanEntry 0 k = mkEntry false false false false true ch n m) ∧
    (∀ ch m v, r.change = .image ch m → s.ftl.slots.find? (fun x => x.stuck) = some v →
      ({ s with chest := { s.chest with pending := rest } } : State).blockFree = true →
      (∃ x ∈ more, x.change = .splinter v.nsid v.span) ∧ ∃ w, t.slotAt v.idx = some w ∧ w.stuck = false)) ∧
  ∀ (s : State) (addr : Nat),
    (s.chest.failed = true ∨ s.dev ≠ .service → exec (.chestWriteFail addr) s = .next s) ∧
    (s.chest.failed = false → s.dev = .service → ∃ t, exec (.chestWriteFail addr) s = .next t ∧
      t = { s with chest := { s.chest with failed := true, readable := false }, regs := t.regs, ftl := { s.ftl with rows := t.ftl.rows } } ∧
      bitOf (t.reg Reg.CHS_ERR).toNat 5 = true)

/-- R41, R150, R153, R154, R183, R185, R197, R199, R258, R386. -/
def Obligations.ChestSaves : Prop :=
  (∀ (s : State) (i : Instr), (∃ k, i = .chsCkptStart (.cc k)) ∨ (∃ p, i = .chsCkptStart (.host p) ∧ (s.pins.dual = false ∨ p = s.ownerPort)) ∨
      (i = .checkpointPeriodExpiry ∧ s.fieldNow Reg.CHS_CKPT_PERIOD 26 0 < s.chest.ckptTimer) →
    ∃ t, exec i s = .next t ∧ t = { s with chest := t.chest, pwr := t.pwr } ∧
      t.chest = (if s.chest.ckptActive then { s.chest with ckptAgain := true } else
        { s.chest with ckptActive := true, ckptLeft := s.chest.dirty, dirty := [], ckptTimer := 0, ckptFrom := s.chest.seq })) ∧
  (∀ s : State, s.chest.ckptTimer ≤ s.fieldNow Reg.CHS_CKPT_PERIOD 26 0 → exec .checkpointPeriodExpiry s = .next s) ∧
  (∀ (s : State) (p : Bool) (n : Nat), exec (.chsCkptStart (.page p n)) s = .next s ∧
    (s.pins.dual = true → p ≠ s.ownerPort → ∃ t, exec (.chsCkptStart (.host p)) s = .next t ∧ t = { s with regs := t.regs })) ∧
  (∀ (s : State) (l : List (Nat × Nat × Place)), s.chest.ckptActive = false → exec (.checkpointComplete l) s = .next s) ∧
  (∀ (s : State) (k n : Nat) (p : Place) (u : State) (a : Nat), s.chest.ckptActive = true → k ∈ s.chest.ckptLeft →
    (∀ e ∈ s.chest.ckptBusy, e.1 ≠ k) → (∀ r ∈ s.chest.pending, ∀ q, r.change ≠ .ckpt k q) → p.slc = false → s.nextChan 0 = some p.ch →
    s.placeImage 8 p n = some (u, a) →
    ∃ t, exec (.checkpointComplete [(k, n, p)]) s = .next t ∧ t.chest.ckptLeft = s.chest.ckptLeft ∧ t.chest.ckptActive = true ∧
      (k, s.imageSeq) ∈ t.chest.ckptBusy ∧ t.ftl.span = s.ftl.span ∧
      (∃ m ∈ t.ftl.imgs, m.ch = p.ch ∧ m.maddr = a ∧ m.len = n ∧ m.nsid = 0 ∧ m.span = k) ∧
      ∃ o ∈ (t.lun p.ch p.lun).queue ++ (t.lun p.ch p.lun).ready, o.kind = .program ∧ o.cls = 4 ∧ o.maddr = a ∧ o.ckpt = some k) ∧
  (∀ s : State, s.chest.ckptActive = true → s.chest.ckptLeft = [] → ∃ t freed, exec (.checkpointComplete []) s = .next t ∧
    s.chest.journal = freed ++ t.chest.journal ∧
    (∀ x ∈ freed, ∀ k ∈ x.2.2, ∃ e ∈ s.chest.ckptSeq, e.1 = k ∧ x.1 < e.2) ∧
    (∀ x, t.chest.journal.head? = some x → ∃ k ∈ x.2.2, ∀ e ∈ s.chest.ckptSeq, e.1 = k → e.2 ≤ x.1) ∧
    (Sparse.sorted s.ftl.rows = true → ∀ c l k, t.row c l k = { s.row c l k with saved := (s.row c l k).reads }) ∧
    t.chest.ckptDone = s.chest.ckptFrom ∧ t.chest.root.ckpt = s.chest.ckptFrom ∧ s.chest.root.seq < t.chest.root.seq ∧
    t.chest.ckptActive = s.chest.ckptAgain ∧ t.chest.ckptAgain = false) ∧
  (∀ s : State, (s.rebuild.phase ≠ 1 → exec .rebuildScanComplete s = .next s) ∧
    (s.rebuild.phase = 1 → exec .rebuildScanComplete s = .next { s with rebuild := { s.rebuild with phase := 2, mapLeft := List.range 4096, idxLeft := List.range 4096 } })) ∧
  (∀ (s : State) (x : Nat × Nat), x.1 ≤ 1 →
    let left (r : Rebuild) (j : Nat) := if j = 0 then r.mapLeft else r.idxLeft
    let first := s.rebuild.promo.find? (fun y => (left s.rebuild y.1).contains y.2)
    let may := s.rebuild.phase = 2 ∧ x.2 ∈ left s.rebuild x.1 ∧ (first = none ∨ first = some x)
    let rest := (left s.rebuild x.1).filter (fun j => decide (j ≠ x.2))
    let other := left s.rebuild (1 - x.1)
    (¬ may → exec (.rebuildPartitionComplete x.1 x.2) s = .next s) ∧
    (may → ∃ t, exec (.rebuildPartitionComplete x.1 x.2) s = .next t ∧
      t.cmds = s.cmds.map (fun c => if c.phase = .waitRebuild ∧ c.partition = x then { c with phase := .fetched } else c) ∧
      (rest ≠ [] ∨ other ≠ [] → t.rebuilding = s.rebuilding ∧ t.rebuild.phase = 2 ∧ left t.rebuild x.1 = rest ∧ left t.rebuild (1 - x.1) = other) ∧
      (rest = [] → other = [] → t.rebuilding = false ∧ t.rebuild = {} ∧ t.chest.ckptActive = true ∧ t.chest.root.kind = .rebuilt))) ∧
  (∀ (s : State) (k : Nat), (k ∉ s.idx.damaged → exec (.indexPartitionRebuild k) s = .next s) ∧
    (k ∈ s.idx.damaged → ∃ t, exec (.indexPartitionRebuild k) s = .next t ∧ k ∉ t.idx.damaged ∧ t.idx.table = s.idx.table ∧
      t.cmds = s.cmds.map (fun c => if c.phase = .waitRebuild ∧ c.partition = (1, k) then { c with phase := .fetched } else c))) ∧
  (∀ (s : State) (k n : Nat),
    let d := s.ftl.drawer
    let v := s.seg k
    let p := s.ownerPort
    let taken := ∃ e ∈ s.ftl.segs, e.1 ≠ k ∧ (e.2.slot = some n ∧ e.2.homed = true ∨ e.2.out = some n)
    let may := d.state = .active ∧ d.room ≠ none ∧ v.resident = true
    (slotAddr (s.port p).hmb n = none ∨ ¬ may ∨ (∃ m, v.out = some m ∧ m ≠ n) ∨ (v.out = none ∧ (n ∈ d.bad ∨ taken)) →
      exec (.drawerWriteOut k n) s = .next s) ∧
    (∀ a, slotAddr (s.port p).hmb n = some a → may → v.out = none → n ∉ d.bad → ¬ taken → ∃ t, exec (.drawerWriteOut k n) s = .next t ∧
      t.out = (if (s.port p).training then s.out else
        s.out ++ [.write p none a (s.segBytes k) false (s.port p).cfg.ido, .zeroRead p none a]) ∧
      t.seg k = { v with seq := v.seq + 1, tag := aesCmac (Config.sealKey s.ftl.sealGen) (sealMessage k (v.seq + 1) (s.segBytes k))
                         homed := false, bad := false, dirty := false, slot := some n, out := some n } ∧
      (∀ j, j ≠ k → t.seg j = s.seg j) ∧
      t = { s with out := t.out, portA := t.portA, portB := t.portB, ftl := { s.ftl with segs := t.ftl.segs } }) ∧
    (∀ a, slotAddr (s.port p).hmb n = some a → may → v.out = some n → ∃ t, exec (.drawerWriteOut k n) s = .next t ∧
      t.seg k = { v with out := none, homed := true } ∧ (∀ j, j ≠ k → t.seg j = s.seg j) ∧
      t = { s with ftl := { s.ftl with segs := t.ftl.segs } })) ∧
  (∀ (s : State) (k : Nat) (data : List Byte),
    let v := s.seg k
    let may := v.resident = false ∧ v.homed = true ∧ s.ftl.drawer.state = .active
    let good := data.length = 65536 ∧ aesCmac (Config.sealKey s.ftl.sealGen) (sealMessage k v.seq data) = v.tag
    let room := ∀ r, s.ftl.drawer.room = some r → s.residentSegs.length < r ∨ s.lruSeg ≠ none
    (¬ may → exec (.drawerSegmentRead k data) s = .next s) ∧
    (may → good → ∃ t, exec (.drawerSegmentRead k data) s = .next t ∧ t.ftl.span = s.ftl.span ∧ (room → (t.seg k).resident = true)) ∧
    (may → ¬ good → ∃ t, exec (.drawerSegmentRead k data) s = .next t ∧ t.seg k = { v with homed := false } ∧
      bitOf (t.reg Reg.FTL_MAP_ERR).toNat 1 = true)) ∧
  ∀ (s : State) (k : Nat), ((s.seg k).resident = true ∨ (s.seg k).homed = true → exec (.mapSegmentRebuild k) s = .next s) ∧
    ((s.seg k).resident = false → (s.seg k).homed = false → Sparse.sorted s.ftl.segs = true →
      (∀ r, s.ftl.drawer.room = some r → s.residentSegs.length < r ∨ s.lruSeg ≠ none) →
      ∃ t, exec (.mapSegmentRebuild k) s = .next t ∧ (t.seg k).resident = true)

/-- R25, R55, R95, R218, R219, R290, R293, R294. -/
def Obligations.BeadsAndInterrupts : Prop :=
  (∀ (s : State) (n b : Nat) (j : Job), n < 32 → b < 8 → (s.core (8 * n + b)).job = some j → Sparse.sorted s.strands = true →
    let i := Instr.beatOverrun n b
    let k := 8 * n + b
    let late := (j.waiting = none ∧ j.ref + j.budget ≤ s.beat) ∨
      ∃ m, j.waiting = some m ∧ m + 1 ≤ s.beat ∧ j.ref ≤ m ∧ j.budget ≤ m - j.ref
    let gone (t : State) := (t.core k).job = none ∧ (t.core k).run = .off ∧ (t.core k).lastCause = 9 ∧
      (t.core k).lastTrapPc = (s.core k).pc ∧ (∀ x, x ≠ k → t.core x = s.core x) ∧ j.outSlot ∉ (t.strand n).outUsed ∧
      bitOf (t.reg (Reg.STR_ERR n)).toNat 1 = true
    (¬ late → exec i s = .next s) ∧
    (late →
      (∀ r, j.skipOverrun = true → s.run? j.tag = some r → ∃ t, exec i s = .next t ∧ gone t ∧ t.cmds = s.cmds ∧ t.out = s.out ∧
        t.run? j.tag = some { r with overrun := min (r.overrun + 1) 0xFFFFFFFF }) ∧
      (∀ r c, j.skipOverrun = false → s.run? j.tag = some r → Answerable s j.tag c → ∃ t, exec i s = .next t ∧ gone t ∧
        Broken s c r .beatOverrun (9 + n * 2 ^ 8 + b * 2 ^ 13) (s.core k).pc.toNat t))) ∧
  ∀ (s : State) (c n : Nat), c < 16 →
    let d := s.co (.cc c)
    let can (m : Nat) := s.routed c m = true ∧ d.imask.getLsbD m = true
    let due := n < 64 ∧ can n ∧ s.sourceLevel n ≠ some false ∧ ∀ m, m < n → can m → s.sourceLevel m ≠ some true
    let takes := bitOf d.st.toNat 14 = true ∧ bitOf d.st.toNat 13 = false
    let entry := d.vbase + 4 * (16 + n)
    let entered : Core := { d with run := .running, epc := d.pc, ecs := d.cs, est := d.st, ecause := BitVec.ofNat 16 (0x8000 + n + 16), einfo := 0, st := (d.st &&& 0x2007) ||| 0x8000, pc := BitVec.ofNat 16 entry, cs := BitVec.ofNat 16 (entry / 65536) }
    (d.run = .running → takes → due → exec (.interruptEntry c n) s = .next (s.setCo (.cc c) entered)) ∧
    (d.run ≠ .running ∨ ¬ takes ∨ ¬ due → exec (.interruptEntry c n) s = .next s) ∧
    (d.run = .sleeping → due → takes → exec (.sleepWake c n) s = .next (s.setCo (.cc c) entered)) ∧
    (d.run = .sleeping → due → ¬ takes → exec (.sleepWake c n) s = .next (s.setCo (.cc c) { d with run := .running })) ∧
    (d.run ≠ .sleeping ∨ ¬ due → exec (.sleepWake c n) s = .next s)

/-- The block's step. The idle step is the model's choice (log 2). -/
def Obligations.StepRunsFront : Prop :=
  (∀ (c : Instr) (rest : List Instr) (s : State), s.pending = c :: rest → step s = exec c { s with pending := rest }) ∧
  (∀ s : State, s.pending = [] → step s = .next s) ∧
  ∀ s : State, ∃ t, step s = .next t

/-- R20, R345, R356, R392, Table 12-12. The erased array at power-up is the model's choice (log 42). -/
def Obligations.ResetState : Prop :=
  let s := State.reset
  s.dev = .boot ∧ s.beat = 0 ∧ s.pending = [] ∧ s.cmds = [] ∧ s.out = [] ∧ s.health = .normal ∧ (∀ off, s.reg off = regReset off) ∧
  (∀ c, c < 16 → let d := s.co (.cc c)
    d.epc = 0 ∧ d.ecs = 0 ∧ d.est = 0 ∧ d.ecause = 0 ∧ d.einfo = 0 ∧ d.imask = 0 ∧ d.rsSel = 0 ∧ d.rsPc = 0 ∧ d.rsCs = 0 ∧ d.rs = [] ∧ d.vbase = 0x80000000) ∧
  (∀ b, b < 4 → (s.bank b).mode = .read) ∧ (∀ a, s.carWord a = 0xFFFF) ∧ s.car.prot = [] ∧ s.car.frozen = false ∧
  s.car.password = [0xFFFF, 0xFFFF, 0xFFFF, 0xFFFF] ∧ s.car.ordered ∧ Waits CodeArrayCmd s ∧
  (∀ n sp, s.spanEntry n sp = 0 ∧ s.maskOf n sp = 0) ∧ step s = .next s

/-- R351 to R359. -/
def Obligations.CarGuard : Prop :=
  (∀ s t : State, Waits CodeArrayCmd s → s.car.ordered → step s = .next t → Waits CodeArrayCmd t ∧ t.car.ordered) ∧
  ∀ (n : Nat) (s t : State), Waits CodeArrayCmd s → s.car.guarded → Runs n s t →
    t.car.guarded ∧ t.car.prot = s.car.prot ∧ t.car.password = s.car.password ∧
    ∀ a, carSector a ∈ s.car.prot → ¬ isSelw a → t.carWord a = s.carWord a ∧ t.carBad a = s.carBad a
end

