-- ==== Sys2Proof/Laws/Sparse.lean ====
section
/-!
SUPPORT. Laws of the sparse map: what a read gives after a write, and that every operation keeps the canonical form.
-/

namespace Sys2Proof

variable {V : Type}

theorem Sparse.above_mono {m n : Nat} (h : m ≤ n) : ∀ {l : Sparse V}, Sparse.above n l = true → Sparse.above m l = true
  | [], _ => rfl
  | (j, _) :: t, hl => by
    simp only [Sparse.above, Bool.and_eq_true, decide_eq_true_eq] at hl ⊢
    exact ⟨by omega, hl.2⟩

theorem Sparse.sorted_tail {j : Nat} {v : V} {t : Sparse V} (h : Sparse.sorted ((j, v) :: t) = true) :
    Sparse.sorted t = true := by
  cases t with
  | nil => rfl
  | cons p u =>
    obtain ⟨k, w⟩ := p
    simp only [Sparse.sorted, Sparse.above, Bool.and_eq_true] at h ⊢
    exact h.2

/-- A key at or below the bound of a list is not listed. -/
theorem Sparse.get_of_above (d : Nat → V) {k : Nat} : ∀ {l : Sparse V} {n : Nat},
    Sparse.above n l = true → k ≤ n → Sparse.get d l k = d k
  | [], _, _, _ => rfl
  | (j, _) :: t, n, hl, hk => by
    simp only [Sparse.above, Bool.and_eq_true, decide_eq_true_eq] at hl
    have hjk : j ≠ k := by omega
    simp only [Sparse.get, hjk, if_false]
    exact Sparse.get_of_above d hl.2 (by omega)

@[simp] theorem Sparse.get_nil (d : Nat → V) (k : Nat) : Sparse.get d [] k = d k := rfl

/-- A read after `put` of the same key gives the value put. -/
@[simp] theorem Sparse.get_put_same (d : Nat → V) (k : Nat) (v : V) : ∀ l : Sparse V,
    Sparse.get d (Sparse.put k v l) k = v
  | [] => by simp [Sparse.put, Sparse.get]
  | (j, w) :: t => by
    simp only [Sparse.put]
    split
    · simp [Sparse.get]
    · split
      · simp [Sparse.get]
      · next h => simp [Sparse.get, Ne.symm h, Sparse.get_put_same d k v t]

/-- A read of another key after `put` gives what it gave before. -/
theorem Sparse.get_put_other (d : Nat → V) {k a : Nat} (v : V) (h : a ≠ k) : ∀ l : Sparse V,
    Sparse.get d (Sparse.put k v l) a = Sparse.get d l a
  | [] => by simp [Sparse.put, Sparse.get, Ne.symm h]
  | (j, w) :: t => by
    simp only [Sparse.put]
    split
    · simp [Sparse.get, Ne.symm h]
    · split
      · next hk => subst hk; simp [Sparse.get, Ne.symm h]
      · by_cases hj : j = a
        · simp [Sparse.get, hj]
        · simp [Sparse.get, hj, Sparse.get_put_other d v h t]

/-- A read of the dropped key of a sorted list gives the default. -/
theorem Sparse.get_del_same (d : Nat → V) (k : Nat) : ∀ {l : Sparse V}, Sparse.sorted l = true →
    Sparse.get d (Sparse.del k l) k = d k
  | [], _ => rfl
  | (j, w) :: t, h => by
    simp only [Sparse.del]
    split
    · next hj => subst hj; exact Sparse.get_of_above d h (Nat.le_refl _)
    · next hj => simp [Sparse.get, hj, Sparse.get_del_same d k (Sparse.sorted_tail h)]

/-- A read of another key after `del` gives what it gave before. -/
theorem Sparse.get_del_other (d : Nat → V) {k a : Nat} (h : a ≠ k) : ∀ l : Sparse V,
    Sparse.get d (Sparse.del k l) a = Sparse.get d l a
  | [] => rfl
  | (j, w) :: t => by
    simp only [Sparse.del]
    split
    · next hj => subst hj; simp [Sparse.get, Ne.symm h]
    · by_cases hj : j = a
      · simp [Sparse.get, hj]
      · simp [Sparse.get, hj, Sparse.get_del_other d h t]

/-- A read of a written key of a sorted map gives the value written. -/
theorem Sparse.get_set_same [DecidableEq V] (d : Nat → V) {m : Sparse V} (h : Sparse.sorted m = true) (k : Nat) (v : V) :
    Sparse.get d (Sparse.set d m k v) k = v := by
  simp only [Sparse.set]
  split
  · next hv => rw [Sparse.get_del_same d k h, hv]
  · simp

/-- A write leaves every other key alone. -/
theorem Sparse.get_set_other [DecidableEq V] (d : Nat → V) (m : Sparse V) {k a : Nat} (v : V) (h : a ≠ k) :
    Sparse.get d (Sparse.set d m k v) a = Sparse.get d m a := by
  simp only [Sparse.set]
  split
  · exact Sparse.get_del_other d h m
  · exact Sparse.get_put_other d v h m

theorem Sparse.above_put {n k : Nat} (v : V) (h : n < k) : ∀ {l : Sparse V}, Sparse.above n l = true →
    Sparse.above n (Sparse.put k v l) = true
  | [], _ => by simp [Sparse.put, Sparse.above, h]
  | (j, w) :: t, hl => by
    simp only [Sparse.above, Bool.and_eq_true, decide_eq_true_eq] at hl
    simp only [Sparse.put]
    split
    · next hk => simp [Sparse.above, h, hk, hl.2]
    · split
      · next hk => subst hk; simp [Sparse.above, h, hl.2]
      · next h1 h2 =>
        simp only [Sparse.above, Bool.and_eq_true, decide_eq_true_eq]
        exact ⟨hl.1, Sparse.above_put v (by omega) hl.2⟩

theorem Sparse.sorted_put (k : Nat) (v : V) : ∀ {l : Sparse V}, Sparse.sorted l = true →
    Sparse.sorted (Sparse.put k v l) = true
  | [], _ => rfl
  | (j, w) :: t, hl => by
    simp only [Sparse.put]
    split
    · next hk => simpa [Sparse.sorted, Sparse.above, hk] using hl
    · split
      · next hk => subst hk; exact hl
      · next h1 h2 => exact Sparse.above_put v (by omega) hl

theorem Sparse.above_del {n k : Nat} : ∀ {l : Sparse V}, Sparse.above n l = true → Sparse.above n (Sparse.del k l) = true
  | [], _ => rfl
  | (j, w) :: t, hl => by
    simp only [Sparse.above, Bool.and_eq_true, decide_eq_true_eq] at hl
    simp only [Sparse.del]
    split
    · exact Sparse.above_mono (by omega) hl.2
    · simp only [Sparse.above, Bool.and_eq_true, decide_eq_true_eq]
      exact ⟨hl.1, Sparse.above_del hl.2⟩

theorem Sparse.sorted_del (k : Nat) : ∀ {l : Sparse V}, Sparse.sorted l = true → Sparse.sorted (Sparse.del k l) = true
  | [], _ => rfl
  | (j, w) :: t, hl => by
    simp only [Sparse.del]
    split
    · exact Sparse.sorted_tail hl
    · exact Sparse.above_del hl

/-- A write keeps the keys strictly rising. -/
theorem Sparse.sorted_set [DecidableEq V] (d : Nat → V) {m : Sparse V} (h : Sparse.sorted m = true) (k : Nat) (v : V) :
    Sparse.sorted (Sparse.set d m k v) = true := by
  simp only [Sparse.set]
  split
  · exact Sparse.sorted_del k h
  · exact Sparse.sorted_put k v h

theorem Sparse.mem_put {k : Nat} {v : V} {p : Nat × V} : ∀ {l : Sparse V}, p ∈ Sparse.put k v l → p = (k, v) ∨ p ∈ l
  | [], h => by simpa [Sparse.put] using h
  | (j, w) :: t, h => by
    simp only [Sparse.put] at h
    split at h
    · simpa using h
    · split at h
      · rcases List.mem_cons.1 h with h | h
        · exact Or.inl h
        · exact Or.inr (List.mem_cons_of_mem _ h)
      · rcases List.mem_cons.1 h with h | h
        · exact Or.inr (h ▸ List.mem_cons_self ..)
        · rcases Sparse.mem_put h with h | h
          · exact Or.inl h
          · exact Or.inr (List.mem_cons_of_mem _ h)

theorem Sparse.mem_del {k : Nat} {p : Nat × V} : ∀ {l : Sparse V}, p ∈ Sparse.del k l → p ∈ l
  | [], h => by simp [Sparse.del] at h
  | (j, w) :: t, h => by
    simp only [Sparse.del] at h
    split at h
    · exact List.mem_cons_of_mem _ h
    · rcases List.mem_cons.1 h with h | h
      · exact h ▸ List.mem_cons_self ..
      · exact List.mem_cons_of_mem _ (Sparse.mem_del h)

/-- A write keeps the canonical form. -/
theorem Sparse.wf_set [DecidableEq V] (d : Nat → V) {m : Sparse V} (h : Sparse.wf d m = true) (k : Nat) (v : V) :
    Sparse.wf d (Sparse.set d m k v) = true := by
  simp only [Sparse.wf, Bool.and_eq_true, List.all_eq_true, decide_eq_true_eq] at h ⊢
  refine ⟨Sparse.sorted_set d h.1 k v, fun p hp => ?_⟩
  simp only [Sparse.set] at hp
  split at hp
  · exact h.2 p (Sparse.mem_del hp)
  · next hv =>
    rcases Sparse.mem_put hp with hp | hp
    · subst hp; exact hv
    · exact h.2 p hp

/-- The empty map is canonical. -/
@[simp] theorem Sparse.wf_nil [DecidableEq V] (d : Nat → V) : Sparse.wf d ([] : Sparse V) = true := rfl

theorem Sparse.above_filter (f : Nat × V → Bool) : ∀ {l : Sparse V} {n : Nat}, Sparse.above n l = true →
    Sparse.above n (l.filter f) = true
  | [], _, _ => rfl
  | (j, w) :: t, n, hl => by
    simp only [Sparse.above, Bool.and_eq_true, decide_eq_true_eq] at hl
    simp only [List.filter_cons]
    split
    · simp only [Sparse.above, Bool.and_eq_true, decide_eq_true_eq]
      exact ⟨hl.1, Sparse.above_filter f hl.2⟩
    · exact Sparse.above_filter f (Sparse.above_mono (by omega) hl.2)

/-- Dropping entries keeps the keys strictly rising. -/
theorem Sparse.sorted_filter (f : Nat × V → Bool) : ∀ {l : Sparse V}, Sparse.sorted l = true →
    Sparse.sorted (l.filter f) = true
  | [], _ => rfl
  | (j, w) :: t, hl => by
    simp only [List.filter_cons]
    split
    · exact Sparse.above_filter f hl
    · exact Sparse.sorted_filter f (Sparse.sorted_tail hl)

/-- Dropping entries keeps the canonical form. -/
theorem Sparse.wf_filter [DecidableEq V] (d : Nat → V) (f : Nat × V → Bool) {m : Sparse V} (h : Sparse.wf d m = true) :
    Sparse.wf d (m.filter f) = true := by
  simp only [Sparse.wf, Bool.and_eq_true, List.all_eq_true, decide_eq_true_eq] at h ⊢
  exact ⟨Sparse.sorted_filter f h.1, fun p hp => h.2 p (List.mem_filter.1 hp).1⟩

theorem Sparse.above_map (f : Nat → V → V) : ∀ {l : Sparse V} {n : Nat},
    Sparse.above n (l.map (fun e => (e.1, f e.1 e.2))) = Sparse.above n l
  | [], _ => rfl
  | (j, w) :: t, n => by simp [Sparse.above, Sparse.above_map f]

/-- Replacing values keeps the canonical form. -/
theorem Sparse.wf_mapVal [DecidableEq V] (d : Nat → V) (f : Nat → V → V) {m : Sparse V} (h : Sparse.sorted m = true) :
    Sparse.wf d (Sparse.mapVal d f m) = true := by
  simp only [Sparse.wf, Sparse.mapVal, Bool.and_eq_true, List.all_eq_true, decide_eq_true_eq]
  refine ⟨Sparse.sorted_filter _ ?_, fun p hp => of_decide_eq_true (List.mem_filter.1 hp).2⟩
  cases m with
  | nil => rfl
  | cons p t => obtain ⟨j, w⟩ := p; simpa [Sparse.sorted, Sparse.above_map f] using h

end Sys2Proof
end

