-- ==== Sys2Proof/Laws/CodeArray.lean ====
section
/-!
SUPPORT. What the shared operations of the Code Array do: command sequences, cycle by cycle, and banks.
-/

open Sys2Proof Sys2Proof.Machine

namespace Sys2Proof.Machine

theorem carBankOf_base (b k : Nat) (h : k < 2 ^ 23) : carBankOf (carBase b + k) = b := by
  simp only [carBankOf, carBase]; omega

theorem carBase_mod (b k : Nat) (h : k < 2 ^ 23) : (carBase b + k) % 8388608 = k := by
  simp only [carBase]; omega

/-- After a store of a sequence the requester has that one. -/
@[simp] theorem State.carSeq_putSeq (s : State) (req b : Nat) (cs : List (Nat × Word)) :
    (s.putSeq req b cs).carSeq req b = cs := by
  have h : ∀ l : List CarSeq, (l.filter (fun q => !(decide (q.req = req) && decide (q.bank = b)))).find?
      (fun q => decide (q.req = req) && decide (q.bank = b)) = none := by
    intro l
    rw [List.find?_eq_none]
    intro q hq
    have := (List.mem_filter.mp hq).2
    revert this
    cases (decide (q.req = req) && decide (q.bank = b)) <;> simp
  simp only [State.carSeq, State.putSeq, State.dropSeq, State.setCar, List.find?_append, h]
  simp

/-- A requester's own sequence is no other requester's buffer load. -/
@[simp] theorem State.otherLoad_putSeq (s : State) (req b : Nat) (cs : List (Nat × Word)) :
    (s.putSeq req b cs).otherLoad req b = s.otherLoad req b := by
  have h : ∀ l : List CarSeq, (l.filter (fun q => !(decide (q.req = req) && decide (q.bank = b)))).find?
      (loadsFor req b) = l.find? (loadsFor req b) := by
    intro l
    induction l with
    | nil => rfl
    | cons q t ih =>
      by_cases hr : q.req = req <;> by_cases hb : q.bank = b <;>
        simp only [List.filter, hr, hb, decide_true, decide_false, Bool.false_and, Bool.and_false, Bool.and_self,
          Bool.not_false, Bool.not_true, List.find?, ih]
      simp [loadsFor, hr]
  have e : loadsFor req b ⟨req, b, cs⟩ = false := by simp [loadsFor]
  simp only [State.otherLoad, State.putSeq, State.dropSeq, State.setCar, List.find?_append, h, List.find?, e,
    Option.or_none]

/-- A sequence stored and dropped is as if it had been dropped at once. -/
@[simp] theorem State.dropSeq_putSeq (s : State) (req b : Nat) (cs : List (Nat × Word)) :
    (s.putSeq req b cs).dropSeq req b = s.dropSeq req b := by
  simp [State.putSeq, State.dropSeq, State.setCar, List.filter_append, List.filter_filter]

@[simp] theorem State.putSeq_putSeq (s : State) (req b : Nat) (cs ds : List (Nat × Word)) :
    (s.putSeq req b cs).putSeq req b ds = s.putSeq req b ds := by
  simp [State.putSeq, State.dropSeq, State.setCar, List.filter_append, List.filter_filter]

@[simp] theorem State.bank_putSeq (s : State) (req b b' : Nat) (cs : List (Nat × Word)) :
    (s.putSeq req b cs).bank b' = s.bank b' := rfl

@[simp] theorem State.bank_dropSeq (s : State) (req b b' : Nat) : (s.dropSeq req b).bank b' = s.bank b' := rfl

/-- The first two cycles leave the sequence open; the third is the command word (R347), but where it is the exit (R348). -/
theorem State.carUnlockCmd_eq (s : State) (req b : Nat) (w : Word) (hs : s.carSeq req b = [])
    (ho : s.otherLoad req b = none) (hw : w ≠ 0x00F0) :
    s.carUnlockCmd req b w = (s.putSeq req b [(0x2AAA, 0x5A5A), (0x1555, 0xA5A5)]).carCommand req b (carBase b + 0x2AAA) w
      [(0x2AAA, 0x5A5A), (0x1555, 0xA5A5)] := by
  have e1 : s.carCycle req (carBase b + 0x2AAA) 0x5A5A = s.putSeq req b [(0x2AAA, 0x5A5A)] := by
    simp [State.carCycle, carBankOf_base, carBase_mod, hs, ho]
  have e2 : (s.putSeq req b [(0x2AAA, 0x5A5A)]).carCycle req (carBase b + 0x1555) 0xA5A5 =
      s.putSeq req b [(0x2AAA, 0x5A5A), (0x1555, 0xA5A5)] := by
    simp [State.carCycle, carBankOf_base, carBase_mod, ho]
  rw [State.carUnlockCmd, e1, e2]
  simp [State.carCycle, carBankOf_base, carBase_mod, ho, show ¬ w = 240#16 from hw]

end Sys2Proof.Machine
end

