-- ==== Sys2Proof/Laws/Ops.lean ====
section
/-!
SUPPORT. What the shared operations do: lists held by index, registers and their sticky bits, captures, counters.
-/

open Sys2Proof Sys2Proof.Machine

namespace Sys2Proof.Machine

variable {α : Type} (d v : α)

@[simp] theorem nth_nil (i : Nat) : nth d [] i = d := by cases i <;> rfl

@[simp] theorem length_setNth : ∀ (l : List α) (i : Nat), (setNth v l i).length = l.length
  | [], i => by cases i <;> rfl
  | _ :: _, 0 => rfl
  | _ :: t, i + 1 => by simp [setNth, length_setNth t i]

theorem nth_setNth_same : ∀ (l : List α) (i : Nat), i < l.length → nth d (setNth v l i) i = v
  | [], i, h => by simp at h
  | _ :: _, 0, _ => rfl
  | _ :: t, i + 1, h => by
    simp only [setNth, nth]
    exact nth_setNth_same t i (by simpa using h)

theorem nth_setNth_other : ∀ (l : List α) (i j : Nat), i ≠ j → nth d (setNth v l i) j = nth d l j
  | [], i, j, _ => by cases i <;> cases j <;> rfl
  | _ :: _, 0, 0, h => by simp at h
  | _ :: _, 0, j + 1, _ => rfl
  | _ :: _, i + 1, 0, _ => rfl
  | _ :: t, i + 1, j + 1, h => by
    simp only [setNth, nth]
    exact nth_setNth_other t i j (by omega)

@[simp] theorem setNth_nth_same : ∀ (l : List α) (i : Nat), setNth (nth d l i) l i = l
  | [], i => by cases i <;> rfl
  | _ :: _, 0 => rfl
  | _ :: t, i + 1 => by simp [setNth, nth, setNth_nth_same t i]

@[simp] theorem setNth_setNth (w : α) : ∀ (l : List α) (i : Nat), setNth v (setNth w l i) i = setNth v l i
  | [], i => by cases i <;> rfl
  | _ :: _, 0 => rfl
  | _ :: t, i + 1 => by simp [setNth, setNth_setNth w t i]

/-- Dropping entries by their keys changes the reads of those keys only. -/
theorem Sparse.get_filter_key (d : Nat → α) (f : Nat → Bool) : ∀ (l : Sparse α) (k : Nat),
    Sparse.get d (l.filter (fun p => f p.1)) k = if f k then Sparse.get d l k else d k
  | [], k => by simp
  | (j, w) :: t, k => by
    have ih := Sparse.get_filter_key d f t k
    by_cases hj : j = k
    · subst hj
      cases hf : f j
      · simp [List.filter, hf, ih]
      · simp [List.filter, hf, Sparse.get]
    · cases hf : f j
      · simp [List.filter, hf, Sparse.get, hj, ih]
      · simp [List.filter, hf, Sparse.get, hj, ih]

/-! ### Registers -/

variable (s : State)

theorem State.reg_setReg_other {o p : Nat} (w : DWord) (h : p ≠ o) : (s.setReg o w).reg p = s.reg p :=
  Sparse.get_set_other _ _ _ h

theorem State.reg_setReg_same (hs : Sparse.sorted s.regs = true) (o : Nat) (w : DWord) : (s.setReg o w).reg o = w :=
  Sparse.get_set_same _ hs o w

/-- A value other than the reset value is read back, whatever the list. -/
theorem State.reg_setReg_put (o : Nat) {w : DWord} (h : w ≠ regReset o) : (s.setReg o w).reg o = w := by
  simp [State.setReg, State.reg, Sparse.set, h]

theorem State.capture_cases (loc w : Nat) : s.capture loc w = s ∨
    s.capture loc w = s.setReg loc (BitVec.ofNat 32 (2 ^ 31 + w % 2 ^ 31)) := by
  simp only [State.capture]; split
  · exact .inl rfl
  · exact .inr rfl

/-- Raising an event changes its sticky register and its capture register, and nothing else of the state. -/
theorem State.raiseAt_eq (e b loc w : Nat) : ∃ r, s.raiseAt e b loc w = { s with regs := r } := by
  simp only [State.raiseAt]
  rcases State.capture_cases (s.raise e b) loc w with h | h <;> rw [h]
  · exact ⟨_, rfl⟩
  · exact ⟨_, rfl⟩

@[simp] theorem State.raiseAt_car (e b loc w : Nat) : (s.raiseAt e b loc w).car = s.car := by
  obtain ⟨r, h⟩ := s.raiseAt_eq e b loc w; rw [h]

theorem State.reg_raise_other {e b p : Nat} (h : p ≠ e) : (s.raise e b).reg p = s.reg p :=
  State.reg_setReg_other s _ h

/-- A raised bit reads 1, where the register resets to 0. -/
theorem State.reg_raise_bit (e b : Nat) (hb : b < 32) (hr : regReset e = 0) : bitOf ((s.raise e b).reg e).toNat b = true := by
  have hbit : (s.reg e ||| BitVec.ofNat 32 (2 ^ b)).getLsbD b = true := by
    simp only [BitVec.getLsbD_or, BitVec.getLsbD_ofNat, Nat.testBit_two_pow_self, hb, decide_true, Bool.and_true, Bool.or_true]
  have hne : s.reg e ||| BitVec.ofNat 32 (2 ^ b) ≠ regReset e := by
    rw [hr]; intro h; rw [h] at hbit; simp at hbit
  rw [State.raise, State.reg_setReg_put s e hne]
  exact hbit

theorem State.reg_raiseAt_bit (e b loc w : Nat) (hb : b < 32) (hr : regReset e = 0) (hl : e ≠ loc) :
    bitOf ((s.raiseAt e b loc w).reg e).toNat b = true := by
  simp only [State.raiseAt]
  rcases State.capture_cases (s.raise e b) loc w with h | h <;> rw [h]
  · exact State.reg_raise_bit s e b hb hr
  · rw [State.reg_setReg_other _ _ hl]; exact State.reg_raise_bit s e b hb hr

end Sys2Proof.Machine
end

