-- ==== Sys2Proof/Laws/Commands.lean ====
section
/-!
SUPPORT. What the dirty-page logs, the completion of a command and the transfer of its data do to State, said once.
-/

open Sys2Proof Sys2Proof.Machine

namespace Sys2Proof.Machine

theorem State.cmd?_tag {s : State} {tag : Nat} {c : Cmd} (h : s.cmd? tag = some c) : c.tag = tag := by
  have := List.find?_some h
  simpa using this

theorem State.inst_setInst_put (s : State) (i : Nat) {v : Inst} (h : v ≠ {}) : (s.setInst i v).inst i = v := by
  show Sparse.get (fun _ => {}) (Sparse.set (fun _ => {}) s.insts i v) i = v
  unfold Sparse.set
  rw [if_neg h]
  exact Sparse.get_put_same _ _ _ _

theorem State.inst_setInst_other (s : State) {i j : Nat} (v : Inst) (h : j ≠ i) : (s.setInst i v).inst j = s.inst j :=
  Sparse.get_set_other _ _ _ h

@[simp] theorem told_append (a b : List Out) : told (a ++ b) = told a ++ told b := List.filter_append ..

/-- While no link trains, DMA goes out at once (R37). -/
theorem State.send_linked {s : State} (h : Linked s) (p : Bool) (o : Out) : s.send p o = s.emit o := by
  obtain ⟨ha, hb⟩ := h
  cases p <;> simp [State.send, ha, hb]

/-! ### The dirty-page logs -/

/-- All that a log does: bits of instances move, INST_ERR bits rise, and bitmap lines go out. -/
def Logs (s t : State) : Prop :=
  (∃ n o, t = { s with insts := n, out := o }) ∧ told t.out = told s.out ∧
  ∀ j, ∃ d e, t.inst j = { s.inst j with dlog := d, err := e }

theorem Logs.refl (s : State) : Logs s s := ⟨⟨s.insts, s.out, rfl⟩, rfl, fun _ => ⟨_, _, rfl⟩⟩

theorem Logs.trans {s t u : State} (h : Logs s t) (k : Logs t u) : Logs s u := by
  obtain ⟨⟨n, o, rfl⟩, h2, h3⟩ := h
  obtain ⟨⟨n', o', rfl⟩, k2, k3⟩ := k
  refine ⟨⟨n', o', rfl⟩, k2.trans h2, fun j => ?_⟩
  obtain ⟨d, e, hd⟩ := h3 j
  obtain ⟨d', e', kd⟩ := k3 j
  exact ⟨d', e', by rw [kd, hd]⟩

theorem Logs.linked {s t : State} (h : Logs s t) (l : Linked s) : Linked t := by
  obtain ⟨⟨n, o, rfl⟩, -, -⟩ := h
  exact l

theorem Logs.foldl {α : Type} {f : State → α → State} (hf : ∀ s a, Linked s → Logs s (f s a)) :
    ∀ (l : List α) (s : State), Linked s → Logs s (l.foldl f s)
  | [], s, _ => Logs.refl s
  | a :: t, s, h => (hf s a h).trans (Logs.foldl hf t _ ((hf s a h).linked h))

theorem Logs.setInst (s : State) (i : Nat) (d : DirtyLog) (e : DWord) (h : ({ s.inst i with dlog := d, err := e } : Inst) ≠ {}) :
    Logs s (s.setInst i { s.inst i with dlog := d, err := e }) := by
  refine ⟨⟨_, _, rfl⟩, rfl, fun j => ?_⟩
  by_cases hj : j = i
  · subst hj; exact ⟨d, e, State.inst_setInst_put _ _ h⟩
  · exact ⟨_, _, State.inst_setInst_other _ _ hj⟩

theorem Inst.pend_ne {v : Inst} (h : v.dlog.pend ≠ []) : v ≠ {} := by rintro rfl; exact h rfl

theorem Inst.inBuf_ne {v : Inst} (h : v.dlog.inBuf ≠ []) : v ≠ {} := by rintro rfl; exact h rfl

theorem Logs.instErr (s : State) (i b : Nat) (hb : b < 32) : Logs s (s.instErr i b) := by
  refine Logs.setInst s i (s.inst i).dlog _ ?_
  intro h
  have he : (s.inst i).err ||| BitVec.ofNat 32 (2 ^ b) = 0 := congrArg Inst.err h
  have : ((s.inst i).err ||| BitVec.ofNat 32 (2 ^ b)).getLsbD b = true := by
    simp only [BitVec.getLsbD_or, BitVec.getLsbD_ofNat, Nat.testBit_two_pow_self, hb, decide_true, Bool.and_true, Bool.or_true]
  rw [he] at this
  simp at this

theorem Logs.orLine (s : State) (h : Linked s) (p q : Bool) (a : Nat) (l : List Byte) : Logs s (s.send p (.orLine q a l)) := by
  rw [State.send_linked h]
  exact ⟨⟨_, _, rfl⟩, by simp [State.emit, told], fun _ => ⟨_, _, rfl⟩⟩

theorem Logs.flushDirty (s : State) (h : Linked s) (i : Nat) (hp : (s.inst i).dlog.pend ≠ []) : Logs s (s.flushDirty i) := by
  have hne : (s.inst i).dlog.inBuf ++ (s.inst i).dlog.pend.filter (fun p => !(s.inst i).dlog.inBuf.contains p) ≠ [] := by
    intro e
    obtain ⟨e1, e2⟩ := List.append_eq_nil_iff.mp e
    rw [e1] at e2
    apply hp
    simpa using e2
  have h1 : Logs s (s.setInst i { s.inst i with dlog := { (s.inst i).dlog with
      pend := [], inBuf := (s.inst i).dlog.inBuf ++ (s.inst i).dlog.pend.filter (fun p => !(s.inst i).dlog.inBuf.contains p) } }) :=
    Logs.setInst s i _ (s.inst i).err (Inst.inBuf_ne hne)
  unfold State.flushDirty
  simp only []
  split
  · exact h1.trans (Logs.foldl (fun u k hu => Logs.orLine u hu _ _ _ _) _ _ (h1.linked h))
  · exact h1

theorem Logs.flushLogs (s : State) (h : Linked s) : Logs s s.flushLogs := by
  refine Logs.foldl (fun t e ht => ?_) _ s h
  split
  · exact Logs.refl t
  · rename_i hp
    exact Logs.flushDirty t ht _ (by simpa using hp)

theorem Logs.dirtyPage (s : State) (h : Linked s) (i p : Nat) : Logs s (s.dirtyPage i p) := by
  unfold State.dirtyPage
  simp only []
  split
  · exact Logs.refl s
  · have h1 : Logs s (if (!(s.inst i).dlog.lines.contains ((p - (s.inst i).dlog.first) / 512) && decide (trackerLines ≤ s.dirtyLines)) = true
        then s.flushLogs else s) := by
      split
      · exact Logs.flushLogs s h
      · exact Logs.refl s
    exact h1.trans (Logs.setInst _ i _ _ (Inst.pend_ne (by simp)))

/-- The dirty-page log of a DMA write does what `Logs` says. -/
theorem Logs.dirty (s : State) (h : Linked s) (i a n : Nat) : Logs s (s.dirty i a n) := by
  unfold State.dirty
  simp only []
  split
  · have h1 := Logs.foldl (f := fun u p => u.dirtyPage i p) (fun u p hu => Logs.dirtyPage u hu i p)
      ((pagesOf a n).filter (fun p => decide ((s.inst i).dlog.first ≤ p) && decide (p ≤ (s.inst i).dlog.first + (s.inst i).dlog.npages))) s h
    split
    · exact h1
    · exact h1.trans (Logs.instErr _ i 12 (by decide))
  · exact Logs.refl s

/-! ### Completion entries -/

/-- A command that can be answered completes with what it came to. -/
theorem State.post_complete {s : State} {tag : Nat} {c : Cmd} (h : Answerable s tag c) (s' : State) (st : Status) (dw0 dw1 : Nat)
    (log : Option (Nat × Nat)) :
    s'.post c st dw0 dw1 log = (if st = .unrecoveredRead then s'.dataError else s').complete c st dw0 dw1 log := by
  simp [State.post, h.2.1, h.2.2.1]

/-- A completion that can be written is written: one entry goes out, the command leaves flight, and only instance
counters and the CQ row change beside. -/
theorem State.complete_answered {s s' : State} {tag : Nat} {c : Cmd} {w : List Out} (st : Status) (dw0 dw1 : Nat)
    (h : Answerable s tag c) (hc : s'.cmds = s.cmds) (hsq : s'.sq = s.sq) (hcq : s'.cq = s.cq) (hp : s'.pins = s.pins)
    (hl : Linked s') (ho : told s'.out = told s.out ++ w) (ha : s'.alive c.inst c.gen = true) :
    Answered s s' c st dw0 dw1 w (s'.complete c st dw0 dw1 none) := by
  obtain ⟨h1, h2, -, h3, h4, h5, -⟩ := h
  have hq : s'.cqRow c.cq = s.cqRow c.cq := by simp [State.cqRow, hcq]
  have hr : s'.sqRow c.sq = s.sqRow c.sq := by simp [State.sqRow, hsq]
  have hm : s'.isManager c.inst = s.isManager c.inst := by simp [State.isManager, hp]
  let v : Inst := { s'.inst c.inst with
    completed := (s'.inst c.inst).completed + b2n !c.admin
    carryCnt := (s'.inst c.inst).carryCnt - b2n (!c.admin && decide (c.tag < (s'.inst c.inst).carryTag)) }
  have e : s'.complete c st dw0 dw1 none =
      ((((s'.dropCmd c.tag).setInst c.inst v).dirty c.inst ((s'.cqRow c.cq).base.toNat + 16 * (s'.cqRow c.cq).tail) 16).send c.port
        (.cqe c.port c.cq ((s'.cqRow c.cq).base.toNat + 16 * (s'.cqRow c.cq).tail)
          (cqeDwords dw0 dw1 (s'.sqRow c.sq).head (if s'.isManager c.inst then c.sq else (s'.sqRow c.sq).loc) c.cid
            (s'.cqRow c.cq).phase false st))).setCq c.cq
        { s'.cqRow c.cq with
          tail := if decide ((s'.cqRow c.cq).tail = (s'.cqRow c.cq).qsize) then 0 else (s'.cqRow c.cq).tail + 1
          phase := if decide ((s'.cqRow c.cq).tail = (s'.cqRow c.cq).qsize) then !(s'.cqRow c.cq).phase else (s'.cqRow c.cq).phase
          unsig := (s'.cqRow c.cq).unsig + 1 } := by
    have g2 : (s'.dropCmd c.tag).alive c.inst c.gen = true := ha
    unfold State.complete
    simp only [h2, g2, Bool.false_eq_true, if_false, Bool.not_true]
    have g4 : (!(s'.cqRow c.cq).valid || (s'.cqRow c.cq).error) = false := by simp [hq, h4, h5]
    simp only [Option.isSome_none]
    rw [if_neg]
    · rfl
    · show ¬ ((!(s'.cqRow c.cq).valid || (s'.cqRow c.cq).error) = true)
      rw [g4]; decide
  have hu : Linked ((s'.dropCmd c.tag).setInst c.inst v) := hl
  have g := Logs.dirty _ hu c.inst ((s'.cqRow c.cq).base.toNat + 16 * (s'.cqRow c.cq).tail) 16
  rw [e, State.send_linked (g.linked hu)]
  obtain ⟨⟨n, o, gn⟩, go, -⟩ := g
  rw [gn] at go ⊢
  have go' : told o = told s'.out := go
  refine ⟨⟨?_, ?_⟩, ?_⟩
  · show told (o ++ [_]) = _
    rw [told_append, go', ho]
    simp only [Cmd.entry, hq, hr, hm]
    rfl
  · show (s'.cmds.filter _) = _
    rw [hc]
  · rfl

/-- The same for `post`, with what an unrecovered read counts. -/
theorem State.post_answered {s s' : State} {tag : Nat} {c : Cmd} {w : List Out} (st : Status) (dw0 dw1 : Nat)
    (h : Answerable s tag c) (hc : s'.cmds = s.cmds) (hsq : s'.sq = s.sq) (hcq : s'.cq = s.cq) (hp : s'.pins = s.pins)
    (hl : Linked s') (ho : told s'.out = told s.out ++ w) (ha : s'.alive c.inst c.gen = true) :
    Answered s (if st = .unrecoveredRead then s'.dataError else s') c st dw0 dw1 w (s'.post c st dw0 dw1 none) := by
  rw [State.post_complete h]
  split
  · exact State.complete_answered st dw0 dw1 h hc hsq hcq hp hl ho ha
  · exact State.complete_answered st dw0 dw1 h hc hsq hcq hp hl ho ha

/-- A write of an instance whose generation is current goes out, under its PASID, after what its log does. -/
theorem State.dmaWrite_alive (s : State) (i g a : Nat) (d : List Byte) (ro : Bool) (hl : Linked s) (h : s.alive i g = true)
    (hd : d.isEmpty = false) :
    s.dmaWrite i g a d ro = (s.dirty i a d.length).emit
      (.write (s.portOf i) (if s.isManager i then none else (s.inst i).pasid) a d ro (s.port (s.portOf i)).cfg.ido) := by
  unfold State.dmaWrite
  simp only [hd, Bool.false_eq_true, if_false, h, if_true]
  exact State.send_linked ((Logs.dirty s hl i a d.length).linked hl) _ _

/-- Data moved to a data pointer: the writes go out in order; beside them only the logs move. -/
theorem State.scatter_moved (c : Cmd) : ∀ (l : List (Nat × Nat)) (d : List Byte) (s : State), Linked s → s.alive c.inst c.gen = true →
    ∃ n o, s.scatter c l d = { s with insts := n, out := o } ∧ told o = told s.out ++ c.moved s l d ∧
      ∀ j, ∃ v e, ({ s with insts := n } : State).inst j = { s.inst j with dlog := v, err := e }
  | [], _, s, _, _ => ⟨s.insts, s.out, rfl, by simp [Cmd.moved], fun _ => ⟨_, _, rfl⟩⟩
  | (a, k) :: t, d, s, hl, h => by
    by_cases hd : (d.take k).isEmpty = true
    · obtain ⟨n, o, e, ho, hn⟩ := State.scatter_moved c t (d.drop k) s hl h
      refine ⟨n, o, ?_, ?_, hn⟩
      · have : s.dmaWrite c.inst c.gen a (d.take k) (s.port c.port).relaxed = s := by simp [State.dmaWrite, hd]
        simp only [State.scatter, this, e]
      · simp only [Cmd.moved, hd, if_true, List.nil_append, ho]
    · have hd' : (d.take k).isEmpty = false := by simpa using hd
      have e1 := State.dmaWrite_alive s c.inst c.gen a (d.take k) (s.port c.port).relaxed hl h hd'
      obtain ⟨⟨n1, o1, g1⟩, g2, g3⟩ := Logs.dirty s hl c.inst a (d.take k).length
      rw [g1] at e1 g2 g3
      have g2' : told o1 = told s.out := g2
      have g3' : ∀ j, ∃ v e, ({ s with insts := n1 } : State).inst j = { s.inst j with dlog := v, err := e } := g3
      let w := Out.write (s.portOf c.inst) (if s.isManager c.inst then none else (s.inst c.inst).pasid) a (d.take k)
        (s.port c.port).relaxed (s.port (s.portOf c.inst)).cfg.ido
      have e2 : s.dmaWrite c.inst c.gen a (d.take k) (s.port c.port).relaxed = { s with insts := n1, out := o1 ++ [w] } := e1
      have ha : ({ s with insts := n1, out := o1 ++ [w] } : State).alive c.inst c.gen = true := by
        obtain ⟨v, e, hv⟩ := g3' c.inst
        show decide ((({ s with insts := n1 } : State).inst c.inst).gen = c.gen) = true
        rw [hv]; exact h
      obtain ⟨n, o, e, ho, hn⟩ := State.scatter_moved c t (d.drop k) { s with insts := n1, out := o1 ++ [w] } hl ha
      have hm : ∀ (l : List (Nat × Nat)) (d : List Byte), c.moved { s with insts := n1, out := o1 ++ [w] } l d = c.moved s l d := by
        obtain ⟨v, x, hv⟩ := g3' c.inst
        have hp : (({ s with insts := n1, out := o1 ++ [w] } : State).inst c.inst).pasid = (s.inst c.inst).pasid := by
          show (({ s with insts := n1 } : State).inst c.inst).pasid = _
          rw [hv]
        intro l
        induction l with
        | nil => intro d; rfl
        | cons y l ih => intro d; obtain ⟨b, m⟩ := y; simp only [Cmd.moved, hp, ih]; rfl
      refine ⟨n, o, ?_, ?_, fun j => ?_⟩
      · simp only [State.scatter, e2, e]
      · rw [ho, hm]
        show told (o1 ++ [w]) ++ _ = _
        rw [told_append, g2', List.append_assoc]
        simp only [Cmd.moved, hd', Bool.false_eq_true, if_false]
        rfl
      · obtain ⟨v, x, hv⟩ := hn j
        obtain ⟨v', x', hv'⟩ := g3' j
        refine ⟨v, x, ?_⟩
        have hv2 : ({ s with insts := n } : State).inst j =
            { (({ s with insts := n1 } : State).inst j) with dlog := v, err := x } := hv
        rw [hv2, hv']

/-- A command that moves data and completes with that status. -/
theorem State.scatter_answered {s s' : State} {tag : Nat} {c : Cmd} (l : List (Nat × Nat)) (d : List Byte) (st : Status) (dw0 dw1 : Nat)
    (h : Answerable s tag c) (hs : ∃ f, s' = { s with free := f }) (hst : st ≠ .unrecoveredRead) :
    Answered s s' c st dw0 dw1 (c.moved s l d) ((s'.scatter c l d).post c st dw0 dw1 none) := by
  obtain ⟨f, rfl⟩ := hs
  have hl : Linked { s with free := f } := h.2.2.2.2.2.2
  have ha : ({ s with free := f } : State).alive c.inst c.gen = true := h.2.2.2.1
  obtain ⟨n, o, e, ho, hn⟩ := State.scatter_moved c l d { s with free := f } hl ha
  have hm : ∀ (l : List (Nat × Nat)) (d : List Byte), c.moved { s with free := f } l d = c.moved s l d := by
    intro l
    induction l with
    | nil => intro d; rfl
    | cons x l ih => intro d; obtain ⟨a, k⟩ := x; simp only [Cmd.moved, ih]; rfl
  have hw : ({ ({ s with free := f } : State) with insts := n, out := o } : State).alive c.inst c.gen = true := by
    obtain ⟨v, x, hv⟩ := hn c.inst
    have hv2 : ({ ({ s with free := f } : State) with insts := n } : State).inst c.inst =
        { s.inst c.inst with dlog := v, err := x } := hv
    show decide ((({ ({ s with free := f } : State) with insts := n } : State).inst c.inst).gen = c.gen) = true
    rw [hv2]; exact ha
  rw [e]
  have := State.post_answered (s := s) (s' := { ({ s with free := f } : State) with insts := n, out := o }) (w := c.moved s l d)
    st dw0 dw1 h rfl rfl rfl rfl hl (by show told o = _; rw [ho, hm]) hw
  rw [if_neg hst] at this
  exact ⟨this.1, this.2⟩

end Sys2Proof.Machine
end

