-- ==== Sys2Proof/Laws/Flags.lean ====
section
/-!
SUPPORT. What the arithmetic of Gleluris-16 computes, in terms of word arithmetic and exact carries and borrows.
-/

namespace Sys2Proof.Machine

theorem signedOverflow_eq (i : Int) : signedOverflow i = outside i := by
  simp [signedOverflow, outside]

/-- ADD and ADC: the sum, its carry, and signed overflow. -/
theorem aluAdd_eq (a v : Word) (c : Nat) (hc : c < 2) :
    aluAdd a v c = { a := a + v + BitVec.ofNat 16 c, e := truth (decide (65536 ≤ a.toNat + v.toNat + c))
                     ovf := outside (a.toInt + v.toInt + c) } := by
  have ha := a.isLt
  have hv := v.isLt
  simp only [aluAdd, signedOverflow_eq, truth, AluOut.mk.injEq, and_true]
  constructor
  · apply BitVec.eq_of_toNat_eq
    simp only [BitVec.toNat_ofNat, BitVec.toNat_add]
    omega
  · by_cases h : 65536 ≤ a.toNat + v.toNat + c
    · have : (a.toNat + v.toNat + c) / 65536 = 1 := by omega
      simp [h, this]
    · have : (a.toNat + v.toNat + c) / 65536 = 0 := by omega
      simp [h, this]

/-- SUB and SBC: the difference, its borrow, and signed overflow. -/
theorem aluSub_eq (a v : Word) (c : Nat) :
    aluSub a v c = { a := a - v - BitVec.ofNat 16 c, e := truth (decide (a.toNat < v.toNat + c))
                     ovf := outside (a.toInt - v.toInt - c) } := by
  have ha := a.isLt
  have hv := v.isLt
  simp only [aluSub, signedOverflow_eq, truth, AluOut.mk.injEq, and_true]
  constructor
  · apply BitVec.eq_of_toNat_eq
    simp only [BitVec.toNat_ofInt, BitVec.toNat_sub, BitVec.toNat_ofNat]
    omega
  · by_cases h : a.toNat < v.toNat + c
    · have : (a.toNat : Int) - v.toNat - c < 0 := by omega
      simp [h, this]
    · have : ¬ (a.toNat : Int) - v.toNat - c < 0 := by omega
      simp [h, this]

/-- NEG. -/
theorem aluNeg_eq (v : Word) :
    aluNeg v = { a := 0 - v, e := truth (decide (v ≠ 0)), ovf := decide (v = 0x8000) } := by
  simp [aluNeg, truth]

/-- What an arithmetic result that sets no DZ leaves. -/
theorem putAlu_arith (a e : Word) (ovf : Bool) (c : Core) :
    putAlu { a := a, e := e, ovf := ovf } c = c.arith a e ovf := by
  simp [putAlu, Core.arith]

/-- A division by a divisor other than 0 leaves quotient and remainder: dividend = quotient · divisor + remainder. -/
theorem aluDivu_spec (a d : Word) (h : d ≠ 0) :
    a.toNat = (aluDivu a d).a.toNat * d.toNat + (aluDivu a d).e.toNat ∧ (aluDivu a d).e.toNat < d.toNat := by
  have hd : 0 < d.toNat := by
    rcases Nat.eq_zero_or_pos d.toNat with h0 | h0
    · exact absurd (BitVec.eq_of_toNat_eq (by simpa using h0)) h
    · exact h0
  have ha := a.isLt
  have hq : a.toNat / d.toNat < 2 ^ 16 := Nat.lt_of_le_of_lt (Nat.div_le_self _ _) ha
  have hr : a.toNat % d.toNat < d.toNat := Nat.mod_lt _ hd
  have hdl := d.isLt
  simp only [aluDivu, h, if_false, BitVec.toNat_ofNat, Nat.mod_eq_of_lt hq, Nat.mod_eq_of_lt (Nat.lt_trans hr hdl)]
  refine ⟨?_, hr⟩
  rw [Nat.mul_comm]
  exact (Nat.div_add_mod _ _).symm

/-! ### Shifts: the spec's bounded shifts are the shifts of words -/

theorem shl16_eq (a : Word) (c : Nat) : shl16 a c = a <<< c := by
  unfold shl16
  split
  · rw [BitVec.shiftLeft_eq_zero (by omega)]; rfl
  · rfl

theorem shr16_eq (a : Word) (c : Nat) : shr16 a c = a >>> c := by
  unfold shr16
  split
  · rw [BitVec.ushiftRight_eq_zero (by omega)]; rfl
  · rfl

theorem sar16_eq (a : Word) (c : Nat) : sar16 a c = a.sshiftRight c := by
  unfold sar16
  split
  · apply BitVec.eq_of_getLsbD_eq
    intro i hi
    have hs : a.msb = decide (a.toInt < 0) := by rw [BitVec.msb_eq_toInt]
    have hb : ¬ (c + i < 16) := by omega
    rw [BitVec.getLsbD_sshiftRight, hs]
    by_cases h : a.toInt < 0
    · have e : (65535#16) = BitVec.allOnes 16 := rfl
      have g : (65535#16).getLsbD i = true := by rw [e, BitVec.getLsbD_allOnes]; simp [hi]
      rw [show ((if a.toInt < 0 then 0xFFFF else 0 : Word)) = 65535#16 from if_pos h, g]
      simp [h, hb]; omega
    · simp [h, hb]
  · rfl

theorem rol16_eq (a : Word) (c : Nat) : rol16 a c = a.rotateLeft c := by
  simp only [rol16, BitVec.rotateLeft, BitVec.rotateLeftAux]
  by_cases h : c % 16 = 0
  · have h0 : a >>> 16 = 0#16 := BitVec.ushiftRight_eq_zero (by omega)
    simp [h, h0]
  · have : (16 - c % 16) % 16 = 16 - c % 16 := Nat.mod_eq_of_lt (by omega)
    rw [this]

theorem ror16_eq (a : Word) (c : Nat) : ror16 a c = a.rotateRight c := by
  simp only [ror16, BitVec.rotateRight, BitVec.rotateRightAux]
  by_cases h : c % 16 = 0
  · have h0 : a <<< 16 = 0#16 := BitVec.shiftLeft_eq_zero (by omega)
    simp [h, h0]
  · have : (16 - c % 16) % 16 = 16 - c % 16 := Nat.mod_eq_of_lt (by omega)
    rw [this]

/-- The two words of a double word, high word first. -/
theorem halves (v : BitVec 32) : (v.extractLsb' 16 16 ++ v.extractLsb' 0 16 : BitVec 32) = v := by
  apply BitVec.eq_of_getLsbD_eq
  intro i hi
  simp only [BitVec.getLsbD_append, BitVec.getLsbD_extractLsb']
  by_cases h16 : i < 16
  · simp [h16]
  · have h1 : i - 16 < 16 := by omega
    have h2 : 16 + (i - 16) = i := by omega
    simp [h16, h1, h2]

theorem dshl_eq (e a : Word) (c : Nat) : ((dshl e a c).e ++ (dshl e a c).a : BitVec 32) = (e ++ a : BitVec 32) <<< c := by
  simp only [dshl, dbl, halves]
  split
  · rw [BitVec.shiftLeft_eq_zero (by omega)]; rfl
  · rfl

theorem dshr_eq (e a : Word) (c : Nat) : ((dshr e a c).e ++ (dshr e a c).a : BitVec 32) = (e ++ a : BitVec 32) >>> c := by
  simp only [dshr, dbl, halves]
  split
  · rw [BitVec.ushiftRight_eq_zero (by omega)]; rfl
  · rfl

theorem dsar_eq (e a : Word) (c : Nat) :
    ((dsar e a c).e ++ (dsar e a c).a : BitVec 32) = (e ++ a : BitVec 32).sshiftRight c := by
  simp only [dsar, dbl, halves]
  split
  · have hm : (e ++ a : BitVec 32).msb = decide (e.toInt < 0) := by
      rw [← BitVec.msb_eq_toInt, BitVec.msb_append]
      simp
    apply BitVec.eq_of_getLsbD_eq
    intro i hi
    have hb : ¬ (c + i < 32) := by omega
    rw [BitVec.getLsbD_sshiftRight, hm]
    by_cases h : e.toInt < 0
    · have e1 : (0xFFFFFFFF#32) = BitVec.allOnes 32 := rfl
      have g : (0xFFFFFFFF#32).getLsbD i = true := by rw [e1, BitVec.getLsbD_allOnes]; simp [hi]
      rw [show ((if e.toInt < 0 then 0xFFFF_FFFF else 0 : BitVec 32)) = 0xFFFFFFFF#32 from if_pos h, g]
      simp [h, hb]; omega
    · simp [h, hb]
  · rfl

end Sys2Proof.Machine
end

