-- ==== Sys2Proof/Laws/State.lean ====
section
/-!
SUPPORT. Updates of State, one lemma for each field that an update leaves alone: proofs never unfold an update.
-/

namespace Sys2Proof.Machine

variable (s : State)

/-! ### State.setReg -/

@[simp] theorem State.setReg_pending (o : Nat) (v : DWord) : (s.setReg o v).pending = s.pending := rfl
@[simp] theorem State.setReg_out (o : Nat) (v : DWord) : (s.setReg o v).out = s.out := rfl
@[simp] theorem State.setReg_held (o : Nat) (v : DWord) : (s.setReg o v).held = s.held := rfl
@[simp] theorem State.setReg_stage (o : Nat) (v : DWord) : (s.setReg o v).stage = s.stage := rfl
@[simp] theorem State.setReg_beat (o : Nat) (v : DWord) : (s.setReg o v).beat = s.beat := rfl
@[simp] theorem State.setReg_careLog (o : Nat) (v : DWord) : (s.setReg o v).careLog = s.careLog := rfl
@[simp] theorem State.setReg_free (o : Nat) (v : DWord) : (s.setReg o v).free = s.free := rfl
@[simp] theorem State.setReg_dev (o : Nat) (v : DWord) : (s.setReg o v).dev = s.dev := rfl
@[simp] theorem State.setReg_rebuilding (o : Nat) (v : DWord) : (s.setReg o v).rebuilding = s.rebuilding := rfl
@[simp] theorem State.setReg_health (o : Nat) (v : DWord) : (s.setReg o v).health = s.health := rfl
@[simp] theorem State.setReg_portA (o : Nat) (v : DWord) : (s.setReg o v).portA = s.portA := rfl
@[simp] theorem State.setReg_portB (o : Nat) (v : DWord) : (s.setReg o v).portB = s.portB := rfl
@[simp] theorem State.setReg_idsLoaded (o : Nat) (v : DWord) : (s.setReg o v).idsLoaded = s.idsLoaded := rfl
@[simp] theorem State.setReg_subsys (o : Nat) (v : DWord) : (s.setReg o v).subsys = s.subsys := rfl
@[simp] theorem State.setReg_sq (o : Nat) (v : DWord) : (s.setReg o v).sq = s.sq := rfl
@[simp] theorem State.setReg_cq (o : Nat) (v : DWord) : (s.setReg o v).cq = s.cq := rfl
@[simp] theorem State.setReg_imt (o : Nat) (v : DWord) : (s.setReg o v).imt = s.imt := rfl
@[simp] theorem State.setReg_qdata (o : Nat) (v : DWord) : (s.setReg o v).qdata = s.qdata := rfl
@[simp] theorem State.setReg_cmds (o : Nat) (v : DWord) : (s.setReg o v).cmds = s.cmds := rfl
@[simp] theorem State.setReg_nextTag (o : Nat) (v : DWord) : (s.setReg o v).nextTag = s.nextTag := rfl
@[simp] theorem State.setReg_jhold (o : Nat) (v : DWord) : (s.setReg o v).jhold = s.jhold := rfl
@[simp] theorem State.setReg_insts (o : Nat) (v : DWord) : (s.setReg o v).insts = s.insts := rfl
@[simp] theorem State.setReg_peers (o : Nat) (v : DWord) : (s.setReg o v).peers = s.peers := rfl
@[simp] theorem State.setReg_peerNext (o : Nat) (v : DWord) : (s.setReg o v).peerNext = s.peerNext := rfl
@[simp] theorem State.setReg_ns (o : Nat) (v : DWord) : (s.setReg o v).ns = s.ns := rfl
@[simp] theorem State.setReg_nsSerial (o : Nat) (v : DWord) : (s.setReg o v).nsSerial = s.nsSerial := rfl
@[simp] theorem State.setReg_progs (o : Nat) (v : DWord) : (s.setReg o v).progs = s.progs := rfl
@[simp] theorem State.setReg_profiles (o : Nat) (v : DWord) : (s.setReg o v).profiles = s.profiles := rfl
@[simp] theorem State.setReg_chans (o : Nat) (v : DWord) : (s.setReg o v).chans = s.chans := rfl
@[simp] theorem State.setReg_luns (o : Nat) (v : DWord) : (s.setReg o v).luns = s.luns := rfl
@[simp] theorem State.setReg_nand (o : Nat) (v : DWord) : (s.setReg o v).nand = s.nand := rfl
@[simp] theorem State.setReg_fw (o : Nat) (v : DWord) : (s.setReg o v).fw = s.fw := rfl
@[simp] theorem State.setReg_soft (o : Nat) (v : DWord) : (s.setReg o v).soft = s.soft := rfl
@[simp] theorem State.setReg_recon (o : Nat) (v : DWord) : (s.setReg o v).recon = s.recon := rfl
@[simp] theorem State.setReg_ftl (o : Nat) (v : DWord) : (s.setReg o v).ftl = s.ftl := rfl
@[simp] theorem State.setReg_chest (o : Nat) (v : DWord) : (s.setReg o v).chest = s.chest := rfl
@[simp] theorem State.setReg_rebuild (o : Nat) (v : DWord) : (s.setReg o v).rebuild = s.rebuild := rfl
@[simp] theorem State.setReg_strands (o : Nat) (v : DWord) : (s.setReg o v).strands = s.strands := rfl
@[simp] theorem State.setReg_runs (o : Nat) (v : DWord) : (s.setReg o v).runs = s.runs := rfl
@[simp] theorem State.setReg_idx (o : Nat) (v : DWord) : (s.setReg o v).idx = s.idx := rfl
@[simp] theorem State.setReg_shd (o : Nat) (v : DWord) : (s.setReg o v).shd = s.shd := rfl
@[simp] theorem State.setReg_cores (o : Nat) (v : DWord) : (s.setReg o v).cores = s.cores := rfl
@[simp] theorem State.setReg_icache (o : Nat) (v : DWord) : (s.setReg o v).icache = s.icache := rfl
@[simp] theorem State.setReg_icacheBad (o : Nat) (v : DWord) : (s.setReg o v).icacheBad = s.icacheBad := rfl
@[simp] theorem State.setReg_route (o : Nat) (v : DWord) : (s.setReg o v).route = s.route := rfl
@[simp] theorem State.setReg_ksu (o : Nat) (v : DWord) : (s.setReg o v).ksu = s.ksu := rfl
@[simp] theorem State.setReg_car (o : Nat) (v : DWord) : (s.setReg o v).car = s.car := rfl
@[simp] theorem State.setReg_dram (o : Nat) (v : DWord) : (s.setReg o v).dram = s.dram := rfl
@[simp] theorem State.setReg_pwr (o : Nat) (v : DWord) : (s.setReg o v).pwr = s.pwr := rfl
@[simp] theorem State.setReg_pins (o : Nat) (v : DWord) : (s.setReg o v).pins = s.pins := rfl

/-! ### State.emit -/

@[simp] theorem State.emit_pending (o : Out) : (s.emit o).pending = s.pending := rfl
@[simp] theorem State.emit_regs (o : Out) : (s.emit o).regs = s.regs := rfl
@[simp] theorem State.emit_held (o : Out) : (s.emit o).held = s.held := rfl
@[simp] theorem State.emit_stage (o : Out) : (s.emit o).stage = s.stage := rfl
@[simp] theorem State.emit_beat (o : Out) : (s.emit o).beat = s.beat := rfl
@[simp] theorem State.emit_careLog (o : Out) : (s.emit o).careLog = s.careLog := rfl
@[simp] theorem State.emit_free (o : Out) : (s.emit o).free = s.free := rfl
@[simp] theorem State.emit_dev (o : Out) : (s.emit o).dev = s.dev := rfl
@[simp] theorem State.emit_rebuilding (o : Out) : (s.emit o).rebuilding = s.rebuilding := rfl
@[simp] theorem State.emit_health (o : Out) : (s.emit o).health = s.health := rfl
@[simp] theorem State.emit_portA (o : Out) : (s.emit o).portA = s.portA := rfl
@[simp] theorem State.emit_portB (o : Out) : (s.emit o).portB = s.portB := rfl
@[simp] theorem State.emit_idsLoaded (o : Out) : (s.emit o).idsLoaded = s.idsLoaded := rfl
@[simp] theorem State.emit_subsys (o : Out) : (s.emit o).subsys = s.subsys := rfl
@[simp] theorem State.emit_sq (o : Out) : (s.emit o).sq = s.sq := rfl
@[simp] theorem State.emit_cq (o : Out) : (s.emit o).cq = s.cq := rfl
@[simp] theorem State.emit_imt (o : Out) : (s.emit o).imt = s.imt := rfl
@[simp] theorem State.emit_qdata (o : Out) : (s.emit o).qdata = s.qdata := rfl
@[simp] theorem State.emit_cmds (o : Out) : (s.emit o).cmds = s.cmds := rfl
@[simp] theorem State.emit_nextTag (o : Out) : (s.emit o).nextTag = s.nextTag := rfl
@[simp] theorem State.emit_jhold (o : Out) : (s.emit o).jhold = s.jhold := rfl
@[simp] theorem State.emit_insts (o : Out) : (s.emit o).insts = s.insts := rfl
@[simp] theorem State.emit_peers (o : Out) : (s.emit o).peers = s.peers := rfl
@[simp] theorem State.emit_peerNext (o : Out) : (s.emit o).peerNext = s.peerNext := rfl
@[simp] theorem State.emit_ns (o : Out) : (s.emit o).ns = s.ns := rfl
@[simp] theorem State.emit_nsSerial (o : Out) : (s.emit o).nsSerial = s.nsSerial := rfl
@[simp] theorem State.emit_progs (o : Out) : (s.emit o).progs = s.progs := rfl
@[simp] theorem State.emit_profiles (o : Out) : (s.emit o).profiles = s.profiles := rfl
@[simp] theorem State.emit_chans (o : Out) : (s.emit o).chans = s.chans := rfl
@[simp] theorem State.emit_luns (o : Out) : (s.emit o).luns = s.luns := rfl
@[simp] theorem State.emit_nand (o : Out) : (s.emit o).nand = s.nand := rfl
@[simp] theorem State.emit_fw (o : Out) : (s.emit o).fw = s.fw := rfl
@[simp] theorem State.emit_soft (o : Out) : (s.emit o).soft = s.soft := rfl
@[simp] theorem State.emit_recon (o : Out) : (s.emit o).recon = s.recon := rfl
@[simp] theorem State.emit_ftl (o : Out) : (s.emit o).ftl = s.ftl := rfl
@[simp] theorem State.emit_chest (o : Out) : (s.emit o).chest = s.chest := rfl
@[simp] theorem State.emit_rebuild (o : Out) : (s.emit o).rebuild = s.rebuild := rfl
@[simp] theorem State.emit_strands (o : Out) : (s.emit o).strands = s.strands := rfl
@[simp] theorem State.emit_runs (o : Out) : (s.emit o).runs = s.runs := rfl
@[simp] theorem State.emit_idx (o : Out) : (s.emit o).idx = s.idx := rfl
@[simp] theorem State.emit_shd (o : Out) : (s.emit o).shd = s.shd := rfl
@[simp] theorem State.emit_cores (o : Out) : (s.emit o).cores = s.cores := rfl
@[simp] theorem State.emit_icache (o : Out) : (s.emit o).icache = s.icache := rfl
@[simp] theorem State.emit_icacheBad (o : Out) : (s.emit o).icacheBad = s.icacheBad := rfl
@[simp] theorem State.emit_route (o : Out) : (s.emit o).route = s.route := rfl
@[simp] theorem State.emit_ksu (o : Out) : (s.emit o).ksu = s.ksu := rfl
@[simp] theorem State.emit_car (o : Out) : (s.emit o).car = s.car := rfl
@[simp] theorem State.emit_dram (o : Out) : (s.emit o).dram = s.dram := rfl
@[simp] theorem State.emit_pwr (o : Out) : (s.emit o).pwr = s.pwr := rfl
@[simp] theorem State.emit_pins (o : Out) : (s.emit o).pins = s.pins := rfl

/-! ### State.tick -/

@[simp] theorem State.tick_pending : (s.tick).pending = s.pending := rfl
@[simp] theorem State.tick_out : (s.tick).out = s.out := rfl
@[simp] theorem State.tick_regs : (s.tick).regs = s.regs := rfl
@[simp] theorem State.tick_held : (s.tick).held = s.held := rfl
@[simp] theorem State.tick_stage : (s.tick).stage = s.stage := rfl
@[simp] theorem State.tick_beat : (s.tick).beat = s.beat := rfl
@[simp] theorem State.tick_careLog : (s.tick).careLog = s.careLog := rfl
@[simp] theorem State.tick_dev : (s.tick).dev = s.dev := rfl
@[simp] theorem State.tick_rebuilding : (s.tick).rebuilding = s.rebuilding := rfl
@[simp] theorem State.tick_health : (s.tick).health = s.health := rfl
@[simp] theorem State.tick_portA : (s.tick).portA = s.portA := rfl
@[simp] theorem State.tick_portB : (s.tick).portB = s.portB := rfl
@[simp] theorem State.tick_idsLoaded : (s.tick).idsLoaded = s.idsLoaded := rfl
@[simp] theorem State.tick_subsys : (s.tick).subsys = s.subsys := rfl
@[simp] theorem State.tick_sq : (s.tick).sq = s.sq := rfl
@[simp] theorem State.tick_cq : (s.tick).cq = s.cq := rfl
@[simp] theorem State.tick_imt : (s.tick).imt = s.imt := rfl
@[simp] theorem State.tick_qdata : (s.tick).qdata = s.qdata := rfl
@[simp] theorem State.tick_cmds : (s.tick).cmds = s.cmds := rfl
@[simp] theorem State.tick_nextTag : (s.tick).nextTag = s.nextTag := rfl
@[simp] theorem State.tick_jhold : (s.tick).jhold = s.jhold := rfl
@[simp] theorem State.tick_insts : (s.tick).insts = s.insts := rfl
@[simp] theorem State.tick_peers : (s.tick).peers = s.peers := rfl
@[simp] theorem State.tick_peerNext : (s.tick).peerNext = s.peerNext := rfl
@[simp] theorem State.tick_ns : (s.tick).ns = s.ns := rfl
@[simp] theorem State.tick_nsSerial : (s.tick).nsSerial = s.nsSerial := rfl
@[simp] theorem State.tick_progs : (s.tick).progs = s.progs := rfl
@[simp] theorem State.tick_profiles : (s.tick).profiles = s.profiles := rfl
@[simp] theorem State.tick_chans : (s.tick).chans = s.chans := rfl
@[simp] theorem State.tick_luns : (s.tick).luns = s.luns := rfl
@[simp] theorem State.tick_nand : (s.tick).nand = s.nand := rfl
@[simp] theorem State.tick_fw : (s.tick).fw = s.fw := rfl
@[simp] theorem State.tick_soft : (s.tick).soft = s.soft := rfl
@[simp] theorem State.tick_recon : (s.tick).recon = s.recon := rfl
@[simp] theorem State.tick_ftl : (s.tick).ftl = s.ftl := rfl
@[simp] theorem State.tick_chest : (s.tick).chest = s.chest := rfl
@[simp] theorem State.tick_rebuild : (s.tick).rebuild = s.rebuild := rfl
@[simp] theorem State.tick_strands : (s.tick).strands = s.strands := rfl
@[simp] theorem State.tick_runs : (s.tick).runs = s.runs := rfl
@[simp] theorem State.tick_idx : (s.tick).idx = s.idx := rfl
@[simp] theorem State.tick_shd : (s.tick).shd = s.shd := rfl
@[simp] theorem State.tick_cores : (s.tick).cores = s.cores := rfl
@[simp] theorem State.tick_icache : (s.tick).icache = s.icache := rfl
@[simp] theorem State.tick_icacheBad : (s.tick).icacheBad = s.icacheBad := rfl
@[simp] theorem State.tick_route : (s.tick).route = s.route := rfl
@[simp] theorem State.tick_ksu : (s.tick).ksu = s.ksu := rfl
@[simp] theorem State.tick_car : (s.tick).car = s.car := rfl
@[simp] theorem State.tick_dram : (s.tick).dram = s.dram := rfl
@[simp] theorem State.tick_pwr : (s.tick).pwr = s.pwr := rfl
@[simp] theorem State.tick_pins : (s.tick).pins = s.pins := rfl

/-! ### State.setPort -/

@[simp] theorem State.setPort_pending (p : Bool) (v : Port) : (s.setPort p v).pending = s.pending := by cases p <;> rfl
@[simp] theorem State.setPort_out (p : Bool) (v : Port) : (s.setPort p v).out = s.out := by cases p <;> rfl
@[simp] theorem State.setPort_regs (p : Bool) (v : Port) : (s.setPort p v).regs = s.regs := by cases p <;> rfl
@[simp] theorem State.setPort_held (p : Bool) (v : Port) : (s.setPort p v).held = s.held := by cases p <;> rfl
@[simp] theorem State.setPort_stage (p : Bool) (v : Port) : (s.setPort p v).stage = s.stage := by cases p <;> rfl
@[simp] theorem State.setPort_beat (p : Bool) (v : Port) : (s.setPort p v).beat = s.beat := by cases p <;> rfl
@[simp] theorem State.setPort_careLog (p : Bool) (v : Port) : (s.setPort p v).careLog = s.careLog := by cases p <;> rfl
@[simp] theorem State.setPort_free (p : Bool) (v : Port) : (s.setPort p v).free = s.free := by cases p <;> rfl
@[simp] theorem State.setPort_dev (p : Bool) (v : Port) : (s.setPort p v).dev = s.dev := by cases p <;> rfl
@[simp] theorem State.setPort_rebuilding (p : Bool) (v : Port) : (s.setPort p v).rebuilding = s.rebuilding := by cases p <;> rfl
@[simp] theorem State.setPort_health (p : Bool) (v : Port) : (s.setPort p v).health = s.health := by cases p <;> rfl
@[simp] theorem State.setPort_idsLoaded (p : Bool) (v : Port) : (s.setPort p v).idsLoaded = s.idsLoaded := by cases p <;> rfl
@[simp] theorem State.setPort_subsys (p : Bool) (v : Port) : (s.setPort p v).subsys = s.subsys := by cases p <;> rfl
@[simp] theorem State.setPort_sq (p : Bool) (v : Port) : (s.setPort p v).sq = s.sq := by cases p <;> rfl
@[simp] theorem State.setPort_cq (p : Bool) (v : Port) : (s.setPort p v).cq = s.cq := by cases p <;> rfl
@[simp] theorem State.setPort_imt (p : Bool) (v : Port) : (s.setPort p v).imt = s.imt := by cases p <;> rfl
@[simp] theorem State.setPort_qdata (p : Bool) (v : Port) : (s.setPort p v).qdata = s.qdata := by cases p <;> rfl
@[simp] theorem State.setPort_cmds (p : Bool) (v : Port) : (s.setPort p v).cmds = s.cmds := by cases p <;> rfl
@[simp] theorem State.setPort_nextTag (p : Bool) (v : Port) : (s.setPort p v).nextTag = s.nextTag := by cases p <;> rfl
@[simp] theorem State.setPort_jhold (p : Bool) (v : Port) : (s.setPort p v).jhold = s.jhold := by cases p <;> rfl
@[simp] theorem State.setPort_insts (p : Bool) (v : Port) : (s.setPort p v).insts = s.insts := by cases p <;> rfl
@[simp] theorem State.setPort_peers (p : Bool) (v : Port) : (s.setPort p v).peers = s.peers := by cases p <;> rfl
@[simp] theorem State.setPort_peerNext (p : Bool) (v : Port) : (s.setPort p v).peerNext = s.peerNext := by cases p <;> rfl
@[simp] theorem State.setPort_ns (p : Bool) (v : Port) : (s.setPort p v).ns = s.ns := by cases p <;> rfl
@[simp] theorem State.setPort_nsSerial (p : Bool) (v : Port) : (s.setPort p v).nsSerial = s.nsSerial := by cases p <;> rfl
@[simp] theorem State.setPort_progs (p : Bool) (v : Port) : (s.setPort p v).progs = s.progs := by cases p <;> rfl
@[simp] theorem State.setPort_profiles (p : Bool) (v : Port) : (s.setPort p v).profiles = s.profiles := by cases p <;> rfl
@[simp] theorem State.setPort_chans (p : Bool) (v : Port) : (s.setPort p v).chans = s.chans := by cases p <;> rfl
@[simp] theorem State.setPort_luns (p : Bool) (v : Port) : (s.setPort p v).luns = s.luns := by cases p <;> rfl
@[simp] theorem State.setPort_nand (p : Bool) (v : Port) : (s.setPort p v).nand = s.nand := by cases p <;> rfl
@[simp] theorem State.setPort_fw (p : Bool) (v : Port) : (s.setPort p v).fw = s.fw := by cases p <;> rfl
@[simp] theorem State.setPort_soft (p : Bool) (v : Port) : (s.setPort p v).soft = s.soft := by cases p <;> rfl
@[simp] theorem State.setPort_recon (p : Bool) (v : Port) : (s.setPort p v).recon = s.recon := by cases p <;> rfl
@[simp] theorem State.setPort_ftl (p : Bool) (v : Port) : (s.setPort p v).ftl = s.ftl := by cases p <;> rfl
@[simp] theorem State.setPort_chest (p : Bool) (v : Port) : (s.setPort p v).chest = s.chest := by cases p <;> rfl
@[simp] theorem State.setPort_rebuild (p : Bool) (v : Port) : (s.setPort p v).rebuild = s.rebuild := by cases p <;> rfl
@[simp] theorem State.setPort_strands (p : Bool) (v : Port) : (s.setPort p v).strands = s.strands := by cases p <;> rfl
@[simp] theorem State.setPort_runs (p : Bool) (v : Port) : (s.setPort p v).runs = s.runs := by cases p <;> rfl
@[simp] theorem State.setPort_idx (p : Bool) (v : Port) : (s.setPort p v).idx = s.idx := by cases p <;> rfl
@[simp] theorem State.setPort_shd (p : Bool) (v : Port) : (s.setPort p v).shd = s.shd := by cases p <;> rfl
@[simp] theorem State.setPort_cores (p : Bool) (v : Port) : (s.setPort p v).cores = s.cores := by cases p <;> rfl
@[simp] theorem State.setPort_icache (p : Bool) (v : Port) : (s.setPort p v).icache = s.icache := by cases p <;> rfl
@[simp] theorem State.setPort_icacheBad (p : Bool) (v : Port) : (s.setPort p v).icacheBad = s.icacheBad := by cases p <;> rfl
@[simp] theorem State.setPort_route (p : Bool) (v : Port) : (s.setPort p v).route = s.route := by cases p <;> rfl
@[simp] theorem State.setPort_ksu (p : Bool) (v : Port) : (s.setPort p v).ksu = s.ksu := by cases p <;> rfl
@[simp] theorem State.setPort_car (p : Bool) (v : Port) : (s.setPort p v).car = s.car := by cases p <;> rfl
@[simp] theorem State.setPort_dram (p : Bool) (v : Port) : (s.setPort p v).dram = s.dram := by cases p <;> rfl
@[simp] theorem State.setPort_pwr (p : Bool) (v : Port) : (s.setPort p v).pwr = s.pwr := by cases p <;> rfl
@[simp] theorem State.setPort_pins (p : Bool) (v : Port) : (s.setPort p v).pins = s.pins := by cases p <;> rfl

/-! ### State.setInst -/

@[simp] theorem State.setInst_pending (i : Nat) (v : Inst) : (s.setInst i v).pending = s.pending := rfl
@[simp] theorem State.setInst_out (i : Nat) (v : Inst) : (s.setInst i v).out = s.out := rfl
@[simp] theorem State.setInst_regs (i : Nat) (v : Inst) : (s.setInst i v).regs = s.regs := rfl
@[simp] theorem State.setInst_held (i : Nat) (v : Inst) : (s.setInst i v).held = s.held := rfl
@[simp] theorem State.setInst_stage (i : Nat) (v : Inst) : (s.setInst i v).stage = s.stage := rfl
@[simp] theorem State.setInst_beat (i : Nat) (v : Inst) : (s.setInst i v).beat = s.beat := rfl
@[simp] theorem State.setInst_careLog (i : Nat) (v : Inst) : (s.setInst i v).careLog = s.careLog := rfl
@[simp] theorem State.setInst_free (i : Nat) (v : Inst) : (s.setInst i v).free = s.free := rfl
@[simp] theorem State.setInst_dev (i : Nat) (v : Inst) : (s.setInst i v).dev = s.dev := rfl
@[simp] theorem State.setInst_rebuilding (i : Nat) (v : Inst) : (s.setInst i v).rebuilding = s.rebuilding := rfl
@[simp] theorem State.setInst_health (i : Nat) (v : Inst) : (s.setInst i v).health = s.health := rfl
@[simp] theorem State.setInst_portA (i : Nat) (v : Inst) : (s.setInst i v).portA = s.portA := rfl
@[simp] theorem State.setInst_portB (i : Nat) (v : Inst) : (s.setInst i v).portB = s.portB := rfl
@[simp] theorem State.setInst_idsLoaded (i : Nat) (v : Inst) : (s.setInst i v).idsLoaded = s.idsLoaded := rfl
@[simp] theorem State.setInst_subsys (i : Nat) (v : Inst) : (s.setInst i v).subsys = s.subsys := rfl
@[simp] theorem State.setInst_sq (i : Nat) (v : Inst) : (s.setInst i v).sq = s.sq := rfl
@[simp] theorem State.setInst_cq (i : Nat) (v : Inst) : (s.setInst i v).cq = s.cq := rfl
@[simp] theorem State.setInst_imt (i : Nat) (v : Inst) : (s.setInst i v).imt = s.imt := rfl
@[simp] theorem State.setInst_qdata (i : Nat) (v : Inst) : (s.setInst i v).qdata = s.qdata := rfl
@[simp] theorem State.setInst_cmds (i : Nat) (v : Inst) : (s.setInst i v).cmds = s.cmds := rfl
@[simp] theorem State.setInst_nextTag (i : Nat) (v : Inst) : (s.setInst i v).nextTag = s.nextTag := rfl
@[simp] theorem State.setInst_jhold (i : Nat) (v : Inst) : (s.setInst i v).jhold = s.jhold := rfl
@[simp] theorem State.setInst_peers (i : Nat) (v : Inst) : (s.setInst i v).peers = s.peers := rfl
@[simp] theorem State.setInst_peerNext (i : Nat) (v : Inst) : (s.setInst i v).peerNext = s.peerNext := rfl
@[simp] theorem State.setInst_ns (i : Nat) (v : Inst) : (s.setInst i v).ns = s.ns := rfl
@[simp] theorem State.setInst_nsSerial (i : Nat) (v : Inst) : (s.setInst i v).nsSerial = s.nsSerial := rfl
@[simp] theorem State.setInst_progs (i : Nat) (v : Inst) : (s.setInst i v).progs = s.progs := rfl
@[simp] theorem State.setInst_profiles (i : Nat) (v : Inst) : (s.setInst i v).profiles = s.profiles := rfl
@[simp] theorem State.setInst_chans (i : Nat) (v : Inst) : (s.setInst i v).chans = s.chans := rfl
@[simp] theorem State.setInst_luns (i : Nat) (v : Inst) : (s.setInst i v).luns = s.luns := rfl
@[simp] theorem State.setInst_nand (i : Nat) (v : Inst) : (s.setInst i v).nand = s.nand := rfl
@[simp] theorem State.setInst_fw (i : Nat) (v : Inst) : (s.setInst i v).fw = s.fw := rfl
@[simp] theorem State.setInst_soft (i : Nat) (v : Inst) : (s.setInst i v).soft = s.soft := rfl
@[simp] theorem State.setInst_recon (i : Nat) (v : Inst) : (s.setInst i v).recon = s.recon := rfl
@[simp] theorem State.setInst_ftl (i : Nat) (v : Inst) : (s.setInst i v).ftl = s.ftl := rfl
@[simp] theorem State.setInst_chest (i : Nat) (v : Inst) : (s.setInst i v).chest = s.chest := rfl
@[simp] theorem State.setInst_rebuild (i : Nat) (v : Inst) : (s.setInst i v).rebuild = s.rebuild := rfl
@[simp] theorem State.setInst_strands (i : Nat) (v : Inst) : (s.setInst i v).strands = s.strands := rfl
@[simp] theorem State.setInst_runs (i : Nat) (v : Inst) : (s.setInst i v).runs = s.runs := rfl
@[simp] theorem State.setInst_idx (i : Nat) (v : Inst) : (s.setInst i v).idx = s.idx := rfl
@[simp] theorem State.setInst_shd (i : Nat) (v : Inst) : (s.setInst i v).shd = s.shd := rfl
@[simp] theorem State.setInst_cores (i : Nat) (v : Inst) : (s.setInst i v).cores = s.cores := rfl
@[simp] theorem State.setInst_icache (i : Nat) (v : Inst) : (s.setInst i v).icache = s.icache := rfl
@[simp] theorem State.setInst_icacheBad (i : Nat) (v : Inst) : (s.setInst i v).icacheBad = s.icacheBad := rfl
@[simp] theorem State.setInst_route (i : Nat) (v : Inst) : (s.setInst i v).route = s.route := rfl
@[simp] theorem State.setInst_ksu (i : Nat) (v : Inst) : (s.setInst i v).ksu = s.ksu := rfl
@[simp] theorem State.setInst_car (i : Nat) (v : Inst) : (s.setInst i v).car = s.car := rfl
@[simp] theorem State.setInst_dram (i : Nat) (v : Inst) : (s.setInst i v).dram = s.dram := rfl
@[simp] theorem State.setInst_pwr (i : Nat) (v : Inst) : (s.setInst i v).pwr = s.pwr := rfl
@[simp] theorem State.setInst_pins (i : Nat) (v : Inst) : (s.setInst i v).pins = s.pins := rfl

/-! ### State.setPwr -/

@[simp] theorem State.setPwr_pending (p : Power) : (s.setPwr p).pending = s.pending := rfl
@[simp] theorem State.setPwr_out (p : Power) : (s.setPwr p).out = s.out := rfl
@[simp] theorem State.setPwr_regs (p : Power) : (s.setPwr p).regs = s.regs := rfl
@[simp] theorem State.setPwr_held (p : Power) : (s.setPwr p).held = s.held := rfl
@[simp] theorem State.setPwr_stage (p : Power) : (s.setPwr p).stage = s.stage := rfl
@[simp] theorem State.setPwr_beat (p : Power) : (s.setPwr p).beat = s.beat := rfl
@[simp] theorem State.setPwr_careLog (p : Power) : (s.setPwr p).careLog = s.careLog := rfl
@[simp] theorem State.setPwr_free (p : Power) : (s.setPwr p).free = s.free := rfl
@[simp] theorem State.setPwr_dev (p : Power) : (s.setPwr p).dev = s.dev := rfl
@[simp] theorem State.setPwr_rebuilding (p : Power) : (s.setPwr p).rebuilding = s.rebuilding := rfl
@[simp] theorem State.setPwr_health (p : Power) : (s.setPwr p).health = s.health := rfl
@[simp] theorem State.setPwr_portA (p : Power) : (s.setPwr p).portA = s.portA := rfl
@[simp] theorem State.setPwr_portB (p : Power) : (s.setPwr p).portB = s.portB := rfl
@[simp] theorem State.setPwr_idsLoaded (p : Power) : (s.setPwr p).idsLoaded = s.idsLoaded := rfl
@[simp] theorem State.setPwr_subsys (p : Power) : (s.setPwr p).subsys = s.subsys := rfl
@[simp] theorem State.setPwr_sq (p : Power) : (s.setPwr p).sq = s.sq := rfl
@[simp] theorem State.setPwr_cq (p : Power) : (s.setPwr p).cq = s.cq := rfl
@[simp] theorem State.setPwr_imt (p : Power) : (s.setPwr p).imt = s.imt := rfl
@[simp] theorem State.setPwr_qdata (p : Power) : (s.setPwr p).qdata = s.qdata := rfl
@[simp] theorem State.setPwr_cmds (p : Power) : (s.setPwr p).cmds = s.cmds := rfl
@[simp] theorem State.setPwr_nextTag (p : Power) : (s.setPwr p).nextTag = s.nextTag := rfl
@[simp] theorem State.setPwr_jhold (p : Power) : (s.setPwr p).jhold = s.jhold := rfl
@[simp] theorem State.setPwr_insts (p : Power) : (s.setPwr p).insts = s.insts := rfl
@[simp] theorem State.setPwr_peers (p : Power) : (s.setPwr p).peers = s.peers := rfl
@[simp] theorem State.setPwr_peerNext (p : Power) : (s.setPwr p).peerNext = s.peerNext := rfl
@[simp] theorem State.setPwr_ns (p : Power) : (s.setPwr p).ns = s.ns := rfl
@[simp] theorem State.setPwr_nsSerial (p : Power) : (s.setPwr p).nsSerial = s.nsSerial := rfl
@[simp] theorem State.setPwr_progs (p : Power) : (s.setPwr p).progs = s.progs := rfl
@[simp] theorem State.setPwr_profiles (p : Power) : (s.setPwr p).profiles = s.profiles := rfl
@[simp] theorem State.setPwr_chans (p : Power) : (s.setPwr p).chans = s.chans := rfl
@[simp] theorem State.setPwr_luns (p : Power) : (s.setPwr p).luns = s.luns := rfl
@[simp] theorem State.setPwr_nand (p : Power) : (s.setPwr p).nand = s.nand := rfl
@[simp] theorem State.setPwr_fw (p : Power) : (s.setPwr p).fw = s.fw := rfl
@[simp] theorem State.setPwr_soft (p : Power) : (s.setPwr p).soft = s.soft := rfl
@[simp] theorem State.setPwr_recon (p : Power) : (s.setPwr p).recon = s.recon := rfl
@[simp] theorem State.setPwr_ftl (p : Power) : (s.setPwr p).ftl = s.ftl := rfl
@[simp] theorem State.setPwr_chest (p : Power) : (s.setPwr p).chest = s.chest := rfl
@[simp] theorem State.setPwr_rebuild (p : Power) : (s.setPwr p).rebuild = s.rebuild := rfl
@[simp] theorem State.setPwr_strands (p : Power) : (s.setPwr p).strands = s.strands := rfl
@[simp] theorem State.setPwr_runs (p : Power) : (s.setPwr p).runs = s.runs := rfl
@[simp] theorem State.setPwr_idx (p : Power) : (s.setPwr p).idx = s.idx := rfl
@[simp] theorem State.setPwr_shd (p : Power) : (s.setPwr p).shd = s.shd := rfl
@[simp] theorem State.setPwr_cores (p : Power) : (s.setPwr p).cores = s.cores := rfl
@[simp] theorem State.setPwr_icache (p : Power) : (s.setPwr p).icache = s.icache := rfl
@[simp] theorem State.setPwr_icacheBad (p : Power) : (s.setPwr p).icacheBad = s.icacheBad := rfl
@[simp] theorem State.setPwr_route (p : Power) : (s.setPwr p).route = s.route := rfl
@[simp] theorem State.setPwr_ksu (p : Power) : (s.setPwr p).ksu = s.ksu := rfl
@[simp] theorem State.setPwr_car (p : Power) : (s.setPwr p).car = s.car := rfl
@[simp] theorem State.setPwr_dram (p : Power) : (s.setPwr p).dram = s.dram := rfl
@[simp] theorem State.setPwr_pins (p : Power) : (s.setPwr p).pins = s.pins := rfl

/-! ### State.setSq -/

@[simp] theorem State.setSq_pending (q : Nat) (r : SqRow) : (s.setSq q r).pending = s.pending := rfl
@[simp] theorem State.setSq_out (q : Nat) (r : SqRow) : (s.setSq q r).out = s.out := rfl
@[simp] theorem State.setSq_regs (q : Nat) (r : SqRow) : (s.setSq q r).regs = s.regs := rfl
@[simp] theorem State.setSq_held (q : Nat) (r : SqRow) : (s.setSq q r).held = s.held := rfl
@[simp] theorem State.setSq_stage (q : Nat) (r : SqRow) : (s.setSq q r).stage = s.stage := rfl
@[simp] theorem State.setSq_beat (q : Nat) (r : SqRow) : (s.setSq q r).beat = s.beat := rfl
@[simp] theorem State.setSq_careLog (q : Nat) (r : SqRow) : (s.setSq q r).careLog = s.careLog := rfl
@[simp] theorem State.setSq_free (q : Nat) (r : SqRow) : (s.setSq q r).free = s.free := rfl
@[simp] theorem State.setSq_dev (q : Nat) (r : SqRow) : (s.setSq q r).dev = s.dev := rfl
@[simp] theorem State.setSq_rebuilding (q : Nat) (r : SqRow) : (s.setSq q r).rebuilding = s.rebuilding := rfl
@[simp] theorem State.setSq_health (q : Nat) (r : SqRow) : (s.setSq q r).health = s.health := rfl
@[simp] theorem State.setSq_portA (q : Nat) (r : SqRow) : (s.setSq q r).portA = s.portA := rfl
@[simp] theorem State.setSq_portB (q : Nat) (r : SqRow) : (s.setSq q r).portB = s.portB := rfl
@[simp] theorem State.setSq_idsLoaded (q : Nat) (r : SqRow) : (s.setSq q r).idsLoaded = s.idsLoaded := rfl
@[simp] theorem State.setSq_subsys (q : Nat) (r : SqRow) : (s.setSq q r).subsys = s.subsys := rfl
@[simp] theorem State.setSq_cq (q : Nat) (r : SqRow) : (s.setSq q r).cq = s.cq := rfl
@[simp] theorem State.setSq_imt (q : Nat) (r : SqRow) : (s.setSq q r).imt = s.imt := rfl
@[simp] theorem State.setSq_qdata (q : Nat) (r : SqRow) : (s.setSq q r).qdata = s.qdata := rfl
@[simp] theorem State.setSq_cmds (q : Nat) (r : SqRow) : (s.setSq q r).cmds = s.cmds := rfl
@[simp] theorem State.setSq_nextTag (q : Nat) (r : SqRow) : (s.setSq q r).nextTag = s.nextTag := rfl
@[simp] theorem State.setSq_jhold (q : Nat) (r : SqRow) : (s.setSq q r).jhold = s.jhold := rfl
@[simp] theorem State.setSq_insts (q : Nat) (r : SqRow) : (s.setSq q r).insts = s.insts := rfl
@[simp] theorem State.setSq_peers (q : Nat) (r : SqRow) : (s.setSq q r).peers = s.peers := rfl
@[simp] theorem State.setSq_peerNext (q : Nat) (r : SqRow) : (s.setSq q r).peerNext = s.peerNext := rfl
@[simp] theorem State.setSq_ns (q : Nat) (r : SqRow) : (s.setSq q r).ns = s.ns := rfl
@[simp] theorem State.setSq_nsSerial (q : Nat) (r : SqRow) : (s.setSq q r).nsSerial = s.nsSerial := rfl
@[simp] theorem State.setSq_progs (q : Nat) (r : SqRow) : (s.setSq q r).progs = s.progs := rfl
@[simp] theorem State.setSq_profiles (q : Nat) (r : SqRow) : (s.setSq q r).profiles = s.profiles := rfl
@[simp] theorem State.setSq_chans (q : Nat) (r : SqRow) : (s.setSq q r).chans = s.chans := rfl
@[simp] theorem State.setSq_luns (q : Nat) (r : SqRow) : (s.setSq q r).luns = s.luns := rfl
@[simp] theorem State.setSq_nand (q : Nat) (r : SqRow) : (s.setSq q r).nand = s.nand := rfl
@[simp] theorem State.setSq_fw (q : Nat) (r : SqRow) : (s.setSq q r).fw = s.fw := rfl
@[simp] theorem State.setSq_soft (q : Nat) (r : SqRow) : (s.setSq q r).soft = s.soft := rfl
@[simp] theorem State.setSq_recon (q : Nat) (r : SqRow) : (s.setSq q r).recon = s.recon := rfl
@[simp] theorem State.setSq_ftl (q : Nat) (r : SqRow) : (s.setSq q r).ftl = s.ftl := rfl
@[simp] theorem State.setSq_chest (q : Nat) (r : SqRow) : (s.setSq q r).chest = s.chest := rfl
@[simp] theorem State.setSq_rebuild (q : Nat) (r : SqRow) : (s.setSq q r).rebuild = s.rebuild := rfl
@[simp] theorem State.setSq_strands (q : Nat) (r : SqRow) : (s.setSq q r).strands = s.strands := rfl
@[simp] theorem State.setSq_runs (q : Nat) (r : SqRow) : (s.setSq q r).runs = s.runs := rfl
@[simp] theorem State.setSq_idx (q : Nat) (r : SqRow) : (s.setSq q r).idx = s.idx := rfl
@[simp] theorem State.setSq_shd (q : Nat) (r : SqRow) : (s.setSq q r).shd = s.shd := rfl
@[simp] theorem State.setSq_cores (q : Nat) (r : SqRow) : (s.setSq q r).cores = s.cores := rfl
@[simp] theorem State.setSq_icache (q : Nat) (r : SqRow) : (s.setSq q r).icache = s.icache := rfl
@[simp] theorem State.setSq_icacheBad (q : Nat) (r : SqRow) : (s.setSq q r).icacheBad = s.icacheBad := rfl
@[simp] theorem State.setSq_route (q : Nat) (r : SqRow) : (s.setSq q r).route = s.route := rfl
@[simp] theorem State.setSq_ksu (q : Nat) (r : SqRow) : (s.setSq q r).ksu = s.ksu := rfl
@[simp] theorem State.setSq_car (q : Nat) (r : SqRow) : (s.setSq q r).car = s.car := rfl
@[simp] theorem State.setSq_dram (q : Nat) (r : SqRow) : (s.setSq q r).dram = s.dram := rfl
@[simp] theorem State.setSq_pwr (q : Nat) (r : SqRow) : (s.setSq q r).pwr = s.pwr := rfl
@[simp] theorem State.setSq_pins (q : Nat) (r : SqRow) : (s.setSq q r).pins = s.pins := rfl

/-! ### State.setCq -/

@[simp] theorem State.setCq_pending (q : Nat) (r : CqRow) : (s.setCq q r).pending = s.pending := rfl
@[simp] theorem State.setCq_out (q : Nat) (r : CqRow) : (s.setCq q r).out = s.out := rfl
@[simp] theorem State.setCq_regs (q : Nat) (r : CqRow) : (s.setCq q r).regs = s.regs := rfl
@[simp] theorem State.setCq_held (q : Nat) (r : CqRow) : (s.setCq q r).held = s.held := rfl
@[simp] theorem State.setCq_stage (q : Nat) (r : CqRow) : (s.setCq q r).stage = s.stage := rfl
@[simp] theorem State.setCq_beat (q : Nat) (r : CqRow) : (s.setCq q r).beat = s.beat := rfl
@[simp] theorem State.setCq_careLog (q : Nat) (r : CqRow) : (s.setCq q r).careLog = s.careLog := rfl
@[simp] theorem State.setCq_free (q : Nat) (r : CqRow) : (s.setCq q r).free = s.free := rfl
@[simp] theorem State.setCq_dev (q : Nat) (r : CqRow) : (s.setCq q r).dev = s.dev := rfl
@[simp] theorem State.setCq_rebuilding (q : Nat) (r : CqRow) : (s.setCq q r).rebuilding = s.rebuilding := rfl
@[simp] theorem State.setCq_health (q : Nat) (r : CqRow) : (s.setCq q r).health = s.health := rfl
@[simp] theorem State.setCq_portA (q : Nat) (r : CqRow) : (s.setCq q r).portA = s.portA := rfl
@[simp] theorem State.setCq_portB (q : Nat) (r : CqRow) : (s.setCq q r).portB = s.portB := rfl
@[simp] theorem State.setCq_idsLoaded (q : Nat) (r : CqRow) : (s.setCq q r).idsLoaded = s.idsLoaded := rfl
@[simp] theorem State.setCq_subsys (q : Nat) (r : CqRow) : (s.setCq q r).subsys = s.subsys := rfl
@[simp] theorem State.setCq_sq (q : Nat) (r : CqRow) : (s.setCq q r).sq = s.sq := rfl
@[simp] theorem State.setCq_imt (q : Nat) (r : CqRow) : (s.setCq q r).imt = s.imt := rfl
@[simp] theorem State.setCq_qdata (q : Nat) (r : CqRow) : (s.setCq q r).qdata = s.qdata := rfl
@[simp] theorem State.setCq_cmds (q : Nat) (r : CqRow) : (s.setCq q r).cmds = s.cmds := rfl
@[simp] theorem State.setCq_nextTag (q : Nat) (r : CqRow) : (s.setCq q r).nextTag = s.nextTag := rfl
@[simp] theorem State.setCq_jhold (q : Nat) (r : CqRow) : (s.setCq q r).jhold = s.jhold := rfl
@[simp] theorem State.setCq_insts (q : Nat) (r : CqRow) : (s.setCq q r).insts = s.insts := rfl
@[simp] theorem State.setCq_peers (q : Nat) (r : CqRow) : (s.setCq q r).peers = s.peers := rfl
@[simp] theorem State.setCq_peerNext (q : Nat) (r : CqRow) : (s.setCq q r).peerNext = s.peerNext := rfl
@[simp] theorem State.setCq_ns (q : Nat) (r : CqRow) : (s.setCq q r).ns = s.ns := rfl
@[simp] theorem State.setCq_nsSerial (q : Nat) (r : CqRow) : (s.setCq q r).nsSerial = s.nsSerial := rfl
@[simp] theorem State.setCq_progs (q : Nat) (r : CqRow) : (s.setCq q r).progs = s.progs := rfl
@[simp] theorem State.setCq_profiles (q : Nat) (r : CqRow) : (s.setCq q r).profiles = s.profiles := rfl
@[simp] theorem State.setCq_chans (q : Nat) (r : CqRow) : (s.setCq q r).chans = s.chans := rfl
@[simp] theorem State.setCq_luns (q : Nat) (r : CqRow) : (s.setCq q r).luns = s.luns := rfl
@[simp] theorem State.setCq_nand (q : Nat) (r : CqRow) : (s.setCq q r).nand = s.nand := rfl
@[simp] theorem State.setCq_fw (q : Nat) (r : CqRow) : (s.setCq q r).fw = s.fw := rfl
@[simp] theorem State.setCq_soft (q : Nat) (r : CqRow) : (s.setCq q r).soft = s.soft := rfl
@[simp] theorem State.setCq_recon (q : Nat) (r : CqRow) : (s.setCq q r).recon = s.recon := rfl
@[simp] theorem State.setCq_ftl (q : Nat) (r : CqRow) : (s.setCq q r).ftl = s.ftl := rfl
@[simp] theorem State.setCq_chest (q : Nat) (r : CqRow) : (s.setCq q r).chest = s.chest := rfl
@[simp] theorem State.setCq_rebuild (q : Nat) (r : CqRow) : (s.setCq q r).rebuild = s.rebuild := rfl
@[simp] theorem State.setCq_strands (q : Nat) (r : CqRow) : (s.setCq q r).strands = s.strands := rfl
@[simp] theorem State.setCq_runs (q : Nat) (r : CqRow) : (s.setCq q r).runs = s.runs := rfl
@[simp] theorem State.setCq_idx (q : Nat) (r : CqRow) : (s.setCq q r).idx = s.idx := rfl
@[simp] theorem State.setCq_shd (q : Nat) (r : CqRow) : (s.setCq q r).shd = s.shd := rfl
@[simp] theorem State.setCq_cores (q : Nat) (r : CqRow) : (s.setCq q r).cores = s.cores := rfl
@[simp] theorem State.setCq_icache (q : Nat) (r : CqRow) : (s.setCq q r).icache = s.icache := rfl
@[simp] theorem State.setCq_icacheBad (q : Nat) (r : CqRow) : (s.setCq q r).icacheBad = s.icacheBad := rfl
@[simp] theorem State.setCq_route (q : Nat) (r : CqRow) : (s.setCq q r).route = s.route := rfl
@[simp] theorem State.setCq_ksu (q : Nat) (r : CqRow) : (s.setCq q r).ksu = s.ksu := rfl
@[simp] theorem State.setCq_car (q : Nat) (r : CqRow) : (s.setCq q r).car = s.car := rfl
@[simp] theorem State.setCq_dram (q : Nat) (r : CqRow) : (s.setCq q r).dram = s.dram := rfl
@[simp] theorem State.setCq_pwr (q : Nat) (r : CqRow) : (s.setCq q r).pwr = s.pwr := rfl
@[simp] theorem State.setCq_pins (q : Nat) (r : CqRow) : (s.setCq q r).pins = s.pins := rfl

/-! ### State.setCmd -/

@[simp] theorem State.setCmd_pending (c : Cmd) : (s.setCmd c).pending = s.pending := rfl
@[simp] theorem State.setCmd_out (c : Cmd) : (s.setCmd c).out = s.out := rfl
@[simp] theorem State.setCmd_regs (c : Cmd) : (s.setCmd c).regs = s.regs := rfl
@[simp] theorem State.setCmd_held (c : Cmd) : (s.setCmd c).held = s.held := rfl
@[simp] theorem State.setCmd_stage (c : Cmd) : (s.setCmd c).stage = s.stage := rfl
@[simp] theorem State.setCmd_beat (c : Cmd) : (s.setCmd c).beat = s.beat := rfl
@[simp] theorem State.setCmd_careLog (c : Cmd) : (s.setCmd c).careLog = s.careLog := rfl
@[simp] theorem State.setCmd_free (c : Cmd) : (s.setCmd c).free = s.free := rfl
@[simp] theorem State.setCmd_dev (c : Cmd) : (s.setCmd c).dev = s.dev := rfl
@[simp] theorem State.setCmd_rebuilding (c : Cmd) : (s.setCmd c).rebuilding = s.rebuilding := rfl
@[simp] theorem State.setCmd_health (c : Cmd) : (s.setCmd c).health = s.health := rfl
@[simp] theorem State.setCmd_portA (c : Cmd) : (s.setCmd c).portA = s.portA := rfl
@[simp] theorem State.setCmd_portB (c : Cmd) : (s.setCmd c).portB = s.portB := rfl
@[simp] theorem State.setCmd_idsLoaded (c : Cmd) : (s.setCmd c).idsLoaded = s.idsLoaded := rfl
@[simp] theorem State.setCmd_subsys (c : Cmd) : (s.setCmd c).subsys = s.subsys := rfl
@[simp] theorem State.setCmd_sq (c : Cmd) : (s.setCmd c).sq = s.sq := rfl
@[simp] theorem State.setCmd_cq (c : Cmd) : (s.setCmd c).cq = s.cq := rfl
@[simp] theorem State.setCmd_imt (c : Cmd) : (s.setCmd c).imt = s.imt := rfl
@[simp] theorem State.setCmd_qdata (c : Cmd) : (s.setCmd c).qdata = s.qdata := rfl
@[simp] theorem State.setCmd_nextTag (c : Cmd) : (s.setCmd c).nextTag = s.nextTag := rfl
@[simp] theorem State.setCmd_jhold (c : Cmd) : (s.setCmd c).jhold = s.jhold := rfl
@[simp] theorem State.setCmd_insts (c : Cmd) : (s.setCmd c).insts = s.insts := rfl
@[simp] theorem State.setCmd_peers (c : Cmd) : (s.setCmd c).peers = s.peers := rfl
@[simp] theorem State.setCmd_peerNext (c : Cmd) : (s.setCmd c).peerNext = s.peerNext := rfl
@[simp] theorem State.setCmd_ns (c : Cmd) : (s.setCmd c).ns = s.ns := rfl
@[simp] theorem State.setCmd_nsSerial (c : Cmd) : (s.setCmd c).nsSerial = s.nsSerial := rfl
@[simp] theorem State.setCmd_progs (c : Cmd) : (s.setCmd c).progs = s.progs := rfl
@[simp] theorem State.setCmd_profiles (c : Cmd) : (s.setCmd c).profiles = s.profiles := rfl
@[simp] theorem State.setCmd_chans (c : Cmd) : (s.setCmd c).chans = s.chans := rfl
@[simp] theorem State.setCmd_luns (c : Cmd) : (s.setCmd c).luns = s.luns := rfl
@[simp] theorem State.setCmd_nand (c : Cmd) : (s.setCmd c).nand = s.nand := rfl
@[simp] theorem State.setCmd_fw (c : Cmd) : (s.setCmd c).fw = s.fw := rfl
@[simp] theorem State.setCmd_soft (c : Cmd) : (s.setCmd c).soft = s.soft := rfl
@[simp] theorem State.setCmd_recon (c : Cmd) : (s.setCmd c).recon = s.recon := rfl
@[simp] theorem State.setCmd_ftl (c : Cmd) : (s.setCmd c).ftl = s.ftl := rfl
@[simp] theorem State.setCmd_chest (c : Cmd) : (s.setCmd c).chest = s.chest := rfl
@[simp] theorem State.setCmd_rebuild (c : Cmd) : (s.setCmd c).rebuild = s.rebuild := rfl
@[simp] theorem State.setCmd_strands (c : Cmd) : (s.setCmd c).strands = s.strands := rfl
@[simp] theorem State.setCmd_runs (c : Cmd) : (s.setCmd c).runs = s.runs := rfl
@[simp] theorem State.setCmd_idx (c : Cmd) : (s.setCmd c).idx = s.idx := rfl
@[simp] theorem State.setCmd_shd (c : Cmd) : (s.setCmd c).shd = s.shd := rfl
@[simp] theorem State.setCmd_cores (c : Cmd) : (s.setCmd c).cores = s.cores := rfl
@[simp] theorem State.setCmd_icache (c : Cmd) : (s.setCmd c).icache = s.icache := rfl
@[simp] theorem State.setCmd_icacheBad (c : Cmd) : (s.setCmd c).icacheBad = s.icacheBad := rfl
@[simp] theorem State.setCmd_route (c : Cmd) : (s.setCmd c).route = s.route := rfl
@[simp] theorem State.setCmd_ksu (c : Cmd) : (s.setCmd c).ksu = s.ksu := rfl
@[simp] theorem State.setCmd_car (c : Cmd) : (s.setCmd c).car = s.car := rfl
@[simp] theorem State.setCmd_dram (c : Cmd) : (s.setCmd c).dram = s.dram := rfl
@[simp] theorem State.setCmd_pwr (c : Cmd) : (s.setCmd c).pwr = s.pwr := rfl
@[simp] theorem State.setCmd_pins (c : Cmd) : (s.setCmd c).pins = s.pins := rfl

/-! ### State.setKsu -/

@[simp] theorem State.setKsu_pending (k : Ksu) : (s.setKsu k).pending = s.pending := rfl
@[simp] theorem State.setKsu_out (k : Ksu) : (s.setKsu k).out = s.out := rfl
@[simp] theorem State.setKsu_regs (k : Ksu) : (s.setKsu k).regs = s.regs := rfl
@[simp] theorem State.setKsu_held (k : Ksu) : (s.setKsu k).held = s.held := rfl
@[simp] theorem State.setKsu_stage (k : Ksu) : (s.setKsu k).stage = s.stage := rfl
@[simp] theorem State.setKsu_beat (k : Ksu) : (s.setKsu k).beat = s.beat := rfl
@[simp] theorem State.setKsu_careLog (k : Ksu) : (s.setKsu k).careLog = s.careLog := rfl
@[simp] theorem State.setKsu_free (k : Ksu) : (s.setKsu k).free = s.free := rfl
@[simp] theorem State.setKsu_dev (k : Ksu) : (s.setKsu k).dev = s.dev := rfl
@[simp] theorem State.setKsu_rebuilding (k : Ksu) : (s.setKsu k).rebuilding = s.rebuilding := rfl
@[simp] theorem State.setKsu_health (k : Ksu) : (s.setKsu k).health = s.health := rfl
@[simp] theorem State.setKsu_portA (k : Ksu) : (s.setKsu k).portA = s.portA := rfl
@[simp] theorem State.setKsu_portB (k : Ksu) : (s.setKsu k).portB = s.portB := rfl
@[simp] theorem State.setKsu_idsLoaded (k : Ksu) : (s.setKsu k).idsLoaded = s.idsLoaded := rfl
@[simp] theorem State.setKsu_subsys (k : Ksu) : (s.setKsu k).subsys = s.subsys := rfl
@[simp] theorem State.setKsu_sq (k : Ksu) : (s.setKsu k).sq = s.sq := rfl
@[simp] theorem State.setKsu_cq (k : Ksu) : (s.setKsu k).cq = s.cq := rfl
@[simp] theorem State.setKsu_imt (k : Ksu) : (s.setKsu k).imt = s.imt := rfl
@[simp] theorem State.setKsu_qdata (k : Ksu) : (s.setKsu k).qdata = s.qdata := rfl
@[simp] theorem State.setKsu_cmds (k : Ksu) : (s.setKsu k).cmds = s.cmds := rfl
@[simp] theorem State.setKsu_nextTag (k : Ksu) : (s.setKsu k).nextTag = s.nextTag := rfl
@[simp] theorem State.setKsu_jhold (k : Ksu) : (s.setKsu k).jhold = s.jhold := rfl
@[simp] theorem State.setKsu_insts (k : Ksu) : (s.setKsu k).insts = s.insts := rfl
@[simp] theorem State.setKsu_peers (k : Ksu) : (s.setKsu k).peers = s.peers := rfl
@[simp] theorem State.setKsu_peerNext (k : Ksu) : (s.setKsu k).peerNext = s.peerNext := rfl
@[simp] theorem State.setKsu_ns (k : Ksu) : (s.setKsu k).ns = s.ns := rfl
@[simp] theorem State.setKsu_nsSerial (k : Ksu) : (s.setKsu k).nsSerial = s.nsSerial := rfl
@[simp] theorem State.setKsu_progs (k : Ksu) : (s.setKsu k).progs = s.progs := rfl
@[simp] theorem State.setKsu_profiles (k : Ksu) : (s.setKsu k).profiles = s.profiles := rfl
@[simp] theorem State.setKsu_chans (k : Ksu) : (s.setKsu k).chans = s.chans := rfl
@[simp] theorem State.setKsu_luns (k : Ksu) : (s.setKsu k).luns = s.luns := rfl
@[simp] theorem State.setKsu_nand (k : Ksu) : (s.setKsu k).nand = s.nand := rfl
@[simp] theorem State.setKsu_fw (k : Ksu) : (s.setKsu k).fw = s.fw := rfl
@[simp] theorem State.setKsu_soft (k : Ksu) : (s.setKsu k).soft = s.soft := rfl
@[simp] theorem State.setKsu_recon (k : Ksu) : (s.setKsu k).recon = s.recon := rfl
@[simp] theorem State.setKsu_ftl (k : Ksu) : (s.setKsu k).ftl = s.ftl := rfl
@[simp] theorem State.setKsu_chest (k : Ksu) : (s.setKsu k).chest = s.chest := rfl
@[simp] theorem State.setKsu_rebuild (k : Ksu) : (s.setKsu k).rebuild = s.rebuild := rfl
@[simp] theorem State.setKsu_strands (k : Ksu) : (s.setKsu k).strands = s.strands := rfl
@[simp] theorem State.setKsu_runs (k : Ksu) : (s.setKsu k).runs = s.runs := rfl
@[simp] theorem State.setKsu_idx (k : Ksu) : (s.setKsu k).idx = s.idx := rfl
@[simp] theorem State.setKsu_shd (k : Ksu) : (s.setKsu k).shd = s.shd := rfl
@[simp] theorem State.setKsu_cores (k : Ksu) : (s.setKsu k).cores = s.cores := rfl
@[simp] theorem State.setKsu_icache (k : Ksu) : (s.setKsu k).icache = s.icache := rfl
@[simp] theorem State.setKsu_icacheBad (k : Ksu) : (s.setKsu k).icacheBad = s.icacheBad := rfl
@[simp] theorem State.setKsu_route (k : Ksu) : (s.setKsu k).route = s.route := rfl
@[simp] theorem State.setKsu_car (k : Ksu) : (s.setKsu k).car = s.car := rfl
@[simp] theorem State.setKsu_dram (k : Ksu) : (s.setKsu k).dram = s.dram := rfl
@[simp] theorem State.setKsu_pwr (k : Ksu) : (s.setKsu k).pwr = s.pwr := rfl
@[simp] theorem State.setKsu_pins (k : Ksu) : (s.setKsu k).pins = s.pins := rfl

/-! ### State.setCar -/

@[simp] theorem State.setCar_pending (c : Car) : (s.setCar c).pending = s.pending := rfl
@[simp] theorem State.setCar_out (c : Car) : (s.setCar c).out = s.out := rfl
@[simp] theorem State.setCar_regs (c : Car) : (s.setCar c).regs = s.regs := rfl
@[simp] theorem State.setCar_held (c : Car) : (s.setCar c).held = s.held := rfl
@[simp] theorem State.setCar_stage (c : Car) : (s.setCar c).stage = s.stage := rfl
@[simp] theorem State.setCar_beat (c : Car) : (s.setCar c).beat = s.beat := rfl
@[simp] theorem State.setCar_careLog (c : Car) : (s.setCar c).careLog = s.careLog := rfl
@[simp] theorem State.setCar_free (c : Car) : (s.setCar c).free = s.free := rfl
@[simp] theorem State.setCar_dev (c : Car) : (s.setCar c).dev = s.dev := rfl
@[simp] theorem State.setCar_rebuilding (c : Car) : (s.setCar c).rebuilding = s.rebuilding := rfl
@[simp] theorem State.setCar_health (c : Car) : (s.setCar c).health = s.health := rfl
@[simp] theorem State.setCar_portA (c : Car) : (s.setCar c).portA = s.portA := rfl
@[simp] theorem State.setCar_portB (c : Car) : (s.setCar c).portB = s.portB := rfl
@[simp] theorem State.setCar_idsLoaded (c : Car) : (s.setCar c).idsLoaded = s.idsLoaded := rfl
@[simp] theorem State.setCar_subsys (c : Car) : (s.setCar c).subsys = s.subsys := rfl
@[simp] theorem State.setCar_sq (c : Car) : (s.setCar c).sq = s.sq := rfl
@[simp] theorem State.setCar_cq (c : Car) : (s.setCar c).cq = s.cq := rfl
@[simp] theorem State.setCar_imt (c : Car) : (s.setCar c).imt = s.imt := rfl
@[simp] theorem State.setCar_qdata (c : Car) : (s.setCar c).qdata = s.qdata := rfl
@[simp] theorem State.setCar_cmds (c : Car) : (s.setCar c).cmds = s.cmds := rfl
@[simp] theorem State.setCar_nextTag (c : Car) : (s.setCar c).nextTag = s.nextTag := rfl
@[simp] theorem State.setCar_jhold (c : Car) : (s.setCar c).jhold = s.jhold := rfl
@[simp] theorem State.setCar_insts (c : Car) : (s.setCar c).insts = s.insts := rfl
@[simp] theorem State.setCar_peers (c : Car) : (s.setCar c).peers = s.peers := rfl
@[simp] theorem State.setCar_peerNext (c : Car) : (s.setCar c).peerNext = s.peerNext := rfl
@[simp] theorem State.setCar_ns (c : Car) : (s.setCar c).ns = s.ns := rfl
@[simp] theorem State.setCar_nsSerial (c : Car) : (s.setCar c).nsSerial = s.nsSerial := rfl
@[simp] theorem State.setCar_progs (c : Car) : (s.setCar c).progs = s.progs := rfl
@[simp] theorem State.setCar_profiles (c : Car) : (s.setCar c).profiles = s.profiles := rfl
@[simp] theorem State.setCar_chans (c : Car) : (s.setCar c).chans = s.chans := rfl
@[simp] theorem State.setCar_luns (c : Car) : (s.setCar c).luns = s.luns := rfl
@[simp] theorem State.setCar_nand (c : Car) : (s.setCar c).nand = s.nand := rfl
@[simp] theorem State.setCar_fw (c : Car) : (s.setCar c).fw = s.fw := rfl
@[simp] theorem State.setCar_soft (c : Car) : (s.setCar c).soft = s.soft := rfl
@[simp] theorem State.setCar_recon (c : Car) : (s.setCar c).recon = s.recon := rfl
@[simp] theorem State.setCar_ftl (c : Car) : (s.setCar c).ftl = s.ftl := rfl
@[simp] theorem State.setCar_chest (c : Car) : (s.setCar c).chest = s.chest := rfl
@[simp] theorem State.setCar_rebuild (c : Car) : (s.setCar c).rebuild = s.rebuild := rfl
@[simp] theorem State.setCar_strands (c : Car) : (s.setCar c).strands = s.strands := rfl
@[simp] theorem State.setCar_runs (c : Car) : (s.setCar c).runs = s.runs := rfl
@[simp] theorem State.setCar_idx (c : Car) : (s.setCar c).idx = s.idx := rfl
@[simp] theorem State.setCar_shd (c : Car) : (s.setCar c).shd = s.shd := rfl
@[simp] theorem State.setCar_cores (c : Car) : (s.setCar c).cores = s.cores := rfl
@[simp] theorem State.setCar_icache (c : Car) : (s.setCar c).icache = s.icache := rfl
@[simp] theorem State.setCar_icacheBad (c : Car) : (s.setCar c).icacheBad = s.icacheBad := rfl
@[simp] theorem State.setCar_route (c : Car) : (s.setCar c).route = s.route := rfl
@[simp] theorem State.setCar_ksu (c : Car) : (s.setCar c).ksu = s.ksu := rfl
@[simp] theorem State.setCar_dram (c : Car) : (s.setCar c).dram = s.dram := rfl
@[simp] theorem State.setCar_pwr (c : Car) : (s.setCar c).pwr = s.pwr := rfl
@[simp] theorem State.setCar_pins (c : Car) : (s.setCar c).pins = s.pins := rfl

/-! ### State.setDram -/

@[simp] theorem State.setDram_pending (d : Dram) : (s.setDram d).pending = s.pending := rfl
@[simp] theorem State.setDram_out (d : Dram) : (s.setDram d).out = s.out := rfl
@[simp] theorem State.setDram_regs (d : Dram) : (s.setDram d).regs = s.regs := rfl
@[simp] theorem State.setDram_held (d : Dram) : (s.setDram d).held = s.held := rfl
@[simp] theorem State.setDram_stage (d : Dram) : (s.setDram d).stage = s.stage := rfl
@[simp] theorem State.setDram_beat (d : Dram) : (s.setDram d).beat = s.beat := rfl
@[simp] theorem State.setDram_careLog (d : Dram) : (s.setDram d).careLog = s.careLog := rfl
@[simp] theorem State.setDram_free (d : Dram) : (s.setDram d).free = s.free := rfl
@[simp] theorem State.setDram_dev (d : Dram) : (s.setDram d).dev = s.dev := rfl
@[simp] theorem State.setDram_rebuilding (d : Dram) : (s.setDram d).rebuilding = s.rebuilding := rfl
@[simp] theorem State.setDram_health (d : Dram) : (s.setDram d).health = s.health := rfl
@[simp] theorem State.setDram_portA (d : Dram) : (s.setDram d).portA = s.portA := rfl
@[simp] theorem State.setDram_portB (d : Dram) : (s.setDram d).portB = s.portB := rfl
@[simp] theorem State.setDram_idsLoaded (d : Dram) : (s.setDram d).idsLoaded = s.idsLoaded := rfl
@[simp] theorem State.setDram_subsys (d : Dram) : (s.setDram d).subsys = s.subsys := rfl
@[simp] theorem State.setDram_sq (d : Dram) : (s.setDram d).sq = s.sq := rfl
@[simp] theorem State.setDram_cq (d : Dram) : (s.setDram d).cq = s.cq := rfl
@[simp] theorem State.setDram_imt (d : Dram) : (s.setDram d).imt = s.imt := rfl
@[simp] theorem State.setDram_qdata (d : Dram) : (s.setDram d).qdata = s.qdata := rfl
@[simp] theorem State.setDram_cmds (d : Dram) : (s.setDram d).cmds = s.cmds := rfl
@[simp] theorem State.setDram_nextTag (d : Dram) : (s.setDram d).nextTag = s.nextTag := rfl
@[simp] theorem State.setDram_jhold (d : Dram) : (s.setDram d).jhold = s.jhold := rfl
@[simp] theorem State.setDram_insts (d : Dram) : (s.setDram d).insts = s.insts := rfl
@[simp] theorem State.setDram_peers (d : Dram) : (s.setDram d).peers = s.peers := rfl
@[simp] theorem State.setDram_peerNext (d : Dram) : (s.setDram d).peerNext = s.peerNext := rfl
@[simp] theorem State.setDram_ns (d : Dram) : (s.setDram d).ns = s.ns := rfl
@[simp] theorem State.setDram_nsSerial (d : Dram) : (s.setDram d).nsSerial = s.nsSerial := rfl
@[simp] theorem State.setDram_progs (d : Dram) : (s.setDram d).progs = s.progs := rfl
@[simp] theorem State.setDram_profiles (d : Dram) : (s.setDram d).profiles = s.profiles := rfl
@[simp] theorem State.setDram_chans (d : Dram) : (s.setDram d).chans = s.chans := rfl
@[simp] theorem State.setDram_luns (d : Dram) : (s.setDram d).luns = s.luns := rfl
@[simp] theorem State.setDram_nand (d : Dram) : (s.setDram d).nand = s.nand := rfl
@[simp] theorem State.setDram_fw (d : Dram) : (s.setDram d).fw = s.fw := rfl
@[simp] theorem State.setDram_soft (d : Dram) : (s.setDram d).soft = s.soft := rfl
@[simp] theorem State.setDram_recon (d : Dram) : (s.setDram d).recon = s.recon := rfl
@[simp] theorem State.setDram_ftl (d : Dram) : (s.setDram d).ftl = s.ftl := rfl
@[simp] theorem State.setDram_chest (d : Dram) : (s.setDram d).chest = s.chest := rfl
@[simp] theorem State.setDram_rebuild (d : Dram) : (s.setDram d).rebuild = s.rebuild := rfl
@[simp] theorem State.setDram_strands (d : Dram) : (s.setDram d).strands = s.strands := rfl
@[simp] theorem State.setDram_runs (d : Dram) : (s.setDram d).runs = s.runs := rfl
@[simp] theorem State.setDram_idx (d : Dram) : (s.setDram d).idx = s.idx := rfl
@[simp] theorem State.setDram_shd (d : Dram) : (s.setDram d).shd = s.shd := rfl
@[simp] theorem State.setDram_cores (d : Dram) : (s.setDram d).cores = s.cores := rfl
@[simp] theorem State.setDram_icache (d : Dram) : (s.setDram d).icache = s.icache := rfl
@[simp] theorem State.setDram_icacheBad (d : Dram) : (s.setDram d).icacheBad = s.icacheBad := rfl
@[simp] theorem State.setDram_route (d : Dram) : (s.setDram d).route = s.route := rfl
@[simp] theorem State.setDram_ksu (d : Dram) : (s.setDram d).ksu = s.ksu := rfl
@[simp] theorem State.setDram_car (d : Dram) : (s.setDram d).car = s.car := rfl
@[simp] theorem State.setDram_pwr (d : Dram) : (s.setDram d).pwr = s.pwr := rfl
@[simp] theorem State.setDram_pins (d : Dram) : (s.setDram d).pins = s.pins := rfl

/-! ### State.setFtl -/

@[simp] theorem State.setFtl_pending (f : Ftl) : (s.setFtl f).pending = s.pending := rfl
@[simp] theorem State.setFtl_out (f : Ftl) : (s.setFtl f).out = s.out := rfl
@[simp] theorem State.setFtl_regs (f : Ftl) : (s.setFtl f).regs = s.regs := rfl
@[simp] theorem State.setFtl_held (f : Ftl) : (s.setFtl f).held = s.held := rfl
@[simp] theorem State.setFtl_stage (f : Ftl) : (s.setFtl f).stage = s.stage := rfl
@[simp] theorem State.setFtl_beat (f : Ftl) : (s.setFtl f).beat = s.beat := rfl
@[simp] theorem State.setFtl_careLog (f : Ftl) : (s.setFtl f).careLog = s.careLog := rfl
@[simp] theorem State.setFtl_free (f : Ftl) : (s.setFtl f).free = s.free := rfl
@[simp] theorem State.setFtl_dev (f : Ftl) : (s.setFtl f).dev = s.dev := rfl
@[simp] theorem State.setFtl_rebuilding (f : Ftl) : (s.setFtl f).rebuilding = s.rebuilding := rfl
@[simp] theorem State.setFtl_health (f : Ftl) : (s.setFtl f).health = s.health := rfl
@[simp] theorem State.setFtl_portA (f : Ftl) : (s.setFtl f).portA = s.portA := rfl
@[simp] theorem State.setFtl_portB (f : Ftl) : (s.setFtl f).portB = s.portB := rfl
@[simp] theorem State.setFtl_idsLoaded (f : Ftl) : (s.setFtl f).idsLoaded = s.idsLoaded := rfl
@[simp] theorem State.setFtl_subsys (f : Ftl) : (s.setFtl f).subsys = s.subsys := rfl
@[simp] theorem State.setFtl_sq (f : Ftl) : (s.setFtl f).sq = s.sq := rfl
@[simp] theorem State.setFtl_cq (f : Ftl) : (s.setFtl f).cq = s.cq := rfl
@[simp] theorem State.setFtl_imt (f : Ftl) : (s.setFtl f).imt = s.imt := rfl
@[simp] theorem State.setFtl_qdata (f : Ftl) : (s.setFtl f).qdata = s.qdata := rfl
@[simp] theorem State.setFtl_cmds (f : Ftl) : (s.setFtl f).cmds = s.cmds := rfl
@[simp] theorem State.setFtl_nextTag (f : Ftl) : (s.setFtl f).nextTag = s.nextTag := rfl
@[simp] theorem State.setFtl_jhold (f : Ftl) : (s.setFtl f).jhold = s.jhold := rfl
@[simp] theorem State.setFtl_insts (f : Ftl) : (s.setFtl f).insts = s.insts := rfl
@[simp] theorem State.setFtl_peers (f : Ftl) : (s.setFtl f).peers = s.peers := rfl
@[simp] theorem State.setFtl_peerNext (f : Ftl) : (s.setFtl f).peerNext = s.peerNext := rfl
@[simp] theorem State.setFtl_ns (f : Ftl) : (s.setFtl f).ns = s.ns := rfl
@[simp] theorem State.setFtl_nsSerial (f : Ftl) : (s.setFtl f).nsSerial = s.nsSerial := rfl
@[simp] theorem State.setFtl_progs (f : Ftl) : (s.setFtl f).progs = s.progs := rfl
@[simp] theorem State.setFtl_profiles (f : Ftl) : (s.setFtl f).profiles = s.profiles := rfl
@[simp] theorem State.setFtl_chans (f : Ftl) : (s.setFtl f).chans = s.chans := rfl
@[simp] theorem State.setFtl_luns (f : Ftl) : (s.setFtl f).luns = s.luns := rfl
@[simp] theorem State.setFtl_nand (f : Ftl) : (s.setFtl f).nand = s.nand := rfl
@[simp] theorem State.setFtl_fw (f : Ftl) : (s.setFtl f).fw = s.fw := rfl
@[simp] theorem State.setFtl_soft (f : Ftl) : (s.setFtl f).soft = s.soft := rfl
@[simp] theorem State.setFtl_recon (f : Ftl) : (s.setFtl f).recon = s.recon := rfl
@[simp] theorem State.setFtl_chest (f : Ftl) : (s.setFtl f).chest = s.chest := rfl
@[simp] theorem State.setFtl_rebuild (f : Ftl) : (s.setFtl f).rebuild = s.rebuild := rfl
@[simp] theorem State.setFtl_strands (f : Ftl) : (s.setFtl f).strands = s.strands := rfl
@[simp] theorem State.setFtl_runs (f : Ftl) : (s.setFtl f).runs = s.runs := rfl
@[simp] theorem State.setFtl_idx (f : Ftl) : (s.setFtl f).idx = s.idx := rfl
@[simp] theorem State.setFtl_shd (f : Ftl) : (s.setFtl f).shd = s.shd := rfl
@[simp] theorem State.setFtl_cores (f : Ftl) : (s.setFtl f).cores = s.cores := rfl
@[simp] theorem State.setFtl_icache (f : Ftl) : (s.setFtl f).icache = s.icache := rfl
@[simp] theorem State.setFtl_icacheBad (f : Ftl) : (s.setFtl f).icacheBad = s.icacheBad := rfl
@[simp] theorem State.setFtl_route (f : Ftl) : (s.setFtl f).route = s.route := rfl
@[simp] theorem State.setFtl_ksu (f : Ftl) : (s.setFtl f).ksu = s.ksu := rfl
@[simp] theorem State.setFtl_car (f : Ftl) : (s.setFtl f).car = s.car := rfl
@[simp] theorem State.setFtl_dram (f : Ftl) : (s.setFtl f).dram = s.dram := rfl
@[simp] theorem State.setFtl_pwr (f : Ftl) : (s.setFtl f).pwr = s.pwr := rfl
@[simp] theorem State.setFtl_pins (f : Ftl) : (s.setFtl f).pins = s.pins := rfl

/-! ### State.setChest -/

@[simp] theorem State.setChest_pending (c : Chest) : (s.setChest c).pending = s.pending := rfl
@[simp] theorem State.setChest_out (c : Chest) : (s.setChest c).out = s.out := rfl
@[simp] theorem State.setChest_regs (c : Chest) : (s.setChest c).regs = s.regs := rfl
@[simp] theorem State.setChest_held (c : Chest) : (s.setChest c).held = s.held := rfl
@[simp] theorem State.setChest_stage (c : Chest) : (s.setChest c).stage = s.stage := rfl
@[simp] theorem State.setChest_beat (c : Chest) : (s.setChest c).beat = s.beat := rfl
@[simp] theorem State.setChest_careLog (c : Chest) : (s.setChest c).careLog = s.careLog := rfl
@[simp] theorem State.setChest_free (c : Chest) : (s.setChest c).free = s.free := rfl
@[simp] theorem State.setChest_dev (c : Chest) : (s.setChest c).dev = s.dev := rfl
@[simp] theorem State.setChest_rebuilding (c : Chest) : (s.setChest c).rebuilding = s.rebuilding := rfl
@[simp] theorem State.setChest_health (c : Chest) : (s.setChest c).health = s.health := rfl
@[simp] theorem State.setChest_portA (c : Chest) : (s.setChest c).portA = s.portA := rfl
@[simp] theorem State.setChest_portB (c : Chest) : (s.setChest c).portB = s.portB := rfl
@[simp] theorem State.setChest_idsLoaded (c : Chest) : (s.setChest c).idsLoaded = s.idsLoaded := rfl
@[simp] theorem State.setChest_subsys (c : Chest) : (s.setChest c).subsys = s.subsys := rfl
@[simp] theorem State.setChest_sq (c : Chest) : (s.setChest c).sq = s.sq := rfl
@[simp] theorem State.setChest_cq (c : Chest) : (s.setChest c).cq = s.cq := rfl
@[simp] theorem State.setChest_imt (c : Chest) : (s.setChest c).imt = s.imt := rfl
@[simp] theorem State.setChest_qdata (c : Chest) : (s.setChest c).qdata = s.qdata := rfl
@[simp] theorem State.setChest_cmds (c : Chest) : (s.setChest c).cmds = s.cmds := rfl
@[simp] theorem State.setChest_nextTag (c : Chest) : (s.setChest c).nextTag = s.nextTag := rfl
@[simp] theorem State.setChest_jhold (c : Chest) : (s.setChest c).jhold = s.jhold := rfl
@[simp] theorem State.setChest_insts (c : Chest) : (s.setChest c).insts = s.insts := rfl
@[simp] theorem State.setChest_peers (c : Chest) : (s.setChest c).peers = s.peers := rfl
@[simp] theorem State.setChest_peerNext (c : Chest) : (s.setChest c).peerNext = s.peerNext := rfl
@[simp] theorem State.setChest_ns (c : Chest) : (s.setChest c).ns = s.ns := rfl
@[simp] theorem State.setChest_nsSerial (c : Chest) : (s.setChest c).nsSerial = s.nsSerial := rfl
@[simp] theorem State.setChest_progs (c : Chest) : (s.setChest c).progs = s.progs := rfl
@[simp] theorem State.setChest_profiles (c : Chest) : (s.setChest c).profiles = s.profiles := rfl
@[simp] theorem State.setChest_chans (c : Chest) : (s.setChest c).chans = s.chans := rfl
@[simp] theorem State.setChest_luns (c : Chest) : (s.setChest c).luns = s.luns := rfl
@[simp] theorem State.setChest_nand (c : Chest) : (s.setChest c).nand = s.nand := rfl
@[simp] theorem State.setChest_fw (c : Chest) : (s.setChest c).fw = s.fw := rfl
@[simp] theorem State.setChest_soft (c : Chest) : (s.setChest c).soft = s.soft := rfl
@[simp] theorem State.setChest_recon (c : Chest) : (s.setChest c).recon = s.recon := rfl
@[simp] theorem State.setChest_ftl (c : Chest) : (s.setChest c).ftl = s.ftl := rfl
@[simp] theorem State.setChest_rebuild (c : Chest) : (s.setChest c).rebuild = s.rebuild := rfl
@[simp] theorem State.setChest_strands (c : Chest) : (s.setChest c).strands = s.strands := rfl
@[simp] theorem State.setChest_runs (c : Chest) : (s.setChest c).runs = s.runs := rfl
@[simp] theorem State.setChest_idx (c : Chest) : (s.setChest c).idx = s.idx := rfl
@[simp] theorem State.setChest_shd (c : Chest) : (s.setChest c).shd = s.shd := rfl
@[simp] theorem State.setChest_cores (c : Chest) : (s.setChest c).cores = s.cores := rfl
@[simp] theorem State.setChest_icache (c : Chest) : (s.setChest c).icache = s.icache := rfl
@[simp] theorem State.setChest_icacheBad (c : Chest) : (s.setChest c).icacheBad = s.icacheBad := rfl
@[simp] theorem State.setChest_route (c : Chest) : (s.setChest c).route = s.route := rfl
@[simp] theorem State.setChest_ksu (c : Chest) : (s.setChest c).ksu = s.ksu := rfl
@[simp] theorem State.setChest_car (c : Chest) : (s.setChest c).car = s.car := rfl
@[simp] theorem State.setChest_dram (c : Chest) : (s.setChest c).dram = s.dram := rfl
@[simp] theorem State.setChest_pwr (c : Chest) : (s.setChest c).pwr = s.pwr := rfl
@[simp] theorem State.setChest_pins (c : Chest) : (s.setChest c).pins = s.pins := rfl

/-! ### State.setIdx -/

@[simp] theorem State.setIdx_pending (i : Idx) : (s.setIdx i).pending = s.pending := rfl
@[simp] theorem State.setIdx_out (i : Idx) : (s.setIdx i).out = s.out := rfl
@[simp] theorem State.setIdx_regs (i : Idx) : (s.setIdx i).regs = s.regs := rfl
@[simp] theorem State.setIdx_held (i : Idx) : (s.setIdx i).held = s.held := rfl
@[simp] theorem State.setIdx_stage (i : Idx) : (s.setIdx i).stage = s.stage := rfl
@[simp] theorem State.setIdx_beat (i : Idx) : (s.setIdx i).beat = s.beat := rfl
@[simp] theorem State.setIdx_careLog (i : Idx) : (s.setIdx i).careLog = s.careLog := rfl
@[simp] theorem State.setIdx_free (i : Idx) : (s.setIdx i).free = s.free := rfl
@[simp] theorem State.setIdx_dev (i : Idx) : (s.setIdx i).dev = s.dev := rfl
@[simp] theorem State.setIdx_rebuilding (i : Idx) : (s.setIdx i).rebuilding = s.rebuilding := rfl
@[simp] theorem State.setIdx_health (i : Idx) : (s.setIdx i).health = s.health := rfl
@[simp] theorem State.setIdx_portA (i : Idx) : (s.setIdx i).portA = s.portA := rfl
@[simp] theorem State.setIdx_portB (i : Idx) : (s.setIdx i).portB = s.portB := rfl
@[simp] theorem State.setIdx_idsLoaded (i : Idx) : (s.setIdx i).idsLoaded = s.idsLoaded := rfl
@[simp] theorem State.setIdx_subsys (i : Idx) : (s.setIdx i).subsys = s.subsys := rfl
@[simp] theorem State.setIdx_sq (i : Idx) : (s.setIdx i).sq = s.sq := rfl
@[simp] theorem State.setIdx_cq (i : Idx) : (s.setIdx i).cq = s.cq := rfl
@[simp] theorem State.setIdx_imt (i : Idx) : (s.setIdx i).imt = s.imt := rfl
@[simp] theorem State.setIdx_qdata (i : Idx) : (s.setIdx i).qdata = s.qdata := rfl
@[simp] theorem State.setIdx_cmds (i : Idx) : (s.setIdx i).cmds = s.cmds := rfl
@[simp] theorem State.setIdx_nextTag (i : Idx) : (s.setIdx i).nextTag = s.nextTag := rfl
@[simp] theorem State.setIdx_jhold (i : Idx) : (s.setIdx i).jhold = s.jhold := rfl
@[simp] theorem State.setIdx_insts (i : Idx) : (s.setIdx i).insts = s.insts := rfl
@[simp] theorem State.setIdx_peers (i : Idx) : (s.setIdx i).peers = s.peers := rfl
@[simp] theorem State.setIdx_peerNext (i : Idx) : (s.setIdx i).peerNext = s.peerNext := rfl
@[simp] theorem State.setIdx_ns (i : Idx) : (s.setIdx i).ns = s.ns := rfl
@[simp] theorem State.setIdx_nsSerial (i : Idx) : (s.setIdx i).nsSerial = s.nsSerial := rfl
@[simp] theorem State.setIdx_progs (i : Idx) : (s.setIdx i).progs = s.progs := rfl
@[simp] theorem State.setIdx_profiles (i : Idx) : (s.setIdx i).profiles = s.profiles := rfl
@[simp] theorem State.setIdx_chans (i : Idx) : (s.setIdx i).chans = s.chans := rfl
@[simp] theorem State.setIdx_luns (i : Idx) : (s.setIdx i).luns = s.luns := rfl
@[simp] theorem State.setIdx_nand (i : Idx) : (s.setIdx i).nand = s.nand := rfl
@[simp] theorem State.setIdx_fw (i : Idx) : (s.setIdx i).fw = s.fw := rfl
@[simp] theorem State.setIdx_soft (i : Idx) : (s.setIdx i).soft = s.soft := rfl
@[simp] theorem State.setIdx_recon (i : Idx) : (s.setIdx i).recon = s.recon := rfl
@[simp] theorem State.setIdx_ftl (i : Idx) : (s.setIdx i).ftl = s.ftl := rfl
@[simp] theorem State.setIdx_chest (i : Idx) : (s.setIdx i).chest = s.chest := rfl
@[simp] theorem State.setIdx_rebuild (i : Idx) : (s.setIdx i).rebuild = s.rebuild := rfl
@[simp] theorem State.setIdx_strands (i : Idx) : (s.setIdx i).strands = s.strands := rfl
@[simp] theorem State.setIdx_runs (i : Idx) : (s.setIdx i).runs = s.runs := rfl
@[simp] theorem State.setIdx_shd (i : Idx) : (s.setIdx i).shd = s.shd := rfl
@[simp] theorem State.setIdx_cores (i : Idx) : (s.setIdx i).cores = s.cores := rfl
@[simp] theorem State.setIdx_icache (i : Idx) : (s.setIdx i).icache = s.icache := rfl
@[simp] theorem State.setIdx_icacheBad (i : Idx) : (s.setIdx i).icacheBad = s.icacheBad := rfl
@[simp] theorem State.setIdx_route (i : Idx) : (s.setIdx i).route = s.route := rfl
@[simp] theorem State.setIdx_ksu (i : Idx) : (s.setIdx i).ksu = s.ksu := rfl
@[simp] theorem State.setIdx_car (i : Idx) : (s.setIdx i).car = s.car := rfl
@[simp] theorem State.setIdx_dram (i : Idx) : (s.setIdx i).dram = s.dram := rfl
@[simp] theorem State.setIdx_pwr (i : Idx) : (s.setIdx i).pwr = s.pwr := rfl
@[simp] theorem State.setIdx_pins (i : Idx) : (s.setIdx i).pins = s.pins := rfl

/-! ### State.setStrand -/

@[simp] theorem State.setStrand_pending (n : Nat) (v : Strand) : (s.setStrand n v).pending = s.pending := rfl
@[simp] theorem State.setStrand_out (n : Nat) (v : Strand) : (s.setStrand n v).out = s.out := rfl
@[simp] theorem State.setStrand_regs (n : Nat) (v : Strand) : (s.setStrand n v).regs = s.regs := rfl
@[simp] theorem State.setStrand_held (n : Nat) (v : Strand) : (s.setStrand n v).held = s.held := rfl
@[simp] theorem State.setStrand_stage (n : Nat) (v : Strand) : (s.setStrand n v).stage = s.stage := rfl
@[simp] theorem State.setStrand_beat (n : Nat) (v : Strand) : (s.setStrand n v).beat = s.beat := rfl
@[simp] theorem State.setStrand_careLog (n : Nat) (v : Strand) : (s.setStrand n v).careLog = s.careLog := rfl
@[simp] theorem State.setStrand_free (n : Nat) (v : Strand) : (s.setStrand n v).free = s.free := rfl
@[simp] theorem State.setStrand_dev (n : Nat) (v : Strand) : (s.setStrand n v).dev = s.dev := rfl
@[simp] theorem State.setStrand_rebuilding (n : Nat) (v : Strand) : (s.setStrand n v).rebuilding = s.rebuilding := rfl
@[simp] theorem State.setStrand_health (n : Nat) (v : Strand) : (s.setStrand n v).health = s.health := rfl
@[simp] theorem State.setStrand_portA (n : Nat) (v : Strand) : (s.setStrand n v).portA = s.portA := rfl
@[simp] theorem State.setStrand_portB (n : Nat) (v : Strand) : (s.setStrand n v).portB = s.portB := rfl
@[simp] theorem State.setStrand_idsLoaded (n : Nat) (v : Strand) : (s.setStrand n v).idsLoaded = s.idsLoaded := rfl
@[simp] theorem State.setStrand_subsys (n : Nat) (v : Strand) : (s.setStrand n v).subsys = s.subsys := rfl
@[simp] theorem State.setStrand_sq (n : Nat) (v : Strand) : (s.setStrand n v).sq = s.sq := rfl
@[simp] theorem State.setStrand_cq (n : Nat) (v : Strand) : (s.setStrand n v).cq = s.cq := rfl
@[simp] theorem State.setStrand_imt (n : Nat) (v : Strand) : (s.setStrand n v).imt = s.imt := rfl
@[simp] theorem State.setStrand_qdata (n : Nat) (v : Strand) : (s.setStrand n v).qdata = s.qdata := rfl
@[simp] theorem State.setStrand_cmds (n : Nat) (v : Strand) : (s.setStrand n v).cmds = s.cmds := rfl
@[simp] theorem State.setStrand_nextTag (n : Nat) (v : Strand) : (s.setStrand n v).nextTag = s.nextTag := rfl
@[simp] theorem State.setStrand_jhold (n : Nat) (v : Strand) : (s.setStrand n v).jhold = s.jhold := rfl
@[simp] theorem State.setStrand_insts (n : Nat) (v : Strand) : (s.setStrand n v).insts = s.insts := rfl
@[simp] theorem State.setStrand_peers (n : Nat) (v : Strand) : (s.setStrand n v).peers = s.peers := rfl
@[simp] theorem State.setStrand_peerNext (n : Nat) (v : Strand) : (s.setStrand n v).peerNext = s.peerNext := rfl
@[simp] theorem State.setStrand_ns (n : Nat) (v : Strand) : (s.setStrand n v).ns = s.ns := rfl
@[simp] theorem State.setStrand_nsSerial (n : Nat) (v : Strand) : (s.setStrand n v).nsSerial = s.nsSerial := rfl
@[simp] theorem State.setStrand_progs (n : Nat) (v : Strand) : (s.setStrand n v).progs = s.progs := rfl
@[simp] theorem State.setStrand_profiles (n : Nat) (v : Strand) : (s.setStrand n v).profiles = s.profiles := rfl
@[simp] theorem State.setStrand_chans (n : Nat) (v : Strand) : (s.setStrand n v).chans = s.chans := rfl
@[simp] theorem State.setStrand_luns (n : Nat) (v : Strand) : (s.setStrand n v).luns = s.luns := rfl
@[simp] theorem State.setStrand_nand (n : Nat) (v : Strand) : (s.setStrand n v).nand = s.nand := rfl
@[simp] theorem State.setStrand_fw (n : Nat) (v : Strand) : (s.setStrand n v).fw = s.fw := rfl
@[simp] theorem State.setStrand_soft (n : Nat) (v : Strand) : (s.setStrand n v).soft = s.soft := rfl
@[simp] theorem State.setStrand_recon (n : Nat) (v : Strand) : (s.setStrand n v).recon = s.recon := rfl
@[simp] theorem State.setStrand_ftl (n : Nat) (v : Strand) : (s.setStrand n v).ftl = s.ftl := rfl
@[simp] theorem State.setStrand_chest (n : Nat) (v : Strand) : (s.setStrand n v).chest = s.chest := rfl
@[simp] theorem State.setStrand_rebuild (n : Nat) (v : Strand) : (s.setStrand n v).rebuild = s.rebuild := rfl
@[simp] theorem State.setStrand_runs (n : Nat) (v : Strand) : (s.setStrand n v).runs = s.runs := rfl
@[simp] theorem State.setStrand_idx (n : Nat) (v : Strand) : (s.setStrand n v).idx = s.idx := rfl
@[simp] theorem State.setStrand_shd (n : Nat) (v : Strand) : (s.setStrand n v).shd = s.shd := rfl
@[simp] theorem State.setStrand_cores (n : Nat) (v : Strand) : (s.setStrand n v).cores = s.cores := rfl
@[simp] theorem State.setStrand_icache (n : Nat) (v : Strand) : (s.setStrand n v).icache = s.icache := rfl
@[simp] theorem State.setStrand_icacheBad (n : Nat) (v : Strand) : (s.setStrand n v).icacheBad = s.icacheBad := rfl
@[simp] theorem State.setStrand_route (n : Nat) (v : Strand) : (s.setStrand n v).route = s.route := rfl
@[simp] theorem State.setStrand_ksu (n : Nat) (v : Strand) : (s.setStrand n v).ksu = s.ksu := rfl
@[simp] theorem State.setStrand_car (n : Nat) (v : Strand) : (s.setStrand n v).car = s.car := rfl
@[simp] theorem State.setStrand_dram (n : Nat) (v : Strand) : (s.setStrand n v).dram = s.dram := rfl
@[simp] theorem State.setStrand_pwr (n : Nat) (v : Strand) : (s.setStrand n v).pwr = s.pwr := rfl
@[simp] theorem State.setStrand_pins (n : Nat) (v : Strand) : (s.setStrand n v).pins = s.pins := rfl

/-! ### State.setCore -/

@[simp] theorem State.setCore_pending (k : Nat) (c : Core) : (s.setCore k c).pending = s.pending := rfl
@[simp] theorem State.setCore_out (k : Nat) (c : Core) : (s.setCore k c).out = s.out := rfl
@[simp] theorem State.setCore_regs (k : Nat) (c : Core) : (s.setCore k c).regs = s.regs := rfl
@[simp] theorem State.setCore_held (k : Nat) (c : Core) : (s.setCore k c).held = s.held := rfl
@[simp] theorem State.setCore_stage (k : Nat) (c : Core) : (s.setCore k c).stage = s.stage := rfl
@[simp] theorem State.setCore_beat (k : Nat) (c : Core) : (s.setCore k c).beat = s.beat := rfl
@[simp] theorem State.setCore_careLog (k : Nat) (c : Core) : (s.setCore k c).careLog = s.careLog := rfl
@[simp] theorem State.setCore_free (k : Nat) (c : Core) : (s.setCore k c).free = s.free := rfl
@[simp] theorem State.setCore_dev (k : Nat) (c : Core) : (s.setCore k c).dev = s.dev := rfl
@[simp] theorem State.setCore_rebuilding (k : Nat) (c : Core) : (s.setCore k c).rebuilding = s.rebuilding := rfl
@[simp] theorem State.setCore_health (k : Nat) (c : Core) : (s.setCore k c).health = s.health := rfl
@[simp] theorem State.setCore_portA (k : Nat) (c : Core) : (s.setCore k c).portA = s.portA := rfl
@[simp] theorem State.setCore_portB (k : Nat) (c : Core) : (s.setCore k c).portB = s.portB := rfl
@[simp] theorem State.setCore_idsLoaded (k : Nat) (c : Core) : (s.setCore k c).idsLoaded = s.idsLoaded := rfl
@[simp] theorem State.setCore_subsys (k : Nat) (c : Core) : (s.setCore k c).subsys = s.subsys := rfl
@[simp] theorem State.setCore_sq (k : Nat) (c : Core) : (s.setCore k c).sq = s.sq := rfl
@[simp] theorem State.setCore_cq (k : Nat) (c : Core) : (s.setCore k c).cq = s.cq := rfl
@[simp] theorem State.setCore_imt (k : Nat) (c : Core) : (s.setCore k c).imt = s.imt := rfl
@[simp] theorem State.setCore_qdata (k : Nat) (c : Core) : (s.setCore k c).qdata = s.qdata := rfl
@[simp] theorem State.setCore_cmds (k : Nat) (c : Core) : (s.setCore k c).cmds = s.cmds := rfl
@[simp] theorem State.setCore_nextTag (k : Nat) (c : Core) : (s.setCore k c).nextTag = s.nextTag := rfl
@[simp] theorem State.setCore_jhold (k : Nat) (c : Core) : (s.setCore k c).jhold = s.jhold := rfl
@[simp] theorem State.setCore_insts (k : Nat) (c : Core) : (s.setCore k c).insts = s.insts := rfl
@[simp] theorem State.setCore_peers (k : Nat) (c : Core) : (s.setCore k c).peers = s.peers := rfl
@[simp] theorem State.setCore_peerNext (k : Nat) (c : Core) : (s.setCore k c).peerNext = s.peerNext := rfl
@[simp] theorem State.setCore_ns (k : Nat) (c : Core) : (s.setCore k c).ns = s.ns := rfl
@[simp] theorem State.setCore_nsSerial (k : Nat) (c : Core) : (s.setCore k c).nsSerial = s.nsSerial := rfl
@[simp] theorem State.setCore_progs (k : Nat) (c : Core) : (s.setCore k c).progs = s.progs := rfl
@[simp] theorem State.setCore_profiles (k : Nat) (c : Core) : (s.setCore k c).profiles = s.profiles := rfl
@[simp] theorem State.setCore_chans (k : Nat) (c : Core) : (s.setCore k c).chans = s.chans := rfl
@[simp] theorem State.setCore_luns (k : Nat) (c : Core) : (s.setCore k c).luns = s.luns := rfl
@[simp] theorem State.setCore_nand (k : Nat) (c : Core) : (s.setCore k c).nand = s.nand := rfl
@[simp] theorem State.setCore_fw (k : Nat) (c : Core) : (s.setCore k c).fw = s.fw := rfl
@[simp] theorem State.setCore_soft (k : Nat) (c : Core) : (s.setCore k c).soft = s.soft := rfl
@[simp] theorem State.setCore_recon (k : Nat) (c : Core) : (s.setCore k c).recon = s.recon := rfl
@[simp] theorem State.setCore_ftl (k : Nat) (c : Core) : (s.setCore k c).ftl = s.ftl := rfl
@[simp] theorem State.setCore_chest (k : Nat) (c : Core) : (s.setCore k c).chest = s.chest := rfl
@[simp] theorem State.setCore_rebuild (k : Nat) (c : Core) : (s.setCore k c).rebuild = s.rebuild := rfl
@[simp] theorem State.setCore_strands (k : Nat) (c : Core) : (s.setCore k c).strands = s.strands := rfl
@[simp] theorem State.setCore_runs (k : Nat) (c : Core) : (s.setCore k c).runs = s.runs := rfl
@[simp] theorem State.setCore_idx (k : Nat) (c : Core) : (s.setCore k c).idx = s.idx := rfl
@[simp] theorem State.setCore_shd (k : Nat) (c : Core) : (s.setCore k c).shd = s.shd := rfl
@[simp] theorem State.setCore_icache (k : Nat) (c : Core) : (s.setCore k c).icache = s.icache := rfl
@[simp] theorem State.setCore_icacheBad (k : Nat) (c : Core) : (s.setCore k c).icacheBad = s.icacheBad := rfl
@[simp] theorem State.setCore_route (k : Nat) (c : Core) : (s.setCore k c).route = s.route := rfl
@[simp] theorem State.setCore_ksu (k : Nat) (c : Core) : (s.setCore k c).ksu = s.ksu := rfl
@[simp] theorem State.setCore_car (k : Nat) (c : Core) : (s.setCore k c).car = s.car := rfl
@[simp] theorem State.setCore_dram (k : Nat) (c : Core) : (s.setCore k c).dram = s.dram := rfl
@[simp] theorem State.setCore_pwr (k : Nat) (c : Core) : (s.setCore k c).pwr = s.pwr := rfl
@[simp] theorem State.setCore_pins (k : Nat) (c : Core) : (s.setCore k c).pins = s.pins := rfl

/-! ### State.setPins -/

@[simp] theorem State.setPins_pending (p : Pins) : (s.setPins p).pending = s.pending := rfl
@[simp] theorem State.setPins_out (p : Pins) : (s.setPins p).out = s.out := rfl
@[simp] theorem State.setPins_regs (p : Pins) : (s.setPins p).regs = s.regs := rfl
@[simp] theorem State.setPins_held (p : Pins) : (s.setPins p).held = s.held := rfl
@[simp] theorem State.setPins_stage (p : Pins) : (s.setPins p).stage = s.stage := rfl
@[simp] theorem State.setPins_beat (p : Pins) : (s.setPins p).beat = s.beat := rfl
@[simp] theorem State.setPins_careLog (p : Pins) : (s.setPins p).careLog = s.careLog := rfl
@[simp] theorem State.setPins_free (p : Pins) : (s.setPins p).free = s.free := rfl
@[simp] theorem State.setPins_dev (p : Pins) : (s.setPins p).dev = s.dev := rfl
@[simp] theorem State.setPins_rebuilding (p : Pins) : (s.setPins p).rebuilding = s.rebuilding := rfl
@[simp] theorem State.setPins_health (p : Pins) : (s.setPins p).health = s.health := rfl
@[simp] theorem State.setPins_portA (p : Pins) : (s.setPins p).portA = s.portA := rfl
@[simp] theorem State.setPins_portB (p : Pins) : (s.setPins p).portB = s.portB := rfl
@[simp] theorem State.setPins_idsLoaded (p : Pins) : (s.setPins p).idsLoaded = s.idsLoaded := rfl
@[simp] theorem State.setPins_subsys (p : Pins) : (s.setPins p).subsys = s.subsys := rfl
@[simp] theorem State.setPins_sq (p : Pins) : (s.setPins p).sq = s.sq := rfl
@[simp] theorem State.setPins_cq (p : Pins) : (s.setPins p).cq = s.cq := rfl
@[simp] theorem State.setPins_imt (p : Pins) : (s.setPins p).imt = s.imt := rfl
@[simp] theorem State.setPins_qdata (p : Pins) : (s.setPins p).qdata = s.qdata := rfl
@[simp] theorem State.setPins_cmds (p : Pins) : (s.setPins p).cmds = s.cmds := rfl
@[simp] theorem State.setPins_nextTag (p : Pins) : (s.setPins p).nextTag = s.nextTag := rfl
@[simp] theorem State.setPins_jhold (p : Pins) : (s.setPins p).jhold = s.jhold := rfl
@[simp] theorem State.setPins_insts (p : Pins) : (s.setPins p).insts = s.insts := rfl
@[simp] theorem State.setPins_peers (p : Pins) : (s.setPins p).peers = s.peers := rfl
@[simp] theorem State.setPins_peerNext (p : Pins) : (s.setPins p).peerNext = s.peerNext := rfl
@[simp] theorem State.setPins_ns (p : Pins) : (s.setPins p).ns = s.ns := rfl
@[simp] theorem State.setPins_nsSerial (p : Pins) : (s.setPins p).nsSerial = s.nsSerial := rfl
@[simp] theorem State.setPins_progs (p : Pins) : (s.setPins p).progs = s.progs := rfl
@[simp] theorem State.setPins_profiles (p : Pins) : (s.setPins p).profiles = s.profiles := rfl
@[simp] theorem State.setPins_chans (p : Pins) : (s.setPins p).chans = s.chans := rfl
@[simp] theorem State.setPins_luns (p : Pins) : (s.setPins p).luns = s.luns := rfl
@[simp] theorem State.setPins_nand (p : Pins) : (s.setPins p).nand = s.nand := rfl
@[simp] theorem State.setPins_fw (p : Pins) : (s.setPins p).fw = s.fw := rfl
@[simp] theorem State.setPins_soft (p : Pins) : (s.setPins p).soft = s.soft := rfl
@[simp] theorem State.setPins_recon (p : Pins) : (s.setPins p).recon = s.recon := rfl
@[simp] theorem State.setPins_ftl (p : Pins) : (s.setPins p).ftl = s.ftl := rfl
@[simp] theorem State.setPins_chest (p : Pins) : (s.setPins p).chest = s.chest := rfl
@[simp] theorem State.setPins_rebuild (p : Pins) : (s.setPins p).rebuild = s.rebuild := rfl
@[simp] theorem State.setPins_strands (p : Pins) : (s.setPins p).strands = s.strands := rfl
@[simp] theorem State.setPins_runs (p : Pins) : (s.setPins p).runs = s.runs := rfl
@[simp] theorem State.setPins_idx (p : Pins) : (s.setPins p).idx = s.idx := rfl
@[simp] theorem State.setPins_shd (p : Pins) : (s.setPins p).shd = s.shd := rfl
@[simp] theorem State.setPins_cores (p : Pins) : (s.setPins p).cores = s.cores := rfl
@[simp] theorem State.setPins_icache (p : Pins) : (s.setPins p).icache = s.icache := rfl
@[simp] theorem State.setPins_icacheBad (p : Pins) : (s.setPins p).icacheBad = s.icacheBad := rfl
@[simp] theorem State.setPins_route (p : Pins) : (s.setPins p).route = s.route := rfl
@[simp] theorem State.setPins_ksu (p : Pins) : (s.setPins p).ksu = s.ksu := rfl
@[simp] theorem State.setPins_car (p : Pins) : (s.setPins p).car = s.car := rfl
@[simp] theorem State.setPins_dram (p : Pins) : (s.setPins p).dram = s.dram := rfl
@[simp] theorem State.setPins_pwr (p : Pins) : (s.setPins p).pwr = s.pwr := rfl

/-! ### State.setNs -/

@[simp] theorem State.setNs_pending (n : Nat) (v : Option Namespace) : (s.setNs n v).pending = s.pending := rfl
@[simp] theorem State.setNs_out (n : Nat) (v : Option Namespace) : (s.setNs n v).out = s.out := rfl
@[simp] theorem State.setNs_regs (n : Nat) (v : Option Namespace) : (s.setNs n v).regs = s.regs := rfl
@[simp] theorem State.setNs_held (n : Nat) (v : Option Namespace) : (s.setNs n v).held = s.held := rfl
@[simp] theorem State.setNs_stage (n : Nat) (v : Option Namespace) : (s.setNs n v).stage = s.stage := rfl
@[simp] theorem State.setNs_beat (n : Nat) (v : Option Namespace) : (s.setNs n v).beat = s.beat := rfl
@[simp] theorem State.setNs_careLog (n : Nat) (v : Option Namespace) : (s.setNs n v).careLog = s.careLog := rfl
@[simp] theorem State.setNs_free (n : Nat) (v : Option Namespace) : (s.setNs n v).free = s.free := rfl
@[simp] theorem State.setNs_dev (n : Nat) (v : Option Namespace) : (s.setNs n v).dev = s.dev := rfl
@[simp] theorem State.setNs_rebuilding (n : Nat) (v : Option Namespace) : (s.setNs n v).rebuilding = s.rebuilding := rfl
@[simp] theorem State.setNs_health (n : Nat) (v : Option Namespace) : (s.setNs n v).health = s.health := rfl
@[simp] theorem State.setNs_portA (n : Nat) (v : Option Namespace) : (s.setNs n v).portA = s.portA := rfl
@[simp] theorem State.setNs_portB (n : Nat) (v : Option Namespace) : (s.setNs n v).portB = s.portB := rfl
@[simp] theorem State.setNs_idsLoaded (n : Nat) (v : Option Namespace) : (s.setNs n v).idsLoaded = s.idsLoaded := rfl
@[simp] theorem State.setNs_subsys (n : Nat) (v : Option Namespace) : (s.setNs n v).subsys = s.subsys := rfl
@[simp] theorem State.setNs_sq (n : Nat) (v : Option Namespace) : (s.setNs n v).sq = s.sq := rfl
@[simp] theorem State.setNs_cq (n : Nat) (v : Option Namespace) : (s.setNs n v).cq = s.cq := rfl
@[simp] theorem State.setNs_imt (n : Nat) (v : Option Namespace) : (s.setNs n v).imt = s.imt := rfl
@[simp] theorem State.setNs_qdata (n : Nat) (v : Option Namespace) : (s.setNs n v).qdata = s.qdata := rfl
@[simp] theorem State.setNs_cmds (n : Nat) (v : Option Namespace) : (s.setNs n v).cmds = s.cmds := rfl
@[simp] theorem State.setNs_nextTag (n : Nat) (v : Option Namespace) : (s.setNs n v).nextTag = s.nextTag := rfl
@[simp] theorem State.setNs_jhold (n : Nat) (v : Option Namespace) : (s.setNs n v).jhold = s.jhold := rfl
@[simp] theorem State.setNs_insts (n : Nat) (v : Option Namespace) : (s.setNs n v).insts = s.insts := rfl
@[simp] theorem State.setNs_peers (n : Nat) (v : Option Namespace) : (s.setNs n v).peers = s.peers := rfl
@[simp] theorem State.setNs_peerNext (n : Nat) (v : Option Namespace) : (s.setNs n v).peerNext = s.peerNext := rfl
@[simp] theorem State.setNs_nsSerial (n : Nat) (v : Option Namespace) : (s.setNs n v).nsSerial = s.nsSerial := rfl
@[simp] theorem State.setNs_progs (n : Nat) (v : Option Namespace) : (s.setNs n v).progs = s.progs := rfl
@[simp] theorem State.setNs_profiles (n : Nat) (v : Option Namespace) : (s.setNs n v).profiles = s.profiles := rfl
@[simp] theorem State.setNs_chans (n : Nat) (v : Option Namespace) : (s.setNs n v).chans = s.chans := rfl
@[simp] theorem State.setNs_luns (n : Nat) (v : Option Namespace) : (s.setNs n v).luns = s.luns := rfl
@[simp] theorem State.setNs_nand (n : Nat) (v : Option Namespace) : (s.setNs n v).nand = s.nand := rfl
@[simp] theorem State.setNs_fw (n : Nat) (v : Option Namespace) : (s.setNs n v).fw = s.fw := rfl
@[simp] theorem State.setNs_soft (n : Nat) (v : Option Namespace) : (s.setNs n v).soft = s.soft := rfl
@[simp] theorem State.setNs_recon (n : Nat) (v : Option Namespace) : (s.setNs n v).recon = s.recon := rfl
@[simp] theorem State.setNs_ftl (n : Nat) (v : Option Namespace) : (s.setNs n v).ftl = s.ftl := rfl
@[simp] theorem State.setNs_chest (n : Nat) (v : Option Namespace) : (s.setNs n v).chest = s.chest := rfl
@[simp] theorem State.setNs_rebuild (n : Nat) (v : Option Namespace) : (s.setNs n v).rebuild = s.rebuild := rfl
@[simp] theorem State.setNs_strands (n : Nat) (v : Option Namespace) : (s.setNs n v).strands = s.strands := rfl
@[simp] theorem State.setNs_runs (n : Nat) (v : Option Namespace) : (s.setNs n v).runs = s.runs := rfl
@[simp] theorem State.setNs_idx (n : Nat) (v : Option Namespace) : (s.setNs n v).idx = s.idx := rfl
@[simp] theorem State.setNs_shd (n : Nat) (v : Option Namespace) : (s.setNs n v).shd = s.shd := rfl
@[simp] theorem State.setNs_cores (n : Nat) (v : Option Namespace) : (s.setNs n v).cores = s.cores := rfl
@[simp] theorem State.setNs_icache (n : Nat) (v : Option Namespace) : (s.setNs n v).icache = s.icache := rfl
@[simp] theorem State.setNs_icacheBad (n : Nat) (v : Option Namespace) : (s.setNs n v).icacheBad = s.icacheBad := rfl
@[simp] theorem State.setNs_route (n : Nat) (v : Option Namespace) : (s.setNs n v).route = s.route := rfl
@[simp] theorem State.setNs_ksu (n : Nat) (v : Option Namespace) : (s.setNs n v).ksu = s.ksu := rfl
@[simp] theorem State.setNs_car (n : Nat) (v : Option Namespace) : (s.setNs n v).car = s.car := rfl
@[simp] theorem State.setNs_dram (n : Nat) (v : Option Namespace) : (s.setNs n v).dram = s.dram := rfl
@[simp] theorem State.setNs_pwr (n : Nat) (v : Option Namespace) : (s.setNs n v).pwr = s.pwr := rfl
@[simp] theorem State.setNs_pins (n : Nat) (v : Option Namespace) : (s.setNs n v).pins = s.pins := rfl

/-! ### State.setChan -/

@[simp] theorem State.setChan_pending (k : Nat) (v : Chan) : (s.setChan k v).pending = s.pending := rfl
@[simp] theorem State.setChan_out (k : Nat) (v : Chan) : (s.setChan k v).out = s.out := rfl
@[simp] theorem State.setChan_regs (k : Nat) (v : Chan) : (s.setChan k v).regs = s.regs := rfl
@[simp] theorem State.setChan_held (k : Nat) (v : Chan) : (s.setChan k v).held = s.held := rfl
@[simp] theorem State.setChan_stage (k : Nat) (v : Chan) : (s.setChan k v).stage = s.stage := rfl
@[simp] theorem State.setChan_beat (k : Nat) (v : Chan) : (s.setChan k v).beat = s.beat := rfl
@[simp] theorem State.setChan_careLog (k : Nat) (v : Chan) : (s.setChan k v).careLog = s.careLog := rfl
@[simp] theorem State.setChan_free (k : Nat) (v : Chan) : (s.setChan k v).free = s.free := rfl
@[simp] theorem State.setChan_dev (k : Nat) (v : Chan) : (s.setChan k v).dev = s.dev := rfl
@[simp] theorem State.setChan_rebuilding (k : Nat) (v : Chan) : (s.setChan k v).rebuilding = s.rebuilding := rfl
@[simp] theorem State.setChan_health (k : Nat) (v : Chan) : (s.setChan k v).health = s.health := rfl
@[simp] theorem State.setChan_portA (k : Nat) (v : Chan) : (s.setChan k v).portA = s.portA := rfl
@[simp] theorem State.setChan_portB (k : Nat) (v : Chan) : (s.setChan k v).portB = s.portB := rfl
@[simp] theorem State.setChan_idsLoaded (k : Nat) (v : Chan) : (s.setChan k v).idsLoaded = s.idsLoaded := rfl
@[simp] theorem State.setChan_subsys (k : Nat) (v : Chan) : (s.setChan k v).subsys = s.subsys := rfl
@[simp] theorem State.setChan_sq (k : Nat) (v : Chan) : (s.setChan k v).sq = s.sq := rfl
@[simp] theorem State.setChan_cq (k : Nat) (v : Chan) : (s.setChan k v).cq = s.cq := rfl
@[simp] theorem State.setChan_imt (k : Nat) (v : Chan) : (s.setChan k v).imt = s.imt := rfl
@[simp] theorem State.setChan_qdata (k : Nat) (v : Chan) : (s.setChan k v).qdata = s.qdata := rfl
@[simp] theorem State.setChan_cmds (k : Nat) (v : Chan) : (s.setChan k v).cmds = s.cmds := rfl
@[simp] theorem State.setChan_nextTag (k : Nat) (v : Chan) : (s.setChan k v).nextTag = s.nextTag := rfl
@[simp] theorem State.setChan_jhold (k : Nat) (v : Chan) : (s.setChan k v).jhold = s.jhold := rfl
@[simp] theorem State.setChan_insts (k : Nat) (v : Chan) : (s.setChan k v).insts = s.insts := rfl
@[simp] theorem State.setChan_peers (k : Nat) (v : Chan) : (s.setChan k v).peers = s.peers := rfl
@[simp] theorem State.setChan_peerNext (k : Nat) (v : Chan) : (s.setChan k v).peerNext = s.peerNext := rfl
@[simp] theorem State.setChan_ns (k : Nat) (v : Chan) : (s.setChan k v).ns = s.ns := rfl
@[simp] theorem State.setChan_nsSerial (k : Nat) (v : Chan) : (s.setChan k v).nsSerial = s.nsSerial := rfl
@[simp] theorem State.setChan_progs (k : Nat) (v : Chan) : (s.setChan k v).progs = s.progs := rfl
@[simp] theorem State.setChan_profiles (k : Nat) (v : Chan) : (s.setChan k v).profiles = s.profiles := rfl
@[simp] theorem State.setChan_luns (k : Nat) (v : Chan) : (s.setChan k v).luns = s.luns := rfl
@[simp] theorem State.setChan_nand (k : Nat) (v : Chan) : (s.setChan k v).nand = s.nand := rfl
@[simp] theorem State.setChan_fw (k : Nat) (v : Chan) : (s.setChan k v).fw = s.fw := rfl
@[simp] theorem State.setChan_soft (k : Nat) (v : Chan) : (s.setChan k v).soft = s.soft := rfl
@[simp] theorem State.setChan_recon (k : Nat) (v : Chan) : (s.setChan k v).recon = s.recon := rfl
@[simp] theorem State.setChan_ftl (k : Nat) (v : Chan) : (s.setChan k v).ftl = s.ftl := rfl
@[simp] theorem State.setChan_chest (k : Nat) (v : Chan) : (s.setChan k v).chest = s.chest := rfl
@[simp] theorem State.setChan_rebuild (k : Nat) (v : Chan) : (s.setChan k v).rebuild = s.rebuild := rfl
@[simp] theorem State.setChan_strands (k : Nat) (v : Chan) : (s.setChan k v).strands = s.strands := rfl
@[simp] theorem State.setChan_runs (k : Nat) (v : Chan) : (s.setChan k v).runs = s.runs := rfl
@[simp] theorem State.setChan_idx (k : Nat) (v : Chan) : (s.setChan k v).idx = s.idx := rfl
@[simp] theorem State.setChan_shd (k : Nat) (v : Chan) : (s.setChan k v).shd = s.shd := rfl
@[simp] theorem State.setChan_cores (k : Nat) (v : Chan) : (s.setChan k v).cores = s.cores := rfl
@[simp] theorem State.setChan_icache (k : Nat) (v : Chan) : (s.setChan k v).icache = s.icache := rfl
@[simp] theorem State.setChan_icacheBad (k : Nat) (v : Chan) : (s.setChan k v).icacheBad = s.icacheBad := rfl
@[simp] theorem State.setChan_route (k : Nat) (v : Chan) : (s.setChan k v).route = s.route := rfl
@[simp] theorem State.setChan_ksu (k : Nat) (v : Chan) : (s.setChan k v).ksu = s.ksu := rfl
@[simp] theorem State.setChan_car (k : Nat) (v : Chan) : (s.setChan k v).car = s.car := rfl
@[simp] theorem State.setChan_dram (k : Nat) (v : Chan) : (s.setChan k v).dram = s.dram := rfl
@[simp] theorem State.setChan_pwr (k : Nat) (v : Chan) : (s.setChan k v).pwr = s.pwr := rfl
@[simp] theorem State.setChan_pins (k : Nat) (v : Chan) : (s.setChan k v).pins = s.pins := rfl

/-! ### State.setLun -/

@[simp] theorem State.setLun_pending (k l : Nat) (v : Lun) : (s.setLun k l v).pending = s.pending := rfl
@[simp] theorem State.setLun_out (k l : Nat) (v : Lun) : (s.setLun k l v).out = s.out := rfl
@[simp] theorem State.setLun_regs (k l : Nat) (v : Lun) : (s.setLun k l v).regs = s.regs := rfl
@[simp] theorem State.setLun_held (k l : Nat) (v : Lun) : (s.setLun k l v).held = s.held := rfl
@[simp] theorem State.setLun_stage (k l : Nat) (v : Lun) : (s.setLun k l v).stage = s.stage := rfl
@[simp] theorem State.setLun_beat (k l : Nat) (v : Lun) : (s.setLun k l v).beat = s.beat := rfl
@[simp] theorem State.setLun_careLog (k l : Nat) (v : Lun) : (s.setLun k l v).careLog = s.careLog := rfl
@[simp] theorem State.setLun_free (k l : Nat) (v : Lun) : (s.setLun k l v).free = s.free := rfl
@[simp] theorem State.setLun_dev (k l : Nat) (v : Lun) : (s.setLun k l v).dev = s.dev := rfl
@[simp] theorem State.setLun_rebuilding (k l : Nat) (v : Lun) : (s.setLun k l v).rebuilding = s.rebuilding := rfl
@[simp] theorem State.setLun_health (k l : Nat) (v : Lun) : (s.setLun k l v).health = s.health := rfl
@[simp] theorem State.setLun_portA (k l : Nat) (v : Lun) : (s.setLun k l v).portA = s.portA := rfl
@[simp] theorem State.setLun_portB (k l : Nat) (v : Lun) : (s.setLun k l v).portB = s.portB := rfl
@[simp] theorem State.setLun_idsLoaded (k l : Nat) (v : Lun) : (s.setLun k l v).idsLoaded = s.idsLoaded := rfl
@[simp] theorem State.setLun_subsys (k l : Nat) (v : Lun) : (s.setLun k l v).subsys = s.subsys := rfl
@[simp] theorem State.setLun_sq (k l : Nat) (v : Lun) : (s.setLun k l v).sq = s.sq := rfl
@[simp] theorem State.setLun_cq (k l : Nat) (v : Lun) : (s.setLun k l v).cq = s.cq := rfl
@[simp] theorem State.setLun_imt (k l : Nat) (v : Lun) : (s.setLun k l v).imt = s.imt := rfl
@[simp] theorem State.setLun_qdata (k l : Nat) (v : Lun) : (s.setLun k l v).qdata = s.qdata := rfl
@[simp] theorem State.setLun_cmds (k l : Nat) (v : Lun) : (s.setLun k l v).cmds = s.cmds := rfl
@[simp] theorem State.setLun_nextTag (k l : Nat) (v : Lun) : (s.setLun k l v).nextTag = s.nextTag := rfl
@[simp] theorem State.setLun_jhold (k l : Nat) (v : Lun) : (s.setLun k l v).jhold = s.jhold := rfl
@[simp] theorem State.setLun_insts (k l : Nat) (v : Lun) : (s.setLun k l v).insts = s.insts := rfl
@[simp] theorem State.setLun_peers (k l : Nat) (v : Lun) : (s.setLun k l v).peers = s.peers := rfl
@[simp] theorem State.setLun_peerNext (k l : Nat) (v : Lun) : (s.setLun k l v).peerNext = s.peerNext := rfl
@[simp] theorem State.setLun_ns (k l : Nat) (v : Lun) : (s.setLun k l v).ns = s.ns := rfl
@[simp] theorem State.setLun_nsSerial (k l : Nat) (v : Lun) : (s.setLun k l v).nsSerial = s.nsSerial := rfl
@[simp] theorem State.setLun_progs (k l : Nat) (v : Lun) : (s.setLun k l v).progs = s.progs := rfl
@[simp] theorem State.setLun_profiles (k l : Nat) (v : Lun) : (s.setLun k l v).profiles = s.profiles := rfl
@[simp] theorem State.setLun_chans (k l : Nat) (v : Lun) : (s.setLun k l v).chans = s.chans := rfl
@[simp] theorem State.setLun_nand (k l : Nat) (v : Lun) : (s.setLun k l v).nand = s.nand := rfl
@[simp] theorem State.setLun_fw (k l : Nat) (v : Lun) : (s.setLun k l v).fw = s.fw := rfl
@[simp] theorem State.setLun_soft (k l : Nat) (v : Lun) : (s.setLun k l v).soft = s.soft := rfl
@[simp] theorem State.setLun_recon (k l : Nat) (v : Lun) : (s.setLun k l v).recon = s.recon := rfl
@[simp] theorem State.setLun_ftl (k l : Nat) (v : Lun) : (s.setLun k l v).ftl = s.ftl := rfl
@[simp] theorem State.setLun_chest (k l : Nat) (v : Lun) : (s.setLun k l v).chest = s.chest := rfl
@[simp] theorem State.setLun_rebuild (k l : Nat) (v : Lun) : (s.setLun k l v).rebuild = s.rebuild := rfl
@[simp] theorem State.setLun_strands (k l : Nat) (v : Lun) : (s.setLun k l v).strands = s.strands := rfl
@[simp] theorem State.setLun_runs (k l : Nat) (v : Lun) : (s.setLun k l v).runs = s.runs := rfl
@[simp] theorem State.setLun_idx (k l : Nat) (v : Lun) : (s.setLun k l v).idx = s.idx := rfl
@[simp] theorem State.setLun_shd (k l : Nat) (v : Lun) : (s.setLun k l v).shd = s.shd := rfl
@[simp] theorem State.setLun_cores (k l : Nat) (v : Lun) : (s.setLun k l v).cores = s.cores := rfl
@[simp] theorem State.setLun_icache (k l : Nat) (v : Lun) : (s.setLun k l v).icache = s.icache := rfl
@[simp] theorem State.setLun_icacheBad (k l : Nat) (v : Lun) : (s.setLun k l v).icacheBad = s.icacheBad := rfl
@[simp] theorem State.setLun_route (k l : Nat) (v : Lun) : (s.setLun k l v).route = s.route := rfl
@[simp] theorem State.setLun_ksu (k l : Nat) (v : Lun) : (s.setLun k l v).ksu = s.ksu := rfl
@[simp] theorem State.setLun_car (k l : Nat) (v : Lun) : (s.setLun k l v).car = s.car := rfl
@[simp] theorem State.setLun_dram (k l : Nat) (v : Lun) : (s.setLun k l v).dram = s.dram := rfl
@[simp] theorem State.setLun_pwr (k l : Nat) (v : Lun) : (s.setLun k l v).pwr = s.pwr := rfl
@[simp] theorem State.setLun_pins (k l : Nat) (v : Lun) : (s.setLun k l v).pins = s.pins := rfl

/-! ### What the changed field holds -/

@[simp] theorem State.setPwr_pwr (p : Power) : (s.setPwr p).pwr = p := rfl
@[simp] theorem State.setCar_car (c : Car) : (s.setCar c).car = c := rfl
@[simp] theorem State.setDram_dram (d : Dram) : (s.setDram d).dram = d := rfl
@[simp] theorem State.setFtl_ftl (f : Ftl) : (s.setFtl f).ftl = f := rfl
@[simp] theorem State.setChest_chest (c : Chest) : (s.setChest c).chest = c := rfl
@[simp] theorem State.setIdx_idx (i : Idx) : (s.setIdx i).idx = i := rfl
@[simp] theorem State.setKsu_ksu (k : Ksu) : (s.setKsu k).ksu = k := rfl
@[simp] theorem State.setPins_pins (p : Pins) : (s.setPins p).pins = p := rfl
@[simp] theorem State.emit_out (o : Out) : (s.emit o).out = s.out ++ [o] := rfl
@[simp] theorem State.tick_free : s.tick.free = s.free + 1 := rfl
@[simp] theorem State.setPort_port (p : Bool) (v : Port) : (s.setPort p v).port p = v := by cases p <;> rfl
@[simp] theorem State.setPort_other (p : Bool) (v : Port) : (s.setPort p v).port (!p) = s.port (!p) := by cases p <;> rfl

end Sys2Proof.Machine
end

