-- ==== Sys2Proof/Laws/Gleluris.lean ====
section
/-!
SUPPORT. What the shared operations of Gleluris-16 do: fetch and cycle counts leave the cores alone, and each shape of
instruction retires as its name says.
-/

namespace Sys2Proof.Machine

variable (s : State) (k : CoreId)

@[simp] theorem State.cycles_co (n : Nat) (j : CoreId) : (s.cycles k n).co j = s.co j := by
  cases k with
  | bead a b => simp only [State.cycles]; split <;> rfl
  | cc c => rfl

@[simp] theorem State.cycles_zero : s.cycles k 0 = s := by cases k <;> rfl

@[simp] theorem State.tick_co (j : CoreId) : s.tick.co j = s.co j := rfl

@[simp] theorem State.fetchLine_co (p line : Nat) (j : CoreId) : (s.fetchLine p line).co j = s.co j := by
  simp only [State.fetchLine]
  split
  · rfl
  · split <;> rfl

/-- A fetch leaves every core alone. -/
theorem State.fetchWord_co {s t : State} {k : CoreId} {pc : Word} (h : s.fetchWord k pc = .ok t) (j : CoreId) :
    t.co j = s.co j := by
  unfold State.fetchWord at h
  cases k with
  | bead a b =>
    simp only at h
    split at h
    · split at h
      · simp at h
      · split at h
        · simp at h
        · cases h; rfl
    · simp at h
  | cc n =>
    simp only at h
    split at h
    · split at h
      · simp at h
      · cases h; simp
    · split at h
      · cases h; rfl
      · simp at h

/-- The fetch of an instruction leaves every core alone, and its form is legal. -/
theorem State.fetchInstr_co {s t : State} {k : CoreId} {long legal : Bool} (h : s.fetchInstr k long legal = .ok t) :
    legal = true ∧ ∀ j, t.co j = s.co j := by
  unfold State.fetchInstr at h
  simp only at h
  split at h
  · simp at h
  · rename_i u hu
    split at h
    · simp at h
    · rename_i hl
      refine ⟨by simpa using hl, fun j => ?_⟩
      split at h
      · rw [State.fetchWord_co h j, State.fetchWord_co hu j]
      · cases h; exact State.fetchWord_co hu j

/-- A trap that met no bad word of the Code Array or Chest records none. -/
@[simp] theorem State.dataEcc_none {s : State} {k : CoreId} {e : Trap} (h : e.bad = none) : s.dataEcc k e = s := by
  simp [State.dataEcc, h]

/-- What runs after a fetch. -/
theorem State.glRun_fetches {s t : State} {k : CoreId} {long legal : Bool} (h : Fetches k long legal s t)
    (body : Core → Word → State → Gl State) :
    s.glRun k long legal body = (match body (s.co k) ((s.co k).pcn long) (t.cycles k 1) with
      | .ok u => u
      | .error e => (t.dataEcc k e).glTrap k e) := by
  simp only [State.glRun, h.1.1, h.1.2, Bool.not_false, Bool.and_self, if_true, h.2, (State.fetchInstr_co h.2).2 k] <;> rfl

/-- A value instruction whose operand is read retires. -/
theorem State.glValue_reads {s u : State} {k : CoreId} {o : Opnd} {v : Word} (h : Reads k o s u v) (extra : Nat)
    (f : Core → Word → Core → Core) :
    s.glValue k o extra f =
      (u.cycles k extra).setCo k (f (s.co k) v
        { u.co k with x := stepX o (u.co k).x, pc := (s.co k).pcn (opndLong o) }) := by
  obtain ⟨t, hf, hr⟩ := h
  rw [State.glValue, State.glRun_fetches hf]
  simp only [hr, State.glRetire, State.cycles_co]

end Sys2Proof.Machine
end

