-- ==== Sys2Proof/WellFormed.lean ====
section
/-!
DEFINITION. Well-formed commands: every operand lies in the range that the device has, so that the command can reach it.
-/

namespace Sys2Proof

/-- The core exists: 32 Strands of 8 Beads and 16 control cores (Table 12-1). -/
def CoreId.exists_ : CoreId → Bool
  | .bead n b => decide (n < 32) && decide (b < 8)
  | .cc c => decide (c < 16)

/-- The source exists: a port, one of the 1,024 instance pages, a control core. -/
def Src.wf : Src → Bool
  | .host _ => true
  | .page _ n => decide (n < 1024)
  | .cc c => decide (c < 16)

/-- The doorbell exists: 64 of each kind in every page. -/
def Doorbell.wf : Doorbell → Bool
  | .page _ n l => decide (n < 1024) && decide (l < 64)
  | .admin _ => true

/-- The spot lies on a LUN of a channel. -/
def Spot.wf (p : Spot) : Bool := decide (p.ch < 32) && decide (p.lun < 64)

/-- The source lies on a channel, and the destination is a place. -/
def Move.wf (m : Move) : Bool := decide (m.ch < 32) && m.place.toSpot.wf

/-- Operand ranges of every command. -/
def wellFormed : Instr → Bool
  | .beatBoundary temps _ => decide (temps.length = 16)
  | .commandDeadlineExpiry _ => true
  | .beatOverrun strand bead => decide (strand < 32) && decide (bead < 8)
  | .rebuildWaitExpiry _ => true
  | .ksIdleTimeout => true
  | .watchdogPrewarn => true
  | .watchdogReset _ _ => true
  | .medOpTimeout ch lun => decide (ch < 32) && decide (lun < 64)
  | .splinterWindowExpiry => true
  | .wearLevellingPeriod moves => moves.all Move.wf
  | .checkpointPeriodExpiry => true
  | .checkpointComplete _ => true
  | .scrubPassStart => true
  | .patrolScrubRead _ => true
  | .powerStateEntry => true
  | .powerStateWake => true
  | .codeArrayLockoutExpiry => true
  | .completionTimeout _ => true
  | .shardJobTimeout => true
  | .cipherJobTimeout _ => true
  | .listSequenceEnd kvns => decide (kvns < 16)
  | .throttleStep => true
  | .thermalShutdown _ => true
  | .por _ => true
  | .cc0StartWaitEnd => true
  | .powerLoss => true
  | .powerFail _ _ => true
  | .perstNAssert _ => true
  | .perstNRelease _ => true
  | .hotReset _ => true
  | .softChipReset src _ _ _ => src.wf
  | .controllerEnable _ _ _ _ _ => true
  | .controllerReset _ => true
  | .controllerResetDrained _ => true
  | .shutdownNotification _ => true
  | .shutdownComplete _ => true
  | .linkRetrain src _ => src.wf
  | .linkTrained _ _ _ _ => true
  | .sqTailDoorbell db _ => db.wf
  | .cqHeadDoorbell db _ => db.wf
  | .commandFetch row sqes => decide (row < 16384) && sqes.all (fun e => decide (e.length = 16))
  | .adminCommandFetch _ sqes => sqes.all (fun e => decide (e.length = 16))
  | .writeClassAdmit _ => true
  | .journalHoldRelease => true
  | .writeCommandAck _ => true
  | .interruptMessage row => decide (row < 16384)
  | .msixUnmask _ vector => decide (vector < 2048)
  | .dmaFault _ _ => true
  | .registerWrite src off _ vals => src.wf && decide (off < 2 ^ 26 + 2 ^ 17) && decide (vals.length < 3)
  | .rcRegisterRead src off => src.wf && decide (off.1 < 2 ^ 26 + 2 ^ 17)
  | .qmgQcmdRead src => src.wf
  | .qmgImtLoad src => src.wf
  | .qmgImtStore src => src.wf
  | .createIoCq _ => true
  | .createIoSq _ => true
  | .deleteIoSq _ => true
  | .deleteIoSqDrained row => decide (row < 16384)
  | .deleteIoCq _ => true
  | .identify _ _ => true
  | .getLogPage _ _ => true
  | .setFeatures _ => true
  | .setFeaturesNumberOfQueues _ => true
  | .setFeaturesPowerManagement _ => true
  | .setFeaturesHmb _ _ => true
  | .getFeatures _ _ => true
  | .asyncEventRequest _ => true
  | .namespaceManagement _ _ => true
  | .formatNvm _ => true
  | .sanitize _ => true
  | .firmwareImageDownload _ _ => true
  | .firmwareCommit _ _ => true
  | .instanceCreate _ _ => true
  | .instanceDelete _ => true
  | .instanceDeleteComplete inst => decide (inst < 1024)
  | .instanceSetShare _ => true
  | .instanceReset _ => true
  | .instanceResetComplete inst => decide (inst < 1024)
  | .instanceAttachNamespace _ => true
  | .instanceQuery _ => true
  | .dirtyLogStart _ => true
  | .dirtyLogStop _ => true
  | .dirtyLogHarvest _ => true
  | .peerTableSet _ _ => true
  | .setLatencyTolerance _ => true
  | .nvmRead _ _ _ => true
  | .nvmWrite _ _ _ => true
  | .nvmCompare _ _ _ => true
  | .nvmVerify _ => true
  | .writeZeroes _ => true
  | .datasetManagement _ _ => true
  | .flush_ _ => true
  | .kvStore _ _ => true
  | .kvRetrieve _ _ => true
  | .kvDelete _ => true
  | .kvExist _ => true
  | .kvList _ _ => true
  | .kvCommitPoint _ => true
  | .pipeWrite _ _ _ _ => true
  | .pipeRead _ _ _ _ => true
  | .pipeScan _ _ _ _ => true
  | .shardEncode _ _ _ => true
  | .shardRebuild _ _ _ => true
  | .kvBatchCommit _ _ _ => true
  | .loadProgram _ _ => true
  | .programActivationManagement _ => true
  | .memoryRead _ _ => true
  | .memoryWrite _ _ => true
  | .claspContextGrant _ _ _ => true
  | .spanDecode _ _ => true
  | .imageEncode _ _ _ _ spot _ => spot.wf
  | .sinkFrame strand _ => decide (strand < 32)
  | .moverForward strand => decide (strand < 32)
  | .claspStreamEnd _ => true
  | .pressJobSubmit src strand _ => src.wf && decide (strand < 32)
  | .pressJobStart strand _ _ _ => decide (strand < 32)
  | .pressJobSlice strand _ _ _ => decide (strand < 32)
  | .shardJobStart _ => true
  | .nandReadComplete ch lun _ => decide (ch < 32) && decide (lun < 64)
  | .nandProgramComplete ch lun _ _ => decide (ch < 32) && decide (lun < 64)
  | .nandEraseComplete ch lun _ => decide (ch < 32) && decide (lun < 64)
  | .nandSuspendComplete ch lun => decide (ch < 32) && decide (lun < 64)
  | .lunResetComplete ch lun _ => decide (ch < 32) && decide (lun < 64)
  | .nandRbFall ch line => decide (ch < 32) && decide (line < 4)
  | .medRecal ch => decide (ch < 32)
  | .calibrationComplete ch _ _ => decide (ch < 32)
  | .softDecodeComplete _ => true
  | .stripeReconstruction ch _ => decide (ch < 32)
  | .foldImage m => m.wf
  | .gcPass moves => moves.all Move.wf
  | .refreshRow ch lun _ moves => decide (ch < 32) && decide (lun < 64) && moves.all Move.wf
  | .coalesceSpan _ _ _ spot _ => spot.wf
  | .lunRelocation ch lun moves _ => decide (ch < 32) && decide (lun < 64) && moves.all Move.wf
  | .eraseGateRequest ch lun _ => decide (ch < 32) && decide (lun < 64)
  | .eraseGateIssue ch lun _ => decide (ch < 32) && decide (lun < 64)
  | .chestRecordCommit => true
  | .chestWriteFail _ => true
  | .chsCkptStart src => src.wf
  | .drawerWriteOut _ _ => true
  | .drawerSegmentRead _ _ => true
  | .mapSegmentRebuild _ => true
  | .rebuildScanComplete => true
  | .rebuildPartitionComplete kind part => decide (kind < 2) && decide (part < 4096)
  | .indexPartitionRebuild part => decide (part < 4096)
  | .ksLockRead src => src.wf
  | .ksRelease src _ => src.wf
  | .ksActWrite src _ => src.wf
  | .keySlotWrite src slot keylen => src.wf && decide (slot < 64) && decide (keylen < 4)
  | .keySlotZeroize src slot => src.wf && decide (slot < 64)
  | .keySlotShare src slot => src.wf && decide (slot < 64)
  | .keySlotUnshare src slot => src.wf && decide (slot < 64)
  | .digestStart src _ => src.wf
  | .digestDataWrite src _ => src.wf
  | .digestLastCommit src _ => src.wf
  | .digestBlockDone => true
  | .cipherDescCommit src _ slot => src.wf && decide (slot < 64)
  | .cipherJobStart _ _ => true
  | .cipherJobEnd _ _ _ _ => true
  | .wordProgram req addr _ => decide (req < 2048) && decide (addr < 2 ^ 25)
  | .bufferLoad req addr _ _ => decide (req < 2048) && decide (addr < 2 ^ 25)
  | .bufferConfirm req addr => decide (req < 2048) && decide (addr < 2 ^ 25)
  | .sectorErase req addr => decide (req < 2048) && decide (addr < 2 ^ 25)
  | .bankErase req addr => decide (req < 2048) && decide (addr < 2 ^ 25)
  | .statusRead req bank => decide (req < 2048) && decide (bank < 4)
  | .eraseSuspend req bank => decide (req < 2048) && decide (bank < 4)
  | .eraseSuspendEffect bank => decide (bank < 4)
  | .eraseResume req bank => decide (req < 2048) && decide (bank < 4)
  | .passwordUnlock req bank _ _ _ _ => decide (req < 2048) && decide (bank < 4)
  | .protectionProgram req addr _ => decide (req < 2048) && decide (addr < 2 ^ 25)
  | .protectionFreeze req bank => decide (req < 2048) && decide (bank < 4)
  | .bootSwap req bank => decide (req < 2048) && decide (bank < 4)
  | .exitOrReset req addr => decide (req < 2048) && decide (addr < 2 ^ 25)
  | .codeArrayBankRead req addr => decide (req < 2048) && decide (addr.1 < 2 ^ 25)
  | .codeArrayOperationDone bank _ => decide (bank < 4)
  | .refreshTick ch sub rank _ _ => decide (ch < 6) && decide (sub < 2) && decide (rank < 2)
  | .refreshMakeup ch sub rank => decide (ch < 6) && decide (sub < 2) && decide (rank < 2)
  | .refreshRatePoll ch sub rank _ => decide (ch < 6) && decide (sub < 2) && decide (rank < 2)
  | .delaySetSwitch ch sub => decide (ch < 6) && decide (sub < 2)
  | .checkAreaReadback ch _ => decide (ch < 6)
  | .dramLineAccess ch _ _ _ _ => decide (ch < 6)
  | .selfRefreshEntry ch => decide (ch < 6)
  | .selfRefreshExit ch _ => decide (ch < 6)
  | .dramCorrectableError _ _ _ _ => true
  | .dramUncorrectableError ch _ req _ _ => decide (ch < 6) && decide (req < 16)
  | .sramUncorrectableError cls _ _ _ _ => decide (cls < 12)
  | .tmrWdtKick src _ => src.wf
  | .interruptEntry c source => decide (c < 16) && decide (source < 64)
  | .sleepWake c source => decide (c < 16) && decide (source < 64)
  | .lda k _ => k.exists_
  | .ldx k _ => k.exists_
  | .ldy k _ => k.exists_
  | .lde k _ => k.exists_
  | .sta k _ => k.exists_
  | .stx k _ => k.exists_
  | .sty k _ => k.exists_
  | .ste k _ => k.exists_
  | .adx k _ => k.exists_
  | .ady k _ => k.exists_
  | .add k _ => k.exists_
  | .adc k _ => k.exists_
  | .sub k _ => k.exists_
  | .sbc k _ => k.exists_
  | .neg k _ => k.exists_
  | .and_ k _ => k.exists_
  | .or_ k _ => k.exists_
  | .xor k _ => k.exists_
  | .mul k _ => k.exists_
  | .mulu k _ => k.exists_
  | .div k _ => k.exists_
  | .divu k _ => k.exists_
  | .shl k _ => k.exists_
  | .shr k _ => k.exists_
  | .sar k _ => k.exists_
  | .rol k _ => k.exists_
  | .ror k _ => k.exists_
  | .dshl k _ => k.exists_
  | .dshr k _ => k.exists_
  | .dsar k _ => k.exists_
  | .ceq k _ => k.exists_
  | .cne k _ => k.exists_
  | .clt k _ => k.exists_
  | .cle k _ => k.exists_
  | .cltu k _ => k.exists_
  | .cleu k _ => k.exists_
  | .jmp k _ => k.exists_
  | .call k _ => k.exists_
  | .ret k => k.exists_
  | .bzA k _ => k.exists_
  | .bnzA k _ => k.exists_
  | .bzX k _ => k.exists_
  | .bnzX k _ => k.exists_
  | .bzY k _ => k.exists_
  | .bnzY k _ => k.exists_
  | .dbnzx k _ => k.exists_
  | .dbnzy k _ => k.exists_
  | .bit k _ => k.exists_
  | .ldb k _ => k.exists_
  | .lzc k _ => k.exists_
  | .popc k _ => k.exists_
  | .swab k _ => k.exists_
  | .mapw k _ => k.exists_
  | .savw k _ => k.exists_
  | .nop k => k.exists_
  | .halt k => k.exists_
  | .wait k => k.exists_
  | .break_ k => k.exists_
  | .fcall k _ => k.exists_
  | .fjmp k _ => k.exists_
  | .fret k => k.exists_
  | .reti k => k.exists_
  | .sleep k => k.exists_
  | .mfsr k _ => k.exists_
  | .mtsr k _ => k.exists_
  | .cinv k _ => k.exists_
  | .extest _ => true
  | .idcode => true
  | .samplePreload _ => true
  | .clamp => true
  | .highz => true
  | .bypass _ => true
  | .adhDebug _ => true
  | .nvmeMiRequest => true
  | .linkDown _ => true
  | .linkPartnerRetrain _ => true
  | .ecrcError _ => true
  | .receiverError _ _ => true
  | .atsInvalidateRequest _ _ _ _ => true
  | .configurationRequest _ _ => true
  | .illegalOp k _ => k.exists_

/-- The core that a command names, if it names one: that of an instruction of Gleluris-16 (Table 12-1). -/
def coreOf : Instr → Option CoreId
  | .beatBoundary _ _ => none
  | .commandDeadlineExpiry _ => none
  | .beatOverrun _ _ => none
  | .rebuildWaitExpiry _ => none
  | .ksIdleTimeout => none
  | .watchdogPrewarn => none
  | .watchdogReset _ _ => none
  | .medOpTimeout _ _ => none
  | .splinterWindowExpiry => none
  | .wearLevellingPeriod _ => none
  | .checkpointPeriodExpiry => none
  | .checkpointComplete _ => none
  | .scrubPassStart => none
  | .patrolScrubRead _ => none
  | .powerStateEntry => none
  | .powerStateWake => none
  | .codeArrayLockoutExpiry => none
  | .completionTimeout _ => none
  | .shardJobTimeout => none
  | .cipherJobTimeout _ => none
  | .listSequenceEnd _ => none
  | .throttleStep => none
  | .thermalShutdown _ => none
  | .por _ => none
  | .cc0StartWaitEnd => none
  | .powerLoss => none
  | .powerFail _ _ => none
  | .perstNAssert _ => none
  | .perstNRelease _ => none
  | .hotReset _ => none
  | .softChipReset _ _ _ _ => none
  | .controllerEnable _ _ _ _ _ => none
  | .controllerReset _ => none
  | .controllerResetDrained _ => none
  | .shutdownNotification _ => none
  | .shutdownComplete _ => none
  | .linkRetrain _ _ => none
  | .linkTrained _ _ _ _ => none
  | .sqTailDoorbell _ _ => none
  | .cqHeadDoorbell _ _ => none
  | .commandFetch _ _ => none
  | .adminCommandFetch _ _ => none
  | .writeClassAdmit _ => none
  | .journalHoldRelease => none
  | .writeCommandAck _ => none
  | .interruptMessage _ => none
  | .msixUnmask _ _ => none
  | .dmaFault _ _ => none
  | .registerWrite _ _ _ _ => none
  | .rcRegisterRead _ _ => none
  | .qmgQcmdRead _ => none
  | .qmgImtLoad _ => none
  | .qmgImtStore _ => none
  | .createIoCq _ => none
  | .createIoSq _ => none
  | .deleteIoSq _ => none
  | .deleteIoSqDrained _ => none
  | .deleteIoCq _ => none
  | .identify _ _ => none
  | .getLogPage _ _ => none
  | .setFeatures _ => none
  | .setFeaturesNumberOfQueues _ => none
  | .setFeaturesPowerManagement _ => none
  | .setFeaturesHmb _ _ => none
  | .getFeatures _ _ => none
  | .asyncEventRequest _ => none
  | .namespaceManagement _ _ => none
  | .formatNvm _ => none
  | .sanitize _ => none
  | .firmwareImageDownload _ _ => none
  | .firmwareCommit _ _ => none
  | .instanceCreate _ _ => none
  | .instanceDelete _ => none
  | .instanceDeleteComplete _ => none
  | .instanceSetShare _ => none
  | .instanceReset _ => none
  | .instanceResetComplete _ => none
  | .instanceAttachNamespace _ => none
  | .instanceQuery _ => none
  | .dirtyLogStart _ => none
  | .dirtyLogStop _ => none
  | .dirtyLogHarvest _ => none
  | .peerTableSet _ _ => none
  | .setLatencyTolerance _ => none
  | .nvmRead _ _ _ => none
  | .nvmWrite _ _ _ => none
  | .nvmCompare _ _ _ => none
  | .nvmVerify _ => none
  | .writeZeroes _ => none
  | .datasetManagement _ _ => none
  | .flush_ _ => none
  | .kvStore _ _ => none
  | .kvRetrieve _ _ => none
  | .kvDelete _ => none
  | .kvExist _ => none
  | .kvList _ _ => none
  | .kvCommitPoint _ => none
  | .pipeWrite _ _ _ _ => none
  | .pipeRead _ _ _ _ => none
  | .pipeScan _ _ _ _ => none
  | .shardEncode _ _ _ => none
  | .shardRebuild _ _ _ => none
  | .kvBatchCommit _ _ _ => none
  | .loadProgram _ _ => none
  | .programActivationManagement _ => none
  | .memoryRead _ _ => none
  | .memoryWrite _ _ => none
  | .claspContextGrant _ _ _ => none
  | .spanDecode _ _ => none
  | .imageEncode _ _ _ _ _ _ => none
  | .sinkFrame _ _ => none
  | .moverForward _ => none
  | .claspStreamEnd _ => none
  | .pressJobSubmit _ _ _ => none
  | .pressJobStart _ _ _ _ => none
  | .pressJobSlice _ _ _ _ => none
  | .shardJobStart _ => none
  | .nandReadComplete _ _ _ => none
  | .nandProgramComplete _ _ _ _ => none
  | .nandEraseComplete _ _ _ => none
  | .nandSuspendComplete _ _ => none
  | .lunResetComplete _ _ _ => none
  | .nandRbFall _ _ => none
  | .medRecal _ => none
  | .calibrationComplete _ _ _ => none
  | .softDecodeComplete _ => none
  | .stripeReconstruction _ _ => none
  | .foldImage _ => none
  | .gcPass _ => none
  | .refreshRow _ _ _ _ => none
  | .coalesceSpan _ _ _ _ _ => none
  | .lunRelocation _ _ _ _ => none
  | .eraseGateRequest _ _ _ => none
  | .eraseGateIssue _ _ _ => none
  | .chestRecordCommit => none
  | .chestWriteFail _ => none
  | .chsCkptStart _ => none
  | .drawerWriteOut _ _ => none
  | .drawerSegmentRead _ _ => none
  | .mapSegmentRebuild _ => none
  | .rebuildScanComplete => none
  | .rebuildPartitionComplete _ _ => none
  | .indexPartitionRebuild _ => none
  | .ksLockRead _ => none
  | .ksRelease _ _ => none
  | .ksActWrite _ _ => none
  | .keySlotWrite _ _ _ => none
  | .keySlotZeroize _ _ => none
  | .keySlotShare _ _ => none
  | .keySlotUnshare _ _ => none
  | .digestStart _ _ => none
  | .digestDataWrite _ _ => none
  | .digestLastCommit _ _ => none
  | .digestBlockDone => none
  | .cipherDescCommit _ _ _ => none
  | .cipherJobStart _ _ => none
  | .cipherJobEnd _ _ _ _ => none
  | .wordProgram _ _ _ => none
  | .bufferLoad _ _ _ _ => none
  | .bufferConfirm _ _ => none
  | .sectorErase _ _ => none
  | .bankErase _ _ => none
  | .statusRead _ _ => none
  | .eraseSuspend _ _ => none
  | .eraseSuspendEffect _ => none
  | .eraseResume _ _ => none
  | .passwordUnlock _ _ _ _ _ _ => none
  | .protectionProgram _ _ _ => none
  | .protectionFreeze _ _ => none
  | .bootSwap _ _ => none
  | .exitOrReset _ _ => none
  | .codeArrayBankRead _ _ => none
  | .codeArrayOperationDone _ _ => none
  | .refreshTick _ _ _ _ _ => none
  | .refreshMakeup _ _ _ => none
  | .refreshRatePoll _ _ _ _ => none
  | .delaySetSwitch _ _ => none
  | .checkAreaReadback _ _ => none
  | .dramLineAccess _ _ _ _ _ => none
  | .selfRefreshEntry _ => none
  | .selfRefreshExit _ _ => none
  | .dramCorrectableError _ _ _ _ => none
  | .dramUncorrectableError _ _ _ _ _ => none
  | .sramUncorrectableError _ _ _ _ _ => none
  | .tmrWdtKick _ _ => none
  | .interruptEntry _ _ => none
  | .sleepWake _ _ => none
  | .lda k _ => some k
  | .ldx k _ => some k
  | .ldy k _ => some k
  | .lde k _ => some k
  | .sta k _ => some k
  | .stx k _ => some k
  | .sty k _ => some k
  | .ste k _ => some k
  | .adx k _ => some k
  | .ady k _ => some k
  | .add k _ => some k
  | .adc k _ => some k
  | .sub k _ => some k
  | .sbc k _ => some k
  | .neg k _ => some k
  | .and_ k _ => some k
  | .or_ k _ => some k
  | .xor k _ => some k
  | .mul k _ => some k
  | .mulu k _ => some k
  | .div k _ => some k
  | .divu k _ => some k
  | .shl k _ => some k
  | .shr k _ => some k
  | .sar k _ => some k
  | .rol k _ => some k
  | .ror k _ => some k
  | .dshl k _ => some k
  | .dshr k _ => some k
  | .dsar k _ => some k
  | .ceq k _ => some k
  | .cne k _ => some k
  | .clt k _ => some k
  | .cle k _ => some k
  | .cltu k _ => some k
  | .cleu k _ => some k
  | .jmp k _ => some k
  | .call k _ => some k
  | .ret k => some k
  | .bzA k _ => some k
  | .bnzA k _ => some k
  | .bzX k _ => some k
  | .bnzX k _ => some k
  | .bzY k _ => some k
  | .bnzY k _ => some k
  | .dbnzx k _ => some k
  | .dbnzy k _ => some k
  | .bit k _ => some k
  | .ldb k _ => some k
  | .lzc k _ => some k
  | .popc k _ => some k
  | .swab k _ => some k
  | .mapw k _ => some k
  | .savw k _ => some k
  | .nop k => some k
  | .halt k => some k
  | .wait k => some k
  | .break_ k => some k
  | .fcall k _ => some k
  | .fjmp k _ => some k
  | .fret k => some k
  | .reti k => some k
  | .sleep k => some k
  | .mfsr k _ => some k
  | .mtsr k _ => some k
  | .cinv k _ => some k
  | .extest _ => none
  | .idcode => none
  | .samplePreload _ => none
  | .clamp => none
  | .highz => none
  | .bypass _ => none
  | .adhDebug _ => none
  | .nvmeMiRequest => none
  | .linkDown _ => none
  | .linkPartnerRetrain _ => none
  | .ecrcError _ => none
  | .receiverError _ _ => none
  | .atsInvalidateRequest _ _ _ _ => none
  | .configurationRequest _ _ => none
  | .illegalOp k _ => some k

end Sys2Proof
end

