-- ==== Sys2Proof/Laws/PerInstr.lean ====
section
/-!
SUPPORT. What holds of every command as syntax, one lemma per constructor: a well-formed command names a core that exists, and an
instruction of Gleluris-16 is well-formed on every such core.
-/

namespace Sys2Proof.Laws.Cores

open Sys2Proof

/-- The core that a well-formed command names exists; where it names one, nothing else is asked of it. -/
def Statement (i : Instr) : Prop := ∀ k, coreOf i = some k → (wellFormed i = true ↔ k.exists_ = true)

theorem beatBoundary (temps : List (Option Int)) (plan : List (Nat × Nat × Nat)) : Statement (.beatBoundary temps plan) := fun _ h => nomatch h
theorem commandDeadlineExpiry (tag : Nat) : Statement (.commandDeadlineExpiry tag) := fun _ h => nomatch h
theorem beatOverrun (strand : Nat) (bead : Nat) : Statement (.beatOverrun strand bead) := fun _ h => nomatch h
theorem rebuildWaitExpiry (tag : Nat) : Statement (.rebuildWaitExpiry tag) := fun _ h => nomatch h
theorem ksIdleTimeout : Statement (.ksIdleTimeout) := fun _ h => nomatch h
theorem watchdogPrewarn : Statement (.watchdogPrewarn) := fun _ h => nomatch h
theorem watchdogReset (f : FlushRun) (b : Boot) : Statement (.watchdogReset f b) := fun _ h => nomatch h
theorem medOpTimeout (ch : Nat) (lun : Nat) : Statement (.medOpTimeout ch lun) := fun _ h => nomatch h
theorem splinterWindowExpiry : Statement (.splinterWindowExpiry) := fun _ h => nomatch h
theorem wearLevellingPeriod (moves : List Move) : Statement (.wearLevellingPeriod moves) := fun _ h => nomatch h
theorem checkpointPeriodExpiry : Statement (.checkpointPeriodExpiry) := fun _ h => nomatch h
theorem checkpointComplete (images : List (Nat × Nat × Place)) : Statement (.checkpointComplete images) := fun _ h => nomatch h
theorem scrubPassStart : Statement (.scrubPassStart) := fun _ h => nomatch h
theorem patrolScrubRead (find : ScrubFind) : Statement (.patrolScrubRead find) := fun _ h => nomatch h
theorem powerStateEntry : Statement (.powerStateEntry) := fun _ h => nomatch h
theorem powerStateWake : Statement (.powerStateWake) := fun _ h => nomatch h
theorem codeArrayLockoutExpiry : Statement (.codeArrayLockoutExpiry) := fun _ h => nomatch h
theorem completionTimeout (kind : DmaKind) : Statement (.completionTimeout kind) := fun _ h => nomatch h
theorem shardJobTimeout : Statement (.shardJobTimeout) := fun _ h => nomatch h
theorem cipherJobTimeout (data : List Byte) : Statement (.cipherJobTimeout data) := fun _ h => nomatch h
theorem listSequenceEnd (kvns : Nat) : Statement (.listSequenceEnd kvns) := fun _ h => nomatch h
theorem throttleStep : Statement (.throttleStep) := fun _ h => nomatch h
theorem thermalShutdown (f : FlushRun) : Statement (.thermalShutdown f) := fun _ h => nomatch h
theorem por (b : Boot) : Statement (.por b) := fun _ h => nomatch h
theorem cc0StartWaitEnd : Statement (.cc0StartWaitEnd) := fun _ h => nomatch h
theorem powerLoss : Statement (.powerLoss) := fun _ h => nomatch h
theorem powerFail (f : FlushRun) (cut : Option (List Nat)) : Statement (.powerFail f cut) := fun _ h => nomatch h
theorem perstNAssert (f : FlushRun) : Statement (.perstNAssert f) := fun _ h => nomatch h
theorem perstNRelease (b : Boot) : Statement (.perstNRelease b) := fun _ h => nomatch h
theorem hotReset (port : Bool) : Statement (.hotReset port) := fun _ h => nomatch h
theorem softChipReset (src : Src) (v : DWord) (f : FlushRun) (b : Boot) : Statement (.softChipReset src v f b) := fun _ h => nomatch h
theorem controllerEnable (port : Bool) (cc : DWord) (aqa : DWord) (asq : BitVec 64) (acq : BitVec 64) : Statement (.controllerEnable port cc aqa asq acq) := fun _ h => nomatch h
theorem controllerReset (port : Bool) : Statement (.controllerReset port) := fun _ h => nomatch h
theorem controllerResetDrained (port : Bool) : Statement (.controllerResetDrained port) := fun _ h => nomatch h
theorem shutdownNotification (port : Bool) : Statement (.shutdownNotification port) := fun _ h => nomatch h
theorem shutdownComplete (port : Bool) : Statement (.shutdownComplete port) := fun _ h => nomatch h
theorem linkRetrain (src : Src) (port : Bool) : Statement (.linkRetrain src port) := fun _ h => nomatch h
theorem linkTrained (port : Bool) (flit : Bool) (speed : Nat) (width : Nat) : Statement (.linkTrained port flit speed width) := fun _ h => nomatch h
theorem sqTailDoorbell (db : Doorbell) (v : DWord) : Statement (.sqTailDoorbell db v) := fun _ h => nomatch h
theorem cqHeadDoorbell (db : Doorbell) (v : DWord) : Statement (.cqHeadDoorbell db v) := fun _ h => nomatch h
theorem commandFetch (row : Nat) (sqes : List (List DWord)) : Statement (.commandFetch row sqes) := fun _ h => nomatch h
theorem adminCommandFetch (port : Bool) (sqes : List (List DWord)) : Statement (.adminCommandFetch port sqes) := fun _ h => nomatch h
theorem writeClassAdmit (tag : Nat) : Statement (.writeClassAdmit tag) := fun _ h => nomatch h
theorem journalHoldRelease : Statement (.journalHoldRelease) := fun _ h => nomatch h
theorem writeCommandAck (tag : Nat) : Statement (.writeCommandAck tag) := fun _ h => nomatch h
theorem interruptMessage (row : Nat) : Statement (.interruptMessage row) := fun _ h => nomatch h
theorem msixUnmask (port : Bool) (vector : Nat) : Statement (.msixUnmask port vector) := fun _ h => nomatch h
theorem dmaFault (kind : DmaKind) (cause : DmaCause) : Statement (.dmaFault kind cause) := fun _ h => nomatch h
theorem registerWrite (src : Src) (off : Nat) (full : Bool) (vals : List DWord) : Statement (.registerWrite src off full vals) := fun _ h => nomatch h
theorem rcRegisterRead (src : Src) (off : Nat × Nat) : Statement (.rcRegisterRead src off) := fun _ h => nomatch h
theorem qmgQcmdRead (src : Src) : Statement (.qmgQcmdRead src) := fun _ h => nomatch h
theorem qmgImtLoad (src : Src) : Statement (.qmgImtLoad src) := fun _ h => nomatch h
theorem qmgImtStore (src : Src) : Statement (.qmgImtStore src) := fun _ h => nomatch h
theorem createIoCq (tag : Nat) : Statement (.createIoCq tag) := fun _ h => nomatch h
theorem createIoSq (tag : Nat) : Statement (.createIoSq tag) := fun _ h => nomatch h
theorem deleteIoSq (tag : Nat) : Statement (.deleteIoSq tag) := fun _ h => nomatch h
theorem deleteIoSqDrained (row : Nat) : Statement (.deleteIoSqDrained row) := fun _ h => nomatch h
theorem deleteIoCq (tag : Nat) : Statement (.deleteIoCq tag) := fun _ h => nomatch h
theorem identify (tag : Nat) (segs : List (Nat × Nat)) : Statement (.identify tag segs) := fun _ h => nomatch h
theorem getLogPage (tag : Nat) (segs : List (Nat × Nat)) : Statement (.getLogPage tag segs) := fun _ h => nomatch h
theorem setFeatures (tag : Nat) : Statement (.setFeatures tag) := fun _ h => nomatch h
theorem setFeaturesNumberOfQueues (tag : Nat) : Statement (.setFeaturesNumberOfQueues tag) := fun _ h => nomatch h
theorem setFeaturesPowerManagement (tag : Nat) : Statement (.setFeaturesPowerManagement tag) := fun _ h => nomatch h
theorem setFeaturesHmb (tag : Nat) (desc : List (Nat × Nat)) : Statement (.setFeaturesHmb tag desc) := fun _ h => nomatch h
theorem getFeatures (tag : Nat) (segs : List (Nat × Nat)) : Statement (.getFeatures tag segs) := fun _ h => nomatch h
theorem asyncEventRequest (tag : Nat) : Statement (.asyncEventRequest tag) := fun _ h => nomatch h
theorem namespaceManagement (tag : Nat) (data : List Byte) : Statement (.namespaceManagement tag data) := fun _ h => nomatch h
theorem formatNvm (tag : Nat) : Statement (.formatNvm tag) := fun _ h => nomatch h
theorem sanitize (tag : Nat) : Statement (.sanitize tag) := fun _ h => nomatch h
theorem firmwareImageDownload (tag : Nat) (data : List Byte) : Statement (.firmwareImageDownload tag data) := fun _ h => nomatch h
theorem firmwareCommit (tag : Nat) (written : Bool) : Statement (.firmwareCommit tag written) := fun _ h => nomatch h
theorem instanceCreate (tag : Nat) (rec : List Byte) : Statement (.instanceCreate tag rec) := fun _ h => nomatch h
theorem instanceDelete (tag : Nat) : Statement (.instanceDelete tag) := fun _ h => nomatch h
theorem instanceDeleteComplete (inst : Nat) : Statement (.instanceDeleteComplete inst) := fun _ h => nomatch h
theorem instanceSetShare (tag : Nat) : Statement (.instanceSetShare tag) := fun _ h => nomatch h
theorem instanceReset (tag : Nat) : Statement (.instanceReset tag) := fun _ h => nomatch h
theorem instanceResetComplete (inst : Nat) : Statement (.instanceResetComplete inst) := fun _ h => nomatch h
theorem instanceAttachNamespace (tag : Nat) : Statement (.instanceAttachNamespace tag) := fun _ h => nomatch h
theorem instanceQuery (tag : Nat) : Statement (.instanceQuery tag) := fun _ h => nomatch h
theorem dirtyLogStart (tag : Nat) : Statement (.dirtyLogStart tag) := fun _ h => nomatch h
theorem dirtyLogStop (tag : Nat) : Statement (.dirtyLogStop tag) := fun _ h => nomatch h
theorem dirtyLogHarvest (tag : Nat) : Statement (.dirtyLogHarvest tag) := fun _ h => nomatch h
theorem peerTableSet (tag : Nat) (data : List Byte) : Statement (.peerTableSet tag data) := fun _ h => nomatch h
theorem setLatencyTolerance (tag : Nat) : Statement (.setLatencyTolerance tag) := fun _ h => nomatch h
theorem nvmRead (tag : Nat) (segs : List (Nat × Nat)) (mseg : List (Nat × Nat)) : Statement (.nvmRead tag segs mseg) := fun _ h => nomatch h
theorem nvmWrite (tag : Nat) (data : List Byte) (mdata : List Byte) : Statement (.nvmWrite tag data mdata) := fun _ h => nomatch h
theorem nvmCompare (tag : Nat) (data : List Byte) (mdata : List Byte) : Statement (.nvmCompare tag data mdata) := fun _ h => nomatch h
theorem nvmVerify (tag : Nat) : Statement (.nvmVerify tag) := fun _ h => nomatch h
theorem writeZeroes (tag : Nat) : Statement (.writeZeroes tag) := fun _ h => nomatch h
theorem datasetManagement (tag : Nat) (ranges : List (Nat × Nat)) : Statement (.datasetManagement tag ranges) := fun _ h => nomatch h
theorem flush_ (tag : Nat) : Statement (.flush_ tag) := fun _ h => nomatch h
theorem kvStore (tag : Nat) (data : List Byte) : Statement (.kvStore tag data) := fun _ h => nomatch h
theorem kvRetrieve (tag : Nat) (segs : List (Nat × Nat)) : Statement (.kvRetrieve tag segs) := fun _ h => nomatch h
theorem kvDelete (tag : Nat) : Statement (.kvDelete tag) := fun _ h => nomatch h
theorem kvExist (tag : Nat) : Statement (.kvExist tag) := fun _ h => nomatch h
theorem kvList (tag : Nat) (segs : List (Nat × Nat)) : Statement (.kvList tag segs) := fun _ h => nomatch h
theorem kvCommitPoint (tag : Nat) : Statement (.kvCommitPoint tag) := fun _ h => nomatch h
theorem pipeWrite (tag : Nat) (idesc : List Byte) (shdesc : List Byte) (data : List Byte) : Statement (.pipeWrite tag idesc shdesc data) := fun _ h => nomatch h
theorem pipeRead (tag : Nat) (desc : List Byte) (table : List Byte) (segs : List (Nat × Nat)) : Statement (.pipeRead tag desc table segs) := fun _ h => nomatch h
theorem pipeScan (tag : Nat) (desc : List Byte) (table : List Byte) (segs : List (Nat × Nat)) : Statement (.pipeScan tag desc table segs) := fun _ h => nomatch h
theorem shardEncode (tag : Nat) (desc : List Byte) (data : List Byte) : Statement (.shardEncode tag desc data) := fun _ h => nomatch h
theorem shardRebuild (tag : Nat) (desc : List Byte) (srcs : List (List Byte)) : Statement (.shardRebuild tag desc srcs) := fun _ h => nomatch h
theorem kvBatchCommit (tag : Nat) (list : List Byte) (data : List Byte) : Statement (.kvBatchCommit tag list data) := fun _ h => nomatch h
theorem loadProgram (tag : Nat) (data : List Byte) : Statement (.loadProgram tag data) := fun _ h => nomatch h
theorem programActivationManagement (tag : Nat) : Statement (.programActivationManagement tag) := fun _ h => nomatch h
theorem memoryRead (tag : Nat) (segs : List (Nat × Nat)) : Statement (.memoryRead tag segs) := fun _ h => nomatch h
theorem memoryWrite (tag : Nat) (data : List Byte) : Statement (.memoryWrite tag data) := fun _ h => nomatch h
theorem claspContextGrant (desc : List Byte) (table : List Byte) (segs : List (Nat × Nat)) : Statement (.claspContextGrant desc table segs) := fun _ h => nomatch h
theorem spanDecode (tag : Nat) (span : Nat) : Statement (.spanDecode tag span) := fun _ h => nomatch h
theorem imageEncode (slot : Nat) (grain : Option Nat) (body : List Byte) (parts : List (Nat × List Byte)) (spot : Spot) (stripes : List Nat) : Statement (.imageEncode slot grain body parts spot stripes) := fun _ h => nomatch h
theorem sinkFrame (strand : Nat) (body : List Byte) : Statement (.sinkFrame strand body) := fun _ h => nomatch h
theorem moverForward (strand : Nat) : Statement (.moverForward strand) := fun _ h => nomatch h
theorem claspStreamEnd (tag : Nat) : Statement (.claspStreamEnd tag) := fun _ h => nomatch h
theorem pressJobSubmit (src : Src) (strand : Nat) (hi : DWord) : Statement (.pressJobSubmit src strand hi) := fun _ h => nomatch h
theorem pressJobStart (strand : Nat) (desc : List Byte) (src : List Byte) (dst : List Byte) : Statement (.pressJobStart strand desc src dst) := fun _ h => nomatch h
theorem pressJobSlice (strand : Nat) (data : List Byte) (body : List Byte) (recordFault : Bool) : Statement (.pressJobSlice strand data body recordFault) := fun _ h => nomatch h
theorem shardJobStart (stall : Option Nat) : Statement (.shardJobStart stall) := fun _ h => nomatch h
theorem nandReadComplete (ch : Nat) (lun : Nat) (cws : List CwOut) : Statement (.nandReadComplete ch lun cws) := fun _ h => nomatch h
theorem nandProgramComplete (ch : Nat) (lun : Nat) (pass : Bool) (done : Nat) : Statement (.nandProgramComplete ch lun pass done) := fun _ h => nomatch h
theorem nandEraseComplete (ch : Nat) (lun : Nat) (pass : Bool) : Statement (.nandEraseComplete ch lun pass) := fun _ h => nomatch h
theorem nandSuspendComplete (ch : Nat) (lun : Nat) : Statement (.nandSuspendComplete ch lun) := fun _ h => nomatch h
theorem lunResetComplete (ch : Nat) (lun : Nat) (pass : Bool) : Statement (.lunResetComplete ch lun pass) := fun _ h => nomatch h
theorem nandRbFall (ch : Nat) (line : Nat) : Statement (.nandRbFall ch line) := fun _ h => nomatch h
theorem medRecal (ch : Nat) : Statement (.medRecal ch) := fun _ h => nomatch h
theorem calibrationComplete (ch : Nat) (margin : Nat) (pass : Bool) : Statement (.calibrationComplete ch margin pass) := fun _ h => nomatch h
theorem softDecodeComplete (pass : Bool) : Statement (.softDecodeComplete pass) := fun _ h => nomatch h
theorem stripeReconstruction (ch : Nat) (n : Nat) : Statement (.stripeReconstruction ch n) := fun _ h => nomatch h
theorem foldImage (m : Move) : Statement (.foldImage m) := fun _ h => nomatch h
theorem gcPass (moves : List Move) : Statement (.gcPass moves) := fun _ h => nomatch h
theorem refreshRow (ch : Nat) (lun : Nat) (block : Nat) (moves : List Move) : Statement (.refreshRow ch lun block moves) := fun _ h => nomatch h
theorem coalesceSpan (nsid : Nat) (span : Nat) (body : List Byte) (spot : Spot) (stripes : List Nat) : Statement (.coalesceSpan nsid span body spot stripes) := fun _ h => nomatch h
theorem lunRelocation (ch : Nat) (lun : Nat) (moves : List Move) (stripes : List Nat) : Statement (.lunRelocation ch lun moves stripes) := fun _ h => nomatch h
theorem eraseGateRequest (ch : Nat) (lun : Nat) (block : Nat) : Statement (.eraseGateRequest ch lun block) := fun _ h => nomatch h
theorem eraseGateIssue (ch : Nat) (lun : Nat) (block : Nat) : Statement (.eraseGateIssue ch lun block) := fun _ h => nomatch h
theorem chestRecordCommit : Statement (.chestRecordCommit) := fun _ h => nomatch h
theorem chestWriteFail (addr : Nat) : Statement (.chestWriteFail addr) := fun _ h => nomatch h
theorem chsCkptStart (src : Src) : Statement (.chsCkptStart src) := fun _ h => nomatch h
theorem drawerWriteOut (seg : Nat) (slot : Nat) : Statement (.drawerWriteOut seg slot) := fun _ h => nomatch h
theorem drawerSegmentRead (seg : Nat) (data : List Byte) : Statement (.drawerSegmentRead seg data) := fun _ h => nomatch h
theorem mapSegmentRebuild (seg : Nat) : Statement (.mapSegmentRebuild seg) := fun _ h => nomatch h
theorem rebuildScanComplete : Statement (.rebuildScanComplete) := fun _ h => nomatch h
theorem rebuildPartitionComplete (kind : Nat) (part : Nat) : Statement (.rebuildPartitionComplete kind part) := fun _ h => nomatch h
theorem indexPartitionRebuild (part : Nat) : Statement (.indexPartitionRebuild part) := fun _ h => nomatch h
theorem ksLockRead (src : Src) : Statement (.ksLockRead src) := fun _ h => nomatch h
theorem ksRelease (src : Src) (v : DWord) : Statement (.ksRelease src v) := fun _ h => nomatch h
theorem ksActWrite (src : Src) (v : DWord) : Statement (.ksActWrite src v) := fun _ h => nomatch h
theorem keySlotWrite (src : Src) (slot : Nat) (keylen : Nat) : Statement (.keySlotWrite src slot keylen) := fun _ h => nomatch h
theorem keySlotZeroize (src : Src) (slot : Nat) : Statement (.keySlotZeroize src slot) := fun _ h => nomatch h
theorem keySlotShare (src : Src) (slot : Nat) : Statement (.keySlotShare src slot) := fun _ h => nomatch h
theorem keySlotUnshare (src : Src) (slot : Nat) : Statement (.keySlotUnshare src slot) := fun _ h => nomatch h
theorem digestStart (src : Src) (ctl : DWord) : Statement (.digestStart src ctl) := fun _ h => nomatch h
theorem digestDataWrite (src : Src) (w : DWord) : Statement (.digestDataWrite src w) := fun _ h => nomatch h
theorem digestLastCommit (src : Src) (v : DWord) : Statement (.digestLastCommit src v) := fun _ h => nomatch h
theorem digestBlockDone : Statement (.digestBlockDone) := fun _ h => nomatch h
theorem cipherDescCommit (src : Src) (hi : DWord) (slot : Nat) : Statement (.cipherDescCommit src hi slot) := fun _ h => nomatch h
theorem cipherJobStart (desc : Option (List Byte)) (tag : List Byte) : Statement (.cipherJobStart desc tag) := fun _ h => nomatch h
theorem cipherJobEnd (data : List Byte) (aad : List Byte) (writeFault : Bool) (recordFault : Bool) : Statement (.cipherJobEnd data aad writeFault recordFault) := fun _ h => nomatch h
theorem wordProgram (req : Nat) (addr : Nat) (data : Word) : Statement (.wordProgram req addr data) := fun _ h => nomatch h
theorem bufferLoad (req : Nat) (addr : Nat) (count : Word) (writes : List (Nat × Word)) : Statement (.bufferLoad req addr count writes) := fun _ h => nomatch h
theorem bufferConfirm (req : Nat) (addr : Nat) : Statement (.bufferConfirm req addr) := fun _ h => nomatch h
theorem sectorErase (req : Nat) (addr : Nat) : Statement (.sectorErase req addr) := fun _ h => nomatch h
theorem bankErase (req : Nat) (addr : Nat) : Statement (.bankErase req addr) := fun _ h => nomatch h
theorem statusRead (req : Nat) (bank : Nat) : Statement (.statusRead req bank) := fun _ h => nomatch h
theorem eraseSuspend (req : Nat) (bank : Nat) : Statement (.eraseSuspend req bank) := fun _ h => nomatch h
theorem eraseSuspendEffect (bank : Nat) : Statement (.eraseSuspendEffect bank) := fun _ h => nomatch h
theorem eraseResume (req : Nat) (bank : Nat) : Statement (.eraseResume req bank) := fun _ h => nomatch h
theorem passwordUnlock (req : Nat) (bank : Nat) (w0 : Word) (w1 : Word) (w2 : Word) (w3 : Word) : Statement (.passwordUnlock req bank w0 w1 w2 w3) := fun _ h => nomatch h
theorem protectionProgram (req : Nat) (addr : Nat) (v : Word) : Statement (.protectionProgram req addr v) := fun _ h => nomatch h
theorem protectionFreeze (req : Nat) (bank : Nat) : Statement (.protectionFreeze req bank) := fun _ h => nomatch h
theorem bootSwap (req : Nat) (bank : Nat) : Statement (.bootSwap req bank) := fun _ h => nomatch h
theorem exitOrReset (req : Nat) (addr : Nat) : Statement (.exitOrReset req addr) := fun _ h => nomatch h
theorem codeArrayBankRead (req : Nat) (addr : Nat × Bool) : Statement (.codeArrayBankRead req addr) := fun _ h => nomatch h
theorem codeArrayOperationDone (bank : Nat) (pass : Bool) : Statement (.codeArrayOperationDone bank pass) := fun _ h => nomatch h
theorem refreshTick (ch : Nat) (sub : Nat) (rank : Nat) (queued : Bool) (window : Bool) : Statement (.refreshTick ch sub rank queued window) := fun _ h => nomatch h
theorem refreshMakeup (ch : Nat) (sub : Nat) (rank : Nat) : Statement (.refreshMakeup ch sub rank) := fun _ h => nomatch h
theorem refreshRatePoll (ch : Nat) (sub : Nat) (rank : Nat) (doubled : Bool) : Statement (.refreshRatePoll ch sub rank doubled) := fun _ h => nomatch h
theorem delaySetSwitch (ch : Nat) (sub : Nat) : Statement (.delaySetSwitch ch sub) := fun _ h => nomatch h
theorem checkAreaReadback (ch : Nat) (pass : Bool) : Statement (.checkAreaReadback ch pass) := fun _ h => nomatch h
theorem dramLineAccess (ch : Nat) (line : Nat) (write : Bool) (whole : Bool) (draw : Nat) : Statement (.dramLineAccess ch line write whole draw) := fun _ h => nomatch h
theorem selfRefreshEntry (ch : Nat) : Statement (.selfRefreshEntry ch) := fun _ h => nomatch h
theorem selfRefreshExit (ch : Nat) (early : Bool) : Statement (.selfRefreshExit ch early) := fun _ h => nomatch h
theorem dramCorrectableError (site : MemSite) (device : Nat) (bits : Nat) (syms : Nat) : Statement (.dramCorrectableError site device bits syms) := fun _ h => nomatch h
theorem dramUncorrectableError (ch : Nat) (line : Nat) (req : Nat) (id : Nat) (region : Region) : Statement (.dramUncorrectableError ch line req id region) := fun _ h => nomatch h
theorem sramUncorrectableError (cls : Nat) (inst : Nat) (word : Nat) (synd : Nat) (req : SramReq) : Statement (.sramUncorrectableError cls inst word synd req) := fun _ h => nomatch h
theorem tmrWdtKick (src : Src) (v : DWord) : Statement (.tmrWdtKick src v) := fun _ h => nomatch h
theorem interruptEntry (c : Nat) (source : Nat) : Statement (.interruptEntry c source) := fun _ h => nomatch h
theorem sleepWake (c : Nat) (source : Nat) : Statement (.sleepWake c source) := fun _ h => nomatch h
theorem lda (k : CoreId) (o : Opnd) : Statement (.lda k o) := fun _ h => by cases h; exact Iff.rfl
theorem ldx (k : CoreId) (o : Opnd) : Statement (.ldx k o) := fun _ h => by cases h; exact Iff.rfl
theorem ldy (k : CoreId) (o : Opnd) : Statement (.ldy k o) := fun _ h => by cases h; exact Iff.rfl
theorem lde (k : CoreId) (o : LongOpnd) : Statement (.lde k o) := fun _ h => by cases h; exact Iff.rfl
theorem sta (k : CoreId) (o : Opnd) : Statement (.sta k o) := fun _ h => by cases h; exact Iff.rfl
theorem stx (k : CoreId) (o : Opnd) : Statement (.stx k o) := fun _ h => by cases h; exact Iff.rfl
theorem sty (k : CoreId) (o : Opnd) : Statement (.sty k o) := fun _ h => by cases h; exact Iff.rfl
theorem ste (k : CoreId) (o : LongOpnd) : Statement (.ste k o) := fun _ h => by cases h; exact Iff.rfl
theorem adx (k : CoreId) (o : Opnd) : Statement (.adx k o) := fun _ h => by cases h; exact Iff.rfl
theorem ady (k : CoreId) (o : LongOpnd) : Statement (.ady k o) := fun _ h => by cases h; exact Iff.rfl
theorem add (k : CoreId) (o : Opnd) : Statement (.add k o) := fun _ h => by cases h; exact Iff.rfl
theorem adc (k : CoreId) (o : LongOpnd) : Statement (.adc k o) := fun _ h => by cases h; exact Iff.rfl
theorem sub (k : CoreId) (o : Opnd) : Statement (.sub k o) := fun _ h => by cases h; exact Iff.rfl
theorem sbc (k : CoreId) (o : LongOpnd) : Statement (.sbc k o) := fun _ h => by cases h; exact Iff.rfl
theorem neg (k : CoreId) (o : LongOpnd) : Statement (.neg k o) := fun _ h => by cases h; exact Iff.rfl
theorem and_ (k : CoreId) (o : Opnd) : Statement (.and_ k o) := fun _ h => by cases h; exact Iff.rfl
theorem or_ (k : CoreId) (o : Opnd) : Statement (.or_ k o) := fun _ h => by cases h; exact Iff.rfl
theorem xor (k : CoreId) (o : Opnd) : Statement (.xor k o) := fun _ h => by cases h; exact Iff.rfl
theorem mul (k : CoreId) (o : LongOpnd) : Statement (.mul k o) := fun _ h => by cases h; exact Iff.rfl
theorem mulu (k : CoreId) (o : LongOpnd) : Statement (.mulu k o) := fun _ h => by cases h; exact Iff.rfl
theorem div (k : CoreId) (o : LongOpnd) : Statement (.div k o) := fun _ h => by cases h; exact Iff.rfl
theorem divu (k : CoreId) (o : LongOpnd) : Statement (.divu k o) := fun _ h => by cases h; exact Iff.rfl
theorem shl (k : CoreId) (o : Opnd) : Statement (.shl k o) := fun _ h => by cases h; exact Iff.rfl
theorem shr (k : CoreId) (o : Opnd) : Statement (.shr k o) := fun _ h => by cases h; exact Iff.rfl
theorem sar (k : CoreId) (o : Opnd) : Statement (.sar k o) := fun _ h => by cases h; exact Iff.rfl
theorem rol (k : CoreId) (o : LongOpnd) : Statement (.rol k o) := fun _ h => by cases h; exact Iff.rfl
theorem ror (k : CoreId) (o : LongOpnd) : Statement (.ror k o) := fun _ h => by cases h; exact Iff.rfl
theorem dshl (k : CoreId) (o : LongOpnd) : Statement (.dshl k o) := fun _ h => by cases h; exact Iff.rfl
theorem dshr (k : CoreId) (o : LongOpnd) : Statement (.dshr k o) := fun _ h => by cases h; exact Iff.rfl
theorem dsar (k : CoreId) (o : LongOpnd) : Statement (.dsar k o) := fun _ h => by cases h; exact Iff.rfl
theorem ceq (k : CoreId) (o : Opnd) : Statement (.ceq k o) := fun _ h => by cases h; exact Iff.rfl
theorem cne (k : CoreId) (o : Opnd) : Statement (.cne k o) := fun _ h => by cases h; exact Iff.rfl
theorem clt (k : CoreId) (o : Opnd) : Statement (.clt k o) := fun _ h => by cases h; exact Iff.rfl
theorem cle (k : CoreId) (o : Opnd) : Statement (.cle k o) := fun _ h => by cases h; exact Iff.rfl
theorem cltu (k : CoreId) (o : Opnd) : Statement (.cltu k o) := fun _ h => by cases h; exact Iff.rfl
theorem cleu (k : CoreId) (o : Opnd) : Statement (.cleu k o) := fun _ h => by cases h; exact Iff.rfl
theorem jmp (k : CoreId) (o : Opnd) : Statement (.jmp k o) := fun _ h => by cases h; exact Iff.rfl
theorem call (k : CoreId) (o : Opnd) : Statement (.call k o) := fun _ h => by cases h; exact Iff.rfl
theorem ret (k : CoreId) : Statement (.ret k) := fun _ h => by cases h; exact Iff.rfl
theorem bzA (k : CoreId) (o : Opnd) : Statement (.bzA k o) := fun _ h => by cases h; exact Iff.rfl
theorem bnzA (k : CoreId) (o : Opnd) : Statement (.bnzA k o) := fun _ h => by cases h; exact Iff.rfl
theorem bzX (k : CoreId) (o : Opnd) : Statement (.bzX k o) := fun _ h => by cases h; exact Iff.rfl
theorem bnzX (k : CoreId) (o : Opnd) : Statement (.bnzX k o) := fun _ h => by cases h; exact Iff.rfl
theorem bzY (k : CoreId) (o : Opnd) : Statement (.bzY k o) := fun _ h => by cases h; exact Iff.rfl
theorem bnzY (k : CoreId) (o : Opnd) : Statement (.bnzY k o) := fun _ h => by cases h; exact Iff.rfl
theorem dbnzx (k : CoreId) (o : Opnd) : Statement (.dbnzx k o) := fun _ h => by cases h; exact Iff.rfl
theorem dbnzy (k : CoreId) (o : Opnd) : Statement (.dbnzy k o) := fun _ h => by cases h; exact Iff.rfl
theorem bit (k : CoreId) (o : LongOpnd) : Statement (.bit k o) := fun _ h => by cases h; exact Iff.rfl
theorem ldb (k : CoreId) (o : LongOpnd) : Statement (.ldb k o) := fun _ h => by cases h; exact Iff.rfl
theorem lzc (k : CoreId) (o : LongOpnd) : Statement (.lzc k o) := fun _ h => by cases h; exact Iff.rfl
theorem popc (k : CoreId) (o : LongOpnd) : Statement (.popc k o) := fun _ h => by cases h; exact Iff.rfl
theorem swab (k : CoreId) (o : LongOpnd) : Statement (.swab k o) := fun _ h => by cases h; exact Iff.rfl
theorem mapw (k : CoreId) (o : LongOpnd) : Statement (.mapw k o) := fun _ h => by cases h; exact Iff.rfl
theorem savw (k : CoreId) (o : LongOpnd) : Statement (.savw k o) := fun _ h => by cases h; exact Iff.rfl
theorem nop (k : CoreId) : Statement (.nop k) := fun _ h => by cases h; exact Iff.rfl
theorem halt (k : CoreId) : Statement (.halt k) := fun _ h => by cases h; exact Iff.rfl
theorem wait (k : CoreId) : Statement (.wait k) := fun _ h => by cases h; exact Iff.rfl
theorem break_ (k : CoreId) : Statement (.break_ k) := fun _ h => by cases h; exact Iff.rfl
theorem fcall (k : CoreId) (o : LongOpnd) : Statement (.fcall k o) := fun _ h => by cases h; exact Iff.rfl
theorem fjmp (k : CoreId) (o : LongOpnd) : Statement (.fjmp k o) := fun _ h => by cases h; exact Iff.rfl
theorem fret (k : CoreId) : Statement (.fret k) := fun _ h => by cases h; exact Iff.rfl
theorem reti (k : CoreId) : Statement (.reti k) := fun _ h => by cases h; exact Iff.rfl
theorem sleep (k : CoreId) : Statement (.sleep k) := fun _ h => by cases h; exact Iff.rfl
theorem mfsr (k : CoreId) (o : LongOpnd) : Statement (.mfsr k o) := fun _ h => by cases h; exact Iff.rfl
theorem mtsr (k : CoreId) (o : LongOpnd) : Statement (.mtsr k o) := fun _ h => by cases h; exact Iff.rfl
theorem cinv (k : CoreId) (o : LongOpnd) : Statement (.cinv k o) := fun _ h => by cases h; exact Iff.rfl
theorem extest (cells : List Bool) : Statement (.extest cells) := fun _ h => nomatch h
theorem idcode : Statement (.idcode) := fun _ h => nomatch h
theorem samplePreload (cells : List Bool) : Statement (.samplePreload cells) := fun _ h => nomatch h
theorem clamp : Statement (.clamp) := fun _ h => nomatch h
theorem highz : Statement (.highz) := fun _ h => nomatch h
theorem bypass (bits : List Bool) : Statement (.bypass bits) := fun _ h => nomatch h
theorem adhDebug (response : Option (List Byte)) : Statement (.adhDebug response) := fun _ h => nomatch h
theorem nvmeMiRequest : Statement (.nvmeMiRequest) := fun _ h => nomatch h
theorem linkDown (port : Bool) : Statement (.linkDown port) := fun _ h => nomatch h
theorem linkPartnerRetrain (port : Bool) : Statement (.linkPartnerRetrain port) := fun _ h => nomatch h
theorem ecrcError (port : Bool) : Statement (.ecrcError port) := fun _ h => nomatch h
theorem receiverError (port : Bool) (replay : Bool) : Statement (.receiverError port replay) := fun _ h => nomatch h
theorem atsInvalidateRequest (port : Bool) (pasid : Nat) (first : Nat) (count : Nat) : Statement (.atsInvalidateRequest port pasid first count) := fun _ h => nomatch h
theorem configurationRequest (port : Bool) (write : CfgReg × Option DWord) : Statement (.configurationRequest port write) := fun _ h => nomatch h
theorem illegalOp (k : CoreId) (w1 : Word) : Statement (.illegalOp k w1) := fun _ h => by cases h; exact Iff.rfl

end Sys2Proof.Laws.Cores
end

