-- ==== Sys2Proof/Tests/Slice0.lean ====
section
/-!
SUPPORT. Tests of the model, each about one command on a small state, and for every statement with premises a state and
operands that meet them.
-/

open Sys2Proof Sys2Proof.Machine

namespace Sys2Proof.Tests

set_option Elab.async false

/-! ### Cores -/

/-- A job of a Bead: program of 100 words, budget 4 from boundary 0. -/
def job : Job :=
  { tag := 1, inst := 0, prog := { base := 0, codeWords := 100, winMask := 0x7F80, dramWin := true, pind := 0, ldWords := 0, entry := 0, bitmap := false, image := [] }, leafSlot := 0, outSlot := 0, span := 0
    k := 0, seq := 0, budget := 4, ref := 0, skipOverrun := false }

def bead : CoreId := .bead 0 0

/-- Bead 0 of Strand 0 runs. -/
def onBead (c : Core) : State := State.reset.setCo bead { c with run := .running, job := some job }

/-- Control core 3 runs in its private memory, privileged or not. -/
def onCc (c : Core) : State := State.reset.setCo (.cc 3) { c with run := .running, cs := 0x0004 }

def isOk {ε α : Type} : Except ε α → Bool
  | .ok _ => true
  | .error _ => false

theorem ok_of {ε α : Type} {x : Except ε α} (h : isOk x = true) : ∃ a, x = .ok a := by
  cases x with
  | ok a => exact ⟨a, rfl⟩
  | error _ => exact absurd h (by simp [isOk])

def readsB (k : CoreId) (o : Opnd) (s : State) (p : Word → Bool) : Bool :=
  (s.executes k && !s.fetchStalls k (opndLong o)) && (match s.fetchInstr k (opndLong o) (legalOpnd .value o) with
    | .ok t => (match operand k ((s.co k).pcn (opndLong o)) o (t.cycles k 1) with
      | .ok (v, _) => p v
      | .error _ => false)
    | .error _ => false)

theorem reads_of {k : CoreId} {o : Opnd} {s : State} {p : Word → Bool} (h : readsB k o s p = true) :
    ∃ u v, Reads k o s u v ∧ p v = true := by
  simp only [readsB, Bool.and_eq_true, Bool.not_eq_true'] at h
  obtain ⟨h1, h2⟩ := h
  split at h2
  · rename_i t ht
    split at h2
    · rename_i v u hv
      exact ⟨u, v, ⟨t, ⟨h1, ht⟩, hv⟩, h2⟩
    · cases h2
  · cases h2

def addressesB (m : ModeSet) (k : CoreId) (o : Opnd) (s : State) (p : Word → State → Bool) : Bool :=
  (s.executes k && !s.fetchStalls k (opndLong o)) && (match s.fetchInstr k (opndLong o) (legalOpnd m o) with
    | .ok t => (match effAddr k o (t.cycles k 1) with
      | .ok (a, u) => p a u
      | .error _ => false)
    | .error _ => false)

theorem addresses_of {m : ModeSet} {k : CoreId} {o : Opnd} {s : State} {p : Word → State → Bool}
    (h : addressesB m k o s p = true) : ∃ u a, Addresses m k o s u a ∧ p a u = true := by
  simp only [addressesB, Bool.and_eq_true, Bool.not_eq_true'] at h
  obtain ⟨h1, h2⟩ := h
  split at h2
  · rename_i t ht
    split at h2
    · rename_i a u ha
      exact ⟨u, a, ⟨t, ⟨h1, ht⟩, ha⟩, h2⟩
    · cases h2
  · cases h2

def targetsB (m : ModeSet) (k : CoreId) (o : Opnd) (s : State) (p : Word → State → Bool) : Bool :=
  (s.executes k && !s.fetchStalls k (opndLong o)) && (match s.fetchInstr k (opndLong o) (legalOpnd m o) with
    | .ok t => (match target k ((s.co k).pcn (opndLong o)) o (t.cycles k 1) with
      | .ok (a, u) => p a u
      | .error _ => false)
    | .error _ => false)

theorem targets_of {m : ModeSet} {k : CoreId} {o : Opnd} {s : State} {p : Word → State → Bool}
    (h : targetsB m k o s p = true) : ∃ u a, Targets m k o s u a ∧ p a u = true := by
  simp only [targetsB, Bool.and_eq_true, Bool.not_eq_true'] at h
  obtain ⟨h1, h2⟩ := h
  split at h2
  · rename_i t ht
    split at h2
    · rename_i a u ha
      exact ⟨u, a, ⟨t, ⟨h1, ht⟩, ha⟩, h2⟩
    · cases h2
  · cases h2

theorem fetches_of {k : CoreId} {long legal : Bool} {s : State}
    (h : ((s.executes k && !s.fetchStalls k long) && isOk (s.fetchInstr k long legal)) = true) : ∃ t, Fetches k long legal s t := by
  simp only [Bool.and_eq_true, Bool.not_eq_true'] at h
  obtain ⟨t, ht⟩ := ok_of h.2
  exact ⟨t, h.1, ht⟩

def all (_ : Word) : Bool := true

/-- An immediate, a memory word at the program's end, the stream mode, and a register of a control core. -/
theorem wit_GlLoadsRetire : (∃ u v, Reads bead (.short .imm 0x80) (onBead {}) u v ∧ all v = true) ∧
    (∃ u v, Reads bead (.long ⟨.abs, 0, 0x0FFF⟩) (onBead { pc := 98 }) u v ∧ all v = true) ∧
    (∃ u v, Reads bead (.long ⟨.stream, 63, 0⟩) (onBead {}) u v ∧ all v = true) ∧
    ∃ u v, Reads (.cc 3) (.long ⟨.reg, 3, 0⟩) (onCc { st := 0x8000 }) u v ∧ all v = true :=
  ⟨reads_of (by decide), reads_of (by decide), reads_of (by decide), reads_of (by decide)⟩

/-- 7FFFH + 1 on a Bead in both forms, FFFFH and the carry on a control core, NEG's 8000H. -/
theorem wit_GlAddSub : (∃ u v, Reads bead (.short .imm 1) (onBead { a := 0x7FFF }) u v ∧ (v == 1) = true) ∧
    (∃ u v, Reads (.cc 3) (.long ⟨.imm, 0, 0xFFFF⟩) (onCc { a := 0xFFFF, e := 1 }) u v ∧ (v == 0xFFFF) = true) ∧
    ∃ u v, Reads bead (.long ⟨.imm, 0, 0x8000⟩) (onBead {}) u v ∧ (v == 0x8000) = true :=
  ⟨reads_of (by decide), reads_of (by decide), reads_of (by decide)⟩

/-- A divisor 1, the quotient that does not fit, a divisor 0 with DZT clear, and a count of 32. -/
theorem wit_GlMulDivShift : (∃ u v, Reads bead (.long ⟨.imm, 0, 1⟩) (onBead { a := 0x8000 }) u v ∧
      (v != 0 && !((onBead { a := 0x8000 }).co bead).a == 0x8000 && v == 0xFFFF || v == 1) = true) ∧
    (∃ u v, Reads bead (.long ⟨.imm, 0, 0xFFFF⟩) (onBead { a := 0x8000 }) u v ∧
      (v == 0xFFFF && ((onBead { a := 0x8000 }).co bead).a == 0x8000) = true) ∧
    (∃ u v, Reads bead (.long ⟨.imm, 0, 0⟩) (onBead { a := 5 }) u v ∧
      (v == 0 && !bitOf ((onBead { a := 5 }).co bead).st.toNat 2) = true) ∧
    (∃ u v, Reads bead (.short .imm 32) (onBead { a := 5 }) u v ∧ (v == 32) = true) ∧
    ∃ u v, Reads bead (.long ⟨.imm, 0, 32⟩) (onBead { a := 5 }) u v ∧ (v == 32) = true :=
  ⟨reads_of (by decide), reads_of (by decide), reads_of (by decide), reads_of (by decide), reads_of (by decide)⟩

/-- Both forms of a value; LZC's 0; a bit and a byte of the last word of local memory. -/
theorem wit_GlComparesBytes : (∃ u v, Reads bead (.short .imm 0xFF) (onBead { a := 1 }) u v ∧ (v == 0xFFFF) = true) ∧
    (∃ u v, Reads bead (.long ⟨.imm, 0, 0⟩) (onBead {}) u v ∧ (v == 0) = true) ∧
    (∃ u a, Addresses .memory bead (.long ⟨.abs, 0, 0x0FFF⟩) (onBead { a := 15 }) u a ∧
      isOk (dataRead bead (a + (15 : Word) >>> 4) u) = true) ∧
    ∃ u a, Addresses .memory bead (.long ⟨.abs, 0, 0x0FFF⟩) (onBead { a := 1 }) u a ∧
      isOk (dataRead bead (a + (1 : Word) >>> 1) u) = true :=
  ⟨reads_of (by decide), reads_of (by decide), addresses_of (by decide), addresses_of (by decide)⟩

def fullStack : List (Word × Word) := List.replicate 16 (7, 0)

/-- Transfers with fifteen and sixteen entries on the stack, RET with one and with none, a branch back. -/
theorem wit_GlFlow : (∃ u a, Targets .transfer bead (.short .imm 0xFE) (onBead { rs := fullStack.tail }) u a ∧
      decide ((u.co bead).rs.length < 16) = true) ∧
    (∃ u a, Targets .transfer bead (.long ⟨.imm, 0, 9⟩) (onBead { rs := fullStack }) u a ∧
      decide (16 ≤ (u.co bead).rs.length) = true) ∧
    (∃ t, Fetches bead false true (onBead { rs := fullStack }) t) ∧
    (∃ t, Fetches (.cc 3) false true (onCc {}) t) ∧
    ((onBead { rs := fullStack }).co bead).rs = fullStack.tail ++ [(7, 0)] ∧ ((onCc {}).co (.cc 3)).rs = [] ∧
    ∃ u a, Targets .branch bead (.short .imm 0xFF) (onBead { x := 1 }) u a ∧ (a == 0) = true :=
  ⟨targets_of (by decide), targets_of (by decide), fetches_of (by decide), fetches_of (by decide), by decide, by decide,
    targets_of (by decide)⟩

/-- A store to the last word of local memory, and one to register 5 and to ST of an unprivileged control core. -/
theorem wit_GlStores : (∃ u a, Addresses .store bead (.long ⟨.abs, 0, 0x0FFF⟩) (onBead { a := 3 }) u a ∧
      (isMemory (.long ⟨.abs, 0, 0x0FFF⟩) && isOk (dataWrite bead a 3 u)) = true) ∧
    (∃ u a, Addresses .store bead (.short .direct 0xFF) (onBead { a := 3, base := 0xF }) u a ∧
      (isMemory (.short .direct 0xFF) && isOk (dataWrite bead a 3 u)) = true) ∧
    (∃ t, Fetches bead true (legalOpnd .store (.long ⟨.reg, 5, 0⟩)) (onBead { a := 3 }) t) ∧
    isOk (writeRegister bead { (onBead {}).co bead with pc := 2 } 5 3) = true ∧
    (∃ t, Fetches (.cc 3) true (legalOpnd .store (.long ⟨.reg, 4, 0⟩)) (onCc { a := 3 }) t) ∧
    isOk (writeRegister (.cc 3) { (onCc {}).co (.cc 3) with pc := 2 } 4 3) = true :=
  ⟨addresses_of (by decide), addresses_of (by decide), fetches_of (by decide), by decide, fetches_of (by decide), by decide⟩

def mapsB (k : CoreId) (n : Nat) (s : State) (a : Word) (u : State) : Bool :=
  mapPrivileged k (s.co k) n && (match readFour k a u with
    | .ok (w, v) => mapOk v k (s.co k) n w
    | .error _ => false)

/-- A Bead clears a window of its job; a control core maps window 15 to DRAM with the largest limit; SAVW at the end of
local memory. -/
theorem wit_GlMemory : Sparse.sorted ((onBead {}).co bead).mem = true ∧ Sparse.sorted (onBead {}).cores = true ∧
    Sparse.sorted (onBead {}).strands = true ∧
    (∃ u a, Addresses .window bead (.long ⟨.abs, 14, 0x0100⟩) (onBead { mem := [(0x103, 1)] }) u a ∧
      mapsB bead 14 (onBead { mem := [(0x103, 1)] }) a u = true) ∧
    (∃ u a, Addresses .window (.cc 3) (.long ⟨.abs, 15, 0x0FFC⟩)
        (onCc { st := 0x8000, mem := [(0xFFD, 0x4800), (0xFFF, 0x1000)] }) u a ∧
      mapsB (.cc 3) 15 (onCc { st := 0x8000, mem := [(0xFFD, 0x4800), (0xFFF, 0x1000)] }) a u = true) ∧
    ∃ u a, Addresses .window bead (.long ⟨.abs, 15, 0x0FFC⟩) (onBead {}) u a ∧
      (let l : List (Word × Word) := [a, a + 1, a + 2, a + 3].zip [0, 0, 0, 0]
       isOk (savable bead u l) && isOk (writeAll bead u l)) = true :=
  ⟨by decide, by decide, by decide, addresses_of (by decide), addresses_of (by decide), addresses_of (by decide)⟩

/-- The last word of a program on a Bead; a control core; an undefined word. -/
theorem wit_GlImplied : (∃ t, Fetches bead false true (onBead { pc := 99 }) t) ∧
    (∃ t, Fetches (.cc 3) false true (onCc {}) t) ∧ isBead bead = true ∧ isBead (.cc 3) = false ∧
    undefinedWord 0xFFFF = true :=
  ⟨fetches_of (by decide), fetches_of (by decide), by decide, by decide, by decide⟩

/-- Privileged code of control core 3 with an entry on its stack, and code that is not privileged. -/
theorem wit_GlSystem : (∀ long, ∃ t, Fetches (.cc 3) long true (onCc { st := 0x8000, rs := [(1, 2)] }) t) ∧
    privileged (.cc 3) ((onCc { st := 0x8000, rs := [(1, 2)] }).co (.cc 3)) = true ∧
    (∃ t, Fetches (.cc 3) true (legalOpnd .far (.long ⟨.abs, 0, 0x0FFE⟩)) (onCc { st := 0x8000 }) t ∧
      isOk (farPointer (.cc 3) ⟨.abs, 0, 0x0FFE⟩ (t.cycles (.cc 3) 1)) = true) ∧
    (∀ k ∈ [bead, .cc 3], privileged k ((onCc {}).co k) = false) ∧
    (∃ t, Fetches (.cc 3) true (legalOpnd .far (.long ⟨.abs, 0, 0⟩)) (onCc {}) t) ∧
    (∃ t, Fetches (.cc 3) true (legalOpnd .cinv (.long ⟨.imm, 0, 0⟩)) (onCc {}) t) ∧
    ∃ t, Fetches bead true (legalOpnd .number (.long ⟨.imm, 0, 20⟩) && sysListed 20) (onBead {}) t := by
  refine ⟨fun long => ?_, by decide, ?_, by decide, fetches_of (by decide), fetches_of (by decide), fetches_of (by decide)⟩
  · cases long <;> exact fetches_of (by decide)
  · obtain ⟨u, a, ⟨t, ht, he⟩, h⟩ := addresses_of (m := .far) (k := .cc 3) (o := .long ⟨.abs, 0, 0x0FFE⟩)
      (s := onCc { st := 0x8000 }) (p := fun a u => isOk (readTwo (.cc 3) a (a + 1) u)) (by decide)
    exact ⟨t, ht, by unfold farPointer; rw [he]; exact h⟩

/-! ### The Code Array -/

def car (c : Car) : State := { State.reset with car := c }

def banks (k : CarBank) : List CarBank := [{}, {}, {}, k]

/-- Bank 3 suspended in the erase of the last sector but one. -/
def suspended : CarBank := { mode := .suspended, susp := some 1022 }

theorem unsequenced_of {s : State} {req b : Nat}
    (h : (decide (b < 4) && decide (s.car.banks.length = 4) && decide (s.carSeq req b = []) &&
      decide (s.otherLoad req b = none)) = true) : Unsequenced s req b := by
  simp only [Bool.and_eq_true, decide_eq_true_eq] at h
  exact ⟨h.1.1.1, h.1.1.2, h.1.2, h.2⟩

/-- Bank 0 in READ and bank 3 suspended, programs up to a whole buffer at the array's end. -/
theorem wit_CarPrograms : Unsequenced (car {}) 0x403 (carBankOf 0) ∧ ((car {}).bank 0).mode = .read ∧
    ((car {}).bank 0).susp = none ∧
    (let s := car { banks := banks suspended }
     Unsequenced s 1 (carBankOf 0x1FFFFE0) ∧ (s.bank 3).mode = .suspended ∧ (s.bank 3).susp ≠ some (carSector 0x1FFFFE0)) ∧
    (let ws : List (Nat × Word) := (List.range 32).map (fun i => (0x1FFFFE0 + i, 0))
     (31#16).toNat ≤ 31 ∧ ws.length = (31#16).toNat + 1 ∧ (ws.map (·.1)).Nodup ∧ ∀ p ∈ ws, p.1 / 32 = 0x1FFFFE0 / 32) ∧
    (let ws : List (Nat × Word) := [(0, 0)]
     ws.length = (0#16).toNat + 1 ∧ (ws.map (·.1)).Nodup ∧ ∀ p ∈ ws, p.1 / 32 = 0 / 32) :=
  ⟨unsequenced_of (by decide), by decide, by decide, ⟨unsequenced_of (by decide), by decide, by decide⟩, by decide, by decide⟩

/-- A sector and a bank erase of bank 3 from its start, through a suspend and a resume, to its end. -/
theorem wit_CarErases : (1023 < 1024 ∧ Unsequenced (car {}) 1 (1023 / 256) ∧ ((car {}).bank 3).mode = .read ∧
      (car {}).car.pwrFail = false) ∧
    (let s := car { banks := banks { mode := .busy, op := some (.sector 1022), suspReq := true } }
     Unsequenced s 1 3 ∧ s.car.pwrFail = false ∧ (s.bank 3).mode = .busy ∧ (s.bank 3).op = some (.sector 1022) ∧
       (s.bank 3).suspReq = true) ∧
    (let s := car { banks := banks suspended }
     Unsequenced s 1 3 ∧ (s.bank 3).mode = .suspended ∧ (s.bank 3).susp = some 1022) ∧
    let s := car { banks := banks { mode := .busy, op := some .bank } }
    Unsequenced s 1 3 ∧ s.car.banks.length = 4 ∧ (s.bank 3).mode = .busy ∧ (s.bank 3).op = some .bank :=
  ⟨⟨by decide, unsequenced_of (by decide), by decide, by decide⟩,
    ⟨unsequenced_of (by decide), by decide, by decide, by decide, by decide⟩,
    ⟨unsequenced_of (by decide), by decide, by decide⟩, unsequenced_of (by decide), by decide, by decide, by decide⟩

/-- Each form of the protection program at the bounds of its address, and the ends of the three operations. -/
theorem wit_CarProtection : (∀ a ∈ [0, 1, 4, 5, 0x8000], Unsequenced (car {}) 1 (carBankOf a) ∧
      ((car {}).bank (carBankOf a)).mode = .read) ∧ 0x8000 % 2 ^ 15 = 0 ∧ 5 % 2 ^ 15 ≠ 0 ∧
    (let s := car { banks := banks { mode := .busy, op := some (.password [1, 2, 3, 4] 1) } }
     s.car.banks.length = 4 ∧ (s.bank 3).mode = .busy ∧ (s.bank 3).op = some (.password [1, 2, 3, 4] 1)) ∧
    (let s := car { banks := banks { mode := .busy, op := some (.protect 1023 true) } }
     (s.bank 3).mode = .busy ∧ (s.bank 3).op = some (.protect 1023 true)) ∧
    (let s := car { banks := banks { mode := .busy, op := some (.pwWord 3 7) } }
     (s.bank 3).mode = .busy ∧ (s.bank 3).op = some (.pwWord 3 7)) ∧
    (car { lockout := some 0 }).car.lockout = some 0 := by
  refine ⟨fun a ha => ?_, by decide, by decide, by decide, by decide, by decide, by decide⟩
  simp only [List.mem_cons, List.not_mem_nil, or_false] at ha
  rcases ha with rfl | rfl | rfl | rfl | rfl <;> exact ⟨unsequenced_of (by decide), by decide⟩

/-- A bank in each of its modes; an exit on a bank whose requester has one cycle under way. -/
theorem wit_CarReads : ((car {}).bank 3).mode = .read ∧
    (let s := car { banks := banks { mode := .status } }
     Unsequenced s 1 3 ∧ (s.bank 3).mode = .status ∧ carBankOf 0x1FFFFFF = 3) ∧
    (let s := car { banks := banks { mode := .busy } }
     Unsequenced s 1 3 ∧ (s.bank 3).mode = .busy) ∧
    (let s := car { banks := banks suspended }
     Unsequenced s 1 3 ∧ (s.bank 3).mode = .suspended ∧ (s.bank 3).susp = some (carSector (1022 * 2 ^ 15 + 9))) ∧
    let s := car { seqs := [⟨1, 3, [(0x2AAA, 0x5A5A)]⟩] }
    s.otherLoad 1 (carBankOf 0x1FFFFFF) = none ∧ s.carSeq 1 (carBankOf 0x1FFFFFF) = [(0x2AAA, 0x5A5A)] ∧
      (s.bank (carBankOf 0x1FFFFFF)).mode = .read :=
  ⟨by decide, ⟨unsequenced_of (by decide), by decide, by decide⟩, ⟨unsequenced_of (by decide), by decide⟩,
    ⟨unsequenced_of (by decide), by decide, by decide⟩, by decide, by decide, by decide⟩

/-- SEL_A valid with SEQ 7 and SELW `w`. -/
def selector (w0 w1 : Word) : Sparse Word :=
  [(0x20000, 0x5E1C), (0x20001, 1), (0x20002, 0), (0x20003, 7), (0x20004, w0), (0x20005, w1), (0x20006, 0x784D), (0x20007, 0xC596),
    (0x20008, 0xA55A)]

/-- A swap with no selector, with SELW spent, with its first and its last bit; the ends of a program and of a swap. -/
theorem wit_CarSwapAndEnd : (Unsequenced (car {}) 1 3 ∧ ((car {}).bank 3).mode = .read ∧ (car {}).selCurrent = none) ∧
    (let s := car { words := selector 0 0 }
     Unsequenced s 1 3 ∧ s.selCurrent = some false ∧ ∀ i, i < 32 → bitOf (s.selW false) i = false) ∧
    (let s := car { words := selector 0xFFFF 0xFFFF }
     Unsequenced s 1 3 ∧ s.selCurrent = some false ∧ bitOf (s.selW false) 0 = true ∧ (s.bank 0).mode ≠ .busy) ∧
    (let s := car { words := selector 0x8000 0 }
     Unsequenced s 1 3 ∧ s.selCurrent = some false ∧ bitOf (s.selW false) 31 = true ∧
       ∀ j, j < 31 → bitOf (s.selW false) j = false) ∧
    (let ws : List (Nat × Word) := [(0x1FFFFFE, 1), (0x1FFFFFF, 2)]
     let s := car { banks := banks { mode := .busy, op := some (.program ws) } }
     s.car.banks.length = 4 ∧ (s.bank 3).mode = .busy ∧ (s.bank 3).op = some (.program ws) ∧ (ws.map (·.1)).Nodup ∧
       (∀ p ∈ ws, s.car.markers.contains (carSector p.1) = false) ∧ Sparse.wf (fun _ => 0xFFFF) s.car.words = true) ∧
    let s := car { words := selector 0xFFFF 0xFFFF, banks := [{ mode := .busy, op := some (.swap 0x20005 0xFFFE) }, {}, {}, {}] }
    s.selCurrent = some false ∧ (s.bank 0).mode = .busy ∧ bitOf (s.selW false) 0 = true ∧
      (s.bank 0).op = some (.swap (4 * 2 ^ 15 + 5) (BitVec.ofNat 16 (setBits (s.carWord 0x20005).toNat 0 0 0))) :=
  ⟨⟨unsequenced_of (by decide +kernel), by decide +kernel, by decide +kernel⟩, ⟨unsequenced_of (by decide +kernel), by decide +kernel, by decide +kernel⟩,
    ⟨unsequenced_of (by decide +kernel), by decide +kernel, by decide +kernel⟩, ⟨unsequenced_of (by decide +kernel), by decide +kernel, by decide +kernel⟩, by decide +kernel,
    by decide +kernel⟩

/-! ### The KSU -/

def ksu (k : Ksu) : State := { State.reset with ksu := k }

theorem holds_of {s : State} {src : Src} {r : Nat}
    (h : (!s.ksForeign src && decide (s.reqOf src = r) && decide (s.ksu.owner = some r)) = true) : Holds s src r := by
  simp only [Bool.and_eq_true, decide_eq_true_eq, Bool.not_eq_true'] at h
  exact ⟨h.1.1, h.1.2, h.2⟩

/-- Slot 63 of control core 7 and slot 0 of instance 3. -/
def slots : List KeySlot := [{ loaded := true, key := List.replicate 16 1, owner := 3 }] ++ List.replicate 62 ({} : KeySlot) ++
  [{ loaded := true, key := List.replicate 32 1, owner := 0x407, keylen := 2 }]

/-- The lock free, held by the reader and by another, a port that does not own the unit; timers on both sides of the timeout; slots at
both ends, one in use, and one that a refusal meets. -/
theorem wit_KsLockSlots :
    (let s := ksu { owner := some 0x407, actA := 3, slots := slots, idle := some 0 }
     s.ksForeign (.cc 7) = false ∧ s.ksu.owner = some (s.reqOf (.cc 7)) ∧ bitOf (1#32).toNat 0 = true ∧ bitOf (0#32).toNat 0 = false ∧
     s.ksForeign (.host false) = false ∧ s.ksu.owner ≠ some (s.reqOf (.host false)) ∧
     (s.ksu.idle = some 0 ∧ 0 ≤ beatsOfMs s.ksu.idleTo) ∧ s.ksu.slots.length = 64 ∧ isCore 0x407 = true ∧ s.ksu.inUse 63 = 0 ∧
     (s.slot 63).loaded = true ∧ (s.slot 63).owner = 0x407 ∧ (s.slot 1).loaded = false) ∧
    (let s := ksu { actA := 3 }
     s.ksForeign (.host false) = false ∧ s.ksu.owner = none ∧ (s.inst (s.reqOf (.host false))).state ≠ .resetting ∧
       (s.inst 3).state ≠ .deleting) ∧
    (let s : State := { ksu { actA := 3 } with insts := [(3, { state := .resetting })] }
     s.ksForeign (.host false) = false ∧ s.ksu.owner = none ∧ s.reqOf (.host false) < 1024 ∧
       (s.inst (s.reqOf (.host false))).state = .resetting) ∧
    (let s : State := { State.reset with pins := { State.reset.pins with dual := true } }
     s.ksForeign (.host true) = true) ∧
    (let s := ksu { owner := some 3, idle := some 4884 }
     s.ksu.owner = some 3 ∧ s.ksu.idle = some 4884 ∧ beatsOfMs s.ksu.idleTo < 4884) ∧
    Holds (ksu { owner := some 0x407, slots := slots }) (.cc 7) 0x407 ∧
    (let s := ksu { owner := some 3, actA := 3, slots := slots, run := some { desc := 0, req := 3, gen := 0, slot := 0 } }
     Holds s (.host false) 3 ∧ s.ksu.slots.length = 64 ∧ s.ksu.inUse 0 ≠ 0 ∧ (s.slot 0).owner = 3) ∧
    (let s := ksu { owner := some 5, actA := 5, slots := slots }
     Holds s (.host false) 5 ∧ s.ksu.slots.length = 64 ∧ (s.slot 0).loaded = true ∧ (s.slot 0).owner ≠ 5 ∧
       isCore (s.slot 0).owner = false ∧ isCore 5 = false) :=
  ⟨by decide +kernel, by decide +kernel, by decide +kernel, by decide +kernel, by decide +kernel, holds_of (by decide +kernel),
    ⟨holds_of (by decide +kernel), by decide +kernel⟩, holds_of (by decide +kernel), by decide +kernel⟩

/-- An idle engine; an open message with and without a declared length; a last block and one before it. -/
theorem wit_KsDigest :
    (let s := ksu { owner := some 3, actA := 3, slots := slots }
     Holds s (.host false) 3 ∧ s.ksu.dg.busy = 0 ∧ bits (0x2B#32).toNat 2 0 < 4 ∧ bitOf (0x2B#32).toNat 3 = true ∧
       s.accessed.slotUse 3 (bits (0x2B#32).toNat 13 8) = 0 ∧ Sparse.sorted s.regs = true) ∧
    (let s := ksu { owner := some 3, actA := 3, dg := { active := true, msg := [1, 2], len := some 2 } }
     Holds s (.host false) 3 ∧ s.ksu.dg.active = true ∧ s.ksu.dg.busy = 0 ∧ s.ksu.dg.invalid = false ∧
       s.ksu.dg.msg.length + 4 < 2 ^ 61 ∧
       (let lo := (s.accessed.staged (.host false) Reg.DG_LAST_LO).toNat
        let m := s.ksu.dg.msg ++ [BitVec.ofNat 8 (lo / 2 ^ 24), BitVec.ofNat 8 (lo / 2 ^ 16), BitVec.ofNat 8 (lo / 2 ^ 8),
          BitVec.ofNat 8 lo].take (min (bits (0#32).toNat 2 0) 4)
        s.ksu.dg.len = some m.length) ∧ s.ksu.dg.len = some 2 ∧ 2 ≠ (s.ksu.dg.msg ++ [0, 0, 0, 0]).length) ∧
    (let d := (ksu { dg := { active := true, last := true, busy := 1, msg := [1] } }).ksu.dg
     d.busy = 1 ∧ d.last = true ∧ d.verify = false) ∧
    (let d := (ksu { dg := { active := true, last := true, busy := 1, verify := true } }).ksu.dg
     d.busy = 1 ∧ d.last = true ∧ d.verify = true) ∧
    (let s := ksu { owner := some 3, actA := 3, dg := { active := true, busy := 2 } }
     Holds s (.host false) 3 ∧ s.ksu.dg.busy ≠ 0) ∧
    1 < (ksu { dg := { active := true, busy := 2 } }).ksu.dg.busy :=
  ⟨⟨holds_of (by decide +kernel), by decide +kernel⟩, ⟨holds_of (by decide +kernel), by decide +kernel⟩,
    by decide +kernel, by decide +kernel, ⟨holds_of (by decide +kernel), by decide +kernel⟩, by decide +kernel⟩

/-- A CBC encryption of 16 bytes with slot 0, to its status record at 80H. -/
def cbc : List Byte := [1, 1, 0, 0, 16, 0, 0, 0] ++ List.replicate 48 0 ++ [0x80, 0, 0, 0, 0, 0, 0, 0]

def cipher : CipherJob := { desc := 0x40, req := 3, gen := 0 }

/-- No job, one, and two; a legal and an illegal descriptor; the end and the timeout of a job. -/
theorem wit_KsCipher :
    (Holds (ksu { owner := some 3, actA := 3 }) (.host false) 3 ∧ (ksu { owner := some 3, actA := 3 }).ksu.run = none) ∧
    (Holds (ksu { owner := some 3, actA := 3, run := some cipher }) (.host false) 3) ∧
    (Holds (ksu { owner := some 3, actA := 3, run := some cipher, queued := some cipher }) (.host false) 3) ∧
    (let s := ksu { run := some cipher, slots := slots }
     s.ksu.run = some cipher ∧ cipher.started = false ∧ descLegal s 3 cbc = true ∧ modeAvailable (cipher.ofDesc cbc).mode s.dev = true ∧
       (cipher.ofDesc cbc).zeroized = false ∧ s.slotUse 3 (cipher.ofDesc cbc).slot = 0 ∧ (cipher.ofDesc cbc).mode ≠ 4 ∧
       descLegal s 3 [] = false ∧ isCore cipher.req = false ∧ Linked s ∧ s.alive cipher.req cipher.gen = true) ∧
    (let j : CipherJob := { cipher with started := true, op := 1, mode := 1, len := 16, key := List.replicate 16 1 }
     let s := ksu { run := some j, slots := slots }
     s.ksu.run = some j ∧ j.started = true ∧ j.zeroized = false ∧ j.halted = false ∧ (j.mode = 1 ∨ j.mode = 2 ∨ j.mode = 3 ∨ j.mode = 4) ∧
       (List.replicate 16 (0 : Byte)).length = j.len ∧ j.aadLen ≤ ([] : List Byte).length ∧ isCore j.req = false ∧ Linked s ∧
       s.alive j.req j.gen = true) ∧
    (let j : CipherJob := { cipher with req := 0x407, started := true, op := 1, mode := 1, len := 16, key := List.replicate 16 1 }
     let s := ksu { run := some j, slots := slots }
     s.ksu.run = some j ∧ j.started = true ∧ j.zeroized = false ∧ j.halted = false ∧ isCore j.req = true) ∧
    State.reset.ksu.run = none :=
  ⟨⟨holds_of (by decide +kernel), by decide +kernel⟩, holds_of (by decide +kernel), holds_of (by decide +kernel),
    by decide +kernel, by decide +kernel, by decide +kernel, by decide +kernel⟩

/-! ### DRAM -/

def drcs (d : Drc) : List Drc := [{}, {}, {}, {}, {}, d]

/-- Channel 5 as given, 2^24 lines. -/
def dram (d : Drc) : State := { State.reset with dram := { ch := drcs d } }.setReg (Reg.DRC_CFG 5) 1

/-- Debts of 6 and 7, a delay-set change, a read-back due, self-refresh asked for; none of these; not up; entered. -/
theorem wit_DramRefresh :
    (let s := dram { state := .up, debts := [0, 0, 6, 7], bandPend := true, swA := true, swB := true, checkDue := true
                     srWant := true }
     s.dram.ch.length = 6 ∧ (s.drc 5).state = .up ∧ nth 0 (s.drc 5).debts (2 * 1 + 0) < 7 ∧
       nth 0 (s.drc 5).debts (2 * 1 + 1) = 7 ∧ (s.drc 5).bandPend = true ∧ (s.drc 5).swA = true ∧ (s.drc 5).swB = true ∧
       (s.drc 5).checkDue = true ∧ (s.drc 5).srWant = true) ∧
    (let s := dram { state := .up }
     s.dram.ch.length = 6 ∧ (s.drc 5).state = .up ∧ (s.drc 5).srWant = false ∧ (s.drc 5).checkDue = false ∧
       (s.drc 5).bandPend = false) ∧
    (dram {}).dram.ch.length = 6 ∧ ((dram {}).drc 5).state ≠ .up ∧
    (dram { state := .selfRefresh }).dram.ch.length = 6 ∧ ((dram { state := .selfRefresh }).drc 5).state = .selfRefresh := by
  decide +kernel

/-- A channel that is up, sealed and not; a full activate table. -/
theorem wit_DramAccess :
    (let s := dram { state := .up }
     s.dram.ch.length = 6 ∧ (s.drc 5).state = .up ∧ (s.drc 5).isSealed = false ∧ Sparse.sorted (s.drc 5).act = true) ∧
    (let s := dram { state := .up, isSealed := true }
     (s.drc 5).state = .up ∧ (s.drc 5).isSealed = true ∧ 1 % 2 ^ s.fieldNow (Reg.DRC_RH_PROB 5) 3 0 ≠ 0) ∧
    let t : List (Nat × Nat) := (List.range 32).map (fun i => (i, 1))
    (t.map (·.1)).Nodup ∧ t.length ≤ 32 ∧ ∀ e ∈ t, 1 ≤ e.2 := by
  decide +kernel

/-- A line at and below the remap threshold, a second device; the last line with room and with a full table; scrubbing at its
first and its last line. -/
theorem wit_DramErrors :
    (let s := dram { state := .up, devs := [(0, 0, 1), (0, 1, 1), (1, 0, 1), (1, 1, 1)] }
     let p := s.place 5 7
     s.dram.ch.length = 6 ∧ trackOf 7 (s.drc 5).track + 1 < s.fieldNow Reg.MEP_REMAP_THR 7 0 ∧ (s.drc 5).track.length < 64 ∧
       (s.drc 5).remap.length < 16 ∧ 1 ≠ 0 ∧ (p.sub, p.rank, 1) ∈ (s.drc 5).devs) ∧
    (let s := dram { state := .up }
     (4 : Nat) ≠ 6 ∧ (4 : Nat) ≠ 10 ∧ s.dram.sramUsed (macroOf 4 0) < 8) ∧
    (let s := dram { state := .up, track := [(7, 255)] }
     s.fieldNow Reg.MEP_REMAP_THR 7 0 ≤ trackOf 7 (s.drc 5).track + 1 ∧ (s.drc 5).track.length < 64) ∧
    (let s := dram { state := .up }
     5 ∈ s.working ∧ 2 ^ 24 - 1 < s.chLines 5 ∧ (s.drc 5).remap.length < 16) ∧
    (let s := dram { state := .up, remap := List.range 16 }
     5 ∈ s.working ∧ 16 ≤ (s.drc 5).remap.length ∧ 2 ^ 24 - 1 ∉ (s.drc 5).remap ∧ s.dram.sramUsed (5 * 1024) < 8) ∧
    (let s := dram { state := .up }
     s.fieldNow Reg.MEP_SCRUB_PERIOD 9 0 ≠ 0 ∧ s.dram.scrub = false ∧ s.dram.scrubTimer = none) ∧
    (let d : State := dram { state := .up }
     let wait := beatsOfMs (d.fieldNow Reg.MEP_SCRUB_PERIOD 9 0 * 3600000)
     let s (n : Nat) : State := { d with dram := { d.dram with scrubTimer := some n } }
     (s (wait + 1)).dram.scrubTimer = some (wait + 1) ∧ wait < wait + 1 ∧ (s wait).dram.scrubTimer = some wait) ∧
    (let s := { (dram { state := .up }) with dram := { ch := drcs { state := .up }, scrub := true } }
     s.dram.scrub = true ∧ s.pwr.ps < 3 ∧ s.fieldNow Reg.MEP_SCRUB_PERIOD 9 0 ≠ 0 ∧ s.dram.scrubAt + 1 < s.scrubLines ∧
       s.dram.ch.length = 6) ∧
    (let s := { (dram { state := .up }) with dram := { ch := drcs { state := .up }, scrub := true, scrubAt := 2 ^ 24 - 1 } }
     s.dram.scrub = true ∧ s.dram.scrubAt < s.scrubLines ∧ s.dram.scrubAt + 1 = s.scrubLines) ∧
    (let s := { (dram { state := .up }) with pwr := { State.reset.pwr with ps := 3 } }
     3 ≤ s.pwr.ps) := by
  decide +kernel

/-! ### Power, timers, balls -/

def pwr (p : Power) : State := { State.reset with dev := .service, pwr := p }

/-- A board without DRAM. -/
def board (f : Option Factory) : Boot :=
  { factory := f, straps := 0, failLow := false, board := (0, 0, false), timing := [], dram := [], record := [], profiles := [],
    luns := [], cal := [], bad := [], chest := false, ckptBad := [], lostMap := [], avs := 0 }

/-- PERST_N recognised and already low, a key written in SERVICE, a port without the device, the watchdog at and before its
period, an edge that starts the ROM, a reset that PERST_N holds. -/
theorem wit_PwrResets :
    (let s := pwr { perstLow := false }
     s.pwr.pwrGood = true ∧ s.pwr.perstLow = false ∧ s.stopped = false ∧ s.dev ≠ .test ∧ s.dev ≠ .boot ∧
       bits (0x5A000001#32).toNat 31 24 = 0x5A ∧ bitOf (0x5A000001#32).toNat 0 = true ∧ s.dev ≠ .halted ∧
       s.pins.dual = false ∧ bits (0x00000001#32).toNat 31 24 ≠ 0x5A) ∧
    (let s := { pwr {} with pins := { dual := true } }
     s.pins.dual = true ∧ true ≠ s.ownerPort) ∧
    (let s := pwr { perstLow := false, wdRun := true, wd := some (beatsOfMs 16383) }
     s.pwr.wdRun = true ∧ s.pwr.wd = some (beatsOfMs 16383) ∧ s.wdPeriod ≤ beatsOfMs 16383 ∧ s.pwr.pwrGood = true ∧
       s.stopped = false ∧ s.dev = .service) ∧
    (let s := pwr { wdRun := true, wd := some 0 }
     s.pwr.wd = some 0 ∧ 0 < s.wdPeriod) ∧
    (let s := { State.reset with pwr := { cause := .perst } }
     s.pwr.perstLow = true ∧ s.dev = .boot ∧ s.pwr.cause = .perst ∧ s.pwr.rom = none ∧ s.stopped = false) ∧
    ∃ b : Boot, b.factory = none :=
  ⟨by decide +kernel, by decide +kernel, by decide +kernel, by decide +kernel, by decide +kernel, board none, rfl⟩

/-- A write-buffer slot of the host's that is HELD. -/
def heldSlot : Slot :=
  { idx := 3, nsid := 1, span := 0, ch := 0, state := .held, grains := [(0, [])], fresh := [0], tags := [], old := 0 }

/-- SERVICE in PS0 with a HELD slot, nothing pending and nothing running, the supply holding or failing; in PS4; BOOT; the wait of
CC0; heat on both sides of its second boundary. -/
theorem wit_PwrFlush :
    (let s := { pwr {} with ftl := { State.reset.ftl with slots := [heldSlot] } }
     s.dev = .service ∧ s.pwr.cc0Wait = false ∧ s.pwr.ps < 3 ∧ s.chest.pending = [] ∧
       (∀ e ∈ s.luns, ∀ o ∈ e.2.op, o.kind ≠ .program) ∧ ∃ v ∈ s.ftl.slots, v.state = .held) ∧
    ((pwr { ps := 4 }).dev = .service ∧ (pwr { ps := 4 }).pwr.cc0Wait = false ∧ 3 ≤ (pwr { ps := 4 }).pwr.ps) ∧
    (State.reset.dev ≠ .service ∧ State.reset.pwr.cc0Wait = false) ∧ (pwr { cc0Wait := true }).pwr.cc0Wait = true ∧
    (2 ≤ (pwr { hot := 2 }).pwr.hot ∧ (pwr { hot := 2 }).dev ≠ .halted) ∧ (pwr { hot := 1 }).pwr.hot < 2 ∧
    2 ≤ (pwr { hot := 2, ps := 3 }).pwr.hot ∧
    ({ pwr { hot := 2 } with dev := .recovery } : State).dev ≠ .service := by
  decide +kernel

/-- A beat with one reading and with none, with and without a new watchdog period, in RECOVERY; the pre-warning on both sides of its
time and with the watchdog off; each case of the throttle; entry into PS2 and PS4, refused ones, and the wakes. -/
theorem wit_PwrTimers :
    (let s := pwr { wdRun := true }
     s.pwr.pwrGood = true ∧ s.dev ≠ .boot ∧ s.dev ≠ .recovery ∧ s.pwr.wdRun = true ∧ (∀ e ∈ s.held, e.1 ≠ Reg.TMR_WDT_PERIOD) ∧
       some 90 ∈ (List.range 16).map (fun i => nth none [some (90 : Int)] i) ∧
       none ∈ (List.range 16).map (fun i => nth none [some (90 : Int)] i) ∧
       (∀ b ∈ (List.range 16).map (fun i => nth none [some (90 : Int)] i), b = none ∨ b = some 90) ∧
       ∀ x ∈ (List.range 16).map (fun i => nth none ([] : List (Option Int)) i), x = none) ∧
    (let s := { pwr { wdRun := true } with held := [(Reg.TMR_WDT_PERIOD, 100)] }
     s.dev ≠ .boot ∧ s.pwr.wdRun = true ∧ ∃ e ∈ s.held, e.1 = Reg.TMR_WDT_PERIOD) ∧
    (let s := { pwr { wdRun := true } with dev := .recovery }
     s.pwr.wdRun = true ∧ s.dev = .recovery) ∧
    (pwr { pwrGood := false }).pwr.pwrGood = false ∧
    (let s := pwr { wdRun := true, wd := some 0 }
     s.pwr.wd = some 0 ∧ ¬ cdiv s.wdPeriod 2 ≤ 0) ∧
    (pwr {}).pwr.wdRun = false ∧
    (let s := pwr { tj := some 99, steady := 65535 }
     let temp : Int := s.fieldNow Reg.TMP_THR 7 0
     s.pwr.tj = some 99 ∧ s.fieldNow Reg.TMP_STEP 15 0 ≤ s.pwr.steady ∧ temp ≤ 99 ∧ s.pwr.throttle < 7) ∧
    (let s := pwr { tj := some 20, steady := 65535, throttle := 7 }
     let temp : Int := s.fieldNow Reg.TMP_THR 7 0
     let hyst : Int := s.fieldNow Reg.TMP_THR 15 8
     20 < temp ∧ 20 < temp - hyst ∧ 0 < s.pwr.throttle ∧ s.fieldNow Reg.TMP_STEP 15 0 ≤ s.pwr.steady) ∧
    (pwr { tj := some 20 }).pwr.steady < (pwr { tj := some 20 }).fieldNow Reg.TMP_STEP 15 0 ∧
    (let s := { pwr { allowed := 2 } with dram := { ch := drcs { state := .up } } }
     s.dev ≠ .recovery ∧ s.pwr.ps < s.pwr.allowed ∧ s.pwr.allowed ≤ 4 ∧ s.pwr.waking = false ∧ s.pwr.allowed < 3 ∧
       s.dram.ch.length = 6) ∧
    (let s := { pwr { allowed := 4 } with dram := { ch := drcs { state := .up } } }
     s.dev ≠ .recovery ∧ s.pwr.ps < s.pwr.allowed ∧ s.pwr.allowed = 4 ∧ s.pwr.waking = false ∧ s.idle3 = true ∧
       s.dram.ch.length = 6 ∧ 5 ∈ s.working) ∧
    (let s := { pwr { allowed := 3 } with ftl := { State.reset.ftl with slots := [heldSlot] } }
     3 ≤ s.pwr.allowed ∧ s.idle3 = false) ∧
    (pwr {}).pwr.waking = false ∧
    let s := { pwr { ps := 4, waking := true } with dram := { ch := drcs { state := .selfRefresh } } }
    s.pwr.waking = true ∧ s.pwr.ps ≠ 0 ∧ s.dram.ch.length = 6 ∧ 5 ∈ s.working := by
  decide +kernel

/-- The test access port in and out of its reset. -/
theorem wit_PinsTap : State.reset.pins.tap.reset = false ∧
    ({ State.reset with pins := { tap := { reset := true } } } : State).pins.tap.reset = true := by
  decide +kernel

/-! ### Queues, controller, link -/

/-- A submission entry: command dword `i` is `v` for each pair (i, v), else 0. -/
def sqe (l : List (Nat × DWord)) : List DWord :=
  (List.range 16).map (fun i => match l.find? (fun p => decide (p.1 = i)) with
    | some p => p.2
    | none => 0)

/-- Command 9 of the admin queue of port A. -/
def adminCmd (l : List (Nat × DWord)) : Cmd :=
  { tag := 9, port := false, admin := true, inst := 0, sq := 0, cq := 0, dw := sqe l, gen := 0, deadline := 0 }

/-- Command 8 of queue 1, instance 1. -/
def ioCmd (l : List (Nat × DWord)) : Cmd :=
  { tag := 8, port := false, admin := false, inst := 1, sq := 1, cq := 1, dw := sqe l, gen := 0, deadline := 1000 }

/-- Port A in SERVICE with its admin queue, instance 1 with queue 1 of eight entries, and the commands in flight. -/
def svc (cmds : List Cmd) : State :=
  { State.reset with
    dev := .service, idsLoaded := true, cmds := cmds, nextTag := 10
    portA := { up := true, bme := true, cfg := { pasid := true }, ctrl := { en := true, rdy := true, cc := 0x00460001 } }
    insts := [(0, { state := .active, share := 1, shareNow := 1 }),
      (1, { state := .active, pasid := some 5, share := 1, shareNow := 1, ftok := 65536, attach := [(1, false), (2, false), (3, false), (4, false)] })]
    sq := [(0, { valid := true, qsize := 7 }), (1, { valid := true, qsize := 7, cqid := 1, inst := 1, loc := 0 })]
    cq := [(0, { valid := true, qsize := 7, ien := true }), (1, { valid := true, qsize := 7, inst := 1, loc := 0 })] }

/-- Doorbells at QSIZE and one above it, for a queue and none, for the admin rows and for the other port; a message that is due and
not, in either table, unmasked, masked, disabled and with another owner; an entry unmasked. -/
theorem wit_QueDoorbells :
    (let s := svc []
     s.inPort false 1 = true ∧ s.inPort true 1 = false ∧ s.sqOf 1 0 = some 1 ∧ bits (7#32).toNat 15 0 ≤ (s.sqRow 1).qsize ∧
       (s.sqRow 1).qsize < bits (8#32).toNat 15 0 ∧ (s.sqRow 1).error = false ∧ s.cqOf 1 0 = some 1 ∧ (s.cqRow 1).error = false ∧
       (0 + ((s.cqRow 1).qsize + 1) - (s.cqRow 1).head) % ((s.cqRow 1).qsize + 1) ≤ (s.cqRow 1).posted ∧
       (s.cqRow 1).posted < (7 + ((s.cqRow 1).qsize + 1) - (s.cqRow 1).head) % ((s.cqRow 1).qsize + 1) ∧
       s.sqOf 1 1 = none ∧ s.cqOf 1 1 = none ∧ s.isManager 1 = false) ∧
    (let s := svc []
     (s.sqRow (adminRow false)).valid = true ∧ (s.sqRow (adminRow false)).error = false ∧ (s.cqRow (adminRow false)).valid = true ∧
       (s.cqRow (adminRow false)).error = false ∧ 7 ≤ (s.sqRow (adminRow false)).qsize ∧
       (s.sqRow (adminRow false)).qsize < bits (8#32).toNat 15 0 ∧ (s.cqRow (adminRow false)).qsize < bits (8#32).toNat 15 0 ∧
       (0 + ((s.cqRow (adminRow false)).qsize + 1) - (s.cqRow (adminRow false)).head) % ((s.cqRow (adminRow false)).qsize + 1) ≤
         (s.cqRow (adminRow false)).posted ∧
       (s.sqRow (adminRow true)).valid = false ∧ (s.cqRow (adminRow true)).valid = false) ∧
    (let s := { svc [] with cq := [(0, { valid := true, ien := true, unsig := 1 }),
                  (1, { valid := true, ien := true, imt := true, inst := 1, vector := 3, unsig := 9 }),
                  (2, { valid := true, ien := true, imt := true, inst := 2, vector := 3, resignal := true })]
                            imt := [(3, { owner := 1, mask := false })]
                            portA := { msixEn := true, msix := [(0, { mask := false })] } }
     let m : ImtEntry := Sparse.get (fun _ => {}) s.imt 3
     let e : MsixEntry := Sparse.get (fun _ => {}) (s.port false).msix 0
     (s.cqRow 1).valid = true ∧ (s.cqRow 1).ien = true ∧ m.owner = (s.cqRow 1).inst ∧ m.mask = false ∧
       (s.isAdminRow 1 || s.coalOff (s.cqRow 1)) = false ∧ s.coalThr (s.cqRow 1) < (s.cqRow 1).unsig ∧ (s.cqRow 1).resignal = false ∧
       (s.cqRow 0).imt = false ∧ (s.port false).msixEn = true ∧ (s.port false).msixMask = false ∧ e.mask = false ∧
       s.isAdminRow 0 = true ∧ (s.cqRow 0).unsig ≠ 0 ∧ (s.cqRow 2).imt = true ∧ m.owner ≠ (s.cqRow 2).inst ∧
       (s.isAdminRow 2 || s.coalOff (s.cqRow 2)) = false ∧ (s.cqRow 2).resignal = true) ∧
    ((svc []).cqRow 1).resignal = false ∧ ((svc []).cqRow 1).unsig = 0 ∧ ((svc []).cqRow 1).ien = false := by
  and_intros <;> decide +kernel

/-- Orders 1 to 4 of Table 2-10. -/
def queueCheck (s : State) (c : Cmd) (used bad : Prop) [Decidable used] [Decidable bad] : Option Status :=
  let cc := (s.ctrl c.port).cc.toNat
  let i := c.f 13 25 16
  let q := c.f 10 15 0
  if bits cc 19 16 ≠ 6 ∨ bits cc 23 20 ≠ 4 ∨ bad ∨ s.inPort c.port i = false ∨ (s.inst i).state = .free ∨
      (s.isManager i = false ∧ (s.port c.port).cfg.pasid = false) then some .invalidField
  else if s.rowInPort c.port q = false ∨ q = 0 ∨ 16384 ≤ q ∨ s.isAdminRow q = true ∨ used then some .invalidQid
  else if c.f 10 31 16 = 0 then some .invalidQSize
  else if c.prp1 % (4096 * 2 ^ (s.ctrl c.port).mps) ≠ 0 then some .invalidPrpOffset
  else none

/-- Queue creation with and without a failed check, of an index with and without held positions, with a vector that is the
instance's and not, on a CQ that is there; the deletes; an AER with room, with none, and with an event held. -/
theorem wit_QueAdmin :
    (let c := adminCmd [(0, 5), (10, 0x00070002), (11, 1), (13, 0x00010001)]
     AdminCmd (svc [c]) 9 c ∧ c.opcode = 0x05 ∧
       queueCheck (svc [c]) c (((svc [c]).cqRow 2).valid = true ∨ ((svc [c]).cqOf 1 1).isSome = true)
         (bitOf (c.d 11).toNat 0 = false) = none ∧ ((svc [c]).inst 1).heldCq = [] ∧ bitOf (c.d 11).toNat 1 = false) ∧
    (let c := adminCmd [(0, 5), (10, 0x00070002), (11, 0x00090003), (13, 0x00010001)]
     AdminCmd (svc [c]) 9 c ∧ c.opcode = 0x05 ∧
       queueCheck (svc [c]) c (((svc [c]).cqRow 2).valid = true ∨ ((svc [c]).cqOf 1 1).isSome = true)
         (bitOf (c.d 11).toNat 0 = false) = none ∧ bitOf (c.d 11).toNat 1 = true ∧ (svc [c]).isManager 1 = false ∧
       (Sparse.get (fun _ => {}) (svc [c]).imt 9 : ImtEntry).owner ≠ 1) ∧
    (let c := adminCmd [(0, 5)]
     AdminCmd (svc [c]) 9 c ∧ c.opcode = 0x05 ∧
       queueCheck (svc [c]) c (((svc [c]).cqRow 0).valid = true ∨ ((svc [c]).cqOf 0 0).isSome = true)
         (bitOf (c.d 11).toNat 0 = false) = some .invalidField) ∧
    (let c := adminCmd [(0, 1), (10, 0x00070002), (11, 0x00010001), (13, 0x00010001)]
     AdminCmd (svc [c]) 9 c ∧ c.opcode = 0x01 ∧
       queueCheck (svc [c]) c (((svc [c]).sqRow 2).valid = true ∨ ((svc [c]).sqOf 1 1).isSome = true)
         (bitOf (c.d 11).toNat 0 = false ∨ c.f 12 15 0 ≠ 0) = none ∧ (svc [c]).rowInPort false 1 = true ∧
       ((svc [c]).cqRow 1).valid = true ∧ (svc [c]).isAdminRow 1 = false ∧ ((svc [c]).cqRow 1).inst = 1) ∧
    (let c := adminCmd [(0, 1), (10, 0x00000002), (11, 0x00010001), (13, 0x00010001)]
     AdminCmd (svc [c]) 9 c ∧ c.opcode = 0x01 ∧
       queueCheck (svc [c]) c (((svc [c]).sqRow 2).valid = true ∨ ((svc [c]).sqOf 1 1).isSome = true)
         (bitOf (c.d 11).toNat 0 = false ∨ c.f 12 15 0 ≠ 0) = some .invalidQSize) ∧
    (let c := adminCmd [(0, 0), (10, 1)]
     AdminCmd (svc [c]) 9 c ∧ c.opcode = 0x00 ∧ (svc [c]).rowInPort false 1 = true ∧ (svc [c]).isAdminRow 1 = false ∧
       ((svc [c]).sqRow 1).valid = true ∧ ((svc [c]).sqRow 1).deleting = none ∧ ((svc [c]).sqRow 0).deleting = none) ∧
    (let c := adminCmd [(0, 4), (10, 1)]
     AdminCmd (svc [c]) 9 c ∧ c.opcode = 0x04 ∧ ((svc [c]).cqRow 1).valid = true ∧ Sparse.sorted (svc [c]).cq = true) ∧
    (let c := adminCmd [(0, 0), (10, 1)]
     let s := { svc [c] with sq := [(0, { valid := true }), (1, { valid := true, inst := 1, deleting := some 9 })] }
     AdminCmd s 9 c ∧ 1 ≠ c.sq ∧ (s.sqRow 1).deleting = some 9) ∧
    (let c := adminCmd [(0, 0x0C)]
     AdminCmd (svc [c]) 9 c ∧ c.opcode = 0x0C ∧ ((svc [c]).ctrl false).aerWaiting.length < 8 ∧ 9 ∉ ((svc [c]).ctrl false).aerWaiting ∧
       ((svc [c]).ctrl false).aerHeld = [] ∧ ((svc [c]).ctrl false).aerWaiting = []) ∧
    (let c := adminCmd [(0, 0x0C)]
     let s := { svc [c] with portA := { ctrl := { aerHeld := [⟨.smart, 1, 2⟩] } } }
     AdminCmd s 9 c ∧ (s.ctrl false).aerWaiting = [] ∧
       (s.ctrl false).aerHeld.find? (fun e => !(s.ctrl false).aerMasked.contains e.kind) = some ⟨.smart, 1, 2⟩) ∧
    (let c := adminCmd [(0, 0x0C)]
     let s := { svc [c] with portA := { ctrl := { aerWaiting := [1, 2, 3, 4, 5, 6, 7, 8] } } }
     AdminCmd s 9 c ∧ 8 ≤ (s.ctrl false).aerWaiting.length) := by
  unfold AdminCmd Answerable
  and_intros <;> decide +kernel

/-- A write of block 0 of namespace 1, and a namespace 1 for it. -/
def nvm : Namespace := { kind := .nvm, size := 4096, cap := 4096 }

/-- A visit to queue 1 that takes its entry: nothing waits in the admin queue. -/
def ready : State :=
  { svc [] with sq := [(0, { valid := true, qsize := 7 }), (1, { valid := true, qsize := 7, cqid := 1, inst := 1, tail := 1 })]
                ns := [(1, some nvm)] }

/-- Fetches with one entry ready, of an I/O queue and of the admin queue: a read, a write while the journal holds, one refused; a held
command; deadlines before and at their end, with and without received data; a rebuild wait. -/
theorem wit_QueFetch :
    (let s := ready
     let r := s.sqRow 1
     (s.fetchOpen (s.portOf r.inst) && !s.isAdminRow 1 && s.sqReady 1 && decide (0 < (s.inst r.inst).ftok) &&
       s.bestBucket r.inst && s.nextRow r.inst 1 && decide (s.adminRoom (s.portOf r.inst) = 0)) = true ∧
       0 < s.fieldNow Reg.QMG_ARB 6 0 ∧ 0 < r.fetchable ∧ 0 < s.cqRoom r.cqid ∧
       0 < 65536 - (if s.isManager r.inst then 0 else s.fieldNow Reg.QMG_RESERVE 15 0) - s.inflight ∧ r.blocked = false ∧
       Sparse.sorted s.sq = true ∧
       (let c : Cmd := { ioCmd [(0, 2), (1, 1)] with tag := s.nextTag }
        s.fetchRefused c = none ∧ s.mustHold c = false ∧ resvOps.contains c.opcode = false) ∧
       (let c : Cmd := { ioCmd [(0, 1), (1, 1)] with tag := s.nextTag }
        let u := { s with jhold := true }
        u.fetchRefused c = none ∧ u.mustHold c = true) ∧
       s.fetchRefused { ioCmd [(0, 2), (1, 9)] with tag := s.nextTag } = some .invalidNamespace) ∧
    (let s := { svc [] with sq := [(0, { valid := true, qsize := 7, tail := 1 })] }
     s.hasPort false = true ∧ s.dev = .service ∧ s.pwr.ps ≤ 1 ∧ (s.ctrl false).en = true ∧ (s.ctrl false).rdy = true ∧
       (s.ctrl false).resetting = false ∧ (s.port false).up = true ∧ Linked s ∧
       (s.sqRow (adminRow false)).valid = true ∧ (s.cqRow (adminRow false)).error = false ∧
       bitOf (s.reg Reg.CHS_PLP_STAT).toNat 31 = false ∧ 0 < (s.sqRow (adminRow false)).fetchable ∧ 0 < s.cqRoom (adminRow false) ∧
       (adminCmd [(0, 0x0C)]).adminOk = true ∧ (adminCmd [(0, 0x0C)]).takenAtFetch = false ∧
       (adminCmd [(0, 0x0C), (10, 1)]).adminOk = false ∧ (adminCmd [(0, 0x03)]).opcode = 3) ∧
    (let c := { ioCmd [(0, 1), (1, 1)] with phase := .held }
     (svc [c]).cmd? 8 = some c ∧ c.phase = .held ∧ (svc [c]).mustHold c = false) ∧
    (let c := { ioCmd [(0, 2), (1, 1)] with age := some 0 }
     (svc [c]).cmd? 8 = some c ∧ c.expired = false) ∧
    (let c := { ioCmd [(0, 2), (1, 1)] with age := some (beatsOfMs 1000) }
     let s := svc [c]
     s.cmd? 8 = some c ∧ c.admin = false ∧ c.dead = false ∧ beatsOfMs c.deadline ≤ beatsOfMs 1000 ∧ c.phase ≠ .waitRebuild ∧
       s.alive c.inst c.gen = true ∧ (s.cqRow c.cq).valid = true ∧ (s.cqRow c.cq).error = false ∧ Linked s ∧ s.run? 8 = none ∧
       (∀ j ∈ s.shd, j.tag ≠ 8) ∧ c.phase ≠ .received ∧ c.phase ≠ .active) ∧
    (let c := { ioCmd [(0, 1), (1, 1)] with age := some (beatsOfMs 1000), phase := .received }
     (svc [c]).cmd? 8 = some c ∧ c.phase = .received) ∧
    (let c := { ioCmd [(0, 2), (1, 1)] with phase := .waitRebuild, waited := some (beatsOfMs 5), waitMs := 5 }
     Answerable (svc [c]) 8 c ∧ c.admin = false ∧ c.phase = .waitRebuild ∧ c.waited = some (beatsOfMs 5) ∧
       beatsOfMs c.waitMs ≤ beatsOfMs 5) ∧
    (let c := { ioCmd [(0, 2), (1, 1)] with phase := .waitRebuild, waited := some 0, waitMs := 5 }
     Answerable (svc [c]) 8 c ∧ c.waited = some 0 ∧ 0 < beatsOfMs c.waitMs) := by
  unfold Answerable
  and_intros <;> decide +kernel

/-- An enable with both sizes and with one 0, a reset, its drain, a shutdown to its end, with a change left and before its end. -/
theorem wit_QueController :
    (let s := { svc [] with portA := {} }
     s.hasPort false = true ∧ (s.ctrl false).en = false ∧ (s.ctrl false).resetting = false ∧ s.hasPort true = false ∧
       bits (0x00070007#32).toNat 11 0 ≠ 0 ∧ bits (0x00070007#32).toNat 27 16 ≠ 0 ∧ bits (0#32).toNat 11 0 = 0) ∧
    (let s := svc []
     (s.ctrl false).en = true ∧ (s.ctrl false).cfs = false ∧ (s.ctrl false).shst ≠ 1 ∧ (s.ctrl false).shst = 0 ∧ s.dev = .service ∧
       (s.ctrl false).resetting = false ∧ Sparse.sorted s.insts = true ∧
       ∃ e ∈ s.insts, s.portOf e.1 = false ∧ e.2.state ≠ .free) ∧
    (let s := { svc [] with portA := { ctrl := { en := true, cfs := true } } }
     (s.ctrl false).en = true ∧ (s.ctrl false).cfs = true ∧ (s.ctrl false).rdy = false) ∧
    ({ svc [] with portA := { ctrl := { resetting := true } } } : State).portA.ctrl.resetting = true ∧
    (let s := { svc [] with portA := { ctrl := { en := true, shst := 1 } } }
     (s.ctrl false).shst = 1 ∧ (s.ctrl false).en = true ∧ (s.ctrl false).cfs = false ∧ s.chest.dirty = [] ∧ s.portQuiet false = true ∧
       s.chest.pending = [] ∧ s.chest.ckptActive = false ∧ ∀ v ∈ s.ftl.slots, v.state = .mapped) ∧
    (let s := { svc [] with portA := { ctrl := { en := true, shst := 1 } }, chest := { dirty := [1] } }
     (s.ctrl false).shst = 1 ∧ s.chest.dirty ≠ []) := by
  and_intros <;> decide +kernel

/-- Port A, and a port that is not there; IDs loaded and not; a command a fault ends, and one with a pipeline that has written
nothing. -/
theorem wit_QueLink : (svc []).hasPort false = true ∧ (svc []).hasPort true = false ∧ State.reset.idsLoaded = false ∧
    (svc []).idsLoaded = true ∧ (true ≠ false ∧ true ≠ (svc []).ownerPort) ∧
    (let c := { adminCmd [(0, 6)] with phase := .active }
     Answerable (svc [c]) 9 c ∧ c.admin = true ∧ c.phase = .active ∧ c.opcode ∉ [0x01, 0x81, 0x8D] ∧ (svc [c]).run? 9 = none ∧
       (∀ j ∈ (svc [c]).shd, j.tag ≠ 9) ∧ ∀ r ∈ (svc [c]).run? 9, r.rbytes = 0) ∧
    (let s := { svc [] with ftl := { segs := [(3, { slot := some 0 })] } }
     (s.seg 3).slot = some 0) := by
  unfold Answerable
  and_intros <;> decide +kernel

/-! ### Registers -/

/-- QMG_ARB by the host and by a core; a size that is refused; a firmware-only offset; a register of the other port's in DUAL mode;
writes that are dropped, at the page region's bounds. -/
theorem wit_RegWrites : PlainReg 0x20004 ∧ MayWrite (svc []) (.host false) 0x20004 ∧ MayWrite (svc []) (.cc 0) 0x20004 ∧
    (svc []).noPortB 0x20004 = false ∧ (regRow 0x20004).isSome = true ∧ Sparse.sorted (svc []).regs = true ∧
    (∀ r ∈ regRow 0x20004, (svc []).sizeRefused 0x20004 (r.write ((svc []).reg 0x20004).toNat 5) = none) ∧
    (∃ r, regRow Reg.MEP_SEALED_CFG = some r ∧
      (svc []).sizeRefused Reg.MEP_SEALED_CFG (r.write ((svc []).reg Reg.MEP_SEALED_CFG).toNat 0x3F) ≠ none) ∧
    ((svc []).hasPort false = true ∧ (svc []).otherItem (.host false) 0x81000 = false ∧ 0x81000 % 4 = 0 ∧
      0x81000 ≠ Reg.TMR_WDT_CTL ∧ 0x81000 ≠ Reg.RST_CTL ∧ (svc []).noPortB 0x81000 = false ∧ firmwareOnly 0x81000 = true) ∧
    (let s := { svc [] with pins := { dual := true } }
     s.hasPort true = true ∧ s.otherItem (.host true) 0x20004 = false ∧ s.noPortB 0x20004 = false ∧ s.pins.dual = true ∧
       true ≠ s.ownerPort ∧ s.ownItem true 0x20004 = false) ∧
    (svc []).inPort false ((0x1000000 - 0x1000000) / 0x4000) = true ∧
    (svc []).inPort false ((0x1FFFFFC - 0x1000000) / 0x4000) = true := by
  refine ⟨?_, .inr ⟨false, rfl, ?_⟩, .inl ⟨0, rfl⟩, ?_, ?_, ?_, ?_, ⟨_, rfl, ?_⟩, ?_⟩
  · unfold PlainReg; and_intros <;> decide +kernel
  · and_intros
    · decide +kernel
    · decide +kernel
    · exact .inl (by decide +kernel)
  · decide +kernel
  · decide +kernel
  · decide +kernel
  · decide +kernel
  · decide +kernel
  · and_intros <;> decide +kernel

/-- A register of each clause: read by a core and a port; a valid SQ row, a valid CQ row and one that is not; an IMT row of each
kind, unmasked with its owner and with another. -/
theorem wit_RegReads : PlainReg 0x10010 ∧ (svc []).noPortB 0x10010 = false ∧ (regRow 0x10010).isSome = true ∧
    (svc []).hasPort false = true ∧ (svc []).otherItem (.host false) 0x10010 = false ∧ 0x10012 / 4 * 4 = 0x10010 ∧
    Sparse.sorted (svc []).regs = true ∧
    (let s := (svc []).setReg Reg.QMG_QSEL 1
     s.visible (.host false) 1 = true ∧ bits (s.reg Reg.QMG_QSEL).toNat 13 0 = 1 ∧ bitOf (s.reg Reg.QMG_QSEL).toNat 31 = false ∧
       (s.sqRow 1).valid = true) ∧
    (let s := (svc []).setReg Reg.QMG_QSEL 0x80000001
     bits (s.reg Reg.QMG_QSEL).toNat 13 0 = 1 ∧ bitOf (s.reg Reg.QMG_QSEL).toNat 31 = true ∧ (s.cqRow 1).valid = true) ∧
    (svc []).visible (.host false) 16383 = true ∧ ((svc []).sqRow 16383).valid = false ∧
    (let s := { (svc []).setReg Reg.QMG_IMTSEL 3 with imt := [(3, { owner := 1023, pend := true })] }
     s.field Reg.QMG_IMTSEL 13 0 = 3 ∧ s.visible (.host false) 3 = true ∧ Sparse.sorted s.imt = true ∧
       (Sparse.get (fun _ => {}) s.imt 3 : ImtEntry).owner < 1024 ∧ (Sparse.get (fun _ => {}) s.imt 3 : ImtEntry).pend = true ∧
       bitOf (s.reg (Reg.QMG_IMTDATA 3)).toNat 31 = false ∧ bits (s.reg (Reg.QMG_IMTDATA 3)).toNat 25 16 ≠ 1023 ∧
       (s.port (s.portOf 1023)).training = false) ∧
    let s := { svc [] with pins := { dual := true } }
    s.visible (.host true) 0 = false := by
  refine ⟨?_, ?_⟩
  · unfold PlainReg; and_intros <;> decide +kernel
  · and_intros <;> decide +kernel

/-! ### Administration -/

def kv : Namespace := { kind := .kv, size := 4194304, cap := 1024 }

/-- Namespaces 1 to 4, of each kind, and the key index of namespace 2. -/
def spaced (s : State) : State :=
  { s with ns := [(1, some nvm), (2, some kv), (3, some { kind := .slm, size := 4096 }),
             (4, some { kind := .cprog, size := 0 })]
           idx := { kvns := [(0, 2)] } }

/-- The state with that one admin command in flight, and the command. -/
def sent (l : List (Nat × DWord)) : State := spaced (svc [adminCmd l])

/-- Each CNS form at the bounds of its NSID and in RECOVERY; the log pages, an offset within, at and past a page's end; features of
each kind with each SEL. -/
theorem wit_AdmReports :
    (∀ l ∈ [[(0, 6), (10, 1)], [(0, 6), (1, 1)], [(0, 6), (1, 256)], [(0, 6), (1, 0xFFFFFFFF)], [(0, 6)], [(0, 6), (1, 257)],
        [(0, 6), (10, 0x11), (1, 1)], [(0, 6), (10, 2)], [(0, 6), (10, 0x10)], [(0, 6), (10, 3)], [(0, 6), (10, 0x1C)], [(0, 6), (10, 4)],
        [(0, 6), (10, 0x1D)]],
      AdminCmd (sent l) 9 (adminCmd l) ∧ (adminCmd l).opcode = 0x06 ∧ (sent l).dev ≠ .recovery ∧
        AdminCmd { sent l with dev := .recovery } 9 (adminCmd l)) ∧
    (∀ l ∈ [[(0, 2), (10, 0xD2)], [(0, 2), (10, 0xD2), (12, 4096)], [(0, 2), (10, 0xD2), (12, 0xFFFFFFFF)], [(0, 2), (10, 7)],
        [(0, 2), (10, 0x8003)]],
      AdminCmd (sent l) 9 (adminCmd l) ∧ (adminCmd l).opcode = 0x02 ∧ AdminCmd { sent l with dev := .recovery } 9 (adminCmd l)) ∧
    (let c := { adminCmd [(0, 2), (10, 0xD2), (12, 512)] with data := List.replicate 512 0 }
     AdminCmd (spaced (svc [c])) 9 c ∧ c.f 10 7 0 = 0xD2 ∧ c.q 12 ≤ c.data.length) ∧
    (∀ l ∈ [[(0, 0xA), (10, 3)], [(0, 0xA), (10, 0x301)], [(0, 0xA), (10, 0x307)], [(0, 0xA), (10, 0x102)], [(0, 0xA), (10, 1)],
        [(0, 0xA), (10, 2)], [(0, 0xA), (10, 7)], [(0, 0xA), (10, 0xD)], [(0, 0xA), (10, 0x401)]],
      AdminCmd (sent l) 9 (adminCmd l) ∧ (adminCmd l).opcode = 0x0A) := by
  unfold AdminCmd Answerable
  and_intros <;> decide +kernel

/-- A feature set with SV and without: one that is not there, vector 2,047 and 2,048, each special one; the HMB on and off, with
1,024 and 1,025 entries. -/
theorem wit_AdmFeatures :
    (∀ l ∈ [[(0, 9), (10, 0x80000001)], [(0, 9), (10, 0x80000007)], [(0, 9), (10, 0x80000002)], [(0, 9), (10, 0x8000000D)],
        [(0, 9), (10, 3)], [(0, 9), (10, 9), (11, 2048)], [(0, 9), (10, 9), (11, 0x107FF)], [(0, 9), (10, 7)], [(0, 9), (10, 2), (11, 31)],
        [(0, 9), (10, 0xD), (11, 1), (15, 1024)], [(0, 9), (10, 0xD), (11, 1), (15, 1025)], [(0, 9), (10, 0xD)]],
      AdminCmd (sent l) 9 (adminCmd l) ∧ (adminCmd l).opcode = 0x09 ∧ Sparse.sorted (sent l).regs = true ∧
        ((sent l).port false).hmbOn = false) ∧
    (let c := adminCmd [(0, 9), (10, 0xD), (11, 1)]
     let s := { svc [c] with portA := { hmbOn := true } }
     AdminCmd s 9 c ∧ (s.port false).hmbOn = true) := by
  unfold AdminCmd Answerable
  and_intros <;> decide +kernel

/-- Every namespace of 1 to 256 in use. -/
def crowded (l : List (Nat × DWord)) : State :=
  { svc [adminCmd l] with ns := (List.range 256).map (fun i => (i + 1, some { kind := .cprog, size := 0 })) }

/-- The namespace 1, which command 8 uses. -/
def inUse (l : List (Nat × DWord)) : State := spaced (svc [adminCmd l, ioCmd [(0, 2), (1, 1)]])

/-- Creates that fail each check and one that does not; deletes, formats and sanitizes of a namespace in use, of one that is not, of
one that is absent or that another command deletes, of all, and of a device that is READ_ONLY. -/
theorem wit_AdmNamespaces :
    (∀ l ∈ [[(0, 0xD), (11, 0x2000000)], [(0, 0xD)], [(0, 0xD), (11, 0x4000000)], [(0, 0xD), (10, 2)]],
      AdminCmd (sent l) 9 (adminCmd l) ∧ (adminCmd l).opcode = 0x0D) ∧
    kindOf 2 = none ∧ kindOf 0 = some .nvm ∧ kindOf 4 = some .cprog ∧
    (let s := sent [(0, 0xD), (11, 0x4000000)]
     (s.newNs .nvm []).size = 0 ∧ (s.newNs .cprog []).cap = 0 ∧ s.nsOf 5 = none ∧ (∀ m < 5, 0 < m → s.nsOf m ≠ none) ∧
       3 < (s.newNs .nvm (List.replicate 26 0 ++ [4])).lbaf ∧
       (let v := s.newNs .nvm (leBytes 8 (2 ^ 40) ++ leBytes 8 (2 ^ 40))
        v.size = 2 ^ 40 ∧ v.cap = 2 ^ 40 ∧ v.pi = 0 ∧ v.lbaf = 0 ∧
          s.availOf (v :: s.spaces.map (·.2)) < s.fieldNow Reg.FTL_SPARE_CFG 15 8)) ∧
    (let l := [(0, 0xD), (11, 0x4000000)]
     AdminCmd (crowded l) 9 (adminCmd l) ∧ ∀ m < 257, 0 < m → (crowded l).nsOf m ≠ none) ∧
    (let l := [(0, 0xD), (10, 1), (1, 1)]
     AdminCmd (sent l) 9 (adminCmd l) ∧ (adminCmd l).f 10 3 0 = 1 ∧ Sparse.sorted (sent l).insts = true ∧
       Sparse.sorted (sent l).ns = true ∧ (adminCmd l).nsid ≠ full ∧ (sent l).nsOf 1 = some nvm ∧ nvm.deleting = none ∧
       (sent l).nsBusy 1 9 = false ∧ (inUse l).nsBusy 1 9 = true ∧ AdminCmd (inUse l) 9 (adminCmd l)) ∧
    (let l := [(0, 0xD), (10, 1), (1, 9)]
     AdminCmd (sent l) 9 (adminCmd l) ∧ (adminCmd l).f 10 3 0 = 1 ∧ (sent l).nsOf 9 = none) ∧
    (let l := [(0, 0xD), (10, 1), (1, 0xFFFFFFFF)]
     AdminCmd (sent l) 9 (adminCmd l) ∧ (adminCmd l).f 10 3 0 = 1 ∧ (adminCmd l).nsid = full ∧
       ∀ e ∈ (sent l).ns, (∀ v ∈ e.2, v.deleting = none) ∧ (sent l).nsBusy e.1 9 = false) ∧
    (let l := [(0, 0xD), (10, 1), (1, 1)]
     let s := { inUse l with ns := [(1, some { nvm with deleting := some 9 })] }
     let u := { inUse l with ns := [(1, some { nvm with deleting := some 7 })] }
     AdminCmd s 9 (adminCmd l) ∧ s.nsBusy 1 9 = true ∧ s.nsOf 1 = some { nvm with deleting := some 9 } ∧
       AdminCmd u 9 (adminCmd l) ∧ u.nsOf 1 = some { nvm with deleting := some 7 } ∧ 7 ≠ 9) ∧
    (∀ l ∈ [[(0, 0x80), (1, 1), (10, 0x600)], [(0, 0x80), (1, 1), (10, 4)], [(0, 0x80), (1, 1), (10, 0x20)], [(0, 0x80), (1, 1), (10, 3)],
        [(0, 0x80), (1, 1), (10, 0x400)]],
      AdminCmd (sent l) 9 (adminCmd l) ∧ (adminCmd l).opcode = 0x80 ∧ (adminCmd l).nsid ≠ full ∧ (sent l).nsOf 1 = some nvm ∧
        (sent l).health = .normal ∧ (sent l).nsBusy 1 9 = false ∧ AdminCmd (inUse l) 9 (adminCmd l) ∧ (inUse l).nsBusy 1 9 = true) ∧
    (∀ l ∈ [[(0, 0x80), (1, 9)], [(0, 0x80), (1, 0xFFFFFFFF)]],
      AdminCmd (sent l) 9 (adminCmd l) ∧ (adminCmd l).opcode = 0x80 ∧ (sent l).nsOf 9 = none ∧
        ∀ e ∈ (sent l).ns, (sent l).nsBusy e.1 9 = false) ∧
    (let l := [(0, 0x80), (1, 1)]
     let s := { sent l with health := .readOnly }
     AdminCmd s 9 (adminCmd l) ∧ s.health = .readOnly ∧ (adminCmd l).f 10 11 9 < 2) ∧
    (∀ l ∈ [[(0, 0x84)], [(0, 0x84), (10, 1)], [(0, 0x84), (10, 2)], [(0, 0x84), (10, 4)], [(0, 0x84), (10, 5)]],
      AdminCmd (sent l) 9 (adminCmd l) ∧ (adminCmd l).opcode = 0x84 ∧ Sparse.sorted (sent l).ns = true ∧
        (inUse l).nsOf 1 ≠ none ∧ (inUse l).nsBusy 1 9 = true ∧ ∀ e ∈ (sent l).ns, (sent l).nsBusy e.1 9 = false) := by
  unfold AdminCmd Answerable
  and_intros <;> decide +kernel

def staged (l : List (Nat × DWord)) (p : Power) : State := { sent l with pwr := p }

/-- The first 28 bytes of a package whose image has four bytes. -/
def packHead : List Byte := List.replicate 20 0 ++ [4, 0, 0, 0, 0, 0, 0, 0]

/-- Downloads that fail each check, an aligned and a last piece, one that comes while a Commit runs; commits that fail each check,
in RECOVERY and out of it. That a package is accepted takes an ECDSA signature over at least 64 KiB: no state is shown for that. -/
theorem wit_AdmFirmware :
    (∀ l ∈ [[(0, 0x11), (10, 0x200000)], [(0, 0x11), (10, 0x3FF), (11, 0x3EFC01)], [(0, 0x11), (10, 0), (11, 1)],
        [(0, 0x11), (10, 0), (11, 0x10000)], [(0, 0x11), (10, 0x3FF), (11, 0)], [(0, 0x11), (10, 0x3FF), (11, 0x400)]],
      AdminCmd (staged l { staging := [(0, packHead)] }) 9 (adminCmd l) ∧ (adminCmd l).opcode = 0x11) ∧
    (let e : Nat × List Byte := (0, packHead)
     [e].find? (fun e => decide (e.1 = 0)) = some (0, packHead) ∧ 28 ≤ packHead.length ∧ 4 * 0x10000 + 4 = packageLen packHead) ∧
    (let l := [(0, 0x11)]
     AdminCmd (staged l { commit := some 7 }) 9 (adminCmd l)) ∧
    (∀ l ∈ [[(0, 0x10), (10, 0x18)], [(0, 0x10), (10, 3)], [(0, 0x10), (10, 1)], [(0, 0x10), (10, 2)], [(0, 0x10), (10, 8)],
        [(0, 0x10), (10, 0x10)], [(0, 0x10), (10, 0x12)]],
      let s := staged l {}
      AdminCmd s 9 (adminCmd l) ∧ (adminCmd l).opcode = 0x10 ∧ s.dev = .service ∧ s.pwr.commit = none ∧ s.pins.dual = false ∧
        AdminCmd { s with dev := .recovery } 9 (adminCmd l)) ∧
    (let l := [(0, 0x10), (10, 2)]
     let s := staged l {}
     s.fwSlot 1 = s.car.booted ∧ s.fwSlot 2 ≠ s.car.booted ∧ s.pwr.stale = false ∧ s.packageOk = false ∧
       s.carSuspect (bootSector (s.fwSlot 2)) 4 = false ∧ blkCheck s.pwr.fuses (s.blkBytes (s.fwSlot 2)) (s.blkMedia (s.fwSlot 2)) ≠ 0) ∧
    (let l := [(0, 0x10), (10, 2)]
     let s := staged l { stale := true }
     AdminCmd s 9 (adminCmd l) ∧ s.pwr.stale = true) ∧
    (let l := [(0, 0x10), (10, 2)]
     let s := staged l { commit := some 7 }
     AdminCmd s 9 (adminCmd l) ∧ s.dev = .service ∧ s.pwr.commit = some 7 ∧ 7 ≠ 9) ∧
    (let l := [(0, 0x10), (10, 2)]
     let s := { staged l {} with pins := { dual := true }, regs := [(Reg.HIF_PORT_CFG, 1)] }
     AdminCmd s 9 (adminCmd l) ∧ s.pins.dual = true ∧ false ≠ s.ownerPort) := by
  unfold AdminCmd Answerable
  and_intros <;> decide +kernel

/-- The state with that one I/O command in flight. -/
def issued (c : Cmd) : State := spaced (svc [c])

/-- A program of one code word. -/
def program : List Byte := [0x53, 0x4B, 0x56, 0x5A, 1, 0, 64, 0, 66, 0, 0, 0, 1] ++ List.replicate 11 0 ++
  [0x47, 0x69, 0xA0, 0x9B, 1, 0, 0, 0, 0x69, 0x64] ++ List.replicate 32 0

/-- Loads and activations that fail each check and one of each that does not; SLM reads and writes at the bounds. -/
theorem wit_PrgAndSlm :
    (∀ l ∈ [[(0, 0x85), (1, 1)], [(0, 0x85), (1, 4), (10, 2)], [(0, 0x85), (1, 4)], [(0, 0x85), (1, 4), (13, 66)], [(0, 0x85), (1, 4), (10, 1)],
        [(0, 0x85), (1, 4), (10, 1), (12, 1)], [(0, 0x85), (1, 4), (13, 8388609)], [(0, 0x8085), (1, 4), (13, 66)]],
      Answerable (issued (ioCmd l)) 8 (ioCmd l) ∧ (ioCmd l).opcode = 0x85) ∧
    (let c := ioCmd [(0, 0x85), (1, 4), (11, 63), (13, 66)]
     let s := issued c
     s.kindNs c .cprog = some { kind := .cprog, size := 0 } ∧ c.f 10 31 4 = 0 ∧ c.f 11 31 6 = 0 ∧ c.f 0 13 8 = 0 ∧
       c.zero [2, 3, 4, 5, 14, 15] = true ∧ (c.d 13).toNat ≤ program.length ∧ (s.prog false 63).active = false ∧
       (c.d 12).toNat = (s.prog false 63).bytes.length ∧ ((s.prog false 63).bytes ++ program.take 66).length ≤ leField program 8 4 ∧
       c.zero [6, 7, 8, 9, 12] = true ∧ Sparse.sorted s.progs = true ∧ (ioCmd [(0, 0x8085), (1, 4), (13, 66)]).sgl = true ∧
       (ioCmd [(0, 0x85), (1, 1)]).nsid = 1 ∧ s.kindNs (ioCmd [(1, 1)]) .cprog = none) ∧
    (∀ l ∈ [[(0, 0x85), (1, 4)], [(0, 0x88), (1, 4)]],
      let c := adminCmd l
      let s := spaced (svc [c])
      Answerable s 9 c ∧ c.admin = true ∧ (∀ a ∈ (s.inst c.inst).attach, a.1 ≠ c.nsid) ∧
        (s.kindNs c .cprog).isSome = true) ∧
    (let c := ioCmd [(0, 0x88), (1, 4), (10, 1), (11, 63)]
     let s := { issued c with progs := [(63, { bytes := program })] }
     Answerable s 8 c ∧ c.opcode = 0x88 ∧ s.kindNs c .cprog = some { kind := .cprog, size := 0 } ∧ c.f 10 31 4 = 0 ∧
       c.f 11 31 6 = 0 ∧ c.f 0 13 8 = 0 ∧ c.zero [2, 3, 4, 5, 6, 7, 8, 9, 12, 13, 14, 15] = true ∧ (s.prog false 63).active = false ∧
       64 ≤ program.length ∧ program.length = leField program 8 4 ∧ skovzitOk program = true ∧
       (s.activeProgs.map (·.codeWords)).sum + (progInfo 63 0 program).codeWords ≤ 63488 ∧
       (s.activeProgs.map (·.ldWords)).sum + (progInfo 63 0 program).ldWords ≤ 32768 ∧ s.codeRuns = [] ∧ s.strands = [] ∧
       ¬ (skovzitOk (program.take 65 ++ [1]) = true) ∧ (s.prog false 62).bytes = []) ∧
    (let c := ioCmd [(0, 0x88), (1, 4), (10, 1), (11, 63)]
     let s := { issued c with progs := [(63, { bytes := program, active := true })] }
     Answerable s 8 c ∧ (s.prog false 63).active = true) ∧
    (∀ l ∈ [[(0, 2), (1, 3), (12, 8388609)], [(0, 2), (1, 3), (12, 4097)], [(0, 0x8002), (1, 3), (12, 1)], [(0, 2), (1, 3), (12, 4096)]],
      Answerable (issued (ioCmd l)) 8 (ioCmd l) ∧ (ioCmd l).admin = false ∧ (ioCmd l).opcode = 0x02 ∧
        (issued (ioCmd l)).kindNs (ioCmd l) .slm = some { kind := .slm, size := 4096 } ∧ (issued (ioCmd l)).slmPlaced = true) ∧
    (let s := { issued (ioCmd [(0, 2), (1, 3), (12, 1)]) with dram := { slmPoison := [slmKey 3 0 / 64] } }
     ∃ l ∈ s.dram.slmPoison, ∃ b, b < 1 ∧ slmKey 3 (0 + b) / 64 = l) ∧
    (let s := { issued (ioCmd [(0, 2), (1, 3)]) with dram := { placed := [true, true, true, false] } }
     s.slmPlaced = false) ∧
    (∀ l ∈ [[(0, 5), (1, 3), (12, 8388609)], [(0, 5), (1, 3), (12, 4097)], [(0, 0x8005), (1, 3), (12, 1)], [(0, 5), (1, 3), (10, 4095), (12, 1)]],
      Answerable (issued (ioCmd l)) 8 (ioCmd l) ∧ (ioCmd l).opcode = 0x05 ∧ (ioCmd l).ro = false ∧
        (issued (ioCmd l)).kindNs (ioCmd l) .slm = some { kind := .slm, size := 4096 } ∧ Sparse.sorted (issued (ioCmd l)).dram.slm = true) ∧
    (let c := { ioCmd [(0, 5), (1, 3), (12, 1)] with ro := true }
     Answerable (issued c) 8 c ∧ c.ro = true) := by
  unfold Answerable
  and_intros <;> decide +kernel

/-! ### NVM commands -/

/-- One block of zeros. -/
def block : List Byte := List.replicate 4096 0

theorem answerable_issued (c : Cmd) (h1 : c.tag = 8) (h2 : c.dead = false) (h3 : c.expired = false) (h4 : c.inst = 1) (h5 : c.gen = 0)
    (h6 : c.cq = 1) : Answerable (issued c) 8 c := by
  refine ⟨?_, h2, h3, ?_, ?_, ?_, rfl, rfl⟩
  · simp [issued, spaced, svc, State.cmd?, h1]
  · rw [h4, h5]; rfl
  · rw [h6]; rfl
  · rw [h6]; rfl

/-- A media read for command 8 that waits at LUN 0 of channel 0. -/
def waiting (s : State) : State :=
  { s with luns := [(0, { state := .active, queue := [{ id := 1, kind := .read, cls := 0, block := 0, tag := some 8 }] })] }

/-- A device that rebuilds its directory; one whose segment 0 is not resident, with a segment that may leave and without. -/
def unbuilt (s : State) : State := { s with rebuild := { phase := 1 } }
def paged (room : Nat) (homed : Bool) (s : State) : State :=
  { s with ftl := { s.ftl with segs := [(0, { resident := false, homed := homed })], drawer := { room := some room } } }

/-- A namespace with protection information of type 1. -/
def guarded : Namespace := { nvm with lbaf := 2, pi := 1 }

/-- Reads, compares and verifies that fail each check and that pass it; the map in place and not; media reads done and not; each
outcome. -/
theorem wit_NvmReads :
    ((spaced (svc [])).spanEntry 1 63 = 0 ∧ (1, 63, 63) ∉ (spaced (svc [])).dram.grains ∧ nvm.pi = 0) ∧
    (∀ l ∈ [[(0, 2), (1, 1), (12, 2048)], [(0, 2), (1, 1), (10, 4095), (12, 1)], [(0, 0x8002), (1, 1)], [(0, 2), (1, 1), (10, 4095)]],
      Answerable (issued (ioCmd l)) 8 (ioCmd l) ∧ (ioCmd l).admin = false ∧ (ioCmd l).opcode = 0x02 ∧
        (issued (ioCmd l)).kindNs (ioCmd l) .nvm = some nvm ∧ (ioCmd l).phase = .fetched ∧ (issued (ioCmd l)).health ≠ .failed ∧
        (ioCmd l).piBad nvm (ioCmd l).slba = false) ∧
    (∀ l ∈ [[(0, 5), (1, 1)], [(0, 0x0C), (1, 1), (12, 4095)]],
      Answerable (issued (ioCmd l)) 8 (ioCmd l) ∧ (issued (ioCmd l)).kindNs (ioCmd l) .nvm = some nvm ∧
        (ioCmd l).slba + (ioCmd l).blocks ≤ nvm.size) ∧
    (let c := ioCmd [(0, 2), (1, 1)]
     let s := { issued c with health := .failed }
     Answerable s 8 c ∧ s.kindNs c .nvm = some nvm ∧ s.health = .failed) ∧
    (let c := ioCmd [(0, 2), (1, 1), (12, 0x04000000), (14, 1)]
     let s := { issued c with ns := [(1, some guarded)] }
     Answerable s 8 c ∧ s.kindNs c .nvm = some guarded ∧ c.piBad guarded c.slba = true) ∧
    (let c := ioCmd [(0, 2), (1, 1)]
     let names := (lbaSpans c.slba c.blocks).map (·.1)
     let parts := (issued c).partsOf c.nsid names
     let segs := (issued c).segsFor c.nsid names
     InPlace (issued c) parts segs ∧
       Answerable (unbuilt (issued c)) 8 c ∧ parts.find? (unbuilt (issued c)).unbuilt = some (0, 0) ∧
       Answerable (paged 0 false (issued c)) 8 c ∧ segs = [0] ∧ (paged 0 false (issued c)).segLost 0 = true ∧
       Answerable (paged 0 true (issued c)) 8 c ∧ (paged 0 true (issued c)).segLost 0 = false) ∧
    (let c := ioCmd [(0, 2), (1, 1)]
     c.blocks = 1 ∧ (issued c).readGrain [] nvm c.nsid (c.slba / 64) (c.slba % 64) = .ok (zeroGrain nvm)) ∧
    (∀ c ∈ [{ ioCmd [(0, 2), (1, 1)] with phase := .active, issued := true, badImgs := [(0, 0)] },
        { ioCmd [(0, 2), (1, 1)] with phase := .active, issued := true, rd := some ⟨.unrecoveredRead, 0, 0, 0⟩ },
        { ioCmd [(0, 0x0C), (1, 1)] with phase := .active, issued := true }],
      Answerable (issued c) 8 c ∧ (issued c).kindNs c .nvm = some nvm ∧ c.phase = .active ∧ c.issued = true ∧
        (issued c).ioDone 8 = true ∧ (waiting (issued c)).ioDone 8 = false ∧ Answerable (waiting (issued c)) 8 c) ∧
    (∀ o, let c := { ioCmd [(0, o), (1, 1)] with phase := .active, issued := true, data := block }
      Answerable (issued c) 8 c ∧ c.data = [block].flatten) := by
  have h (o : DWord) := answerable_issued { ioCmd [(0, o), (1, 1)] with phase := .active, issued := true, data := block } rfl rfl rfl rfl rfl rfl
  refine ⟨?_, ?_, ?_, ?_, ?_, ?_, ⟨by decide +kernel, rfl⟩, ?_, fun o => ⟨h o, (List.append_nil block).symm⟩⟩ <;> (try unfold Answerable) <;>
    (try unfold InPlace) <;> and_intros <;> decide +kernel

/-- Writes, Write Zeroes and deallocations that fail each check and that pass it, at the bounds of the range; dirty data within its
limit and at it. -/
theorem wit_NvmWrites :
    (∀ l ∈ [[(0, 1), (1, 1), (12, 2048)], [(0, 1), (1, 1), (10, 4095), (12, 1)], [(0, 0x8001), (1, 1)], [(0, 1), (1, 1), (10, 4095)],
        [(0, 8), (1, 1), (12, 4095)], [(0, 8), (1, 1), (12, 0x2000FFF)], [(0, 9), (1, 1)], [(0, 9), (1, 1), (11, 4)]],
      Answerable (issued (ioCmd l)) 8 (ioCmd l) ∧ (ioCmd l).admin = false ∧ (ioCmd l).opcode ∈ [1, 8, 9] ∧
        (issued (ioCmd l)).kindNs (ioCmd l) .nvm = some nvm ∧ (ioCmd l).phase = .fetched ∧ (ioCmd l).piBad nvm (ioCmd l).slba = false) ∧
    (let c := ioCmd [(0, 1), (1, 1), (10, 4095)]
     let s := issued c
     let names := (lbaSpans c.slba c.blocks).map (·.1)
     c.slba + c.blocks ≤ nvm.size ∧ bufLen nvm c.blocks ≤ block.length ∧ metaLen nvm c.blocks ≤ 0 ∧ s.health ≠ .failed ∧
       s.health ≠ .readOnly ∧ s.chest.failed = false ∧ c.ro = false ∧ c.hostNs nvm = nvm ∧ c.piCheck nvm [block] = none ∧
       s.nuseNvm c.nsid + s.newUnits c.nsid (lbaSpans c.slba c.blocks) ≤ nvm.cap ∧
       (∀ p ∈ lbaSpans c.slba c.blocks, s.partialBad c.nsid p.1 = false) ∧ (s.ftl.slots.map (·.idx)).Nodup ∧
       InPlace s (s.partsOf c.nsid names) (s.segsFor c.nsid names) ∧ 0 < bufLen nvm c.blocks ∧
       Answerable (unbuilt s) 8 c ∧ (s.partsOf c.nsid names).find? (unbuilt s).unbuilt = some (0, 0)) ∧
    (let c := ioCmd [(0, 1), (1, 1), (12, 0x04000000), (14, 1)]
     let s := { issued c with ns := [(1, some guarded)] }
     Answerable s 8 c ∧ s.kindNs c .nvm = some guarded ∧ c.piBad guarded c.slba = true) ∧
    (let c := ioCmd [(0, 1), (1, 1), (12, 0x10000000)]
     let s := { issued c with ns := [(1, some guarded)] }
     Answerable s 8 c ∧ s.kindNs c .nvm = some guarded ∧ c.piBad guarded c.slba = false ∧ c.pract = false ∧
       c.piCheck guarded (blocksOf guarded block (List.replicate 16 0) 1) = some .guardCheck) ∧
    (∀ r ∈ [(0, 64), (4095, 1)], r.1 + r.2 ≤ nvm.size) ∧
    (∀ h ∈ [Health.failed, .readOnly],
      let c := ioCmd [(0, 1), (1, 1)]
      Answerable { issued c with health := h } 8 c ∧ ({ issued c with health := h } : State).kindNs c .nvm = some nvm) ∧
    (let c := ioCmd [(0, 1), (1, 1)]
     let s := { issued c with ns := [(1, some { nvm with cap := 0 })] }
     Answerable s 8 c ∧ ¬ s.nuseNvm c.nsid + s.newUnits c.nsid (lbaSpans c.slba c.blocks) ≤ 0) ∧
    (let c := ioCmd [(0, 1), (1, 1)]
     let i : Img := { ch := 0, maddr := 0, len := 8, shelf := false, raw := true, nsid := 1, span := 0, bytes := [], keyGen := 0, unreadable := true }
     let s := { issued c with ftl := { imgs := [i], span := [(spanKey 1 0, mkEntry false false false false true 0 8 0)], grainGib := 0 } }
     Answerable s 8 c ∧ s.partialBad 1 0 = true ∧ ∀ p ∈ lbaSpans c.slba c.blocks, p.1 = 0 ∧ p.2.length < 64) ∧
    (let c := ioCmd [(0, 8), (1, 1), (10, 4095)]
     let s := issued c
     lbaSpans c.slba c.blocks = [(63, [63])] ∧ s.dirtyBytes + 4096 ≤ s.dirtyMax) ∧
    (let c := { ioCmd [(0, 8), (1, 1), (10, 4095)] with phase := .active }
     let s := { issued c with ftl := { wbGib := 0 } }
     Answerable s 8 c ∧ c.phase = .active ∧ s.dirtyMax < s.dirtyBytes + 4096) := by
  unfold Answerable InPlace
  and_intros <;> decide +kernel

/-- Acknowledgements with and without a record, a failure of each kind, FUA, a deallocation; a Flush that waits and one that does not. -/
theorem wit_NvmOrder :
    (∀ c ∈ [{ ioCmd [(0, 1), (1, 1)] with phase := .received }, { ioCmd [(0, 0x81), (1, 1)] with phase := .received },
        { ioCmd [(0, 1), (1, 1), (12, 0x40000000)] with phase := .received }, { ioCmd [(0, 9), (1, 1)] with phase := .received },
        { ioCmd [(0, 1), (1, 1)] with phase := .received, fail := some (.capacityExceeded, 0, 0) },
        { ioCmd [(0, 1), (1, 1)] with phase := .received, fail := some (.unrecoveredRead, 0, 0) }],
      Answerable (issued c) 8 c ∧ c.admin = false ∧ c.phase = .received ∧ (issued c).chest.pending = [] ∧ c.encodes = 0 ∧ c.shards = 0 ∧
        (issued c).ftl.slots = []) ∧
    (let c := ioCmd [(0, 1), (1, 1)]
     Answerable (issued c) 8 c ∧ c.phase ≠ .received) ∧
    (let c := { ioCmd [(0, 0), (1, 1)] with waits := [7] }
     Answerable (issued c) 8 c ∧ c.admin = false ∧ c.opcode = 0x00 ∧ (issued c).chest.pending = [] ∧ (issued c).ftl.slots = []) ∧
    (let c := { ioCmd [(0, 0), (1, 1)] with waits := [7] }
     let s := { issued c with chest := { pending := [⟨1, .slot 0 7⟩] } }
     Answerable s 8 c ∧ ∃ x ∈ c.waits, ∃ r ∈ s.chest.pending, r.change.tag? = some x) := by
  unfold Answerable
  and_intros <;> decide +kernel

/-! ### Instances -/

/-- The state with that one admin command in flight, its fetch having taken it. -/
def takenAdmin (l : List (Nat × DWord)) : Cmd := { adminCmd l with checked := true, data := [1] }

/-- Creates that fail each check and one of each kind that does not; shares, attachments and queries at their bounds; each command
taken at its fetch and not. -/
theorem wit_InsManage :
    (∀ l ∈ [[(0, 0xC0)], [(0, 0xC1)], [(0, 0xC2)], [(0, 0xC3)], [(0, 0xC4)], [(0, 0xC5)], [(0, 0xC8)], [(0, 0xC9)], [(0, 0xCA)], [(0, 0xCD)]],
      AdminCmd (sent l) 9 (adminCmd l) ∧ (adminCmd l).checked = false ∧ bitOf ((adminCmd l).d 14).toNat 0 = false ∧
        ((sent l).cmds.map (·.tag)).Nodup ∧
        AdminCmd (spaced (svc [takenAdmin l])) 9 (takenAdmin l) ∧ (takenAdmin l).checked = true ∧ (takenAdmin l).data ≠ []) ∧
    (∀ st ∈ [InstState.resetting, .deleting, .active],
      let c := adminCmd [(0, 0xC0), (10, 1), (11, 6)]
      let s := { svc [c] with insts := [(0, { state := .active, share := 1, shareNow := 1 }), (1, { state := st })] }
      AdminCmd s 9 c ∧ (s.inst c.row).state = st ∧ s.inPort false c.row = true ∧ s.isManager c.row = false) ∧
    (let c := adminCmd [(0, 0xC0), (6, 4)]
     AdminCmd (svc [c]) 9 c ∧ c.prp1 % 8 ≠ 0) ∧
    (∀ l ∈ [[(0, 0xC2), (10, 2)], [(0, 0xC4), (10, 2)], [(0, 0xC2), (10, 0x400)], [(0, 0xC4), (10, 0x400)]],
      AdminCmd (sent l) 9 (adminCmd l) ∧ (sent l).rowCheck (adminCmd [(10, 2)]) false = some .invalidField) ∧
    (∀ l ∈ [[(0, 0xC0), (10, 0x400)], [(0, 0xC0)], [(0, 0xC0), (10, 2), (11, 5)], [(0, 0xC0), (10, 2), (11, 6), (12, 0x10000)],
        [(0, 0xC0), (10, 1023), (11, 6), (12, 65534)], [(0, 0xC0), (10, 0x80000000), (11, 6), (13, 65535)],
        [(0, 0xC0), (10, 2), (11, 6), (14, 1)]],
      AdminCmd (sent l) 9 (adminCmd l) ∧ (adminCmd l).opcode = 0xC0 ∧ (adminCmd l).prp1 % 8 = 0) ∧
    (let c := adminCmd [(0, 0xC0), (10, 1023), (11, 6), (12, 65534)]
     let s := sent [(0, 0xC0), (10, 1023), (11, 6), (12, 65534)]
     c.fits [(10, 2 ^ 31 + 0x3FF), (11, 0xFFFFF), (12, 0x1FFFF), (13, 0xFFFF), (14, 1)] = true ∧ s.inPort false c.row = true ∧
       s.isManager c.row = false ∧ (s.inst c.row).state = .free ∧ (∀ e ∈ s.insts, e.2.state ≠ .free → e.2.pasid ≠ some 6) ∧
       s.shareSum false none + 65534 ≤ s.shareMax ∧ Sparse.sorted s.regs = true ∧ (s.inst 2).state = .free ∧
       nsBits (slice (List.replicate 80 0 ++ [0x20]) 80 32) = [6] ∧ s.nsOf 6 = none) ∧
    (∀ l ∈ [[(0, 0xC2)], [(0, 0xC2), (10, 1)], [(0, 0xC2), (10, 1), (11, 65535)], [(0, 0xC2), (10, 1), (11, 65536)]],
      AdminCmd (sent l) 9 (adminCmd l) ∧ (adminCmd l).opcode = 0xC2 ∧ (adminCmd l).fits [(10, 0x3FF), (11, 0x1FFFF)] = true ∧
        (sent l).rowCheck (adminCmd l) false = none ∧ Sparse.sorted (sent l).insts = true) ∧
    (∀ l ∈ [[(0, 0xC4), (10, 1)], [(0, 0xC4), (10, 1), (11, 257)], [(0, 0xC4), (10, 1), (11, 4), (12, 1)],
        [(0, 0xC4), (10, 1), (11, 256), (12, 1)], [(0, 0xC4), (10, 1), (11, 256)], [(0, 0xC4), (10, 1), (11, 1), (12, 2)]],
      AdminCmd (sent l) 9 (adminCmd l) ∧ (adminCmd l).opcode = 0xC4 ∧ (adminCmd l).fits [(10, 0x3FF), (11, full), (12, 3)] = true ∧
        (sent l).rowCheck (adminCmd l) false = none) ∧
    (4, false) ∈ ((sent []).inst 1).attach ∧ (sent []).nsOf 1 = some nvm ∧
    (∀ l ∈ [[(0, 0xC5), (10, 0x400)], [(0, 0xC5), (10, 1023)]], AdminCmd (sent l) 9 (adminCmd l) ∧ (adminCmd l).opcode = 0xC5) ∧
    (adminCmd [(0, 0xC5), (10, 1023)]).fits ((10, 0x3FF) :: prp1Masks) = true := by
  unfold AdminCmd Answerable
  and_intros <;> decide +kernel

/-- A reset and a delete of instance 1, of one that may not be reset, and their ends after 3 and 4 beats. -/
theorem wit_InsReset :
    (∀ l ∈ [[(0, 0xC3), (10, 1)], [(0, 0xC1), (10, 1)]],
      AdminCmd (sent l) 9 (adminCmd l) ∧ (adminCmd l).fits [(10, 0x3FF)] = true ∧ (sent l).rowCheck (adminCmd l) true = none) ∧
    (∀ l ∈ [[(0, 0xC3)], [(0, 0xC1)]],
      AdminCmd (sent l) 9 (adminCmd l) ∧ (adminCmd l).fits [(10, 0x3FF)] = true ∧
        (sent l).rowCheck (adminCmd l) true = some .invalidField) ∧
    (∀ l ∈ [[(0, 0xC3), (10, 0x400)], [(0, 0xC1), (10, 0x400)]],
      AdminCmd (sent l) 9 (adminCmd l) ∧ (adminCmd l).fits [(10, 0x3FF)] = false ∧
        AdminCmd (spaced (svc [takenAdmin l])) 9 (takenAdmin l)) ∧
    (let a := adminCmd [(0, 0xC3), (10, 1)]
     let x := { ioCmd [(0, 1), (1, 1)] with phase := .received }
     let s := spaced (svc [a, x, { x with tag := 7, phase := .active }])
     AdminCmd s 9 a ∧ s.rowCheck a true = none ∧ (s.cmds.map (·.tag)).Nodup ∧ s.gotAll x = true ∧
       s.gotAll { x with tag := 7, phase := .active } = false ∧ Sparse.sorted s.insts = true) ∧
    (∀ st ∈ [InstState.resetting, .deleting], ∀ n ∈ [3, 4],
      let c := adminCmd [(0, 0xC3), (10, 1)]
      let s := { svc [c] with insts := [(0, { state := .active }), (1, { state := st, mgmtTag := 9, drain := n })] }
      AdminCmd s (s.inst 1).mgmtTag c ∧ 1 ≠ c.inst ∧ (s.inst 1).state = st ∧ (s.inst 1).drain = n ∧ Sparse.sorted s.insts = true ∧
        s.ksu.slots.length = 64) := by
  unfold AdminCmd Answerable
  and_intros <;> decide +kernel

/-- A log of the last page, one past it and one on top of a running log; a harvest and a stop of each kind; peer entries at both
ends; a tolerance. -/
theorem wit_InsLogs :
    (∀ l ∈ [[(0, 0xC8), (10, 1), (6, 8)], [(0, 0xC8), (10, 1), (11, 0xFFFFFFFF), (12, 0xFFFFF)],
        [(0, 0xC8), (10, 1), (11, 0xFFFFFFFF), (12, 0xFFFFF), (13, 1)]],
      AdminCmd (sent l) 9 (adminCmd l) ∧ (adminCmd l).opcode = 0xC8 ∧
        (adminCmd l).fits ([(10, 0x3FF), (11, full), (12, 0xFFFFF), (13, full)] ++ prp1Masks ++ prp2Masks) = true ∧
        (sent l).rowCheck (adminCmd l) false = none ∧ ((sent l).inst 1).dlog.running = false) ∧
    (∀ d ∈ [{ running := true, pend := [5] }, { running := true, fault := true }, ({} : DirtyLog)],
      ∀ l ∈ [[(0, 0xC9), (10, 1)], [(0, 0xCA), (10, 1)], [(0, 0xC8), (10, 1)]],
      let c := adminCmd l
      let s := { svc [c] with insts := [(0, { state := .active }), (1, { state := .active, dlog := d })] }
      AdminCmd s 9 c ∧ c.fits [(10, 0x3FF)] = true ∧ s.rowCheck c false = none ∧ (s.inst 1).dlog = d ∧ c.row ≠ c.inst ∧
        c.checked = false ∧ Sparse.sorted s.insts = true ∧
        AdminCmd (spaced (svc [takenAdmin l])) 9 (takenAdmin l)) ∧
    (∀ l ∈ [[(0, 0xC8), (10, 2)], [(0, 0xC9), (10, 2)], [(0, 0xCA), (10, 2)], [(0, 0xC8), (10, 0x400)], [(0, 0xC9), (10, 0x400)],
        [(0, 0xCD), (11, 0x1000000)]],
      AdminCmd (sent l) 9 (adminCmd l) ∧ (sent l).rowCheck (adminCmd [(10, 2)]) false = some .invalidField ∧
        (sent l).rowCheck (adminCmd [(10, 2)]) true = some .invalidField) ∧
    (∀ l ∈ [[(0, 0xCC)], [(0, 0xCC), (11, 1)], [(0, 0xCC), (10, 127), (11, 1)], [(0, 0xCC), (10, 127), (11, 2)], [(0, 0xCC), (11, 128)]],
      AdminCmd (sent l) 9 (adminCmd l) ∧ (adminCmd l).opcode = 0xCC ∧ (adminCmd l).fits ([(10, 0x7F), (11, 0xFF)] ++ prp1Masks) = true) ∧
    (∀ k < 128, peerFits (slice (List.replicate 2048 0) (16 * k) 16) = true) ∧
    (let l := [(0, 0xCD), (11, 0xFFFFFF)]
     AdminCmd (sent l) 9 (adminCmd l) ∧ (adminCmd l).opcode = 0xCD ∧ (adminCmd l).fits [(11, 0xFFFFFF)] = true ∧
       Sparse.sorted (sent l).regs = true) := by
  unfold AdminCmd Answerable
  and_intros <;> decide +kernel

/-! ### Key Value commands -/

/-- The key 61H of namespace 2 with a value of 5 bytes at span number 3, in the first slot of its first bucket. -/
def keyed : Idx :=
  let x : Idx := { kvns := [(0, 2)] }
  let e : IdxEntry := .key 0 [0x61] 5 3
  x.put (x.placeOf e).1 (.bucket (x.placeOf e).2.1 0) e

/-- Command 8 in flight, the namespaces, and the key index of `keyed`. -/
def kvIssued (c : Cmd) : State := { issued c with idx := keyed }

/-- Keys of 0, 1, 16 and 17 bytes, present and absent; a device that has failed; reads in flight, done and failed; a list. -/
theorem wit_KvLookups :
    (∀ l ∈ [[(0, 0x14), (1, 2)], [(0, 0x14), (1, 2), (2, 0x61), (11, 1)], [(0, 0x10), (1, 2)], [(0, 0x10), (1, 2), (2, 0x61), (11, 1)], [(0, 2), (1, 2)], [(0, 2), (1, 2), (2, 0x61), (11, 1)], [(0, 0x14), (1, 2), (2, 0x62), (11, 1)], [(0, 0x10), (1, 2), (11, 16)], [(0, 2), (1, 2), (11, 17)]],
      KvCmd (kvIssued (ioCmd l)) 8 (ioCmd l) (ioCmd l).opcode kv 0 ∧ (ioCmd l).phase = .fetched) ∧
    (let c := ioCmd [(0, 2), (1, 2), (2, 0x61), (11, 1)]
     let s := { kvIssued c with health := .failed }
     KvCmd s 8 c 2 kv 0 ∧ s.health = .failed ∧ s.writeCheck c = some .internalError) ∧
    (∀ c ∈ [{ ioCmd [(0, 2), (1, 2), (2, 0x61), (11, 1)] with phase := .active, issued := true, badImgs := [(0, 0)] },
        { ioCmd [(0, 2), (1, 2), (2, 0x61), (11, 1)] with phase := .active, issued := true }],
      KvCmd (kvIssued c) 8 c 2 kv 0 ∧ (kvIssued c).ioDone 8 = true ∧ KvCmd (waiting (kvIssued c)) 8 c 2 kv 0 ∧
        (waiting (kvIssued c)).ioDone 8 = false) ∧
    (∀ l ∈ [[(0, 6), (1, 2), (10, 4096)], [(0, 6), (1, 2), (2, 0x61), (11, 16)], [(0, 6), (1, 2), (11, 17)]],
      KvCmd (kvIssued (ioCmd l)) 8 (ioCmd l) 6 kv 0 ∧ (ioCmd l).phase = .fetched) := by
  unfold KvCmd IoCmd Answerable
  and_intros <;> decide +kernel

theorem wit_KvLookups_values :
    (let c := ioCmd [(0, 2), (1, 2), (2, 0x61), (11, 1), (10, 4096)]
     let s := kvIssued c
     s.lookup 0 c.key = some (5, 3) ∧ s.lookup 0 [0x62] = none ∧ s.health ≠ .failed ∧ s.writeCheck c = none ∧
       spansOfLen (min 5 (c.d 10).toNat) = 1 ∧
       (match s.readKvSpan [] kv c.nsid 3 (kvSpanLen 5 0) with
        | .ok b => b == [0, 0, 0, 0, 0]
        | .error _ => false) = true) := by
  and_intros <;> decide +kernel

theorem wit_KvLookups_mapped :
    (let c := ioCmd [(0, 2), (1, 2), (2, 0x61), (11, 1), (10, 4096)]
     let s := kvIssued c
     InPlace s [(1, s.keyPart 0 c.key)] [] ∧ InPlace s (s.partsOf c.nsid [3]) (s.segsFor c.nsid [3]) ∧
       KvCmd (unbuilt s) 8 c 2 kv 0 ∧ (unbuilt s).unbuilt (1, s.keyPart 0 c.key) = true) ∧
    (let c := ioCmd [(0, 6), (1, 2), (10, 4096)]
     KvCmd (unbuilt (kvIssued c)) 8 c 6 kv 0 ∧ (unbuilt (kvIssued c)).rebuild.phase = 1 ∧
       ∀ p, (kvIssued c).unbuilt (1, p) = false) ∧
    (let c := { ioCmd [(0, 2), (1, 2), (2, 0x61), (11, 1)] with phase := .active, issued := true, rd := some ⟨.dcmpIllegal, 0, 0, 3⟩ }
     KvCmd (kvIssued c) 8 c 2 kv 0 ∧ (kvIssued c).ioDone 8 = true) := by
  unfold KvCmd IoCmd Answerable InPlace
  and_intros <;> first | decide +kernel | (intro p; rfl)

/-- A batch of one Insert of the key 61H, one Store of 62H, and both of one key. -/
def insert61 : List Byte := [2, 0, 0, 0, 1, 0, 0, 0] ++ List.replicate 8 0 ++ [0x61] ++ List.replicate 15 0
def store62 : List Byte := [1, 0, 0, 0, 1, 0, 0, 0] ++ List.replicate 8 0 ++ [0x62] ++ List.replicate 15 0

/-- Stores and batches that fail each check and one of each that does not; a value of 0 bytes and of 8 MiB; the commit points of a
store, a delete and a batch. -/
theorem wit_KvStores :
    (∀ l ∈ [[(0, 1), (1, 2)], [(0, 1), (1, 2), (11, 1), (10, 8388609)], [(0, 0x8001), (1, 2), (11, 1), (10, 1)],
        [(0, 1), (1, 2), (11, 1), (10, 1)], [(0, 1), (1, 2), (11, 1)], [(0, 1), (1, 2), (11, 16), (10, 8388608)]],
      KvCmd (kvIssued (ioCmd l)) 8 (ioCmd l) 1 kv 0 ∧ (ioCmd l).phase = .fetched) ∧
    (∀ l ∈ [[(0, 0x8D), (1, 2), (13, 1), (6, 64), (12, 0x40)], [(0, 0x8D), (1, 2), (13, 1), (6, 64)], [(0, 0x8D), (1, 2), (13, 1), (12, 1), (6, 64)]],
      KvCmd (kvIssued (ioCmd l)) 8 (ioCmd l) 0x8D kv 0 ∧ (ioCmd l).phase = .fetched) ∧
    (∀ l ∈ [[(0, 1), (1, 2), (2, 0x61), (11, 0x201), (10, 1)], [(0, 1), (1, 2), (2, 0x62), (11, 0x101), (10, 1)],
        [(0, 1), (1, 2), (2, 0x61), (11, 1), (10, 1)], [(0, 1), (1, 2), (2, 0x62), (11, 1), (10, 1)], [(0, 1), (1, 2), (2, 0x62), (11, 1), (10, 8388608)],
        [(0, 0x10), (1, 2), (2, 0x61), (11, 1)], [(0, 0x10), (1, 2), (2, 0x62), (11, 1)]],
      let c := { ioCmd l with phase := .active }
      KvCmd (kvIssued c) 8 c c.opcode kv 0 ∧ (kvIssued c).chest.pending = [] ∧ (kvIssued c).ftl.slots = []) ∧
    (let c := { ioCmd [(0, 0x8D), (1, 2), (13, 1), (6, 64)] with phase := .active, data := insert61 }
     KvCmd (kvIssued c) 8 c 0x8D kv 0 ∧ (kvIssued c).batchConflict 0 0 (batchEntries c.data (c.f 12 5 0 + 1)) = some (0, 2)) := by
  unfold KvCmd IoCmd Answerable
  and_intros <;> decide +kernel

theorem wit_KvStores_values :
    (let c := ioCmd [(0, 1), (1, 2), (2, 0x62), (11, 1), (10, 1)]
     let s := kvIssued c
     s.writeCheck c = none ∧ s.kvOver kv 0 [(c.key, c.vlen)] = false ∧ s.kvOver kv 0 [(c.key, 8388608)] = true ∧
       firstFit (s.usedRuns 0 c.nsid) (kvSpans kv) (spansOfLen c.vlen) = some 0 ∧
       firstFit (s.usedRuns 0 c.nsid) (kvSpans kv) 17 = none ∧ (s.ftl.slots.map (·.idx)).Nodup) ∧
    (let c := ioCmd [(0, 0x8D), (1, 2), (13, 1), (6, 64)]
     let s := kvIssued c
     let es := batchEntries insert61 1
     c.vendorOk = true ∧ c.zero [2, 3, 14, 15] = true ∧ c.f 12 31 6 = 0 ∧ c.q 10 % 32 = 0 ∧ 32 ≤ insert61.length ∧
       (∀ e ∈ es, e.ok = true ∧ e.vlen ≤ 8388608 ∧ e.voff + e.vlen ≤ 1) ∧ dupEntry 0 [] es = none ∧
       dupEntry 0 [] (batchEntries (insert61 ++ insert61) 2) = some 1 ∧ s.writeCheck c = none ∧ s.batchOver kv 0 es = false ∧
       ((s.count Reg.IDX_LOOKUP_CNT 31 0 es.length).batchValues c kv 0 [7] es []).isOk = true ∧ s.batchOver { kv with cap := 0 } 0 (batchEntries store62 1) = true ∧
       ((s.count Reg.IDX_LOOKUP_CNT 31 0 es.length).batchValues c { kv with cap := 0 } 0 [7] es []).isOk = false) ∧
    (let c := { ioCmd [(0, 1), (1, 2), (2, 0x62), (11, 1), (10, 1)] with phase := .active }
     let s := kvIssued c
     s.idx.find (keyItem 0 c.key) = none ∧ s.idx.gib ≠ 0 ∧ s.idx.placed = true ∧
       s.idx.freeSlot (s.keyPart 0 c.key) (s.idx.placeOf (keyItem 0 c.key)).2.1 ≠ none ∧ Sparse.sorted s.idx.table = true ∧
       Sparse.sorted s.idx.stash = true ∧ (s.idx.erase (keyItem 0 [0x61])).find (keyItem 0 [0x61]) = none) := by
  and_intros <;> decide +kernel

theorem wit_KvStores_mapped :
    (let c := ioCmd [(0, 1), (1, 2), (2, 0x62), (11, 1), (10, 1)]
     let s := kvIssued c
     InPlace s [(1, s.keyPart 0 c.key)] [] ∧ KvCmd (unbuilt s) 8 c 1 kv 0 ∧ (unbuilt s).unbuilt (1, s.keyPart 0 c.key) = true) ∧
    (let c := { ioCmd [(0, 0x8D), (1, 2), (13, 1), (6, 64)] with phase := .active, data := store62, waits := [0] }
     let s := kvIssued c
     let es := batchEntries c.data (c.f 12 5 0 + 1)
     s.batchConflict 0 0 es = none ∧ s.batchOver kv 0 es = false ∧ (s.applyBatch c.nsid 0 c.waits es).isOk = true ∧
       s.batchOver { kv with cap := 0 } 0 es = true) ∧
    (let c := { ioCmd [(0, 1), (1, 2), (2, 0x62), (11, 1), (10, 1)] with phase := .active, fail := some (.peerFailed, 0, 0) }
     let s := { kvIssued c with idx := { keyed with gib := 0 } }
     KvCmd s 8 c 1 kv 0 ∧ (s.idx.store s.free (.key 0 c.key c.vlen (c.waits.headD 0))).isNone = true) ∧
    (∀ e ∈ batchEntries ([5] ++ store62) 1, e.ok = false) ∧ ¬ 32 * 2 ≤ store62.length := by
  unfold KvCmd IoCmd Answerable InPlace
  and_intros <;> decide +kernel

/-! ### Pipelines -/

def zeros (n : Nat) : List Byte := List.replicate n 0

/-- A descriptor: its header, a SOURCE of LBAs or of the key 61H, what stands between, and a SINK of `limit` bytes. -/
def pipeDesc (kind cnt : Nat) (key : Byte) (mid : List Byte) (limit : Nat) : List Byte :=
  [1, BitVec.ofNat 8 (2 + mid.length / 64)] ++ zeros 62 ++
    ([1, BitVec.ofNat 8 kind, 0, 0] ++ zeros 12 ++ leBytes 8 cnt ++ zeros 8 ++ [key] ++ zeros 31) ++ mid ++
    ([5, 0, 0, 0] ++ zeros 12 ++ leBytes 8 limit ++ zeros 40)

/-- A PROGRAM stage of slot 63, and an AGGREGATE of one group. -/
def aggregate : List Byte :=
  [3, 63] ++ zeros 62 ++ ([4, 3, 8, 0, 0, 0, 0, 0, 0, 0, 0, 1, 1, 0] ++ zeros 50)

/-- A PIPE_READ of namespace `n` with a sink of 64 bytes. -/
def pipeRead (n : DWord) : Cmd := { ioCmd [(0, 0x82), (1, n), (12, 64)] with active := [progInfo 63 0 program] }

/-- Layout checks failed and passed; a command past its first step; a wait behind another; each thing a dispatch can find, with and
without room. -/
theorem wit_PipStarts :
    (∀ c ∈ [ioCmd [(0, 0x82), (1, 1), (2, 1)], ioCmd [(0, 0x86), (1, 1), (2, 1)], pipeRead 1, { pipeRead 1 with phase := .active }],
      Answerable (issued c) 8 c ∧ c.admin = false ∧ (issued c).claspWaiting = [] ∧ (issued c).runs.length < 64) ∧
    (ioCmd [(0, 0x82), (1, 1), (2, 1)]).pipeCmdOk = false ∧ (pipeRead 1).pipeCmdOk = true ∧ (pipeRead 1).phase = .fetched ∧
    (let w := { ioCmd [(0, 0x82), (1, 1)] with tag := 7, phase := .waitClasp }
     let s := spaced (svc [w, pipeRead 1])
     Answerable s 8 (pipeRead 1) ∧ s.claspWaiting ≠ [] ∧ s.claspWaiting.head? = some w ∧ Answerable s 7 w ∧ s.runs.length < 64) ∧
    (let c := pipeRead 1
     let s := issued c
     c.desc = none ∧ s.nsOf c.nsid = some nvm ∧ s.health ≠ .failed ∧ (match s.pipeStart c nvm [] [] [(0, 64)] with
       | .ends _ _ => true
       | _ => false) = true ∧
       s.pipeStart (ioCmd [(0, 0x82), (1, 1)]) nvm [1] [] [] = .success ∧
       (let d := pipeDesc 0 0 0 [] 64
        s.pipeStart c nvm d [] [(0, 64)] = .empty (parsePipe d [] 2) ∧ (parsePipe d [] 2).target = 0) ∧
       (let d := pipeDesc 0 64 0 [] 64
        s.pipeStart c nvm d [] [(0, 64)] = .runs (parsePipe d [] 2) none ∧ s.claspRoom (parsePipe d [] 2).memory = true ∧
          InPlace s (s.partsOf 1 ((lbaSpans 0 64).map (·.1))) [] ∧ Answerable (unbuilt s) 8 c) ∧
       (let d := pipeDesc 0 64 0 aggregate 64
        let r : Run := { tag := 7, inst := 1, pipe := {}, mem := 8388608 }
        s.pipeStart c nvm d [] [(0, 64)] = .runs (parsePipe d [] 4) (some (progInfo 63 0 program)) ∧
          ({ s with runs := [r] } : State).claspRoom (parsePipe d [] 4).memory = false)) ∧
    (let c := pipeRead 7
     Answerable (issued c) 8 c ∧ (issued c).nsOf c.nsid = none) ∧
    (let c := { pipeRead 1 with desc := some ([1], []) }
     Answerable (issued c) 8 c ∧ c.desc = some ([1], [])) ∧
    (let c := pipeRead 2
     let s := kvIssued c
     let d := pipeDesc 1 0 0x61 [] 64
     Answerable s 8 c ∧ s.nsOf c.nsid = some kv ∧ s.kvSlot c.nsid = some 0 ∧ s.pipeStart c kv d [] [(0, 64)] = .runs (parsePipe d [] 2) none ∧
       (parsePipe d [] 2).kind = 1 ∧ s.lookup 0 (parsePipe d [] 2).lkey = some (5, 3) ∧
       s.lookup 0 (parsePipe (pipeDesc 1 0 0x62 [] 64) [] 2).lkey = none ∧ InPlace s [(1, s.keyPart 0 [0x61])] [] ∧
       InPlace s (s.partsOf 2 [3]) [] ∧ Answerable (unbuilt s) 8 c) ∧
    (let c := pipeRead 1
     let s := { issued c with health := .failed }
     Answerable s 8 c ∧ s.health = .failed) := by
  unfold Answerable InPlace
  and_intros <;> decide +kernel

/-- An empty range whose sink is a peer: written and refused. -/
theorem wit_PipStarts_peer :
    (let p : Pipe := { target := 2 }
     let c := pipeRead 1
     let s := { issued c with peers := [(0, { valid := true, any := true, pages := 0 })] }
     Answerable s 8 c ∧ (s.sinkWrite c p [] 0 (List.replicate 64 0)).isSome = true ∧ ((issued c).sinkWrite c p [] 0 (List.replicate 64 0)).isNone = true) := by
  unfold Answerable
  and_intros <;> decide +kernel

/-- Command 8 with the run given, on Strand 0. -/
def running (c : Cmd) (r : Run) (t : Strand) : State := { issued c with runs := [r], strands := [(0, t)] }

def runOf (x : List RunSpan) (p : Pipe) (rb : Nat) : Run :=
  { tag := 8, inst := 1, pipe := p, mem := 0, segs := [(0, 128)], spans := x, rbytes := rb }

/-- A span not asked for, lost, not resident and in place, passed over by its directory and not; its reads done and not; cut into a
leaf with slots free and none. -/
theorem wit_PipRuns :
    ((issued (pipeRead 1)).run? 8 = none ∧ (issued (pipeRead 1)).cmd? 7 = none ∧
      (let s := running (pipeRead 1) (runOf [] {} 0) {}
       s.run? 8 = some (runOf [] {} 0) ∧ (runOf [] {} 0).nextSpan 0 = none)) ∧
    (let c := { pipeRead 1 with phase := .active, issued := true }
     ∀ x ∈ [({ obj := 0, span := 0, strand := 0, asked := true, imgs := [(0, 0)], data := [1, 2, 3], hi := 3 } : RunSpan),
         { obj := 0, span := 0, strand := 0, dir := [(0, 0)], skip := 1 }, { obj := 0, span := 0, strand := 0, dir := [(0, 0)], skip := 2 },
         { obj := 0, span := 0, strand := 0 }, { obj := 0, span := 0, strand := 0, asked := true, data := [1, 2, 3], hi := 3 }],
       let r := runOf [x] { limit := 128 } 0
       let s := running c r {}
       Answerable s 8 c ∧ s.run? 8 = some r ∧ r.nextSpan 0 = some x ∧ s.imgsDone 8 x.imgs = true ∧ s.imgsDone 8 x.dir = true ∧
         Answerable (waiting s) 8 c ∧ (waiting s).run? 8 = some r ∧ (waiting s).imgsDone 8 [(0, 0)] = false ∧ (s.strand 0).outFree ≠ [] ∧
         s.spanResident 1 0 = true ∧ (∀ k ∈ s.segsFor 1 [0], s.segLost k = false) ∧ (paged 1 true s).spanResident 1 0 = false ∧
         Answerable (paged 1 true s) 8 c ∧ r.prog = none ∧ r.pipe.hasPred = false ∧ x.next = 0 ∧ x.bad = none) ∧
    (leavesOf [1, 2, (3 : Byte)].length = 1 ∧ (leafOutput {} [1, 2, 3] (formLeaf {} [1, 2, 3] 0 0 3)).1 = [1, 2, 3]) ∧
    (let c := { pipeRead 1 with phase := .active, issued := true, badImgs := [(0, 0)] }
     let x : RunSpan := { obj := 0, span := 0, strand := 0, asked := true, imgs := [(0, 0)] }
     let s := running c (runOf [x] {} 0) {}
     Answerable s 8 c ∧ s.imgsDone 8 x.imgs = true ∧ (0, 0) ∈ x.imgs ∧ (0, 0) ∈ c.badImgs) ∧
    (let c := pipeRead 1
     let x : RunSpan := { obj := 0, span := 0, strand := 0, asked := true, bad := some ⟨.dcmpIllegal, 0, 0, 0⟩ }
     let s := running c (runOf [x] {} 0) {}
     Answerable s 8 c ∧ s.imgsDone 8 x.imgs = true ∧ x.bad ≠ none ∧ ∀ im ∈ x.imgs, im ∉ c.badImgs) ∧
    (∀ u ∈ [({} : Strand), { leaves := (List.range 16).map (fun i => ⟨7, 0, 0, 0, i⟩) }],
      let c := pipeRead 1
      let x : RunSpan := { obj := 0, span := 0, strand := 0, asked := true, data := [1, 2, 3], hi := 3 }
      let r : Run := { runOf [x] {} 0 with prog := some (progInfo 63 0 program) }
      let s := running c r u
      Answerable s 8 c ∧ r.prog = some (progInfo 63 0 program) ∧ r.pipe.skipEmpty = false ∧ (s.leafFree 0 = [] ↔ u ≠ {})) ∧
    ((running (pipeRead 1) (runOf [] {} 0) { outUsed := List.range 16 }).strand 0).outFree = [] ∧
    (let p : Pipe := { skipEmpty := true, hasPred := true, reclen := 4096 }
     (formLeaf p [1, 2, 3] 0 0 3).nsel = 0) := by
  unfold Answerable
  and_intros <;> decide +kernel

theorem wit_PipRuns_lost :
    let c := pipeRead 1
    let x : RunSpan := { obj := 0, span := 0, strand := 0 }
    let s := running c (runOf [x] {} 0) {}
    let t := paged 0 false s
    Answerable t 8 c ∧ x.asked = false ∧ ∃ k ∈ t.segsFor 1 [0], t.segLost k = true := by
  unfold Answerable
  and_intros <;> decide +kernel

/-- An output that may go: with its run and without, under each operation of the Clasp, fitting its sink and not; one under MERGE
that waits for another stream and one that does not. -/
theorem wit_PipRuns_mover :
    (∀ rb ∈ [0, 63, 64], ∀ k ∈ [1, 2, 3, 4],
      let c := { pipeRead 1 with phase := .active }
      let o : OutSlot := { tag := 8, slots := [0], seq := 0, bytes := [7], cuts := [1], records := 1 }
      let r := runOf [] { limit := 128, op := k, rlen := 1, count := 1 } rb
      let s := running c r { mover := [o], outUsed := [0] }
      (s.strand 0).mover.find? (s.mayForward 0) = some o ∧ s.run? o.tag = some r ∧ Answerable s 8 c ∧ r.pipe.op = k ∧ r.top.length ≤ r.pipe.count ∧
        concatPieces o = [([7], 1)]) ∧
    (64 + 63 + 1 ≤ 128 ∧ 63 + 1 ≤ 128 - 64 ∧ 128 - 64 < 64 + 1) ∧
    (let o : OutSlot := { tag := 7, slots := [0], seq := 0, bytes := [7], cuts := [1], records := 1 }
     let s := running (pipeRead 1) (runOf [] {} 0) { mover := [o] }
     (s.strand 0).mover.find? (s.mayForward 0) = some o ∧ s.run? o.tag = none) ∧
    (∀ o ∈ ((running (pipeRead 1) (runOf [] {} 0) {}).strand 0).mover, (issued (pipeRead 1)).mayForward 0 o = false) ∧
    (let r := runOf [⟨0, 0, 1, [], none, [], 0, 0, 0, [], 0, false⟩] { op := 2, rlen := 1 } 0
     let s := running (pipeRead 1) r {}
     headsOf r.heads 1 = [] ∧ s.streamLive r 1 = true ∧ ∀ j < 32, s.streamLive (runOf [] { op := 2, rlen := 1 } 0) j = false) := by
  unfold Answerable
  and_intros <;> decide +kernel

/-- A frame that is due and does not pay, with and without a raw form; the end of a pipeline, and one with a stream that has not
ended; a sink of each kind. -/
theorem wit_PipRuns_sink :
    (∀ x ∈ [false, true],
      let c := { pipeRead 1 with phase := .active }
      let o : OutSlot := { tag := 8, slots := [0], seq := 0, bytes := [7], cuts := [1], records := 1 }
      let r := runOf [] { format := 1, limit := 128, expandFail := x } 0
      let s := running c r { mover := [o] }
      (s.strand 0).mover = [] ++ o :: [] ∧ s.wantsFrame o = true ∧ s.run? o.tag = some r ∧ Answerable s 8 c ∧
        ¬ (wrapFormat (sinkFormat r.pipe.format) o.bytes (zeros 64)).length ≤
          keepLimit o.bytes.length (s.fieldNow (Reg.PRS_MIN_SAVING 0) 7 0)) ∧
    (let c := { pipeRead 1 with phase := .active }
     let r := runOf [] { limit := 128 } 0
     let s := running c r {}
     s.run? 8 = some r ∧ Answerable s 8 c ∧ (∀ n < 32, s.streamLive r n = false) ∧ 64 ≤ 128 ∧
       ({ s with strands := [(31, { leaves := [⟨8, 0, 0, 0, 0⟩] })] } : State).streamLive r 31 = true) ∧
    (let c := pipeRead 1
     let s := { issued c with peers := [(0, { valid := true, any := true, pages := 0 })] }
     s.alive c.inst c.gen = true ∧ (s.portA.training = false ∧ s.portB.training = false) ∧
       s.peerOk c.port c.inst 0 ((s.peerEntry c.port 0).base + (0 + 0)) 1 = true ∧
       s.peerOk c.port c.inst 0 ((s.peerEntry c.port 0).base + (0 + 4096)) 1 = false) := by
  unfold Answerable
  and_intros <;> decide +kernel

/-! ### Media -/

def prof : Profile := { idValue := [], idMask := [], cell := 3, planes := 2, blocks := 4, pagesNative := 8, pagesSlc := 4, cwPerPage := 4, maxRate := 6400, xr := true, xrByte := 0, xrMask := 0, xrMargin := 10, peSlc := 100, peNative := 10, rdSlc := 9, rdNative := 9, flipRefresh := 50, psuspMax := 4, esuspMax := 4, resumeMin := 1, rdBurst := 1, typ := [], nretrySlc := 4, nretryNative := 3, spare := 128, passes := 1, mpRule := 7, retryFa := 0x89, levels := 4, retry := [], feats := [] }

/-- The last LUN of the last channel, in SERVICE, with a row 3 in that state. -/
def media (u : Lun) (r : Row) : State :=
  { State.reset with dev := .service, profiles := [prof], chans := List.replicate 31 {} ++ [{ profile := some 0 }], luns := [(2047, u)], ftl := { rows := [(2047 * 65536 + 3, r)] } }

/-- The media address of the first unit of that row. -/
def top : Nat := 63 * 2 ^ 37 + 3 * 2 ^ 21

def opOf (k : OpKind) : LunOp := { id := 1, kind := k, cls := 3, block := 3, maddr := top, cw := 3, tag := some 8, inst := 1 }
def softOf (cls : Nat) : SoftCw := { tag := some 8, cls := cls, ch := 31, lun := 63, block := 3, maddr := top }

/-- The image of one unit at `top`, and a copy of an image of namespace 1 to there. -/
def topImg : Img := { ch := 31, maddr := top, len := 1, shelf := false, raw := true, nsid := 1, span := 0, bytes := [], keyGen := 0 }
def topCopy : Copy := { id := 7, nsid := 1, span := 0, ents := [], ch := 31, loc := ⟨none, top, 1, true, false⟩, by_ := .gc, src := (0, 0) }

/-- Ends of a kind that does not run; a read with one codeword of each outcome, the pool full and not; the last read of a copy's
source; verify reads clean and not. -/
theorem wit_MediaOps :
    (let s := media { state := .active, op := some (opOf .read) } {}
     (s.lun 31 63).running = some (opOf .read) ∧ (opOf .read).kind ≠ .program ∧ (opOf .read).kind ≠ .erase ∧ (s.lun 31 62).running = none ∧
       (0 : Nat) ≠ (opOf .read).cw) ∧
    (∀ r ∈ [({ state := .opened } : Row), { state := .closed, candidate := true }],
      let s := media { state := .active, op := some (opOf .read) } r
      s.profile? 31 = some prof ∧ (s.chan 31).cal = false ∧ (s.lun 31 63).running = some (opOf .read) ∧ (s.lun 31 63).state = .active ∧ s.row 31 63 3 = r ∧
        Sparse.sorted s.insts = true) ∧
    (let w : List CwOut := [.hard 50, .retry 3 7, .soft]
     w.length = (opOf .read).cw ∧ (∀ x ∈ w, CwOut.fits (prof.nretry false) x = true) ∧ (w.filter CwOut.isSoft).length = 1 ∧
       w.any (CwOut.worn prof.flipRefresh) = true ∧ (∃ x ∈ w, CwOut.clean prof.flipRefresh x = false) ∧
       ∀ x ∈ [CwOut.hard 49, .hard 0, .hard 1], CwOut.clean prof.flipRefresh x = true) ∧
    (List.replicate 1024 (softOf 0)).length + 1 > 1024 ∧
    (let o := { opOf .read with use := .copy 7, tag := none }
     let s := { media { state := .active, op := some o } {} with ftl := { copies := [topCopy] } }
     (s.lun 31 63).running = some o ∧ s.copy? 7 = some topCopy ∧ topCopy.stage = .reading ∧ s.profile? 31 ≠ none ∧
       ({ s with luns := [] } : State).reading (.copy 7) = false) ∧
    (∀ e ∈ [[], [((none : Option Nat), (0 : BitVec 64))]],
      let o := { opOf .read with use := .verify 7, tag := none }
      let c := { topCopy with ents := e }
      let s := { media { state := .active, op := some o } {} with ftl := { imgs := [topImg], copies := [c] } }
      (s.lun 31 63).running = some o ∧ s.copy? 7 = some c ∧ (s.commits c.change = true ↔ e ≠ [])) := by
  and_intros <;> decide +kernel

/-- Programs of a slot, of parity, of a copy and of a checkpoint, and erases, in a row marked and not. -/
theorem wit_MediaOps_programs :
    (∀ r ∈ [({ state := .opened } : Row), { state := .closed, marked := true }, { state := .suspect }], ∀ k ∈ [OpKind.program, .erase],
      let s := media { state := .active, op := some (opOf k) } r
      (s.lun 31 63).running = some (opOf k) ∧ (s.lun 31 63).state = .active ∧ (opOf k).kind = k ∧ s.row 31 63 3 = r ∧ s.chest.pending = []) ∧
    (∀ n ∈ [1, 2],
      let o := { opOf .program with slot := some 5 }
      let v : Slot := { idx := 5, nsid := 1, span := 0, programs := n, imgs := [⟨none, top, 1, true, false⟩] }
      let s := { media { state := .active, op := some o } {} with ftl := { slots := [v] } }
      (s.lun 31 63).running = some o ∧ o.parity = none ∧ s.slotAt 5 = some v ∧ v.dir = none ∧ (∃ m ∈ v.imgs, m.grain ≠ some 64)) ∧
    (∀ x ∈ [true, false],
      let a : PageAt := ⟨31, 63, 3, 2⟩
      let o := { opOf .program with parity := some 7, page := 2 }
      let v : Stripe := { id := 7, slc := false, pages := [], parity := if x then none else some a, next := if x then some a else none }
      let s := { media { state := .active, op := some o } {} with ftl := { stripes := [v] } }
      (s.lun 31 63).running = some o ∧ o.block = 3 ∧ s.stripe? 7 = some v ∧ (v.next = some a ∨ (v.next ≠ some a ∧ v.parity = some a))) ∧
    (let o := { opOf .program with copy := some 7 }
     let s := { media { state := .active, op := some o } {} with ftl := { copies := [topCopy], imgs := [topImg] } }
     (s.lun 31 63).running = some o ∧ o.slot = none ∧ o.parity = none ∧ s.copy? 7 = some topCopy ∧ s.img? 31 top = some topImg) ∧
    (let o := { opOf .program with ckpt := some 4 }
     let s := { media { state := .active, op := some o } {} with chest := { ckptBusy := [(4, 9)] } }
     (s.lun 31 63).running = some o ∧ o.copy = none ∧ s.chest.ckptBusy.find? (fun x => decide (x.1 = 4)) = some (4, 9)) ∧
    (let o := { opOf .erase with pages := 2 }
     ((media { state := .active, op := some o } {}).lun 31 63).running = some o ∧ 1 < o.pages ∧ (opOf .erase).pages ≤ 1) := by
  and_intros <;> decide +kernel

/-- Suspends, resets and calibrations in each state. -/
theorem wit_MediaOps_channels :
    (∀ x ∈ [true, false], ((media { op := some { opOf .erase with suspReq := x } } {}).lun 31 63).op = some { opOf .erase with suspReq := x }) ∧
    (∀ x ∈ [LunState.resetting, .active],
      let s := media { state := x, queue := [opOf .read] } {}
      (s.lun 31 63).state = x ∧ s.chans.length = 32 ∧ opOf .read ∈ (s.lun 31 63).queue ∧ 0 < (opOf .read).cw ∧ (opOf .read).use = .host ∧
        s.profile? 31 = some prof) ∧
    (∀ c ∈ [({ profile := some 0 } : Chan), { profile := some 0, cal := true }, { profile := some 0, cal := true, xrOn := true }],
      let s := { media {} {} with chans := List.replicate 31 ({} : Chan) ++ [c] }
      s.chan 31 = c ∧ s.chans.length = 32 ∧ s.profile? 31 = some prof) ∧ prof.xrMargin ≤ 10 ∧ 9 < prof.xrMargin := by
  and_intros <;> decide +kernel

/-- Eighteen channels with one active LUN each, and a page whose stripe has its parity. -/
def striped (c : SoftCw) (u : LunState) : State :=
  { State.reset with
    profiles := [prof], chans := List.replicate 32 { profile := some 0 }
    luns := (List.range 18).map (fun i => (64 * i + 63, { state := if i = 15 then u else .active })), recon := [c], cmds := [ioCmd []],
    ftl := { stripes := [{ id := 7, slc := false, pages := [⟨15, 63, 3, 0⟩, ⟨16, 63, 3, 0⟩], parity := some ⟨14, 63, 3, 0⟩, done := true }] } }

/-- The oldest codeword of class 1 and the first of the rest; a page that waits already; each use of a read. -/
theorem wit_MediaRetry :
    (let s := { State.reset with soft := [softOf 0, softOf 1, softOf 1] }
     s.soft = [softOf 0] ++ softOf 1 :: [softOf 1] ∧ (softOf 1).cls = 1 ∧ ∀ x ∈ [softOf 0], x.cls ≠ 1) ∧
    (let s := { State.reset with soft := [softOf 0, softOf 2] }
     s.soft = [] ++ softOf 0 :: [softOf 2] ∧ ∀ x ∈ softOf 0 :: [softOf 2], x.cls ≠ 1) ∧
    (∃ x ∈ [softOf 2], x.tag = (softOf 0).tag ∧ x.use = (softOf 0).use ∧ x.ch = (softOf 0).ch ∧ x.maddr = (softOf 0).maddr ∧
      x.page = (softOf 0).page) ∧ State.reset.soft = [] ∧ ({ softOf 1 with use := .rebuild 4 0 } : SoftCw).use = .rebuild 4 0 ∧
    (∀ a b, (softOf 1).use ≠ .rebuild a b) := by
  and_intros <;> first | decide +kernel | (intro a b h; cases h)

/-- A page whose stripe can give it back, before its reads, while they are outstanding, and after them, decoded and not; a page whose
stripe cannot, and a device without die parity. -/
theorem wit_MediaRetry_stripes :
    State.reset.recon[0]? = none ∧
    (let c := { softOf 1 with ch := 16 }
     let s := striped c .active
     s.recon[0]? = some c ∧ s.dieParity = true ∧ (s.stripeFor c.at_).isSome = true ∧ c.asked = false ∧ s.profile? 14 ≠ none ∧
       (striped c .failed).stripeFor c.at_ = none ∧ (striped c .failed).dieParity = true ∧
       ({ s with luns := [] } : State).dieParity = false ∧ s.cmd? 8 = some (ioCmd []) ∧ Sparse.sorted s.regs = true) ∧
    (∀ x ∈ [true, false],
      let c := { softOf 1 with ch := 16, id := 4, asked := true, failed := x }
      let s := striped c .active
      s.recon[0]? = some c ∧ s.dieParity = true ∧ s.reading (.rebuild c.id c.ch) = false ∧
        ({ s with soft := [{ softOf 1 with use := .rebuild 4 16 }] } : State).reading (.rebuild c.id c.ch) = true) := by
  and_intros <;> decide +kernel

/-- An operation at its limit and over it, of each kind, in its third timeout and before, reissued and not, alone and in a
suspension. -/
theorem wit_MediaRetry_timeouts :
    (∀ o ∈ [{ opOf .read with ran := 1 }, { opOf .read with ran := 1, reissued := true }, { opOf .read with ran := 1, reissued := true, use := .rebuild 4 0 },
        { opOf .read with ran := 1, reissued := true, use := .verify 7 }, opOf .read, { opOf .program with ran := 1 }, { opOf .erase with ran := 1 }],
      let s := { media { state := .active, op := some o } { state := .opened } with recon := [{ softOf 1 with id := 4 }] }
      (s.lun 31 63).running = some o ∧ (s.lun 31 63).state = .active ∧ (s.lun 31 63).timeouts = 0 ∧ (s.lun 31 63).rd = none ∧
        (s.row 31 63 3).state = .opened ∧ (s.row 31 63 3).marked = false ∧ o.limit = 0 ∧ s.chest.pending = [] ∧ 0 < o.cw) ∧
    (media {} {}).copy? 7 = none ∧ ({ media {} {} with ftl := { copies := [topCopy] } } : State).copy? 7 = some topCopy ∧
    (let o := { opOf .read with ran := 1 }
     let x := { opOf .erase with suspended := true }
     let s := media { state := .active, op := some x, rd := some o, timeouts := 2 } {}
     (s.lun 31 63).running = some o ∧ (s.lun 31 63).rd = some o ∧ (s.lun 31 63).op = some x ∧ (s.lun 31 63).timeouts = 2 ∧ o.limit < o.ran) ∧
    ((media {} {}).lun 31 63).running = none := by
  and_intros <;> decide +kernel

/-! ### Media care -/

/-- Row 4 of the LUN's open superblock, whatever the stream. -/
def openSupers : Sparse Nat := [0, 1, 2, 3, 4, 5, 6, 8, 19, 22].map (fun k => (k, 6))

def cared (f : Ftl) : State := { media { state := .active } {} with ftl := { f with supers := openSupers } }

/-- An image of one unit at `top`, and the entry of span 0 of namespace 1 that names it. -/
def kept (slc : Bool) : Img := { topImg with shelf := slc }
def keptSpan (slc : Bool) : Sparse (BitVec 64) := [(spanKey 1 0, mkEntry false slc false false true 31 1 top)]

/-- The row 4 of the same LUN, native and open. -/
def place4 : Place := { ch := 31, lun := 63, block := 4, unit := 0, slc := false, stripes := [] }
def move4 : Move := { ch := 31, maddr := top, place := place4 }
def open4 : Nat × Row := (2047 * 65536 + 4, { state := .opened, superblock := 6 })

def row3 (r : Row) : Sparse Row := [(2047 * 65536 + 3, r), open4]

/-- The image at `top` may move to row 4. -/
def mayMove (s : State) (slc : Bool) (stream : Nat) : Bool :=
  decide (s.img? 31 top = some (kept slc)) && !(s.imgEntries (kept slc)).isEmpty && s.ftl.copies.isEmpty && s.internalOk &&
    (s.placeImage stream place4 1).isSome

def gcRows (r : Row) : Ftl :=
  { span := keptSpan false, imgs := [kept false], rows := row3 { r with written := 10, superblock := 5 }, gcOn := true }

/-- An engine whose state forbids it; folding off and on; a refresh of a row with a live image and without, and with nothing asked. -/
theorem wit_CareMoves :
    State.reset.internalOk = false ∧ (kept false).nsid ≠ 0 ∧ (kept false).avoid = [] ∧
    (let s := cared { span := keptSpan true, imgs := [kept true], rows := row3 { state := .closed, slc := true, written := 1 } }
     let u := s.setChan 31 { s.chan 31 with foldOn := true }
     s.chans.length = 32 ∧ s.internalOk = true ∧ s.oldestShelf 31 (maLun top) (maBlock top) = true ∧ (s.chan 31).foldOn = false ∧
       s.fieldNow Reg.FTL_FOLD_CTL 7 4 * s.shelfRows 31 < 16 * s.shelfUsed 31 ∧
       mayMove (u.selectRow .fold 31 (maLun top) (maBlock top)) true 2 = true) ∧
    (let s := cared {}
     s.internalOk = true ∧ s.chans.length = 32 ∧ ¬ (s.fieldNow Reg.FTL_FOLD_CTL 7 4 * s.shelfRows 31 < 16 * s.shelfUsed 31)) ∧
    (∀ l ∈ [[], [kept false]], ∀ x ∈ [true, false],
      let s := cared { span := keptSpan false, imgs := l, rows := row3 { state := .closed, candidate := true, marked := x } }
      let r := s.row 31 63 3
      let b : Mover := if x then .evac else .refresh
      s.internalOk = true ∧ r.candidate = true ∧ r.marked = x ∧ r.selectable b = true ∧ s.ftl.gcSel = none ∧
        (∀ e ∈ s.ftl.rows, e.1 ≠ rowKey 31 63 3 → e.2.owner = none) ∧ Sparse.sorted s.ftl.rows = true ∧ s.emptied 31 63 3 = l.isEmpty ∧
        (l ≠ [] → mayMove (s.selectRow b 31 63 3) false 3 = true)) ∧
    ((cared {}).row 31 63 3).selectable .refresh = false := by
  and_intros <;> decide +kernel

/-- A collection with nothing to do, at its choice, in its copies and at its end. -/
theorem wit_CareMoves_gc :
    (let s := { State.reset with dev := .service }
     s.internalOk = true ∧ ∀ c < 32, s.present c = false) ∧
    (let s := cared (gcRows { state := .closed })
     s.internalOk = true ∧ s.ftl.gcSel = none ∧ s.present 31 = true ∧ s.freeLevel 31 < s.startLevel ∧ s.collectable 5 = true ∧
       Sparse.sorted s.ftl.rows = true ∧ 0 < s.superScore 5 ∧
       (∀ e ∈ s.ftl.rows, s.collectable e.2.superblock = true → s.superScore e.2.superblock = s.superScore 5 ∧ 5 ≤ e.2.superblock)) ∧
    (let s := cared { gcRows { state := .closed, owner := some .gc } with gcSel := some 5 }
     s.present 31 = true ∧ s.freeLevel 31 < s.startLevel ∧ (s.row 31 (maLun top) (maBlock top)).superblock = 5 ∧ mayMove s false 3 = true) ∧
    (let s := cared { gcRows { state := .retired } with gcSel := some 5 }
     s.internalOk = true ∧ s.present 31 = true ∧ s.freeLevel 31 < s.startLevel ∧
       ∀ e ∈ s.ftl.rows, e.2.superblock = 5 → e.2.state = .retired) := by
  and_intros <;> decide +kernel

/-- The wear period, running and over; relocations: of an ACTIVE LUN, with nothing left, with a program that waited, with an image to
move, and with a stripe that has lost its page. -/
theorem wit_CareMoves_levels :
    (let s := cared { wlTimer := 7031250001, rows := [(2047 * 65536 + 3, { state := .closed, nativeErases := 4 }), (2047 * 65536 + 4, { state := .free })] }
     s.internalOk = true ∧ s.wlBeats < s.ftl.wlTimer ∧ s.spread 31 = 4 ∧ Sparse.sorted s.ftl.rows = true) ∧
    (let s := cared { wlTimer := 7031250000, span := keptSpan false, imgs := [kept false], rows := row3 { state := .closed, owner := some .wear } }
     s.ftl.wlTimer ≤ s.wlBeats ∧ (s.row 31 (maLun top) (maBlock top)).owner = some .wear ∧ mayMove s false 4 = true) ∧
    ((cared {}).lun 31 63).state = .active ∧
    (let s := { cared { imgs := [{ kept false with unreadable := true }], rows := row3 { state := .closed }, reloc := [lunKey 31 63] } with
       luns := [(2047, { state := .failed })] }
     s.internalOk = true ∧ (s.lun 31 63).state = .failed ∧ lunKey 31 63 ∈ s.ftl.reloc ∧ (s.lun 31 63).queue = [] ∧
       (∀ a ∈ s.ftl.imgs, a.unreadable = true) ∧ ∃ e ∈ s.ftl.rows, e.1 = rowKey 31 63 3) ∧
    (let o := { opOf .program with slot := some 5 }
     let v : Slot := { idx := 5, nsid := 1, span := 0, programs := 1, imgs := [⟨none, top, 1, true, false⟩] }
     let s := { cared { slots := [v] } with luns := [(2047, { state := .failed, queue := [o] })] }
     s.internalOk = true ∧ (s.lun 31 63).state = .failed ∧ lunKey 31 63 ∉ s.ftl.reloc ∧ (s.lun 31 63).queue = [o] ∧ s.slotAt 5 = some v) ∧
    (let s := { cared { span := keptSpan false, imgs := [kept false], rows := [(2046 * 65536 + 4, open4.2), (2047 * 65536 + 3, { state := .closed })]
                        reloc := [lunKey 31 63] } with luns := [(2046, { state := .active }), (2047, { state := .failed })] }
     let p := { place4 with lun := 62 }
     let u := (s.redoPrograms 31 63).selectRow .reloc 31 63 3
     s.internalOk = true ∧ (s.lun 31 63).state = .failed ∧ lunKey 31 63 ∈ s.ftl.reloc ∧ (s.lun 31 63).queue = [] ∧ maBlock top = 3 ∧ maLun top = 63 ∧
       (s.row 31 63 3).owner = none ∧ s.img? 31 top = some (kept false) ∧ s.imgEntries (kept false) ≠ [] ∧
       u.moverChannel .reloc (kept false) 31 = true ∧ (u.placeImage 5 p 1).isSome = true ∧ s.profile? 31 = some prof ∧ 0 < cwsOf (prof.unit top) 1) ∧
    (let v : Stripe := { id := 7, slc := false, stream := 5, super := 6, pages := [⟨31, 63, 3, 0⟩], closed := true, done := true }
     let s := { cared { stripes := [v], rows := [(2046 * 65536 + 4, open4.2)] } with luns := [(2046, { state := .active }), (2047, { state := .failed })] }
     let u := s.redoPrograms 31 63
     let x := { v with pages := v.pages.filter (fun y => !y.on 31 63) }
     s.internalOk = true ∧ (s.lun 31 63).state = .failed ∧ lunKey 31 63 ∉ s.ftl.reloc ∧ (s.lun 31 63).queue = [] ∧
       s.ftl.stripes.filter (s.wantsReparity 31 63) = [v] ∧ s.stripe? 7 = some v ∧ u.parityChan x (u.superOf 5) = some 31 ∧
       u.rowsWithPage (u.superOf 5) 31 = [(2046 * 65536 + 4, open4.2)] ∧ (u.profile? 31).isSome = true) := by
  and_intros <;> decide +kernel

/-- Where one row has a page left, a parity page is found in it, whatever the free value that chooses among the rows. -/
theorem parity_one (s : State) (v : Stripe) (sb c : Nat) (e : Nat × Row) (h : s.parityChan v sb = some c) (hr : s.rowsWithPage sb c = [e])
    (hp : (s.profile? (keyCh e.1)).isSome = true) : (s.parityPage v sb).isSome = true := by
  unfold State.parityPage
  simp only [h, hr, List.length_singleton, Nat.max_self, Nat.mod_one]
  obtain ⟨p, hp⟩ := Option.isSome_iff_exists.mp hp
  have hq : ((s.setFtl { s.ftl with parityAt := (c + 1) % 32 }).tick).profile? (keyCh e.1) = some p := hp
  simp [State.takePage, hq]

/-- Namespace 1, its span 0 splintered over 64 unmapped grains, and a media whose rows hold an image of 513 units. -/
def coarse : State :=
  { cared { span := [(spanKey 1 0, splitEntry 31 0)], grain := [(0, some { nsid := 1, span := 0, entries := [] })], coalesce := [(1, 0)]
            rows := [open4] } with
    ns := [(1, some nvm)], profiles := [{ prof with pagesNative := 30 }] }

/-- The same, its images asked for. -/
def coarseRead : State := { coarse with ftl := { coarse.ftl with coalRead := [(1, 0, [])] } }

theorem coarse_entry : coarseRead.spanEntry 1 0 = splitEntry 31 0 := by decide

theorem coarse_split : coarseRead.splintered 1 0 = true := by decide

theorem coarse_grain (g : Nat) : coarseRead.grainEntry 1 0 g = 0 := by
  have h : coarseRead.block? (eMaddr (coarseRead.spanEntry 1 0)) = some { nsid := 1, span := 0, entries := [] } := by decide
  simp [State.grainEntry, coarse_split, h, nth]

theorem coarse_grains (l : List Nat) : coarseRead.storedGrains nvm 1 0 l = .ok (l.map (fun _ => zeroGrain nvm)) := by
  have h : ∀ g, coarseRead.storedGrain [] nvm 1 0 g = .ok (zeroGrain nvm) := by
    intro g
    have e1 : eWbuf (coarseRead.spanEntry 1 0) = false := by rw [coarse_entry]; decide
    have e2 : eWbuf 0 = false := by decide
    have e : coarseRead.resolve 1 0 g = .zeros := by
      simp only [State.resolve, e1, coarse_split, coarse_grain g, e2]
      simp [sourceOf]
      decide
    simp [State.storedGrain, e]
  induction l with
  | nil => rfl
  | cons g t ih => simp [State.storedGrains, h, ih]

theorem coarse_ents : coarseRead.spanEnts 1 0 = (none, splitEntry 31 0) :: (List.range 64).map (fun g => (some g, 0)) := by
  simp only [State.spanEnts, coarse_entry, coarse_grain]

/-- An image of the span takes 1 unit or 513. -/
theorem coarse_units (n : Nat) (p : List Byte) (hp : p.length = 262144) :
    unitsOf (encodeImage n [] p).2.length = 1 ∨ unitsOf (encodeImage n [] p).2.length = 513 := by
  have h : ∀ a b c d, (imageHeader a b c d).length = 16 := by
    intro a b c d
    simp [imageHeader, highFirst, lowFirst]
  have hne : p.isEmpty = false := by
    cases p with
    | nil => cases hp
    | cons a t => rfl
  unfold encodeImage
  simp only [hne, Bool.false_eq_true, if_false]
  split
  · left
    simp [tblzFrame, h, unitsOf, cdiv]
  · right
    simp [rawImage, h, hp, unitsOf, cdiv]

theorem coarse_place : (coarseRead.placeImage 6 place4 1).isSome = true ∧ (coarseRead.placeImage 6 place4 513).isSome = true := by
  and_intros <;> decide +kernel

/-- A span that is asked for, one that waits, one that is encoded; a namespace that is gone and a span that is splintered no more. -/
theorem wit_CareMoves_coalesce :
    coarse.nsOf 1 = some nvm ∧ coarse.nsOf 2 = none ∧ coarse.internalOk = true ∧ (1, 0) ∈ coarse.ftl.coalesce ∧
      place4.ch = eCh (coarse.spanEntry 1 0) ∧ coarse.ftl.copies = [] ∧ coarse.ftl.coalRead = [] ∧
      (let s := { cared { coalesce := [(1, 0)], span := [(spanKey 1 0, splitEntry 31 0), (spanKey 1 1, mkEntry false false false false true 31 1 top)] } with
         ns := [(1, some nvm)] }
       s.splintered 1 1 = false ∧ s.spanImages 1 1 = []) ∧
    coarseRead.nsOf 1 = some nvm ∧ coarseRead.internalOk = true ∧ (1, 0) ∈ coarseRead.ftl.coalesce ∧ (1, 0, []) ∈ coarseRead.ftl.coalRead ∧
      coarseRead.splintered 1 0 = true ∧ place4.ch = eCh (coarseRead.spanEntry 1 0) ∧ coarseRead.spanImages 1 0 = [] ∧
      (∀ e ∈ coarseRead.spanEnts 1 0, eWbuf e.2 = false) ∧ coarseRead.ftl.copies = [] ∧ coarseRead.reading (.coalesce 1 0) = false ∧
      coarseRead.storedGrains nvm 1 0 (List.range 64) = .ok ((List.range 64).map (fun _ => zeroGrain nvm)) := by
  refine ⟨by decide, by decide, by decide, by decide, by decide, by decide, by decide, ⟨by decide, by decide +kernel⟩, by decide, by decide,
    by decide, by decide, coarse_split, ?_, ?_, ?_, by decide, by decide, coarse_grains _⟩
  · rw [coarse_entry]
    decide
  · unfold State.spanImages
    rw [coarse_ents]
    decide +kernel
  · rw [coarse_ents]
    decide +kernel

/-- Its image takes its place. -/
theorem coarse_fits (n : Nat) (p : List Byte) (hp : p.length = 262144) :
    ∃ v a, coarseRead.placeImage 6 place4 (unitsOf (encodeImage n [] p).2.length) = some (v, a) := by
  obtain ⟨x, hx⟩ := Option.isSome_iff_exists.mp coarse_place.1
  obtain ⟨y, hy⟩ := Option.isSome_iff_exists.mp coarse_place.2
  obtain h | h := coarse_units n p hp
  · exact ⟨x.1, x.2, by rw [h]; exact hx⟩
  · exact ⟨y.1, y.2, by rw [h]; exact hy⟩

theorem zero_grain_length : (zeroGrain nvm).length = 4096 := by
  unfold zeroGrain
  rw [List.length_append, List.length_replicate, List.length_replicate]
  decide

theorem coarse_length (l : List Nat) : (plainOfGrains (l.map (fun _ => zeroGrain nvm))).length = l.length * 4096 := by
  unfold plainOfGrains
  rw [List.length_append, List.length_flatMap, List.length_flatMap]
  simp only [List.length_take, List.length_drop, List.map_const', List.map_replicate, zero_grain_length, List.sum_replicate_nat, Nat.min_self, Nat.sub_self]
  omega

/-- A coalesced span whose image takes its place. -/
theorem wit_CareMoves_written :
    coarseRead.storedGrains nvm 1 0 (List.range 64) = .ok ((List.range 64).map (fun _ => zeroGrain nvm)) ∧
      ∃ v a, coarseRead.placeImage 6 place4 (unitsOf (encodeImage (coarseRead.fieldNow (Reg.PRS_MIN_SAVING place4.ch) 7 0) []
        (plainOfGrains ((List.range 64).map (fun _ => zeroGrain nvm)))).2.length) = some (v, a) :=
  ⟨coarse_grains _, coarse_fits _ _ (coarse_length _)⟩

/-- Rows in each state at the gate, one that is counted, one whose segment is not checkpointed yet; the gate shut, the record due and
waiting, the erase issued; the window open and over, with a splintered span. -/
theorem wit_CareGate :
    (∀ r ∈ [({ state := .closed } : Row), { state := .suspect, marked := true }, { state := .free }, { state := .closed, closing := true },
        { state := .closed, freed := [(5, 4)] }],
      let s := cared { rows := [(2047 * 65536 + 3, r)] }
      s.row 31 63 3 = r ∧ s.rowCounted 31 63 3 = false ∧ s.chest.ckptSeq = []) ∧
    (let s := { cared { rows := row3 { state := .closed, freed := [(5, 4)] } } with chest := { ckptSeq := [(5, 5)] } }
     s.rowCounted 31 63 3 = false ∧ ∀ e ∈ (s.row 31 63 3).freed, ∃ c ∈ s.chest.ckptSeq, c.1 = e.1 ∧ e.2 < c.2) ∧
    (let s := cared { span := keptSpan false, imgs := [kept false], rows := row3 { state := .closed } }
     (s.row 31 63 3).state = .closed ∧ s.rowCounted 31 63 3 = true) ∧
    (∀ r ∈ [({ state := .closed, gateWait := true } : Row), { state := .closed, gateWait := true, erasePend := true },
        { state := .closed, gateWait := true, eraseReady := true }],
      let s := cared { rows := [(2047 * 65536 + 3, r)] }
      s.internalOk = true ∧ s.row 31 63 3 = r ∧ s.rowCounted 31 63 3 = false ∧ s.readsInto 31 63 3 = false ∧ r.copyStripes = [] ∧
        s.chest.failed = false ∧ (s.lun 31 63).state = .active ∧ Sparse.sorted s.ftl.rows = true ∧ s.profile? 31 = some prof) ∧
    State.reset.internalOk = false ∧
    (∀ n ∈ [1048576, 1048577],
      let s := cared { span := [(spanKey 1 0, splitEntry 31 0)], splinterTimer := n }
      s.fieldNow Reg.FTL_SPLINTER_WIN 24 0 = 1048576 ∧ Sparse.sorted s.ftl.rewrites = true ∧ (1, 0) ∈ s.splinters) := by
  and_intros <;> decide +kernel

/-! ### The Chest -/

/-- That record alone is due. -/
def records (f : Ftl) (c : Change) : State := { cared f with chest := { pending := [{ seq := 9, change := c }] } }

/-- A copy whose entry stands and one whose entry has changed, a coalesced span of each kind, a splinter, a trim of a whole span, an erase
that starts, a slot that is mapped, one released, a command's grain that is held. -/
theorem wit_ChestCommits :
    State.reset.chest.pending = [] ∧ Change.bytes (.slot 0 0) = 0 ∧ Change.bytes (.trim none 1 0 []) ≠ 0 ∧
    (let loc : Loc := ⟨none, top, 1, true, false⟩
     let e := mkEntry false false false false true 31 1 top
     let c : Change := .copyCommit 1 0 [(none, e)] 31 loc .gc (31, top)
     let s := records { span := keptSpan false } c
     s.chest.pending ≠ [] ∧ Sparse.sorted s.ftl.span = true ∧ s.spanEntry 1 0 = e ∧ s.commits c = true ∧ c.bytes ≠ 0 ∧
       (records {} c).spanEntry 1 0 ≠ e ∧ (records {} c).commits c = false) ∧
    (let loc : Loc := ⟨none, top, 1, true, false⟩
     let c : Change := .coalesced 1 0 [(none, mkEntry false false false false true 31 1 top)] 31 loc
     (records { span := keptSpan false } c).commits c = true ∧ (records {} c).commits c = false) ∧
    (let s := records { span := keptSpan false } (.splinter 1 0)
     let e := s.spanEntry 1 0
     s.ftl.grain.length < 2 ^ 24 ∧ eSplit e = false ∧ eWbuf e = false ∧ eImage e = true) ∧
    (let s := records { span := keptSpan false, mask := [(spanKey 1 0, 1)] } (.trim none 1 0 (List.range 64))
     64 ≤ (List.range 64).length ∧ Sparse.sorted s.ftl.span = true ∧ Sparse.sorted s.ftl.mask = true) ∧
    (records {} (.eraseStart 31 63 3)).chest.pending = { seq := 9, change := .eraseStart 31 63 3 } :: [] ∧
    (let loc : Loc := ⟨none, top, 1, true, false⟩
     let v : Slot := { idx := 5, nsid := 1, span := 0, ch := 31, imgs := [loc] }
     let s := records { span := [(spanKey 1 0, slotEntry 31 5)], slots := [v] } (.spanCommit 5)
     s.slotAt 5 = some v ∧ v.fresh = [] ∧ v.recv = [] ∧ eWbuf (s.spanEntry 1 0) = true ∧ eMaddr (s.spanEntry 1 0) = 5 ∧
       Sparse.sorted s.ftl.span = true) ∧
    (let v : Slot := { idx := 5, nsid := 1, span := 0, done := true, freeing := true }
     (records { slots := [v] } (.slotFree 5)).slotAt 5 = some v) ∧
    (let v : Slot := { idx := 5, nsid := 1, span := 0, recv := [(8, 63, [7])] }
     let s := records { slots := [v] } (.slot 5 8)
     s.slotAt 5 = some v ∧ ((v.recv.filter (fun x => decide (x.1 = 8))).map (·.2.1)).Nodup ∧ (8, 63, [7]) ∈ v.recv ∧ ([7] : List Byte) ≠ []) := by
  and_intros <;> decide +kernel

/-- Row records of each kind, a stripe's new parity, a checkpoint's records, and a slot that waits for a grain block; the Chest failed
and not. -/
theorem wit_ChestCommits_rows :
    ((records { rows := row3 { state := .opened } } (.row 31 63 3 .close)).row 31 63 3).state = .opened ∧
    (∀ w ∈ [RowChange.pin, .unpin, .release, .retire 0, .retire 2],
      let s := records { rows := row3 { state := .closed, closing := true } } (.row 31 63 3 w)
      s.chest.pending = [{ seq := 9, change := .row 31 63 3 w }] ∧ Sparse.sorted s.ftl.rows = true ∧ (s.row 31 63 3).marked = false ∧
        (s.row 31 63 3).closing = true) ∧
    (let v : Stripe := { id := 7, slc := false, pages := [⟨31, 63, 3, 0⟩] }
     (records { stripes := [v] } (.stripe 7 (some ⟨31, 63, 4, 0⟩))).stripe? 7 = some v) ∧
    (∀ c ∈ [Change.ckpt 5 9, .sysCommit 5 31 top 1], (records {} c).chest.pending = [{ seq := 9, change := c }]) ∧
    (let v : Slot := { idx := 5, nsid := 1, span := 0, stuck := true }
     let s := records { slots := [v] } (.image 31 top)
     s.ftl.slots.find? (fun x => x.stuck) = some v ∧ ({ s with chest := { s.chest with pending := [] } } : State).blockFree = true) ∧
    (∀ x ∈ [true, false], ({ cared {} with chest := { failed := x } } : State).chest.failed = x ∧ (cared {}).dev = .service) := by
  and_intros <;> decide +kernel

/-- A segment in the slot 0 of the Drawer, sealed with that tag. -/
def sealedBy (tag : BitVec 128) : Segment := { resident := false, homed := true, slot := some 0, tag := tag }

/-- Checkpoints that run and not, with a segment left and none; the period's end; each phase of a rebuild, a promotion first in its
queue and not, the last partition; a damaged partition. -/
theorem wit_ChestSaves :
    (State.reset.pins.dual = false ∧ State.reset.chest.ckptActive = false ∧
      State.reset.chest.ckptTimer ≤ State.reset.fieldNow Reg.CHS_CKPT_PERIOD 26 0) ∧
    (let s := { State.reset with chest := { ckptTimer := 2 ^ 27, ckptActive := true } }
     s.fieldNow Reg.CHS_CKPT_PERIOD 26 0 < s.chest.ckptTimer) ∧
    ({ State.reset with pins := { dual := true } } : State).ownerPort ≠ true ∧
    (let s := { cared { rows := row3 { state := .free, slc := true }, rot := [(0, 31)] } with chest := { ckptActive := true, ckptLeft := [5] } }
     s.chest.ckptActive = true ∧ 5 ∈ s.chest.ckptLeft ∧ s.chest.ckptBusy = [] ∧ s.chest.pending = [] ∧ s.nextChan 0 = some 31 ∧
       (s.placeImage 8 place4 1).isSome = true) ∧
    (let s := { cared { rows := row3 {} } with chest := { ckptActive := true, journal := [(1, 32, []), (2, 32, [5])], ckptSeq := [(5, 3)] } }
     s.chest.ckptActive = true ∧ s.chest.ckptLeft = [] ∧ Sparse.sorted s.ftl.rows = true) ∧
    (State.reset.rebuild.phase ≠ 1 ∧ ({ State.reset with rebuild := { phase := 1 } } : State).rebuild.phase = 1) ∧
    (let s := { State.reset with rebuilding := true, rebuild := { phase := 2, mapLeft := [5, 6], idxLeft := [4095], promo := [(1, 4095)] } }
     s.rebuild.phase = 2 ∧ 4095 ∈ s.rebuild.idxLeft ∧ 5 ∈ s.rebuild.mapLeft ∧
       s.rebuild.promo.find? (fun y => (if y.1 = 0 then s.rebuild.mapLeft else s.rebuild.idxLeft).contains y.2) = some (1, 4095)) ∧
    (let s := { State.reset with rebuilding := true, rebuild := { phase := 2, mapLeft := [5] } }
     s.rebuild.phase = 2 ∧ s.rebuild.mapLeft.filter (fun j => decide (j ≠ 5)) = [] ∧ s.rebuild.idxLeft = [] ∧ s.rebuild.promo = []) ∧
    (4095 ∈ ({ State.reset with idx := { damaged := [4095] } } : State).idx.damaged ∧ 4095 ∉ State.reset.idx.damaged) := by
  and_intros <;> decide +kernel

/-- Segments of the Drawer that go out, whose write-out is confirmed, with another slot's write-out, to a bad slot, and that are lost. -/
theorem wit_ChestSaves_drawer :
    (∀ o ∈ [none, some 1, some 0],
      let s := { State.reset with portA := { hmb := [(0x10000, 131072)] }, ftl := { drawer := { state := .active, slots := 2, room := some 1 }, segs := [(5, { out := o })] } }
      slotAddr (s.port s.ownerPort).hmb 1 = some 0x20000 ∧ slotAddr (s.port s.ownerPort).hmb 2 = none ∧ s.ftl.drawer.room ≠ none ∧
        s.ftl.drawer.state = .active ∧ (s.seg 5).resident = true ∧ (s.seg 5).out = o ∧ s.ftl.drawer.bad = [] ∧ s.ftl.segs.length = 1) ∧
    (let s := { State.reset with ftl := { segs := [(5, { resident := false })] } }
     (s.seg 5).resident = false ∧ (s.seg 5).homed = false ∧ (s.seg 6).resident = true ∧ Sparse.sorted s.ftl.segs = true ∧
       s.ftl.drawer.room = none) := by
  and_intros <;> decide +kernel

theorem wit_ChestSaves_sealed :
    (∀ x : BitVec 128, let s := { State.reset with ftl := { drawer := { state := .active }, segs := [(5, sealedBy x)] } }
      s.seg 5 = sealedBy x ∧ (s.seg 5).resident = false ∧ (s.seg 5).homed = true ∧ s.ftl.drawer.state = .active ∧
        s.ftl.sealGen = 0 ∧ (s.seg 5).seq = 0 ∧ (s.seg 5).tag = x ∧ s.ftl.drawer.room = none) ∧
    (List.replicate 65536 (0 : Byte)).length = 65536 ∧ ([] : List Byte).length ≠ 65536 :=
  ⟨fun _ => ⟨rfl, rfl, rfl, rfl, rfl, rfl, rfl, rfl⟩, List.length_replicate, by decide⟩

/-! ### Beads and interrupts -/

/-- Bead 7 of Strand 31 with that job, at that beat. -/
def onLast (b : Nat) (j : Job) : State := { State.reset with beat := b, cores := [(255, { run := .running, job := some j })] }

/-- Command 8 runs on it, at the end of the beat. -/
def lastRuns (x : Bool) : State :=
  { running { pipeRead 1 with phase := .active } (runOf [] {} 0) {} with beat := 4, cores := (onLast 4 { job with tag := 8, inst := 1, skipOverrun := x }).cores, strands := [] }

/-- Control core 15 with source 0 up, in that state and status. -/
def interrupted (x : CoreRun) (st : Word) : State :=
  { State.reset with cores := [(256 + 15, { run := x, st := st, imask := 1 })], route := [(15, 1)], pwr := { pwrFailLow := true } }

/-- A job whose beat is not over and is, one that WAIT ended in time and late, one of a pipeline that passes overruns over, and
command 8 running it. A control core that runs and one that sleeps with source 0 up, its interrupts taken and not. -/
theorem wit_BeadsAndInterrupts :
    (∀ x ∈ [((3, job) : Nat × Job), (4, job), (5, { job with waiting := some 3 }), (5, { job with waiting := some 4 })],
      ((onLast x.1 x.2).core (8 * 31 + 7)).job = some x.2 ∧ Sparse.sorted (onLast x.1 x.2).strands = true) ∧
    (¬ (0 + 4 ≤ 3) ∧ 0 + 4 ≤ 4 ∧ 3 + 1 ≤ 5 ∧ ¬ (4 ≤ 3 - 0) ∧ 4 + 1 ≤ 5 ∧ 0 ≤ 4 ∧ 4 ≤ 4 - 0) ∧
    (∀ x ∈ [true, false], ((lastRuns x).core (8 * 31 + 7)).job = some { job with tag := 8, inst := 1, skipOverrun := x } ∧
      Sparse.sorted (lastRuns x).strands = true ∧ (lastRuns x).run? 8 = some (runOf [] {} 0) ∧
      Answerable (lastRuns x) 8 { pipeRead 1 with phase := .active }) ∧
    (∀ x ∈ [((.running, 0x4000) : CoreRun × Word), (.sleeping, 0x4000), (.sleeping, 0x6000), (.sleeping, 0)],
      ((interrupted x.1 x.2).co (.cc 15)).run = x.1 ∧ ((interrupted x.1 x.2).co (.cc 15)).st = x.2 ∧
        (interrupted x.1 x.2).routed 15 0 = true ∧ ((interrupted x.1 x.2).co (.cc 15)).imask.getLsbD 0 = true ∧
        (interrupted x.1 x.2).sourceLevel 0 = some true) ∧
    (bitOf (0x4000 : Word).toNat 14 = true ∧ bitOf (0x4000 : Word).toNat 13 = false ∧ bitOf (0x6000 : Word).toNat 13 = true) ∧
    State.reset.sourceLevel 0 = some false := by
  unfold Answerable
  and_intros <;> decide +kernel

/-! ### Shards, ingest and the Press -/

/-- A descriptor of one data and one parity shard, in units of 2^u bytes, with those flags of its two host destinations. -/
def shardDesc (u fl gl len : Nat) : List Byte :=
  [1, 1, 1, BitVec.ofNat 8 u] ++ leBytes 4 len ++ zeros 56 ++ (zeros 8 ++ [1, 0, BitVec.ofNat 8 fl] ++ zeros 5) ++ (zeros 8 ++ [1, 0, BitVec.ofNat 8 gl] ++ zeros 5)

/-- One whose first shard lies in SLM namespace 3, with those flags of the two. -/
def slmDesc (fl gl len : Nat) : List Byte :=
  [1, 1, 1, 12] ++ leBytes 4 len ++ zeros 56 ++ (zeros 8 ++ [2, 0, BitVec.ofNat 8 fl, 0, 3, 0, 0, 0]) ++ (zeros 8 ++ [1, 0, BitVec.ofNat 8 gl] ++ zeros 5)

def toHost : ShardDest := { addr := 0, kind := 1, peer := 0, present := false, rebuild := false, nsid := 0 }
def toSlm : ShardDest := { toHost with kind := 2, nsid := 3 }
def toPeer : ShardDest := { toHost with kind := 3, peer := 1 }

/-- A job of command 8 on two bytes. -/
def twoBytes (st fp : Bool) : ShardJob :=
  { tag := 8, inst := 1, port := false, gen := 0, rebuild := false, fromPipe := fp, k := 1, m := 1, unit := 2, shlen := 2, dests := [toHost, toHost], data := [7, 7], started := st }

/-- A command of `l` that holds SLM namespace 3. -/
def holder (l : List (Nat × DWord)) : Cmd := { ioCmd l with att := [3] }

/-- The state without the DRAM that SLM lies in; with one of its lines poisoned. -/
def unplaced (s : State) : State := { s with dram := { placed := [true, true, true, false] } }
def poisoned (s : State) : State := { s with dram := { slmPoison := [slmKey 3 0 / 64] } }

/-- Encodes that fail each check, that are of no data, of SLM that is not there, has no DRAM or is poisoned; with room and none. -/
theorem wit_ShdJobs :
    (∀ l ∈ [[(0, 0x85), (10, 1)], [(0, 0x85)], [(0, 0x85), (12, 8388608)], [(0, 0x85), (12, 8388609)], [(0, 0x85), (12, 2)], [(0, 0x4085), (12, 2)],
        [(0, 0x85), (1, 3), (12, 2), (13, 1)], [(0, 0x85), (1, 3), (12, 2), (13, 1), (14, 4095)], [(0, 0x89), (12, 1)], [(0, 0x89)]],
      Answerable (issued (holder l)) 8 (holder l) ∧ (holder l).admin = false ∧ ((holder l).opcode = 0x85 ∨ (holder l).opcode = 0x89) ∧
        (holder l).phase = .fetched ∧ (holder l).vendorOk = true) ∧
    (holder [(0, 0x4085), (12, 2)]).sgl = true ∧ (holder [(0, 0x85), (12, 2)]).sgl = false ∧ (zeros 1).length < 2 ∧
    Answerable (issued { holder [(0, 0x85)] with phase := .active }) 8 { holder [(0, 0x85)] with phase := .active } ∧
    (let c := holder [(0, 0x85), (1, 3), (12, 2), (13, 1)]
     let s := issued c
     bitOf (c.d 13).toNat 0 = true ∧ c.zero [6, 7, 8, 9] = true ∧ s.slmHolds c.nsid (c.q 14) 2 = true ∧
       s.slmHolds 3 4095 2 = false ∧ s.encodeCheck c (shardDesc 12 0 0 0) 2 = none ∧ s.slmPlaced = true ∧ s.slmBad c.nsid (c.q 14) 2 = false ∧
       (unplaced s).slmPlaced = false ∧ (unplaced s).encodeCheck c (shardDesc 12 0 0 0) 2 = none ∧ Answerable (unplaced s) 8 c ∧
       (poisoned s).slmBad c.nsid (c.q 14) 2 = true ∧ Answerable (poisoned s) 8 c) ∧
    (let c := holder [(0, 0x85), (12, 2)]
     let s := issued c
     c.nsid = 0 ∧ s.encodeCheck c (shardDesc 11 0 0 0) 2 = some .invalidField ∧ s.encodeCheck c (shardDesc 12 0 0 0) 2 = none ∧ s.shardRoom = true ∧
       (unplaced s).encodeCheck c (slmDesc 0 0 0) 2 = some .nsNotReady ∧
       ({ s with shd := List.replicate 64 (twoBytes false false) } : State).shardRoom = false ∧ ({ s with shd := List.replicate 64 (twoBytes true false) } : State).shardRoom = true) := by
  unfold Answerable
  and_intros <;> decide +kernel

/-- Rebuilds: with too few sources, of no shard, of one from the host, of one from SLM, poisoned and without DRAM. -/
theorem wit_ShdJobs_rebuild :
    (let c := holder [(0, 0x89)]
     let s := issued c
     let d := shardDesc 12 1 2 4096
     Answerable s 8 c ∧ c.zero [2, 3, 6, 7, 8, 9, 12, 13, 14, 15] = true ∧ c.nsid = 0 ∧ shardLayout d true = true ∧ s.shardTargets c (leField d 4 4) (shardDests d) = true ∧
       s.shardNotReady (shardDests d) = false ∧ ((presentOf d).take 1).length = 1 ∧ (∃ x ∈ shardDests d, x.rebuild = true) ∧
       (∀ j ∈ (presentOf d).take 1, (shardDest d j).kind = 1) ∧ s.shardRoom = true) ∧
    (let d := shardDesc 12 1 0 4096
     shardLayout d true = true ∧ ((presentOf d).take 1).length = 1 ∧ ∀ x ∈ shardDests d, x.rebuild = false) ∧
    (let d := shardDesc 12 0 2 4096
     shardLayout d true = true ∧ ((presentOf d).take 1).length < 1) ∧
    (let c := holder [(0, 0x89)]
     let d := slmDesc 1 2 4096
     let s := issued c
     shardLayout d true = true ∧ s.shardTargets c 4096 (shardDests d) = true ∧ s.shardNotReady (shardDests d) = false ∧
       (unplaced s).shardNotReady (shardDests d) = true ∧ (unplaced s).shardTargets c 4096 (shardDests d) = true ∧
       (presentOf d).take 1 = [0] ∧ (shardDest d 0).kind = 2 ∧ (poisoned s).slmBad 3 (shardDest d 0).addr 4096 = true ∧ (shardDest d 0).nsid = 3) := by
  unfold Answerable
  and_intros <;> decide +kernel

/-- Jobs that start, that stall, whose write is refused, that are suppressed, and that run too long. -/
theorem wit_ShdJobs_jobs :
    (∀ x ∈ [false, true],
      let c := { ioCmd [(0, 0x85)] with phase := .active }
      let j := twoBytes false x
      let s := { issued c with shd := [j] }
      let s1 := s.bump64 Reg.SHD_IN_LO 2
      s.shd = j :: [] ∧ (∀ y ∈ s.shd, y.started = false) ∧ Linked s ∧ Answerable s 8 c ∧ s.jobAlive j = true ∧ (∀ n ∈ j.targets, (j.dest n).kind = 1) ∧
        j.fromPipe = x ∧ (∀ w ∈ j.writes, w.2.2 ≠ []) ∧
        (j.writes.foldlM (fun (u : State) w => (u.shardWrite j w).map (fun v => v.bump64 Reg.SHD_OUT_LO w.2.2.length)) s1).isSome = true) ∧
    (let j := { twoBytes false false with dests := [toSlm, toPeer] }
     let s := unplaced { issued (ioCmd [(0, 0x85)]) with shd := [j] }
     Linked s ∧ s.jobAlive j = true ∧ j.writes.length = 2 ∧ (∀ w ∈ j.writes, w.2.2 ≠ [] ∧ s.shardWrite j w = none)) ∧
    (let j := { twoBytes false false with suppressed := true }
     let s := issued (ioCmd [(0, 0x85)])
     s.alive j.inst j.gen = true ∧ s.jobAlive j = false) ∧
    (let c := { ioCmd [(0, 0x85)] with phase := .active }
     let j := twoBytes true false
     let s := { issued c with shd := [j] }
     s.shd.find? (fun x => x.started) = some j ∧ j.nextShard = some 0 ∧ (j.dest 0).kind = 1 ∧ j.fromPipe = false ∧ Answerable s 8 c ∧ Linked s) := by
  unfold Answerable Linked
  and_intros <;> decide +kernel

/-- An ingest descriptor of zeros. -/
def noIngest : List Byte := zeros 64

/-- Pipelined writes that fail each check, of no data, at the end of the namespace, with a short SGL, with a digest and with shards; each
admission; the map there and not. -/
theorem wit_IngWrites :
    (∀ l ∈ [[(0, 0x81), (1, 1), (12, 1)], [(0, 0x81), (1, 1), (10, 4095), (12, 8192)], [(0, 0x81), (1, 1), (10, 4096)], [(0, 0x81), (1, 1), (10, 4095), (12, 4096)],
        [(0, 0x4081), (1, 1), (10, 4095), (12, 4096)], [(0, 0x81), (1, 2), (12, 8388609)]],
      Answerable (issued (ioCmd l)) 8 (ioCmd l) ∧ (ioCmd l).admin = false ∧ (ioCmd l).opcode = 0x81 ∧ (ioCmd l).phase = .fetched ∧ (ioCmd l).shd = false ∧
        (ioCmd l).dirFlag = false ∧ (ioCmd l).digest = false) ∧
    (let l := [(0, 0x81), (1, 1), (10, 4095), (12, 4096)]
     let c := ioCmd l
     let s := issued c
     s.nsOf c.nsid = some nvm ∧ s.nsOf 2 = some kv ∧
     nvm.lbaf = 0 ∧ pipeWriteOk c false [] = true ∧ pipeWriteOk (ioCmd [(0, 0x81), (1, 1), (12, 1)]) false [] = false ∧ c.q 10 + 1 ≤ nvm.size ∧
       s.nvmAdmit c nvm 4095 1 = none ∧ (s.ftl.slots.map (·.idx)).Nodup ∧ (ioCmd [(0, 0x4081), (1, 1)]).sgl = true ∧
       ({ s with health := .readOnly } : State).nvmAdmit c nvm 4095 1 = some .writeProtected ∧
       ({ s with ftl := { grainGib := 0, span := [(spanKey 1 63, mkEntry false false false false true 31 1 top)], imgs := [{ kept false with span := 63, unreadable := true }] } } : State).nvmAdmit c nvm 4095 1 = some .unrecoveredRead ∧
       InPlace s (s.partsOf 1 ((lbaSpans 4095 1).map (·.1))) (s.segsFor 1 ((lbaSpans 4095 1).map (·.1))) ∧
       Answerable (unbuilt s) 8 c ∧ (∃ p ∈ (unbuilt s).partsOf 1 ((lbaSpans 4095 1).map (·.1)), (unbuilt s).unbuilt p = true) ∧
       (unbuilt s).nvmAdmit c nvm 4095 1 = none) ∧
    (∀ b ∈ [28, 29, 30, 31], ∃ f ∈ [Cmd.shd, Cmd.dirFlag, Cmd.digest, fun _ => true], f (ioCmd [(13, BitVec.ofNat 32 (2 ^ b))]) = true) := by
  unfold Answerable InPlace
  and_intros <;> decide +kernel

/-- Pipelined writes of a value: above 8 MiB, refused, over the capacity, without free spans, and stored, empty and not. -/
theorem wit_IngWrites_values :
    (let c := ioCmd [(0, 0x81), (1, 2), (2, 0x61), (12, 2), (13, 1)]
     let s := issued c
     Answerable s 8 c ∧ c.admin = false ∧ c.opcode = 0x81 ∧ s.nsOf c.nsid = some kv ∧ pipeWriteOk c true [] = true ∧ s.kvSlot 2 = some 0 ∧
       s.writeCheck c = none ∧ ({ s with health := .readOnly } : State).writeCheck c = some .writeProtected ∧
       s.kvOver kv 0 [(c.key, 2)] = false ∧ s.kvOver { kv with cap := 0 } 0 [(c.key, 2)] = true ∧ (s.ftl.slots.map (·.idx)).Nodup ∧
       firstFit (s.usedRuns 0 2) (kvSpans kv) (spansOfLen 2) = some 0 ∧ InPlace s [(1, s.keyPart 0 c.key)] [] ∧
       firstFit [(0, kvSpans kv)] (kvSpans kv) (spansOfLen 2) = none) ∧
    (pipeWriteOk (ioCmd [(0, 0x81), (1, 2), (2, 0x61), (12, 8388609), (13, 1)]) true [] = true) := by
  unfold Answerable InPlace
  and_intros <;> decide +kernel

/-- Slot 5 of span 0 of namespace `n`, and where its image may lie. -/
def slotted (v : Slot) (e : BitVec 64) : State :=
  { cared { slots := [v], span := [(spanKey v.nsid 0, e)], rows := [(2047 * 65536 + 3, { state := .free, slc := true }),
      (2047 * 65536 + 4, { state := .opened, slc := true, superblock := 6 })] } with ns := [(1, some nvm), (2, some kv)] }

def shelf4 : Place := { place4 with slc := true }

/-- Encodes of a value, held and receiving; of a grain of a splintered span; of a directory; of a span whose old image is needed, not yet
asked for, asked for, and failed. -/
theorem wit_IngWrites_images :
    (∀ x ∈ [SlotState.held, .receiving],
      let v : Slot := { idx := 5, state := x, nsid := 2, span := 0, grains := [(0, [7])], fresh := [0], kvLen := some 1, ch := 31 }
      let s := slotted v (slotEntry 31 5)
      s.slotAt 5 = some v ∧ s.nsOf 2 = some kv ∧ s.placeOk v true shelf4 = true ∧ s.needsOld v = [] ∧ s.slotPlain v kv = .ok [7] ∧
        s.reading (.rmw 5) = false ∧
        (s.placeImage 0 shelf4 (unitsOf (encodeImage (s.fieldNow (Reg.PRS_MIN_SAVING 31) 7 0) [] [7]).2.length)).isSome = true) ∧
    (let v : Slot := { idx := 5, state := .held, nsid := 1, span := 0, grains := [(63, [7])], fresh := [63], grainImages := true, ch := 31 }
     let s := slotted v (splitEntry 31 0)
     s.slotAt 5 = some v ∧ s.nsOf 1 = some nvm ∧ s.splintered 1 0 = true ∧ s.placeOk v false shelf4 = true ∧ (63 : Nat) ∈ v.fresh ∧
       v.grains.find? (fun e => decide (e.1 = 63)) = some (63, [7]) ∧
       (s.placeImage 0 shelf4 (unitsOf (encodeImage (s.fieldNow (Reg.PRS_MIN_SAVING 31) 7 0) [] [7]).2.length)).isSome = true) ∧
    (let v : Slot := { idx := 5, state := .held, nsid := 1, span := 0, dir := some [7], ch := 31 }
     let s := slotted v (slotEntry 31 5)
     s.slotAt 5 = some v ∧ v.dir = some [7] ∧ v.imgs = [] ∧ s.placeOk v false shelf4 = true) ∧
    (∀ a ∈ [false, true], ∀ b ∈ [false, true],
      let v : Slot := { idx := 5, state := .held, nsid := 1, span := 0, grains := [(0, [7])], fresh := [0], old := mkEntry false false false false true 31 1 top
                        ch := 31, rmwAsked := a, rmwBad := b }
      let s := { slotted v (slotEntry 31 5) with
        ftl := { (slotted v (slotEntry 31 5)).ftl with imgs := [{ kept false with unreadable := true }] } }
      s.slotAt 5 = some v ∧ s.needsOld v ≠ [] ∧ s.placeOk v true shelf4 = true ∧ s.reading (.rmw 5) = false ∧ s.blockFree = true ∧
        (match s.slotPlain v nvm with
          | .error _ => true
          | .ok _ => false) = true) := by
  and_intros <;> decide +kernel

theorem wit_ImageReads : ([7] : List Byte).length < 2 ^ 32 := by decide

/-- A descriptor of that operation, over one source and one destination entry. -/
def pressDesc (op flags : Nat) : List Byte :=
  [BitVec.ofNat 8 op, 0, 0, BitVec.ofNat 8 flags] ++ zeros 12 ++ [1, 0, 1, 0] ++ zeros 44

/-- The job at the front of Strand 31. -/
def pressed (j : PressJob) : State := { State.reset with strands := [(31, { press := [j] })] }

/-- 64 zero bytes in TBLZ. -/
def tblzZeros : List Byte := [0, 0, 0xBC, 0, 0, 0xFF]

/-- A started job of that operation over `n` bytes, with room for `m`. -/
def pressJob (op n m : Nat) : PressJob :=
  { desc := 64, port := false, started := true, op := op, src := [(0, n, 0)], dst := [(64, m, 0)], left := n }

/-- Submissions in each state of the queue, from the port that does not own the device; a start that passes the checks and fails them. -/
theorem wit_PrsJobs :
    (let w (lo ctl : DWord) := ({ State.reset with stage := [(.host false, Reg.PRS_JOB_LO 31, lo)], regs := [(Reg.PRS_CTL 31, ctl)] } : State)
     (w 1 1).pins.dual = false ∧ ((w 1 1).staged (.host false) (Reg.PRS_JOB_LO 31)).toNat % 64 ≠ 0 ∧
       ((w 64 1).staged (.host false) (Reg.PRS_JOB_LO 31)).toNat % 64 = 0 ∧ (w 64 1).field (Reg.PRS_CTL 31) 0 0 ≠ 0 ∧
       (w 64 0).field (Reg.PRS_CTL 31) 0 0 = 0 ∧ ((w 64 1).strand 31).press.length < 4 ∧ ((w 64 1).strand 31).press = []) ∧
    ({ State.reset with pins := { dual := true } } : State).ownerPort ≠ true ∧
    (let j : PressJob := { desc := 64, port := false }
     let e := zeros 16
     let d := pressDesc 2 0
     ((pressed j).strand 31).press = j :: [] ∧ j.started = false ∧ Linked (pressed j) ∧ pressDescOk d = true ∧ pressDescOk (pressDesc 3 0) = false ∧
       (pressed j).chainOk ((pressed j).pressInst j) (2 ^ 26) (chainOf e (leField d 16 2)) = true ∧
       (pressed j).chainOk ((pressed j).pressInst j) (2 ^ 28) (chainOf e (leField d 18 2)) = true ∧ Sparse.sorted (pressed j).strands = true) := by
  unfold Linked
  and_intros <;> decide +kernel

/-- Slices: one that is not the last, one of poisoned SLM; compressions of nothing, kept and not; decompressions that succeed, with and
without room, and that fail. -/
theorem wit_PrsJobs_slices :
    (let j := pressJob 2 65537 1
     ((pressed j).strand 31).press = j :: [] ∧ j.started = true ∧ min 65536 j.left < j.left ∧ Linked (pressed j)) ∧
    (let j := { pressJob 2 17 1 with src := [(0, 17, 3)] }
     ∃ e ∈ chainCut j.src j.input.length 17, e.2.2 ≠ 0 ∧ (poisoned (pressed j)).slmBad e.2.2 e.1 e.2.1 = true) ∧
    (∀ m ∈ [0, 1],
      let j := pressJob 2 17 m
      let s := pressed j
      let inp := j.input ++ s.gather (chainCut j.src 0 17) (rawImage [7])
      (s.strand 31).press = j :: [] ∧ j.left = min 65536 j.left ∧ (inflateAny j.format inp j.olen).2.1 = 0 ∧ (inflateAny j.format inp j.olen).1 = [7] ∧
        (∀ e ∈ chainCut j.src j.input.length 17, e.2.2 = 0) ∧ Sparse.sorted s.strands = true ∧ chainLen j.dst = m) ∧
    (let j := pressJob 2 17 1
     let inp := j.input ++ (pressed j).gather (chainCut j.src 0 17) (zeros 17)
     (inflateAny j.format inp j.olen).2.1 ≠ 0 ∧ (inflateAny j.format inp j.olen).1.length ≤ chainLen j.dst) ∧
    (let j := { pressJob 1 64 22 with saving := 0 }
     let s := pressed j
     let inp := j.input ++ s.gather (chainCut j.src 0 64) (zeros 64)
     inp ≠ [] ∧ pressFrame j.format j.saving inp tblzZeros = some (tblzFrame (zeros 64) tblzZeros) ∧ (tblzFrame (zeros 64) tblzZeros).length = 22 ∧
       pressFrame j.format j.saving inp [] = none ∧ (pressJob 1 0 22).left = min 65536 (pressJob 1 0 22).left) := by
  unfold Linked
  and_intros <;> decide +kernel

/-! ### The block -/

/-- A queue of one command and an empty one. -/
theorem wit_StepRunsFront : ({ State.reset with pending := [.nandRbFall 0 0] } : State).pending = .nandRbFall 0 0 :: [] ∧
    State.reset.pending = [] := ⟨rfl, rfl⟩

/-- One write to the Code Array waits; sector 0 is protected and frozen. -/
theorem wit_CarGuard : (let s := { car { prot := [0], frozen := true } with pending := [.wordProgram 3 0 0x40] }
    Waits CodeArrayCmd s ∧ s.car.ordered ∧ s.car.guarded ∧ carSector 0 ∈ s.car.prot) ∧ ¬ isSelw 0 := by
  have ho : (car { prot := [0], frozen := true }).car.ordered := ⟨rfl, rfl, rfl, by intro q h; cases h⟩
  refine ⟨⟨?_, ho, ⟨ho, rfl, ?_, ?_⟩, ?_⟩, ?_⟩
  · intro c hc
    cases hc with
    | head => exact .wordProgram 3 0 0x40
    | tail _ h => cases h
  · intro b o h
    rcases b with _ | _ | _ | _ | b <;> cases h
  · intro b k h
    rcases b with _ | _ | _ | _ | b <;> cases h
  · exact List.mem_singleton.mpr rfl
  · rintro ⟨b, h⟩
    have hb : 0 < selSector b := by unfold selSector; split <;> decide
    omega

/-! ### Well-formed commands -/

def page1024 : Src := .page false 1024
def cc16 : Src := .cc 16
def badPlace : Place := { ch := 31, lun := 64, block := 0, unit := 0, slc := false, stripes := [] }
def badMove : Move := { ch := 32, maddr := 0, place := { badPlace with lun := 0 } }
def badDest : Move := { ch := 0, maddr := 0, place := { badPlace with lun := 0, ch := 32 } }

/-- Sources, doorbells and register operands. -/
theorem test_illFormed_registers :
    (∀ i ∈ [Instr.linkRetrain cc16 false, .registerWrite page1024 0 true [0],
        .registerWrite (.cc 0) (2 ^ 26 + 2 ^ 17) true [0], .registerWrite (.cc 0) 0 true [0, 0, 0], .rcRegisterRead cc16 (0, 4),
        .rcRegisterRead (.cc 0) (2 ^ 26 + 2 ^ 17, 4), .qmgQcmdRead cc16, .qmgImtLoad page1024, .qmgImtStore page1024, .chsCkptStart cc16,
        .ksLockRead cc16, .ksRelease cc16 0, .ksActWrite cc16 0, .keySlotWrite cc16 0 0, .keySlotWrite (.cc 0) 64 0, .keySlotWrite (.cc 0) 0 4,
        .keySlotZeroize cc16 0, .keySlotZeroize (.cc 0) 64, .keySlotShare (.cc 0) 64, .keySlotUnshare (.cc 0) 64, .digestStart cc16 0,
        .digestDataWrite cc16 0, .digestLastCommit cc16 0, .cipherDescCommit cc16 0 0, .cipherDescCommit (.cc 0) 0 64, .tmrWdtKick cc16 0,
        .pressJobSubmit cc16 0 0, .pressJobSubmit (.cc 0) 32 0], wellFormed i = false) ∧
    (∀ i ∈ [Instr.sqTailDoorbell (.page false 1024 0) 0, .sqTailDoorbell (.page false 0 64) 0, .cqHeadDoorbell (.page false 1024 0) 0,
        .commandFetch 16384 [], .commandFetch 0 [[]], .adminCommandFetch false [[]], .interruptMessage 16384, .msixUnmask false 2048,
        .deleteIoSqDrained 16384, .instanceDeleteComplete 1024, .instanceResetComplete 1024], wellFormed i = false) ∧
    (∀ f b, wellFormed (.softChipReset page1024 0 f b) = false) := by
  and_intros <;> first | decide +kernel | exact fun _ _ => rfl

/-- Media, care and engine operands. -/
theorem test_illFormed_media :
    (∀ i ∈ [Instr.medOpTimeout 32 0, .medOpTimeout 0 64, .nandReadComplete 32 0 [], .nandReadComplete 0 64 [], .nandProgramComplete 0 64 true 0,
        .nandEraseComplete 0 64 true, .nandSuspendComplete 0 64, .lunResetComplete 0 64 true, .nandRbFall 0 4, .nandRbFall 32 0, .medRecal 32,
        .calibrationComplete 32 0 true, .imageEncode 0 none [] [] badPlace.toSpot [], .coalesceSpan 1 0 [] badPlace.toSpot [], .foldImage badMove, .foldImage badDest,
        .gcPass [badMove], .wearLevellingPeriod [badMove], .refreshRow 32 0 0 [], .refreshRow 0 64 0 [], .refreshRow 0 0 0 [badMove],
        .lunRelocation 32 0 [] [], .lunRelocation 0 64 [] [], .lunRelocation 0 0 [badMove] [], .stripeReconstruction 32 0, .eraseGateRequest 32 0 0, .eraseGateIssue 0 64 0],
      wellFormed i = false) ∧
    (∀ i ∈ [Instr.rebuildPartitionComplete 2 0, .rebuildPartitionComplete 0 4096, .indexPartitionRebuild 4096, .listSequenceEnd 16,
        .sinkFrame 32 [], .moverForward 32, .pressJobStart 32 [] [] [], .pressJobSlice 32 [] [] true, .beatOverrun 32 0, .beatOverrun 0 8,
        .beatBoundary [] []], wellFormed i = false) := by
  and_intros <;> decide +kernel

/-- Code Array, DRAM, interrupt and core operands. -/
theorem test_illFormed_cores :
    (∀ i ∈ [Instr.wordProgram 2048 0 0, .wordProgram 0 (2 ^ 25) 0, .bufferLoad 2048 0 0 [], .bufferLoad 0 (2 ^ 25) 0 [], .bufferConfirm 0 (2 ^ 25),
        .sectorErase 0 (2 ^ 25), .bankErase 2048 0, .statusRead 0 4, .eraseSuspend 0 4, .eraseSuspendEffect 4, .eraseResume 0 4,
        .passwordUnlock 0 4 0 0 0 0, .protectionProgram 0 (2 ^ 25) 0, .protectionFreeze 0 4, .bootSwap 0 4, .exitOrReset 0 (2 ^ 25),
        .codeArrayBankRead 0 (2 ^ 25, false), .codeArrayOperationDone 4 true], wellFormed i = false) ∧
    (∀ i ∈ [Instr.refreshTick 6 0 0 true true, .refreshTick 0 2 0 true true, .refreshTick 0 0 2 true true, .refreshMakeup 6 0 0,
        .refreshRatePoll 0 2 0 true, .delaySetSwitch 0 2, .checkAreaReadback 6 true, .dramLineAccess 6 0 true true 0, .selfRefreshEntry 6,
        .selfRefreshExit 6 true, .sramUncorrectableError 12 0 0 0 .core, .interruptEntry 16 0, .interruptEntry 0 64, .sleepWake 16 0,
        .lda (.bead 32 0) (.short .imm 0), .sta (.bead 0 8) (.short .imm 0), .nop (.cc 16), .illegalOp (.cc 16) 0], wellFormed i = false) := by
  and_intros <;> decide +kernel

/-- The same operands one below each bound. -/
theorem test_wellFormed : ∀ i ∈ [Instr.registerWrite (.page true 1023) (2 ^ 26 + 2 ^ 17 - 1) true [0, 0], .keySlotWrite (.cc 15) 63 3,
    .sqTailDoorbell (.page true 1023 63) 0, .commandFetch 16383 [], .medOpTimeout 31 63, .nandRbFall 31 3,
    .foldImage { badMove with ch := 31, place := { badPlace with lun := 63 } }, .rebuildPartitionComplete 1 4095, .beatOverrun 31 7,
    .wordProgram 2047 (2 ^ 25 - 1) 0, .refreshTick 5 1 1 true true, .interruptEntry 15 63, .lda (.bead 31 7) (.short .imm 0), .nop (.cc 15)],
    wellFormed i = true := by
  decide +kernel

/-! ### Checksums -/

/-- The check value of CRC-32C, over the nine digits. -/
theorem test_crc32c : crc32c [0x31, 0x32, 0x33, 0x34, 0x35, 0x36, 0x37, 0x38, 0x39] = 0xE3069283 := by decide +kernel

/-- The first vector of SipHash-2-4's authors. -/
theorem test_siphash24 :
    siphash24 0x0706050403020100 0x0f0e0d0c0b0a0908 [0, 1, 2, 3, 4, 5, 6, 7, 8, 9, 10, 11, 12, 13, 14] = 0xa129ca6149be45e5 := by decide +kernel

/-! ### Crypto standards -/

/-- The example vectors' key 2B7E… -/
def nistKey : List Byte := [0x2b, 0x7e, 0x15, 0x16, 0x28, 0xae, 0xd2, 0xa6, 0xab, 0xf7, 0x15, 0x88, 0x09, 0xcf, 0x4f, 0x3c]

/-- FIPS 197, appendix B, back. -/
theorem test_aes : aesDec nistKey 0x3925841d02dc09fbdc118597196a0b32 = 0x3243f6a8885a308d313198a2e0370734 := by decide +kernel

/-- RFC 4493, example 1. -/
theorem test_aesCmac : aesCmac nistKey [] = 0xbb1d6929e95937287fa37d129b756746 := by decide +kernel

/-- FIPS 180-4 and FIPS 202, the message "abc": the first four bytes of SHA-256, SHA-384 and SHA3-256. -/
theorem test_digests : (sha2 sha32 sha256H [0x61, 0x62, 0x63]).take 4 = [0xba, 0x78, 0x16, 0xbf] ∧
    (sha2 sha64 sha384H [0x61, 0x62, 0x63]).take 4 = [0xcb, 0x00, 0x75, 0x3f] ∧
    (sha3 [0x61, 0x62, 0x63]).take 4 = [0x3a, 0x98, 0x5d, 0xa7] := by
  and_intros <;> decide +kernel

/-- The GCM specification's test case 1: the tag of no data under the zero key. -/
theorem test_gcm : leNum (gcmTag (List.replicate 16 0) (List.replicate 12 0) [] []).reverse = 0x58e2fccefa7e3061367f1d57a4e7455a := by decide +kernel

end Sys2Proof.Tests
end

section
/-!
PROOF. Which parts of State the shared operations move: registers, free values, and what goes out.
-/

open Sys2Proof Sys2Proof.Machine

namespace Sys2Proof.Machine

/-! ### Bit fields and sparse maps -/

theorem testBit_bits (n hi lo i : Nat) : (bits n hi lo).testBit i = (decide (i < hi + 1 - lo) && n.testBit (lo + i)) := by
  rw [bits, Nat.testBit_mod_two_pow, Nat.testBit_div_two_pow, Nat.add_comm lo i]

/-- A mask that covers a field leaves it as it is. -/
theorem bits_and_mask {w : Nat} (v m : BitVec w) {hi lo : Nat} (h : ∀ i < hi + 1 - lo, m.toNat.testBit (lo + i) = true) :
    bits (v &&& m).toNat hi lo = bits v.toNat hi lo := by
  refine Nat.eq_of_testBit_eq fun i => ?_
  rw [testBit_bits, testBit_bits, BitVec.toNat_and, Nat.testBit_and]
  by_cases hi : i < hi + 1 - lo
  · rw [h i hi, Bool.and_true]
  · simp [hi]

/-- A value other than the default is read back, whatever the list. -/
theorem sparse_get_set_put {V : Type} [DecidableEq V] (d : Nat → V) (m : Sparse V) {k : Nat} {v : V} (h : v ≠ d k) :
    Sparse.get d (Sparse.set d m k v) k = v := by
  rw [Sparse.set, if_neg h, Sparse.get_put_same]

theorem sparse_above_mem {V : Type} {p : Nat × V} : ∀ {l : Sparse V} {n : Nat}, Sparse.above n l = true → p ∈ l → n < p.1
  | (j, v) :: l, n, hl, hp => by
    simp only [Sparse.above, Bool.and_eq_true, decide_eq_true_eq] at hl
    obtain ⟨hj, hl⟩ := hl
    rcases List.mem_cons.1 hp with rfl | hp
    · exact hj
    · exact Nat.lt_trans hj (sparse_above_mem hl hp)

/-- A sorted list reads each of its entries back. -/
theorem sparse_get_of_mem {V : Type} (d : Nat → V) {p : Nat × V} : ∀ {l : Sparse V}, Sparse.sorted l = true → p ∈ l →
    Sparse.get d l p.1 = p.2
  | (j, v) :: l, hl, hp => by
    rcases List.mem_cons.1 hp with rfl | hp
    · simp [Sparse.get]
    · have hlt : j < p.1 := sparse_above_mem hl hp
      simp only [Sparse.get, Nat.ne_of_lt hlt, if_false]
      exact sparse_get_of_mem d (Sparse.sorted_tail hl) hp

/-- From `s` to `t` only registers have moved. -/
def OnlyRegs (s t : State) : Prop := ∃ r, t = { s with regs := r }

theorem OnlyRegs.refl (s : State) : OnlyRegs s s := ⟨s.regs, rfl⟩

theorem OnlyRegs.trans {s t u : State} (h : OnlyRegs s t) (k : OnlyRegs t u) : OnlyRegs s u := by
  obtain ⟨r, rfl⟩ := h
  obtain ⟨r', rfl⟩ := k
  exact ⟨r', rfl⟩

theorem OnlyRegs.eq {s t : State} (h : OnlyRegs s t) : t = { s with regs := t.regs } := by
  obtain ⟨r, rfl⟩ := h
  rfl

theorem OnlyRegs.setReg (s : State) (o : Nat) (v : DWord) : OnlyRegs s (s.setReg o v) := ⟨_, rfl⟩

theorem OnlyRegs.raise (s : State) (e b : Nat) : OnlyRegs s (s.raise e b) := OnlyRegs.setReg s e _

theorem OnlyRegs.raiseAt (s : State) (e b loc w : Nat) : OnlyRegs s (s.raiseAt e b loc w) := s.raiseAt_eq e b loc w

theorem OnlyRegs.setField (s : State) (o hi lo v : Nat) : OnlyRegs s (s.setField o hi lo v) := OnlyRegs.setReg s o _

theorem OnlyRegs.count (s : State) (o hi lo n : Nat) : OnlyRegs s (s.count o hi lo n) := OnlyRegs.setField s o hi lo _

theorem OnlyRegs.bump (s : State) (o : Nat) : OnlyRegs s (s.bump o) := OnlyRegs.count s o 31 0 1

theorem OnlyRegs.bump64 (s : State) (o n : Nat) : OnlyRegs s (s.bump64 o n) :=
  (OnlyRegs.setReg s o _).trans (OnlyRegs.setReg _ (o + 4) _)

/-- From `s` to `t` only registers and the count of free values have moved. -/
def RegsFree (s t : State) : Prop := ∃ r f, t = { s with regs := r, free := f }

theorem RegsFree.trans {s t u : State} (h : RegsFree s t) (k : RegsFree t u) : RegsFree s u := by
  obtain ⟨r, f, rfl⟩ := h
  obtain ⟨r', f', rfl⟩ := k
  exact ⟨r', f', rfl⟩

theorem OnlyRegs.regsFree {s t : State} (h : OnlyRegs s t) : RegsFree s t := by
  obtain ⟨r, rfl⟩ := h
  exact ⟨r, s.free, rfl⟩

theorem RegsFree.refl (s : State) : RegsFree s s := (OnlyRegs.refl s).regsFree

theorem RegsFree.tick (s : State) : RegsFree s s.tick := ⟨s.regs, s.free + 1, rfl⟩

theorem State.raiseAt_reg_other (s : State) {e b loc w o : Nat} (he : o ≠ e) (hl : o ≠ loc) : (s.raiseAt e b loc w).reg o = s.reg o := by
  have h1 : (s.raise e b).reg o = s.reg o := s.reg_raise_other he
  rw [State.raiseAt]
  rcases State.capture_cases (s.raise e b) loc w with h | h <;> rw [h]
  · exact h1
  · rw [State.reg_setReg_other _ _ hl, h1]

/-! ### DMA, and messages -/

theorem State.send_eq (s : State) (p : Bool) (o : Out) :
    s.send p o = if (s.port p).training then s.setPort p { s.port p with stalled := (s.port p).stalled ++ [o] } else s.emit o := by
  cases p <;> rfl

/-- What goes out at once or stalls moves `out` or the port. -/
theorem State.send_cmds (s : State) (p : Bool) (o : Out) : (s.send p o).cmds = s.cmds := by
  rw [State.send_eq]
  split
  · exact s.setPort_cmds p _
  · exact s.emit_cmds o

theorem State.msix_cmds (s : State) (p : Bool) (k : Nat) : (s.msix p k).cmds = s.cmds := by
  unfold State.msix
  simp only []
  split
  · rfl
  · split
    · exact s.setPort_cmds p _
    · exact s.send_cmds p _

/-! ### Reset values by the place of a register in its block -/

/-- An offset that a row of the register map holds is one of its elements. -/
theorem RegRow.holds_elem {r : RegRow} {off : Nat} (h : r.holds off = true) :
    ∃ i < r.c1, ∃ j < r.c2, off = r.base + i * r.s1 + j * r.s2 := by
  by_cases hb : off < r.base
  · simp [RegRow.holds, hb] at h
  · simp only [RegRow.holds, hb, if_false, Bool.and_eq_true, decide_eq_true_eq] at h
    obtain ⟨⟨he, hi⟩, hj⟩ := h
    refine ⟨_, hi, _, hj, ?_⟩
    rw [Nat.add_assoc, ← he]
    have hle : (if r.s1 = 0 then 0 else (off - r.base) / r.s1) * r.s1 ≤ off - r.base := by
      split
      · simp
      · exact Nat.div_mul_le_self _ _
    omega

theorem regRow_some {off : Nat} {r : RegRow} (h : regRow off = some r) : r ∈ regRows ∧ r.holds off = true := by
  have hf : regRows.find? (fun q => q.holds off) = some r := h
  have hp := List.find?_some hf
  exact ⟨List.mem_of_find?_eq_some hf, hp⟩

theorem regReset_of_row {off : Nat} (h : ∀ r ∈ regRows, r.holds off = true → r.reset = 0) : regReset off = 0 := by
  unfold regReset
  cases hr : regRow off with
  | none => rfl
  | some r =>
    obtain ⟨hm, hh⟩ := regRow_some hr
    simp [h r hm hh]

/-- No register with a reset value other than 0 lies 0x40C bytes into an 8 KiB block. -/
theorem regReset_of_mod {off : Nat} (h : off % 0x2000 = 0x40C) : regReset off = 0 := by
  have hrows : regRows.all (fun r => decide (r.reset = 0) || (List.range r.c1).all (fun i => (List.range r.c2).all
      (fun j => decide ((r.base + i * r.s1 + j * r.s2) % 0x2000 ≠ 0x40C)))) = true := by decide +kernel
  refine regReset_of_row fun r hr hh => ?_
  have hrow := List.all_eq_true.1 hrows r hr
  obtain ⟨i, hi, j, hj, he⟩ := RegRow.holds_elem hh
  simp only [Bool.or_eq_true, decide_eq_true_eq, List.all_eq_true, List.mem_range] at hrow
  rcases hrow with h0 | hall
  · exact h0
  · exact absurd (he ▸ h) (hall i hi j hj)

@[simp] theorem regReset_PRS_ERR (n : Nat) : regReset (Reg.PRS_ERR n) = 0 :=
  regReset_of_mod (by simp only [Reg.PRS_ERR]; omega)

@[simp] theorem regReset_HIF_ERR (p : Bool) : regReset (Reg.HIF_ERR (if p then 1 else 0)) = 0 := by
  cases p <;> rfl

end Sys2Proof.Machine
end

section
/-!
PROOF. Press direct jobs (R243 to R248): what a job's writes and its end leave of the state.
-/

open Sys2Proof Sys2Proof.Machine

namespace Sys2Proof.Machine

/-! ### Strands -/

theorem State.strand_setStrand_other (s : State) {n m : Nat} (v : Strand) (h : m ≠ n) : (s.setStrand n v).strand m = s.strand m :=
  Sparse.get_set_other _ _ _ h

/-- A Press queue set is the queue read back. -/
theorem State.press_setPress {s : State} (hs : Sparse.sorted s.strands = true) (n : Nat) (l : List PressJob) :
    ((s.setPress n l).strand n).press = l :=
  congrArg Strand.press (Sparse.get_set_same (fun _ => ({} : Strand)) hs n { s.strand n with press := l })

/-- The same for a queue with a job in it, whatever the list. -/
theorem State.press_setPress_put (s : State) (n : Nat) {l : List PressJob} (hl : l ≠ []) :
    ((s.setPress n l).strand n).press = l := by
  have hne : ({ s.strand n with press := l } : Strand) ≠ {} := fun h => hl (congrArg Strand.press h)
  exact congrArg Strand.press (sparse_get_set_put (fun _ => ({} : Strand)) s.strands hne)

/-! ### Submission (R244) -/

theorem OnlyRegs.prsRaise (s : State) (n b st : Nat) : OnlyRegs s (s.prsRaise n b st) := OnlyRegs.raiseAt s _ _ _ _

theorem State.prsRaise_bit (s : State) (n st : Nat) {b : Nat} (hb : b < 32) :
    bitOf ((s.prsRaise n b st).reg (Reg.PRS_ERR n)).toNat b = true :=
  State.reg_raiseAt_bit s _ b _ _ hb (regReset_PRS_ERR n) (by simp only [Reg.PRS_ERR, Reg.PRS_ERR_LOC]; omega)

theorem State.wakeBy_eq (s : State) (k : Nat) : ∃ p, s.wakeBy k = { s with pwr := p } := by
  unfold State.wakeBy
  split
  · exact ⟨s.pwr, rfl⟩
  · exact ⟨_, rfl⟩

/-- A submission that reaches the Press goes to the queue of the port it belongs to. -/
theorem pressJobSubmit_owner {s : State} {src : Src} {p : Bool} (n : Nat) (hi : DWord)
    (h : (src = .host p ∧ (s.pins.dual = false ∨ p = s.ownerPort)) ∨ ((∃ k, src = .cc k) ∧ p = s.ownerPort)) :
    exec (.pressJobSubmit src n hi) s = .next (s.pressSubmit p n (s.staged src (Reg.PRS_JOB_LO n)).toNat hi.toNat) := by
  rcases h with ⟨rfl, hp⟩ | ⟨⟨k, rfl⟩, rfl⟩
  · have hno : (s.pins.dual && decide (p ≠ s.ownerPort)) = false := by
      rcases hp with hp | hp <;> simp [hp]
    show Host.Outcome.next (if (s.pins.dual && decide (p ≠ s.ownerPort)) = true then _ else _) = _
    rw [hno]
    rfl
  · rfl

theorem State.pressSubmit_refused {s : State} {n lo : Nat} (p : Bool) (hi b : Nat) (hb : b < 32)
    (h : ∃ st, s.pressSubmit p n lo hi = s.prsRaise n b st) :
    ∃ t, Host.Outcome.next (s.pressSubmit p n lo hi) = (.next t : Result) ∧ t = { s with regs := t.regs } ∧
      bitOf (t.reg (Reg.PRS_ERR n)).toNat b = true := by
  obtain ⟨st, h⟩ := h
  exact ⟨_, by rw [h], (OnlyRegs.prsRaise s n b st).eq, s.prsRaise_bit n st hb⟩

/-- A submission taken puts the job last and wakes the device; the other Presses stay as they are. -/
theorem State.pressSubmit_queued {s : State} {n lo : Nat} (p : Bool) (hi : Nat) (hlo : lo % 64 = 0)
    (hon : s.field (Reg.PRS_CTL n) 0 0 ≠ 0) (hroom : (s.strand n).press.length < 4) :
    let t := s.pressSubmit p n lo hi
    (t.strand n).press = (s.strand n).press ++ [{ desc := BitVec.ofNat 64 (hi * 2 ^ 32 + lo), port := p }] ∧
    (∀ m, m ≠ n → t.strand m = s.strand m) ∧ t = { s with strands := t.strands, pwr := t.pwr } := by
  intro t
  let q := (s.strand n).press ++ [{ desc := BitVec.ofNat 64 (hi * 2 ^ 32 + lo), port := p }]
  have hfull : (decide (s.field (Reg.PRS_CTL n) 0 0 = 0) || decide (4 ≤ (s.strand n).press.length)) = false := by
    simp [hon, hroom]
  have ht : t = (s.setPress n q).wakeBy 2 := by
    show s.pressSubmit p n lo hi = _
    unfold State.pressSubmit
    rw [if_neg (by omega), hfull]
    rfl
  obtain ⟨w, hw⟩ := (s.setPress n q).wakeBy_eq 2
  rw [hw] at ht
  rw [ht]
  exact ⟨s.press_setPress_put n (List.append_ne_nil_of_right_ne_nil _ (List.cons_ne_nil _ _)), fun m hm => s.strand_setStrand_other _ hm, rfl⟩

/-! ### What a job writes (R243, R247) -/

theorem State.slmBytes_eq (nsid : Nat) : ∀ (l : List Byte) (s : State) (a : Nat), ∃ d, s.slmBytes nsid a l = { s with dram := d }
  | [], s, _ => ⟨s.dram, rfl⟩
  | b :: l, s, a => by
    obtain ⟨d, h⟩ := State.slmBytes_eq nsid l (s.setSlm nsid a b) (a + 1)
    exact ⟨d, h⟩

theorem State.slmWrite_eq (s : State) (nsid a : Nat) (l : List Byte) : ∃ d, s.slmWrite nsid a l = { s with dram := d } := by
  obtain ⟨d, h⟩ := State.slmBytes_eq nsid l s a
  exact ⟨_, by unfold State.slmWrite; rw [h]⟩

theorem State.pressHost_eq {s : State} (hl : Linked s) (j : PressJob) (a : Nat) (l : List Byte) (ro : Bool) :
    ∃ o, s.pressHost j a l ro = { s with out := o } := by
  unfold State.pressHost
  split
  · exact ⟨s.out, rfl⟩
  · exact ⟨_, State.send_linked hl _ _⟩

/-- The writes of a job's output go out or to SLM; nothing else moves. -/
theorem State.chainWrite_eq (j : PressJob) : ∀ (l : List (Nat × Nat × Nat)) (d : List Byte) (s : State), Linked s →
    ∃ o r, s.chainWrite j l d = { s with out := o, dram := r }
  | [], _, s, _ => ⟨s.out, s.dram, rfl⟩
  | (a, n, ns) :: l, d, s, hl => by
    by_cases hns : ns = 0
    · obtain ⟨o, ho⟩ := State.pressHost_eq hl j a (d.take n) (s.port j.port).relaxed
      obtain ⟨o', r', h⟩ := State.chainWrite_eq j l (d.drop n) { s with out := o } hl
      exact ⟨o', r', by simp only [State.chainWrite, hns, if_true, ho, h]⟩
    · obtain ⟨r, hr⟩ := s.slmWrite_eq ns a (d.take n)
      obtain ⟨o', r', h⟩ := State.chainWrite_eq j l (d.drop n) { s with dram := r } hl
      exact ⟨o', r', by simp only [State.chainWrite, hns, if_false, hr, h]⟩

theorem State.slmBytes_free (f nsid : Nat) : ∀ (l : List Byte) (s : State) (a : Nat),
    ({ s with free := f } : State).slmBytes nsid a l = { s.slmBytes nsid a l with free := f }
  | [], _, _ => rfl
  | b :: l, s, a => State.slmBytes_free f nsid l (s.setSlm nsid a b) (a + 1)

theorem State.slmWrite_free (s : State) (f nsid a : Nat) (l : List Byte) :
    ({ s with free := f } : State).slmWrite nsid a l = { s.slmWrite nsid a l with free := f } := by
  simp only [State.slmWrite, State.slmBytes_free]

theorem State.send_free (s : State) (f : Nat) (p : Bool) (o : Out) :
    ({ s with free := f } : State).send p o = { s.send p o with free := f } := by
  cases p
  · by_cases h : s.portA.training = true <;> simp [State.send, h, State.emit]
  · by_cases h : s.portB.training = true <;> simp [State.send, h, State.emit]

theorem State.pressHost_free (s : State) (f : Nat) (j : PressJob) (a : Nat) (l : List Byte) (ro : Bool) :
    ({ s with free := f } : State).pressHost j a l ro = { s.pressHost j a l ro with free := f } := by
  by_cases h : l.isEmpty = true
  · simp only [State.pressHost, h, if_true]
  · simp only [State.pressHost, h]
    exact s.send_free f _ _

/-- A job's writes do not depend on the free values taken. -/
theorem State.chainWrite_free (j : PressJob) (f : Nat) : ∀ (l : List (Nat × Nat × Nat)) (d : List Byte) (s : State),
    ({ s with free := f } : State).chainWrite j l d = { s.chainWrite j l d with free := f }
  | [], _, _ => rfl
  | (a, n, ns) :: l, d, s => by
    by_cases hns : ns = 0
    · simp only [State.chainWrite, hns, if_true]
      rw [State.pressHost_free]
      exact State.chainWrite_free j f l (d.drop n) _
    · simp only [State.chainWrite, hns, if_false]
      rw [State.slmWrite_free]
      exact State.chainWrite_free j f l (d.drop n) _

/-! ### The end of a job (R247) -/

/-- The state with other Strands, registers and free values: what the end of a job moves beside what goes out. -/
def State.beside (s : State) (x : Sparse Strand) (r : Sparse DWord) (f : Nat) : State := { s with strands := x, regs := r, free := f }

theorem State.send_beside (s : State) (x : Sparse Strand) (r : Sparse DWord) (f : Nat) (p : Bool) (o : Out) :
    (s.beside x r f).send p o = (s.send p o).beside x r f := by
  cases p
  · by_cases h : s.portA.training = true <;> simp [State.send, State.beside, h, State.emit]
  · by_cases h : s.portB.training = true <;> simp [State.send, State.beside, h, State.emit]

/-- A message depends on the port alone. -/
theorem State.msix_beside (s : State) (x : Sparse Strand) (r : Sparse DWord) (f : Nat) (p : Bool) (k : Nat) :
    (s.beside x r f).msix p k = (s.msix p k).beside x r f := by
  have hport : (s.beside x r f).port p = s.port p := by cases p <;> rfl
  unfold State.msix
  rw [hport]
  by_cases hen : (!(s.port p).msixEn) = true
  · simp only [hen, if_true]
  · by_cases hm : ((Sparse.get (fun _ => {}) (s.port p).msix k).mask || (s.port p).msixMask) = true
    · simp only [hen, hm, if_true, Bool.false_eq_true, if_false]
      cases p <;> rfl
    · simp only [hen, hm, Bool.false_eq_true, if_false]
      exact s.send_beside x r f p _

theorem OnlyRegs.dcmpFault (s : State) (n k c : Nat) : OnlyRegs s (s.dcmpFault n k c) :=
  (OnlyRegs.raiseAt s _ _ _ _).trans (OnlyRegs.bump _ _)

theorem OnlyRegs.pressEvent (s : State) (n st : Nat) : OnlyRegs s (s.pressEvent n st) := by
  unfold State.pressEvent
  split
  · exact OnlyRegs.prsRaise s _ _ _
  · split
    · exact OnlyRegs.prsRaise s _ _ _
    · split
      · exact OnlyRegs.prsRaise s _ _ _
      · split
        · exact OnlyRegs.dcmpFault s _ _ _
        · exact OnlyRegs.refl s

theorem OnlyRegs.pressCount (s : State) (n a b : Nat) (raw : Bool) : OnlyRegs s (s.pressCount n a b raw) := by
  have h := (OnlyRegs.bump64 s (Reg.PRS_IN_LO n) a).trans (OnlyRegs.bump64 _ (Reg.PRS_OUT_LO n) b)
  cases raw
  · exact h
  · exact h.trans (OnlyRegs.bump _ _)

/-- A job leaves its Press with its record and its message: what `PressEnds` says, from any state that differs from the one
named in registers and free values only. -/
theorem State.pressEnd_ends {v s : State} {n : Nat} {j1 : PressJob} {rest : List PressJob} (h : RegsFree v s) (hl : Linked v)
    (hs : Sparse.sorted v.strands = true) (hp : (v.strand n).press = j1 :: rest) (j : PressJob)
    (st raw inp out chk : Nat) (fault : Bool) :
    PressEnds v n rest j st raw inp out chk fault (s.pressEnd n j st raw inp out chk fault) := by
  obtain ⟨r, f, rfl⟩ := h
  let x := (v.setPress n rest).strands
  have hdrop : ({ v with regs := r, free := f } : State).dropPress n = v.beside x r f := by
    show ({ v with regs := r, free := f } : State).setPress n ((v.strand n).press.drop 1) = _
    rw [hp]
    rfl
  obtain ⟨r', hr⟩ := (OnlyRegs.bump (v.beside x r f) (Reg.PRS_DIRECT_CNT n)).trans (OnlyRegs.pressEvent _ n st)
  have hs1 : ((({ v with regs := r, free := f } : State).dropPress n).bump (Reg.PRS_DIRECT_CNT n)).pressEvent n st =
      v.beside x r' f := by rw [hdrop, hr]; rfl
  have hpress : ((v.beside x r' f).strand n).press = rest := State.press_setPress hs n rest
  unfold State.pressEnd
  rw [hs1]
  cases fault
  · let o := Out.write j.port (if j.pv then some j.pasid else none) j.status.toNat (pressRecord st raw inp out chk v.beat) false
      (v.port j.port).cfg.ido
    have hrec : (v.beside x r' f).pressHost j j.status.toNat (pressRecord st raw inp out chk v.beat) false =
        (v.emit o).beside x r' f := by
      show (v.beside x r' f).send j.port o = _
      rw [State.send_beside, State.send_linked hl]
    let w := if j.irq then (v.emit o).msix j.port j.vector else v.emit o
    have hmsg : (if j.irq = true then ((v.emit o).beside x r' f).msix j.port j.vector else (v.emit o).beside x r' f) =
        w.beside x r' f := by
      show _ = (if j.irq = true then _ else _ : State).beside x r' f
      cases j.irq
      · rfl
      · exact State.msix_beside _ _ _ _ _ _
    have hcmds : w.cmds = v.cmds := by
      show (if j.irq = true then _ else _ : State).cmds = _
      cases j.irq
      · rfl
      · exact State.msix_cmds _ _ _
    simp only [Bool.false_eq_true, if_false]
    rw [hrec, hmsg]
    exact ⟨hpress, hcmds, fun h => absurd h (by decide), fun _ => rfl⟩
  · obtain ⟨r'', hr''⟩ := OnlyRegs.prsRaise (v.beside x r' f) n 4 0x81
    refine ⟨?_, ?_, fun _ => ⟨?_, (v.beside x r' f).prsRaise_bit n 0x81 (by decide)⟩, fun h => absurd h (by decide)⟩ <;>
      simp only [if_true, hr'']
    · exact hpress
    · rfl
    · rfl

/-! ### Start and slices (R245, R246, R248) -/

/-- Input that is not the last takes the job's place in its Press, and nothing else moves. -/
theorem State.setPress_next (s : State) (n : Nat) (x : PressJob) (rest : List PressJob) :
    ((s.setPress n (x :: rest)).strand n).press = x :: rest ∧
    s.setPress n (x :: rest) = { s with strands := (s.setPress n (x :: rest)).strands } :=
  ⟨s.press_setPress_put n (List.cons_ne_nil _ _), rfl⟩

section
variable {s : State} {n : Nat} {j1 : PressJob} {rest : List PressJob} (hl : Linked s)
  (hs : Sparse.sorted s.strands = true) (hp : (s.strand n).press = j1 :: rest)
include hl hs hp

/-- A job whose output is written ends as `PressEnds` says of the state after those writes. -/
theorem State.pressEnd_written {u : State} (x : PressJob) (out : List Byte) (h : RegsFree (s.chainWrite x x.dst out) u)
    (st raw a b c : Nat) (rf : Bool) :
    PressEnds (s.chainWrite x x.dst out) n rest x st raw a b c rf (u.pressEnd n x st raw a b c rf) := by
  obtain ⟨o, d, hw⟩ := State.chainWrite_eq x x.dst out s hl
  refine State.pressEnd_ends (j1 := j1) h ?_ ?_ ?_ x st raw a b c rf <;> rw [hw]
  · exact hl
  · exact hs
  · exact hp

/-- Output that a job keeps: all of it with status 0 where it fits, else what fits, with status 7 (R243). -/
theorem State.pressOut_fits (x : PressJob) (a raw c : Nat) (rf : Bool) {out : List Byte} (h : out.length ≤ chainLen x.dst) :
    PressEnds (s.chainWrite x x.dst out) n rest x 0 raw a out.length c rf (s.pressOut n x a out raw c rf) := by
  unfold State.pressOut
  simp only [h, if_true, List.take_of_length_le h]
  exact State.pressEnd_written hl hs hp x out (OnlyRegs.pressCount _ _ _ _ _).regsFree 0 raw a out.length c rf

theorem State.pressOut_full (x : PressJob) (a raw c : Nat) (rf : Bool) {out : List Byte} (h : chainLen x.dst < out.length) :
    ∃ a' c', PressEnds (s.chainWrite x x.dst (out.take (chainLen x.dst))) n rest x 7 raw a' (chainLen x.dst) c' rf
      (s.pressOut n x a out raw c rf) := by
  unfold State.pressOut
  simp only [Nat.not_le.2 h, if_false]
  exact ⟨_, _, State.pressEnd_written hl hs hp x _
    ((OnlyRegs.pressCount _ _ _ _ _).regsFree.trans ((RegsFree.tick _).trans (RegsFree.tick _))) 7 raw _ _ _ rf⟩

/-- A compression that keeps nothing and asks for a failure ends with status 1 (R238). -/
theorem State.pressCompress_fails (x : PressJob) {p body : List Byte} (rf : Bool) (hne : p ≠ [])
    (hf : pressFrame x.format x.saving p body = none) (he : x.expandFail = true) :
    ∃ junk a c, PressEnds (s.chainWrite x x.dst junk) n rest x 1 0 a 0 c rf (s.pressCompress n x p body rf) := by
  have hemp : p.isEmpty = false := by simpa using hne
  unfold State.pressCompress
  simp only [hemp, hf, he, Bool.false_eq_true, if_false, if_true]
  refine ⟨freeBytes s.free (min (keepLimit p.length x.saving) (chainLen x.dst)), _, _,
    State.pressEnd_written hl hs hp x _ ?_ 1 0 _ 0 _ rf⟩
  have hfree : s.tick.tick.tick.chainWrite x x.dst (freeBytes s.free (min (keepLimit p.length x.saving) (chainLen x.dst))) = _ :=
    State.chainWrite_free x (s.free + 3) x.dst _ s
  rw [hfree]
  exact RegsFree.trans ⟨_, _, rfl⟩ ((OnlyRegs.bump _ _).trans (OnlyRegs.bump64 _ _ _)).regsFree

/-- A decompression that meets a fault with room for what it produced ends with that fault's status (R243). -/
theorem State.pressExpand_fault (x : PressJob) (l : List Byte) (rf : Bool) (hst : (inflateAny x.format l x.olen).2.1 ≠ 0)
    (hroom : (inflateAny x.format l x.olen).1.length ≤ chainLen x.dst) :
    let r := inflateAny x.format l x.olen
    ∃ c, PressEnds (s.chainWrite x x.dst r.1) n rest x r.2.1 0 r.2.2.1 r.2.2.2 c rf (s.pressExpand n x l rf) := by
  intro r
  unfold State.pressExpand
  simp only [hst, hroom, if_true, if_false]
  exact ⟨_, State.pressEnd_written hl hs hp x _ ((OnlyRegs.pressCount _ _ _ _ _).regsFree.trans (RegsFree.tick _)) _ 0 _ _ _ rf⟩

end

theorem State.pressExpand_full (s : State) (n : Nat) (x : PressJob) (l : List Byte) (rf : Bool) (hst : (inflateAny x.format l x.olen).2.1 ≠ 0)
    (hroom : chainLen x.dst < (inflateAny x.format l x.olen).1.length) :
    s.pressExpand n x l rf = s.pressOut n x l.length (inflateAny x.format l x.olen).1 0 0 rf := by
  unfold State.pressExpand
  simp only [hst, Nat.not_le.2 hroom, if_false]

theorem State.pressExpand_ok (s : State) (n : Nat) (x : PressJob) (l : List Byte) (rf : Bool)
    (hst : (inflateAny x.format l x.olen).2.1 = 0) :
    s.pressExpand n x l rf = s.pressOut n x l.length (inflateAny x.format l x.olen).1 0
      (crc32c (inflateAny x.format l x.olen).1).toNat rf := by
  unfold State.pressExpand
  simp only [hst, if_true]

/-- A compression that keeps a form of its input writes that form. -/
theorem State.pressCompress_empty (s : State) (n : Nat) (x : PressJob) (body : List Byte) (rf : Bool) :
    s.pressCompress n x [] body rf = s.pressOut n x 0 (emptyForm x.format) 0 (crc32c []).toNat rf := rfl

theorem State.pressCompress_frame (s : State) (n : Nat) (x : PressJob) {p body f : List Byte} (rf : Bool) (hne : p ≠ [])
    (hf : pressFrame x.format x.saving p body = some f) :
    s.pressCompress n x p body rf = s.pressOut n x p.length f 0 (crc32c p).toNat rf := by
  have hemp : p.isEmpty = false := by simpa using hne
  unfold State.pressCompress
  simp only [hemp, hf, Bool.false_eq_true, if_false]

theorem State.pressCompress_stored (s : State) (n : Nat) (x : PressJob) {p body : List Byte} (rf : Bool) (hne : p ≠ [])
    (hf : pressFrame x.format x.saving p body = none) (he : x.expandFail = false) :
    s.pressCompress n x p body rf = s.pressOut n x p.length (storedForm x.format p) 1 (crc32c p).toNat rf := by
  have hemp : p.isEmpty = false := by simpa using hne
  unfold State.pressCompress
  simp only [hemp, hf, he, Bool.false_eq_true, if_false]

/-- The job as its descriptor and chains start it (R245, Table 10-6). -/
def PressJob.begun (j : PressJob) (s : State) (n : Nat) (d src dst : List Byte) : PressJob :=
  let fl := leField d 3 1
  { j with
    started := true, op := leField d 0 1, format := leField d 1 1, expandFail := decide (leField d 2 1 = 1)
    pv := bitOf fl 0, irq := bitOf fl 1, pasid := leField d 4 4 % 2 ^ 20
    olen := if bitOf fl 2 then some (leField d 20 4) else none
    status := BitVec.ofNat 64 (leField d 32 8 / 32 * 32), vector := leField d 40 2 % 2048
    src := chainOf src (leField d 16 2), dst := chainOf dst (leField d 18 2)
    saving := s.fieldNow (Reg.PRS_MIN_SAVING n) 7 0
    left := chainLen (chainOf src (leField d 16 2)) }

section
variable {s : State} {n : Nat} {j : PressJob} {rest : List PressJob} (hp : (s.strand n).press = j :: rest)
include hp

theorem pressJobStart_started (d src dst : List Byte) (hj : j.started = true) : exec (.pressJobStart n d src dst) s = .next s := by
  show execPressJobStart n d src dst s = _
  unfold execPressJobStart
  simp only [hp, hj, if_true]

/-- The first job of a Press starts where its descriptor and chains are within their ranges, and ends where they are not. -/
theorem pressJobStart_first (d src dst : List Byte) (hj : j.started = false) :
    let x := j.begun s n d src dst
    exec (.pressJobStart n d src dst) s = .next (if pressDescOk d && s.chainOk (s.pressInst x) (2 ^ 26) x.src &&
        s.chainOk (s.pressInst x) (2 ^ 28) x.dst then s.setPress n (x :: rest)
      else s.tick.pressEnd n x 0x80 0 0 0 s.freeVal false) := by
  intro x
  show execPressJobStart n d src dst s = _
  unfold execPressJobStart
  simp only [hp, hj, Bool.false_eq_true, if_false]
  rfl

theorem pressJobSlice_waiting (data body : List Byte) (rf : Bool) (hj : j.started = false) :
    exec (.pressJobSlice n data body rf) s = .next s := by
  show execPressJobSlice n data body rf s = _
  unfold execPressJobSlice
  simp only [hp, hj, Bool.not_false, if_true]

/-- A slice of the running job: a DMA fault, more input, or the end of the job (R248). -/
theorem pressJobSlice_started (data body : List Byte) (rf : Bool) (hj : j.started = true) :
    let cut := chainCut j.src j.input.length (min 65536 j.left)
    let x : PressJob := { j with input := j.input ++ s.gather cut data, left := j.left - min 65536 j.left }
    exec (.pressJobSlice n data body rf) s = .next (
      if cut.any (fun e => decide (e.2.2 ≠ 0) && s.slmBad e.2.2 e.1 e.2.1) then s.pressAbort n j 0x81
      else if 0 < x.left then s.setPress n (x :: rest)
      else if x.op = 1 then s.pressCompress n x x.input body rf
      else s.pressExpand n x x.input rf) := by
  intro cut x
  show execPressJobSlice n data body rf s = _
  unfold execPressJobSlice
  simp only [hp, hj, Bool.not_true, Bool.false_eq_true, if_false, cut, x]

end

/-! ### The obligation -/

/-- Settles O50: submission by where the source and the queue stand, start and slice by the branches of their rows, and every end
of a job through `State.pressEnd_ends`. -/
theorem prsJobs : Obligations.PrsJobs := by
  unfold Obligations.PrsJobs
  refine ⟨?submit, ?foreign, ?page, ?empty, ?start, ?slice⟩
  case submit =>
    intro s src n hi p h i lo q refuses
    simp only [refuses, i, pressJobSubmit_owner n hi h]
    refine ⟨fun hlo => ?_, fun hlo hfull => ?_, fun hlo hon hroom => ?_⟩
    · exact State.pressSubmit_refused p _ 3 (by decide) ⟨0x80, by unfold State.pressSubmit; rw [if_pos hlo]⟩
    · refine State.pressSubmit_refused p _ 2 (by decide) ⟨0, ?_⟩
      unfold State.pressSubmit
      rw [if_neg (by simpa using hlo), if_pos (by simpa using hfull)]
    · exact ⟨_, rfl, State.pressSubmit_queued p hi.toNat hlo hon hroom⟩
  case foreign =>
    intro s n hi p hd hp
    refine ⟨s.hifErr p 7, ?_, (OnlyRegs.raise s _ 7).eq, State.reg_raise_bit s _ 7 (by decide) (regReset_HIF_ERR p)⟩
    show Host.Outcome.next (if (s.pins.dual && decide (p ≠ s.ownerPort)) = true then _ else _) = _
    rw [if_pos (by simp [hd, hp])]
  case page => exact fun _ _ _ _ _ => rfl
  case empty =>
    intro s n desc src dst data body rf hp
    constructor
    · show execPressJobStart n desc src dst s = _
      simp only [execPressJobStart, hp]
    · show execPressJobSlice n data body rf s = _
      simp only [execPressJobSlice, hp]
  case start =>
    intro s n j rest d src dst data body rf hp hl hs fl who from_ into x ok
    have hx : x = j.begun s n d src dst := rfl
    have hok_iff : ok ↔ (pressDescOk d && s.chainOk (s.pressInst x) (2 ^ 26) x.src && s.chainOk (s.pressInst x) (2 ^ 28) x.dst) = true := by
      rw [Bool.and_eq_true, Bool.and_eq_true, and_assoc]
      exact Iff.rfl
    refine ⟨pressJobStart_started hp d src dst, pressJobSlice_waiting hp data body rf, fun hj hok => ?_, fun hj hok => ?_⟩
    · refine ⟨s.setPress n (x :: rest), ?_, s.setPress_next n x rest⟩
      rw [pressJobStart_first hp d src dst hj, ← hx, if_pos (hok_iff.1 hok)]
    · refine ⟨s.tick.pressEnd n x 0x80 0 0 0 s.freeVal false, s.freeVal, ?_,
        State.pressEnd_ends (RegsFree.tick s) hl hs hp x 0x80 0 0 0 _ false⟩
      rw [pressJobStart_first hp d src dst hj, ← hx, if_neg (fun h => hok (hok_iff.2 h))]
  case slice =>
    intro s n j rest data body rf hp hj hl hs i k cut inp x bad room r frame ends full writes sum
    have hslice : exec i s = .next (if cut.any (fun e => decide (e.2.2 ≠ 0) && s.slmBad e.2.2 e.1 e.2.1) = true then s.pressAbort n j 0x81
        else if 0 < x.left then s.setPress n (x :: rest) else if x.op = 1 then s.pressCompress n x inp body rf
        else s.pressExpand n x inp rf) := pressJobSlice_started hp data body rf hj
    have hbad : cut.any (fun e => decide (e.2.2 ≠ 0) && s.slmBad e.2.2 e.1 e.2.1) = true ↔ bad := by
      simp only [bad, List.any_eq_true, Bool.and_eq_true, decide_eq_true_eq]
    have hfull : ∀ raw a c out, room < out.length → exec i s = .next (s.pressOut n x a out raw c rf) → full raw out := by
      intro raw a c out hlen he
      obtain ⟨a', c', h⟩ := State.pressOut_full hl hs hp x a raw c rf hlen
      exact ⟨a', c', _, he, h⟩
    have hwrites : ∀ raw a c out, exec i s = .next (s.pressOut n x a out raw c rf) → writes raw a c out := fun raw a c out he =>
      ⟨fun hlen => ⟨_, he, State.pressOut_fits hl hs hp x a raw c rf hlen⟩, fun hlen => hfull raw a c out hlen he⟩
    refine ⟨fun hb => ?_, fun hb hk => ?_, fun hb hk => ?_⟩
    · rw [if_pos (hbad.2 hb)] at hslice
      exact ⟨_, _, _, _, hslice, State.pressEnd_ends ((RegsFree.tick s).trans ((RegsFree.tick _).trans (RegsFree.tick _)))
        hl hs hp j 0x81 0 _ _ _ false⟩
    · rw [if_neg (mt hbad.1 hb), if_pos (Nat.sub_pos_of_lt hk)] at hslice
      exact ⟨_, hslice, s.setPress_next n x rest⟩
    · have hleft : ¬ 0 < x.left := by
        show ¬ 0 < j.left - k
        omega
      rw [if_neg (mt hbad.1 hb), if_neg hleft] at hslice
      have hcompress : j.op = 1 → exec i s = .next (s.pressCompress n x inp body rf) := fun hop => by
        rw [hslice, if_pos (show x.op = 1 from hop)]
      have hexpand : j.op ≠ 1 → exec i s = .next (s.pressExpand n x inp rf) := fun hop => by
        rw [hslice, if_neg (show ¬ x.op = 1 from hop)]
      refine ⟨fun hop hnil => ?_, fun f hop hne hf => ?_, fun hop hne hf he => ?_, fun hop hne hf he => ?_,
        fun hop hr => ?_, fun hop hr hroom => ?_, fun hop hr hroom => ?_⟩
      · refine hwrites 0 0 sum _ ?_
        rw [hcompress hop, hnil, State.pressCompress_empty]
        simp only [sum, hnil]
        rfl
      · exact hwrites 0 inp.length sum f ((hcompress hop).trans (by rw [State.pressCompress_frame s n x rf hne hf]))
      · exact hwrites 1 inp.length sum _ ((hcompress hop).trans (by rw [State.pressCompress_stored s n x rf hne hf he]))
      · obtain ⟨junk, a, c, h⟩ := State.pressCompress_fails hl hs hp x rf hne hf he
        exact ⟨junk, a, c, _, hcompress hop, h⟩
      · exact hwrites 0 inp.length _ r.1 ((hexpand hop).trans (by rw [State.pressExpand_ok s n x inp rf hr]))
      · obtain ⟨c, h⟩ := State.pressExpand_fault hl hs hp x inp rf hr hroom
        exact ⟨c, _, hexpand hop, h⟩
      · exact hfull 0 inp.length 0 r.1 hroom ((hexpand hop).trans (by rw [State.pressExpand_full s n x inp rf hr hroom]))

end Sys2Proof.Machine
end

section
/-!
PROOF. The controller of a port (R40, R192, R394, R395): what the fence of its instances, a controller reset and a seal leave.
-/

open Sys2Proof Sys2Proof.Machine

namespace Sys2Proof.Machine

/-! ### The fence of an instance (R74, Table 3-8) -/

/-- What the fence of instance `i` leaves as it was: ports, pins, Chest, every other instance, and the registers but for those of
a forced release of KS_LOCK. -/
structure FencedAt (i : Nat) (s t : State) : Prop where
  portA : t.portA = s.portA
  portB : t.portB = s.portB
  pins : t.pins = s.pins
  chest : t.chest = s.chest
  reg : ∀ o, o ≠ Reg.KS_ERR → o ≠ Reg.KS_ERR_LOC → t.reg o = s.reg o
  other : ∀ j, j ≠ i → t.inst j = s.inst j

theorem FencedAt.refl (i : Nat) (s : State) : FencedAt i s s := ⟨rfl, rfl, rfl, rfl, fun _ _ _ => rfl, fun _ _ => rfl⟩

theorem FencedAt.trans {i : Nat} {s t u : State} (h : FencedAt i s t) (k : FencedAt i t u) : FencedAt i s u where
  portA := k.portA.trans h.portA
  portB := k.portB.trans h.portB
  pins := k.pins.trans h.pins
  chest := k.chest.trans h.chest
  reg o h1 h2 := (k.reg o h1 h2).trans (h.reg o h1 h2)
  other j hj := (k.other j hj).trans (h.other j hj)

theorem FencedAt.setInst (s : State) (i : Nat) (v : Inst) : FencedAt i s (s.setInst i v) :=
  ⟨rfl, rfl, rfl, rfl, fun _ _ _ => rfl, fun _ hj => State.inst_setInst_other s v hj⟩

theorem State.inst_congr {s t : State} (h : t.insts = s.insts) (i : Nat) : t.inst i = s.inst i := by
  rw [State.inst, h, ← State.inst]

/-- Reporting a suppressed write keeps the instance's generation. -/
theorem State.fenced_at (s : State) (i : Nat) : FencedAt i s (s.fenced i) ∧ ((s.fenced i).inst i).gen = (s.inst i).gen := by
  unfold State.fenced
  split
  · exact ⟨FencedAt.refl i s, rfl⟩
  · let v : Inst := { s.inst i with fenced := true }
    have hv : (s.setInst i v).inst i = v := State.inst_setInst_put s i (fun h => absurd (congrArg Inst.fenced h) (by simp [v]))
    let w : Inst := { v with err := v.err ||| BitVec.ofNat 32 (2 ^ 11) }
    have hw : ((s.setInst i v).setInst i w).inst i = w :=
      State.inst_setInst_put _ i (fun h => absurd (congrArg Inst.fenced h) (by simp [w, v]))
    have he : (s.setInst i v).instErr i 11 = (s.setInst i v).setInst i w := by rw [State.instErr, hv]
    show FencedAt i s ((s.setInst i v).instErr i 11) ∧ (((s.setInst i v).instErr i 11).inst i).gen = _
    rw [he, hw]
    exact ⟨(FencedAt.setInst s i v).trans (FencedAt.setInst _ i w), rfl⟩

/-- What a reset does to one command of the instance keeps its generation. -/
theorem State.fenceCmd_at (s : State) (c : Cmd) :
    FencedAt c.inst s (s.fenceCmd c) ∧ ((s.fenceCmd c).inst c.inst).gen = (s.inst c.inst).gen := by
  unfold State.fenceCmd
  split
  · exact ⟨⟨rfl, rfl, rfl, rfl, fun _ _ _ => rfl, fun _ _ => rfl⟩, rfl⟩
  · have h : FencedAt c.inst s (((s.dropRun c.tag).untake c.tag).dropCmd c.tag) :=
      ⟨rfl, rfl, rfl, rfl, fun _ _ _ => rfl, fun _ _ => rfl⟩
    simp only []
    split
    · obtain ⟨k, kg⟩ := State.fenced_at (((s.dropRun c.tag).untake c.tag).dropCmd c.tag) c.inst
      exact ⟨h.trans k, kg⟩
    · exact ⟨h, rfl⟩

theorem State.foldl_fenceCmd_at (i : Nat) : ∀ (l : List Cmd) (s : State), (∀ c ∈ l, c.inst = i) →
    FencedAt i s (l.foldl State.fenceCmd s) ∧ ((l.foldl State.fenceCmd s).inst i).gen = (s.inst i).gen
  | [], s, _ => ⟨FencedAt.refl i s, rfl⟩
  | c :: l, s, h => by
    obtain rfl := h c (List.mem_cons_self ..)
    obtain ⟨h1, g1⟩ := s.fenceCmd_at c
    obtain ⟨h2, g2⟩ := State.foldl_fenceCmd_at c.inst l (s.fenceCmd c) (fun d hd => h d (List.mem_cons_of_mem _ hd))
    exact ⟨h1.trans h2, g2.trans g1⟩

theorem State.ksRaise_at (s : State) (i b req : Nat) : FencedAt i s (s.ksRaise 0 b req) ∧ (s.ksRaise 0 b req).insts = s.insts := by
  have hreg : ∀ o, o ≠ Reg.KS_ERR → o ≠ Reg.KS_ERR_LOC → (s.ksRaise 0 b req).reg o = s.reg o :=
    fun _ he hl => s.raiseAt_reg_other he hl
  obtain ⟨r, hr⟩ : OnlyRegs s (s.ksRaise 0 b req) := OnlyRegs.raiseAt s Reg.KS_ERR b Reg.KS_ERR_LOC _
  rw [hr] at hreg ⊢
  exact ⟨⟨rfl, rfl, rfl, rfl, hreg, fun _ _ => rfl⟩, rfl⟩

theorem State.forcedRelease_at (s : State) (i : Nat) : FencedAt i s s.forcedRelease ∧ s.forcedRelease.insts = s.insts := by
  have h : s.forcedRelease = s ∨ ∃ (k : Ksu) (l : List (Src × Nat × DWord)) (r : Nat),
      s.forcedRelease = ({ s with ksu := k, stage := l } : State).ksRaise 0 0 r := by
    unfold State.forcedRelease
    split
    · exact .inl rfl
    · exact .inr ⟨_, _, _, rfl⟩
  rcases h with h | ⟨k, l, r, h⟩ <;> rw [h]
  · exact ⟨FencedAt.refl i s, rfl⟩
  · obtain ⟨h1, h2⟩ := ({ s with ksu := k, stage := l } : State).ksRaise_at i 0 r
    have h0 : FencedAt i s { s with ksu := k, stage := l } := ⟨rfl, rfl, rfl, rfl, fun _ _ _ => rfl, fun _ _ => rfl⟩
    exact ⟨h0.trans h1, h2⟩

theorem State.ksInstanceReset_at (s : State) (i : Nat) : FencedAt i s (s.ksInstanceReset i) ∧ (s.ksInstanceReset i).insts = s.insts := by
  have h : FencedAt i s (if s.holdsLock i then s.forcedRelease else s) ∧
      (if s.holdsLock i then s.forcedRelease else s).insts = s.insts := by
    split
    · exact s.forcedRelease_at i
    · exact ⟨FencedAt.refl i s, rfl⟩
  obtain ⟨h1, h2⟩ := h
  unfold State.ksInstanceReset
  simp only []
  split
  · split
    · exact ⟨h1.trans ⟨rfl, rfl, rfl, rfl, fun _ _ _ => rfl, fun _ _ => rfl⟩, h2⟩
    · exact ⟨h1, h2⟩
  · exact ⟨h1, h2⟩

/-- A fence takes the instance to its next generation. -/
theorem State.fence_at (s : State) (i : Nat) (st : InstState) (tag : Nat) :
    FencedAt i s (s.fence i st tag) ∧ ((s.fence i st tag).inst i).gen = (s.inst i).gen + 1 := by
  let r : Inst := { s.inst i with state := st, gen := (s.inst i).gen + 1, fenced := false, mgmtTag := tag, drain := 0 }
  let t := s.setInst i r
  let mine := t.cmds.filter (fun c => decide (c.inst = i) && !c.admin && !c.dead)
  let u : State := { t with shd := t.shd.filter (fun j => decide (j.inst ≠ i) || j.started) }
  have hr : u.inst i = r := State.inst_setInst_put s i (fun h => absurd (congrArg Inst.gen h) (by simp [r]))
  have hu : FencedAt i s u := (FencedAt.setInst s i r).trans ⟨rfl, rfl, rfl, rfl, fun _ _ _ => rfl, fun _ _ => rfl⟩
  have hmine : ∀ c ∈ mine, c.inst = i := fun c hc => by
    have := (List.mem_filter.1 hc).2
    simp only [Bool.and_eq_true, decide_eq_true_eq] at this
    exact this.1.1
  obtain ⟨hv, gv⟩ := State.foldl_fenceCmd_at i mine u hmine
  let v := mine.foldl State.fenceCmd u
  let gone := (mine.filter (fun c => !t.gotAll c)).map (·.tag)
  let w := if mine.isEmpty then v else { v with luns := Sparse.mapVal (fun _ => {}) (fun _ u => u.forget gone) v.luns }
  have hw : FencedAt i v w ∧ w.insts = v.insts := by
    simp only [w]
    split
    · exact ⟨FencedAt.refl i _, rfl⟩
    · exact ⟨⟨rfl, rfl, rfl, rfl, fun _ _ _ => rfl, fun _ _ => rfl⟩, rfl⟩
  obtain ⟨hk, gk⟩ := w.ksInstanceReset_at i
  refine ⟨((hu.trans hv).trans hw.1).trans hk, ?_⟩
  have hinst : (w.ksInstanceReset i).inst i = v.inst i := State.inst_congr (gk.trans hw.2) i
  show ((w.ksInstanceReset i).inst i).gen = _
  rw [hinst, gv, hr]

/-! ### The fence of a port (R394) -/

/-- What the fence of a port's instances leaves: ports, pins, Chest, and all but KS_ERR and its capture of the registers. -/
structure PortFenced (s t : State) : Prop where
  portA : t.portA = s.portA
  portB : t.portB = s.portB
  pins : t.pins = s.pins
  chest : t.chest = s.chest
  reg : ∀ o, o ≠ Reg.KS_ERR → o ≠ Reg.KS_ERR_LOC → t.reg o = s.reg o

theorem PortFenced.trans {s t u : State} (h : PortFenced s t) (k : PortFenced t u) : PortFenced s u where
  portA := k.portA.trans h.portA
  portB := k.portB.trans h.portB
  pins := k.pins.trans h.pins
  chest := k.chest.trans h.chest
  reg o h1 h2 := (k.reg o h1 h2).trans (h.reg o h1 h2)

/-- One instance of the fold of `State.fencePort`. -/
def State.fenceRow (s : State) (p : Bool) (t : State) (e : Nat × Inst) : State :=
  if decide (s.portOf e.1 = p) && decide (e.2.state ≠ .free) then t.fence e.1 e.2.state e.2.mgmtTag else t

theorem State.fencePort_eq (s : State) (p : Bool) : s.fencePort p = s.insts.foldl (s.fenceRow p) s := rfl

theorem State.fenceRow_at (s : State) (p : Bool) (t : State) (e : Nat × Inst) : FencedAt e.1 t (s.fenceRow p t e) := by
  unfold State.fenceRow
  split
  · exact (t.fence_at e.1 _ _).1
  · exact FencedAt.refl _ _

theorem State.foldl_fenceRow (s : State) (p : Bool) : ∀ (l : List (Nat × Inst)) (t : State), PortFenced t (l.foldl (s.fenceRow p) t)
  | [], _ => ⟨rfl, rfl, rfl, rfl, fun _ _ _ => rfl⟩
  | e :: l, t => by
    have h := s.fenceRow_at p t e
    exact PortFenced.trans ⟨h.portA, h.portB, h.pins, h.chest, h.reg⟩ (State.foldl_fenceRow s p l _)

/-- Rows above the instance are fenced without touching it. -/
theorem State.foldl_fenceRow_above (s : State) (p : Bool) (i : Nat) : ∀ (l : List (Nat × Inst)) (n : Nat) (t : State),
    Sparse.above n l = true → i ≤ n → (l.foldl (s.fenceRow p) t).inst i = t.inst i
  | [], _, _, _, _ => rfl
  | (j, v) :: l, n, t, hl, hi => by
    simp only [Sparse.above, Bool.and_eq_true, decide_eq_true_eq] at hl
    obtain ⟨hj, hl⟩ := hl
    exact (State.foldl_fenceRow_above s p i l j _ hl (by omega)).trans ((s.fenceRow_at p t (j, v)).other i (by omega))

/-- Each instance of the port that is not free is fenced once, in a sorted table. -/
theorem State.foldl_fenceRow_gen (s : State) (p : Bool) (e : Nat × Inst) (hp : s.portOf e.1 = p) (hst : e.2.state ≠ .free)
    (l : List (Nat × Inst)) (t : State) (hl : Sparse.sorted l = true) (he : e ∈ l) :
    ((l.foldl (s.fenceRow p) t).inst e.1).gen = (t.inst e.1).gen + 1 := by
  induction l generalizing t with
  | nil => cases he
  | cons f l ih =>
    have habove : Sparse.above f.1 l = true := hl
    rw [List.foldl_cons]
    rcases List.mem_cons.1 he with rfl | he
    · have hrow : s.fenceRow p t e = t.fence e.1 e.2.state e.2.mgmtTag := by
        unfold State.fenceRow
        rw [if_pos (by simp [hp, hst])]
      rw [State.foldl_fenceRow_above s p e.1 l e.1 _ habove (Nat.le_refl _), hrow]
      exact (t.fence_at e.1 e.2.state e.2.mgmtTag).2
    · have hlt : f.1 < e.1 := sparse_above_mem habove he
      rw [ih (s.fenceRow p t f) (Sparse.sorted_tail hl) he, (s.fenceRow_at p t f).other e.1 (Nat.ne_of_gt hlt)]

theorem State.portOf_congr {s t : State} (h : t.pins = s.pins) (i : Nat) : t.portOf i = s.portOf i := by
  rw [State.portOf, h, ← State.portOf]

/-! ### The reset of a controller (R394) -/

theorem State.foldl_setPress (f : List PressJob → List PressJob) : ∀ (l : List Nat) (s : State), ∃ x,
    l.foldl (fun u t => if (u.strand t).press.isEmpty then u else u.setPress t (f (u.strand t).press)) s = { s with strands := x }
  | [], s => ⟨s.strands, rfl⟩
  | n :: l, s => by
    rw [List.foldl_cons]
    split
    · exact State.foldl_setPress f l s
    · obtain ⟨x, h⟩ := State.foldl_setPress f l (s.setPress n (f (s.strand n).press))
      exact ⟨x, h⟩

theorem State.discardPress_eq (s : State) (keep : PressJob → Bool) : ∃ x, s.discardPress keep = { s with strands := x } :=
  State.foldl_setPress (fun q => q.filter keep) (List.range 32) s

theorem State.hmbOff_eq (s : State) (p : Bool) : ∃ f v, s.hmbOff p = { s.setPort p v with ftl := f } ∧ v.ctrl = s.ctrl p := by
  refine ⟨(s.hmbOff p).ftl, { s.port p with hmbOn := false, hmb := [] }, ?_, rfl⟩
  cases p <;> rfl

/-- What a controller reset leaves: the port's controller drains, its admin commands and its queue rows are gone, its instances
are fenced, and pins, Chest and the other registers are as they were. -/
structure CtrlReset (p : Bool) (s t : State) : Prop where
  ctrl : t.ctrl p = { en := false, rdy := (s.ctrl p).rdy, resetting := true }
  pins : t.pins = s.pins
  chest : t.chest = s.chest
  insts : t.insts = (s.fencePort p).insts
  cmds : ∀ c ∈ t.cmds, c.admin = true → c.port ≠ p
  sq : ∀ e ∈ t.sq, s.portOf e.2.inst ≠ p
  cq : ∀ e ∈ t.cq, s.portOf e.2.inst ≠ p
  reg : ∀ o, o ∉ [Reg.KS_ERR, Reg.KS_ERR_LOC, Reg.PWR_LAT_TOL (b2n p), Reg.PWR_PS_LIMIT (b2n p)] → t.reg o = s.reg o

theorem State.ctrlReset_spec (s : State) (p : Bool) : CtrlReset p s (s.ctrlReset p) := by
  let f := s.fencePort p
  have hf : PortFenced s f := s.foldl_fenceRow p s.insts s
  let u : State := { f with
    cmds := f.cmds.filter (fun c => !(c.admin && decide (c.port = p)))
    sq := f.sq.filter (fun e => !decide (f.portOf e.2.inst = p))
    cq := f.cq.filter (fun e => !decide (f.portOf e.2.inst = p)) }
  let u1 := (u.setReg (Reg.PWR_LAT_TOL (b2n p)) (regReset (Reg.PWR_LAT_TOL (b2n p)))).setReg (Reg.PWR_PS_LIMIT (b2n p))
    (regReset (Reg.PWR_PS_LIMIT (b2n p)))
  obtain ⟨g, q, hv, hq⟩ := u1.hmbOff_eq p
  obtain ⟨x, hw⟩ : ∃ x, (if p = (u1.hmbOff p).ownerPort then (u1.hmbOff p).discardPress (fun j => decide (j.port ≠ p)) else u1.hmbOff p) =
      { u1.hmbOff p with strands := x } := by
    split
    · exact (u1.hmbOff p).discardPress_eq _
    · exact ⟨(u1.hmbOff p).strands, rfl⟩
  have hctrl : f.ctrl p = s.ctrl p := by
    cases p
    · exact congrArg Port.ctrl hf.portA
    · exact congrArg Port.ctrl hf.portB
  have hwctrl : ({ u1.setPort p q with ftl := g, strands := x } : State).ctrl p = s.ctrl p := by
    rw [← hctrl]
    refine Eq.trans ?_ hq
    cases p <;> rfl
  have ht : s.ctrlReset p = ({ u1.setPort p q with ftl := g, strands := x } : State).setCtrl p
      { en := false, rdy := (s.ctrl p).rdy, resetting := true } := by
    show (if p = (u1.hmbOff p).ownerPort then (u1.hmbOff p).discardPress (fun j => decide (j.port ≠ p)) else u1.hmbOff p).setCtrl p
      { en := false, resetting := true, rdy := ((if p = (u1.hmbOff p).ownerPort then
        (u1.hmbOff p).discardPress (fun j => decide (j.port ≠ p)) else u1.hmbOff p).ctrl p).rdy } = _
    rw [hw, hv, hwctrl]
  have hport : ∀ i, f.portOf i = s.portOf i := State.portOf_congr hf.pins
  have hreg : ∀ o, o ∉ [Reg.KS_ERR, Reg.KS_ERR_LOC, Reg.PWR_LAT_TOL (b2n p), Reg.PWR_PS_LIMIT (b2n p)] → u1.reg o = s.reg o := by
    intro o ho
    simp only [List.mem_cons, List.not_mem_nil, or_false, not_or] at ho
    obtain ⟨h1, h2, h3, h4⟩ := ho
    rw [State.reg_setReg_other _ _ h4, State.reg_setReg_other _ _ h3]
    exact hf.reg o h1 h2
  have hrows : ∀ {α : Type} (l : List (Nat × α)) (i : α → Nat), ∀ e ∈ l.filter (fun e => !decide (f.portOf (i e.2) = p)),
      s.portOf (i e.2) ≠ p := by
    intro α l i e he hp
    have := (List.mem_filter.1 he).2
    rw [hport, hp] at this
    simp at this
  rw [ht]
  refine ⟨?_, ?_, ?_, ?_, fun c hc ha hp => ?_, fun e he => ?_, fun e he => ?_, fun o ho => ?_⟩
  · cases p <;> rfl
  · cases p <;> exact hf.pins
  · cases p <;> exact hf.chest
  · cases p <;> rfl
  · have hc' : c ∈ f.cmds.filter (fun c => !(c.admin && decide (c.port = p))) := by cases p <;> exact hc
    have := (List.mem_filter.1 hc').2
    simp [ha, hp] at this
  · exact hrows f.sq SqRow.inst e (by cases p <;> exact he)
  · exact hrows f.cq CqRow.inst e (by cases p <;> exact he)
  · rw [← hreg o ho]
    cases p <;> rfl

/-! ### Enable, hot reset and shutdown (R40, R192, R395) -/

@[simp] theorem State.ctrl_setCtrl (s : State) (p : Bool) (c : Ctrl) : (s.setCtrl p c).ctrl p = c := by cases p <;> rfl

theorem State.sqRow_setCtrl (s : State) (p : Bool) (c : Ctrl) (q : Nat) : (s.setCtrl p c).sqRow q = s.sqRow q := by cases p <;> rfl

theorem State.cqRow_setCtrl (s : State) (p : Bool) (c : Ctrl) (q : Nat) : (s.setCtrl p c).cqRow q = s.cqRow q := by cases p <;> rfl

theorem State.inst_setCtrl (s : State) (p : Bool) (c : Ctrl) (i : Nat) : (s.setCtrl p c).inst i = s.inst i := by cases p <;> rfl

/-- The controller as CONTROLLER_ENABLE sets it, before it becomes ready or fails (R40; masks of log 147). -/
def Ctrl.enabled (k : Ctrl) (cc aqa : DWord) (asq acq : BitVec 64) : Ctrl :=
  { k with en := true, cc := cc &&& ccMask, mps := min 4 (bits (cc &&& ccMask).toNat 10 7)
           aqa := aqa &&& aqaMask, asq := asq &&& qbaseMask, acq := acq &&& qbaseMask, shst := 0, cfs := false }

/-- The state with the admin rows of a port, for queues of those sizes (R34, R40). -/
def State.adminRows (s : State) (p : Bool) (sqs cqs : Nat) (asq acq : BitVec 64) : State :=
  (s.setSq (adminRow p) { valid := true, base := asq &&& qbaseMask, qsize := sqs, cqid := adminRow p, inst := s.manager p }).setCq
    (adminRow p) { valid := true, base := acq &&& qbaseMask, qsize := cqs, ien := true, inst := s.manager p }

/-- The state with the port's manager instance active, where it was free (R62). -/
def State.managerUp (s : State) (p : Bool) : State :=
  if (s.inst (s.manager p)).state = .free then
    s.setInst (s.manager p) { s.inst (s.manager p) with state := .active, share := 8192 } else s

theorem bits_aqaMask (aqa : DWord) :
    bits (aqa &&& aqaMask).toNat 11 0 = bits aqa.toNat 11 0 ∧ bits (aqa &&& aqaMask).toNat 27 16 = bits aqa.toNat 27 16 :=
  ⟨bits_and_mask aqa aqaMask (by decide), bits_and_mask aqa aqaMask (by decide)⟩

theorem controllerEnable_disabled {s : State} {p : Bool} (cc aqa : DWord) (asq acq : BitVec 64) (hport : s.hasPort p = true)
    (hen : (s.ctrl p).en = false) (hreset : (s.ctrl p).resetting = false) :
    let sqs := bits aqa.toNat 11 0
    let cqs := bits aqa.toNat 27 16
    let k := (s.ctrl p).enabled cc aqa asq acq
    exec (.controllerEnable p cc aqa asq acq) s = .next (
      if decide (sqs = 0) || decide (cqs = 0) then s.setCtrl p { k with cfs := true }
      else ((s.adminRows p sqs cqs asq acq).managerUp p).setCtrl p { k with rdy := s.readyNow }) := by
  intro sqs cqs k
  show execControllerEnable p cc aqa asq acq s = _
  obtain ⟨h1, h2⟩ := bits_aqaMask aqa
  have hgo : (!s.hasPort p || (s.ctrl p).en || (s.ctrl p).resetting) = false := by rw [hport, hen, hreset]; rfl
  unfold execControllerEnable
  simp only [hgo, h1, h2]
  rfl

theorem State.sqRow_setSq (s : State) (q : Nat) {r : SqRow} (h : r ≠ {}) : (s.setSq q r).sqRow q = r :=
  sparse_get_set_put (fun _ => ({} : SqRow)) s.sq h

theorem State.cqRow_setCq (s : State) (q : Nat) {r : CqRow} (h : r ≠ {}) : (s.setCq q r).cqRow q = r :=
  sparse_get_set_put (fun _ => ({} : CqRow)) s.cq h

/-- The rows and the instance of an enabled controller, and what stays. -/
theorem State.managerUp_adminRows (s : State) (p : Bool) (sqs cqs : Nat) (asq acq : BitVec 64) :
    let q := adminRow p
    let m := s.manager p
    let t := (s.adminRows p sqs cqs asq acq).managerUp p
    t.regs = s.regs ∧ t.sqRow q = { valid := true, base := asq &&& qbaseMask, qsize := sqs, cqid := q, inst := m } ∧
      t.cqRow q = { valid := true, base := acq &&& qbaseMask, qsize := cqs, ien := true, inst := m } ∧
      ((s.inst m).state = .free → (t.inst m).state = .active) := by
  intro q m t
  let u := s.adminRows p sqs cqs asq acq
  let a : SqRow := { valid := true, base := asq &&& qbaseMask, qsize := sqs, cqid := q, inst := m }
  let b : CqRow := { valid := true, base := acq &&& qbaseMask, qsize := cqs, ien := true, inst := m }
  have ha : a ≠ {} := fun h => Bool.noConfusion (congrArg SqRow.valid h)
  have hb : b ≠ {} := fun h => Bool.noConfusion (congrArg CqRow.valid h)
  have hsq : u.sqRow q = a := s.sqRow_setSq q ha
  have hcq : u.cqRow q = b := (s.setSq q a).cqRow_setCq q hb
  by_cases hfree : (s.inst m).state = .free
  · have ht : t = u.setInst m { s.inst m with state := .active, share := 8192 } := if_pos hfree
    rw [ht]
    refine ⟨rfl, hsq, hcq, fun _ => ?_⟩
    rw [State.inst_setInst_put u m (fun h => absurd (congrArg Inst.share h : 8192 = 0) (by decide))]
  · have ht : t = u := if_neg hfree
    rw [ht]
    exact ⟨rfl, hsq, hcq, fun h => absurd h hfree⟩

theorem State.readyNow_iff (s : State) : s.readyNow = true ↔ s.dev = .service ∨ s.dev = .recovery := by
  simp only [State.readyNow, Bool.or_eq_true, decide_eq_true_eq]

/-- A byte counter in the low bits of a register that resets to 0 counts up to 255. -/
theorem State.field_count_byte (s : State) {o : Nat} (hr : regReset o = 0) :
    (s.count o 7 0 1).field o 7 0 = min (s.field o 7 0 + 1) 255 := by
  have hlt := (s.reg o).isLt
  let n := setBits (s.reg o).toNat 7 0 (min (s.field o 7 0 + 1) (2 ^ (7 + 1 - 0) - 1))
  have hn : n < 2 ^ 32 ∧ n % 256 = min (s.field o 7 0 + 1) 255 := by
    simp only [n, setBits, State.field, bits]
    omega
  obtain ⟨hn, hmod⟩ := hn
  have hpos : BitVec.ofNat 32 n ≠ regReset o := by
    rw [hr]
    intro h
    have hz : n % 2 ^ 32 = 0 := by simpa using congrArg BitVec.toNat h
    omega
  have hreg : (s.count o 7 0 1).reg o = BitVec.ofNat 32 n := s.reg_setReg_put o hpos
  rw [State.field, hreg, BitVec.toNat_ofNat, Nat.mod_eq_of_lt hn]
  simpa [bits] using hmod

/-- A shutdown starts or asks for a checkpoint: power and Chest move, and of the Chest what the checkpoint keeps. -/
theorem State.ckptStart_eq (s : State) : ∃ c w, s.ckptStart = { s with chest := c, pwr := w } ∧ c.sealed = s.chest.sealed := by
  unfold State.ckptStart
  simp only []
  split
  · exact ⟨_, s.pwr, rfl, rfl⟩
  · split
    · exact ⟨_, s.pwr, rfl, rfl⟩
    · unfold State.wakeBy
      split
      · exact ⟨_, s.pwr, rfl, rfl⟩
      · exact ⟨_, _, rfl, rfl⟩

theorem State.sealWith_eq (s : State) (clean : Bool) (us : Nat) :
    ∃ c, s.sealWith clean us = { s with chest := c } ∧ c.sealed = some clean ∧ c.seq = s.chest.seq + 1 := by
  unfold State.sealWith State.writeRoot
  simp only []
  split
  · exact ⟨_, rfl, rfl, rfl⟩
  · exact ⟨_, rfl, rfl, rfl⟩

/-- A reset of an enabled controller takes effect at once unless a shutdown runs or it has failed before it was ready (R394). -/
theorem controllerReset_enabled {s : State} {p : Bool} (hport : s.hasPort p = true) (hen : (s.ctrl p).en = true) :
    exec (.controllerReset p) s = .next (if (s.ctrl p).cfs && !(s.ctrl p).rdy then s.setCtrl p {}
      else if (s.ctrl p).shst = 1 then s.setCtrl p { s.ctrl p with en := false } else s.ctrlReset p) := by
  have hgo : (!s.hasPort p || !(s.ctrl p).en) = false := by rw [hport, hen]; rfl
  show execControllerReset p s = _
  unfold execControllerReset
  simp only [hgo]
  rfl

theorem controllerReset_other {s : State} {p : Bool} (h : s.hasPort p = false ∨ (s.ctrl p).en = false) :
    exec (.controllerReset p) s = .next s := by
  have hno : (!s.hasPort p || !(s.ctrl p).en) = true := by rcases h with h | h <;> simp [h]
  show execControllerReset p s = _
  unfold execControllerReset
  simp only [hno, if_true]

/-- The port after a hot reset, but for its controller (R395). -/
def Port.hotReset (q : Port) : Port :=
  { q with up := false, training := true, bme := false, relaxed := false, msixEn := false
           msixMask := false, msix := [], atc := [], l12 := false, cfg := {}, stalled := [] }

theorem hotReset_port {s : State} {p : Bool} (hport : s.hasPort p = true) :
    let t := if (s.ctrl p).resetting then s else s.ctrlReset p
    exec (.hotReset p) s = .next ((t.setPort p (t.port p).hotReset).count Reg.RST_CNT 7 0 1) := by
  show execHotReset p s = _
  unfold execHotReset
  simp only [hport, Bool.not_true, Bool.false_eq_true, if_false]
  rfl

theorem OnlyRegs.port {s t : State} (h : OnlyRegs s t) (p : Bool) : t.port p = s.port p := by
  obtain ⟨r, rfl⟩ := h
  rfl

theorem shutdownNotification_eq (s : State) (p : Bool) : exec (.shutdownNotification p) s = .next (
    if s.hasPort p && (s.ctrl p).en && decide ((s.ctrl p).shst = 0) && decide (s.dev = .service)
    then (s.setCtrl p { s.ctrl p with shst := 1 }).ckptStart else s) := rfl

/-- SHUTDOWN_COMPLETE does nothing until the work of the port has ended (R192). -/
def State.shutdownDue (s : State) (p : Bool) : Bool :=
  !(decide ((s.ctrl p).shst ≠ 1) || !s.portQuiet p || !s.chest.pending.isEmpty || s.chest.ckptActive ||
    !s.ftl.slots.all (fun v => decide (v.state = .mapped)))

theorem State.shutdownDue_iff (s : State) (p : Bool) : s.shutdownDue p = true ↔ (s.ctrl p).shst = 1 ∧ s.portQuiet p = true ∧
    s.chest.pending = [] ∧ s.chest.ckptActive = false ∧ ∀ v ∈ s.ftl.slots, v.state = .mapped := by
  simp only [State.shutdownDue, Bool.not_eq_true', Bool.or_eq_false_iff, decide_eq_false_iff_not, not_not, Bool.not_eq_false',
    List.isEmpty_iff, List.all_eq_true, decide_eq_true_eq, and_assoc]

theorem shutdownComplete_eq (s : State) (p : Bool) : exec (.shutdownComplete p) s = .next (
    if !s.shutdownDue p then s
    else if !s.chest.dirty.isEmpty then s.ckptStart
    else if (s.ctrl p).en then (s.sealWith true 0).setCtrl p { s.ctrl p with shst := 2 }
      else ((s.sealWith true 0).setCtrl p { s.ctrl p with shst := 2 }).ctrlReset p) := by
  rw [State.shutdownDue, Bool.not_not]
  rfl

/-! ### The obligation -/

/-- Settles O28: enable by its two outcomes, every controller reset through `State.ctrlReset_spec`, and the shutdown through what
a checkpoint's start and a seal leave. -/
theorem queController : Obligations.QueController := by
  unfold Obligations.QueController
  refine ⟨?enable, ?reset, ?early, ?drained, ?noPort, ?hot, ?notify, ?notDue, ?complete⟩
  case enable =>
    intro s p cc aqa asq acq sqs cqs q m
    refine ⟨fun h => ?_, fun hport hen hreset => ?_⟩
    · have hno : (!s.hasPort p || (s.ctrl p).en || (s.ctrl p).resetting) = true := by
        rcases h with h | h | h <;> simp [h]
      show execControllerEnable p cc aqa asq acq s = _
      unfold execControllerEnable
      simp only [hno, if_true]
    · have he := controllerEnable_disabled cc aqa asq acq hport hen hreset
      by_cases hz : sqs = 0 ∨ cqs = 0
      · refine ⟨_, he.trans (congrArg _ (if_pos (by simpa using hz))), ?_⟩
        rw [State.ctrl_setCtrl]
        refine ⟨rfl, rfl, s.setPort_regs p _, fun _ => ⟨rfl, rfl, s.setPort_sq p _, s.setPort_cq p _⟩, fun h1 h2 => ?_⟩
        exact absurd hz (by simp [h1, h2])
      · refine ⟨_, he.trans (congrArg _ (if_neg (by simpa using hz))), ?_⟩
        obtain ⟨hregs, hsq, hcq, hinst⟩ := s.managerUp_adminRows p sqs cqs asq acq
        rw [State.ctrl_setCtrl]
        refine ⟨rfl, rfl, (State.setPort_regs _ p _).trans hregs, fun h => absurd h hz, fun _ _ =>
          ⟨rfl, s.readyNow_iff, ?_, ?_, fun hfree => ?_⟩⟩
        · exact (State.sqRow_setCtrl _ p _ q).trans hsq
        · exact (State.cqRow_setCtrl _ p _ q).trans hcq
        · exact (congrArg Inst.state (State.inst_setCtrl _ p _ m)).trans (hinst hfree)
  case reset =>
    intro s p hport hen hcfs hshst
    have hr := s.ctrlReset_spec p
    have hpins := State.portOf_congr hr.pins
    refine ⟨s.ctrlReset p, ?_, ?_, ?_, ?_, hr.cmds, fun e he => ?_, fun e he => ?_, fun hs e he hp hst => ?_⟩
    · rw [controllerReset_enabled hport hen, if_neg (by simpa using hcfs), if_neg hshst]
    · rw [hr.ctrl]
    · rw [hr.ctrl]
    · rw [hr.ctrl]
    · rw [hpins]; exact hr.sq e he
    · rw [hpins]; exact hr.cq e he
    · rw [State.inst_congr hr.insts, State.fencePort_eq, s.foldl_fenceRow_gen p e hp hst s.insts s hs he,
        State.inst, sparse_get_of_mem _ hs he]
  case early =>
    refine fun s p => ⟨controllerReset_other, fun hport hen => ⟨fun h1 h2 => ?_, fun h1 h2 => ?_⟩⟩
    · rw [controllerReset_enabled hport hen, if_pos (by simp [h1, h2])]
    · rw [controllerReset_enabled hport hen, if_neg (by simpa using h1), if_pos h2]
  case drained =>
    intro s p
    split
    · next h =>
      show Host.Outcome.next (if ((s.ctrl p).resetting && _) = true then _ else _) = _
      rw [if_pos (by rw [h.1, h.2]; rfl)]
    · next h =>
      show Host.Outcome.next (if ((s.ctrl p).resetting && _) = true then _ else _) = _
      rw [if_neg (by rwa [Bool.and_eq_true])]
  case noPort =>
    intro s p hport
    show execHotReset p s = _
    unfold execHotReset
    simp only [hport, Bool.not_false, if_true]
  case hot =>
    intro s p hport
    let t := if (s.ctrl p).resetting then s else s.ctrlReset p
    let u := t.setPort p (t.port p).hotReset
    have hregs := OnlyRegs.count u Reg.RST_CNT 7 0 1
    have ht : t.field Reg.RST_CNT 7 0 = s.field Reg.RST_CNT 7 0 ∧ (t.ctrl p).resetting = true := by
      by_cases h : (s.ctrl p).resetting = true
      · have hts : t = s := if_pos h
        rw [hts]
        exact ⟨rfl, h⟩
      · have hte : t = s.ctrlReset p := if_neg h
        rw [hte]
        have hr := s.ctrlReset_spec p
        refine ⟨?_, by rw [hr.ctrl]⟩
        rw [State.field, hr.reg _ (by cases p <;> decide), ← State.field]
    have hport' : (u.count Reg.RST_CNT 7 0 1).port p = (t.port p).hotReset := (hregs.port p).trans (t.setPort_port p _)
    have hctrl : (u.count Reg.RST_CNT 7 0 1).ctrl p = t.ctrl p := by
      rw [State.ctrl, hport']
      rfl
    refine ⟨u.count Reg.RST_CNT 7 0 1, hotReset_port hport, ?_, fun hno => ?_, ?_⟩
    · rw [hctrl]
      exact ht.2
    · have hr := s.ctrlReset_spec p
      have hte : t = s.ctrlReset p := if_neg (by simp [hno])
      rw [hctrl, hte, hr.ctrl]
      obtain ⟨r, hrr⟩ := hregs
      have hpins : ∀ i, (u.count Reg.RST_CNT 7 0 1).portOf i = s.portOf i := State.portOf_congr (by
        rw [hrr]
        show u.pins = s.pins
        rw [← hr.pins, ← hte]
        cases p <;> rfl)
      refine ⟨rfl, fun e he => ?_, fun e he => ?_, fun c hc => ?_⟩
      · rw [hpins]
        exact hr.sq e (by rw [hrr] at he; rw [← hte]; cases p <;> exact he)
      · rw [hpins]
        exact hr.cq e (by rw [hrr] at he; rw [← hte]; cases p <;> exact he)
      · exact hr.cmds c (by rw [hrr] at hc; rw [← hte]; cases p <;> exact hc)
    · rw [hport']
      refine ⟨rfl, rfl, rfl, rfl, rfl, rfl, rfl, ?_⟩
      have hu : u.field Reg.RST_CNT 7 0 = t.field Reg.RST_CNT 7 0 := by cases p <;> rfl
      rw [State.field_count_byte u (by decide +kernel), hu, ht.1]
  case notify =>
    intro s p
    split
    · next h =>
      obtain ⟨hport, hen, hshst, hdev⟩ := h
      obtain ⟨c, w, hk, -⟩ := (s.setCtrl p { s.ctrl p with shst := 1 }).ckptStart_eq
      refine ⟨_, (shutdownNotification_eq s p).trans (congrArg _ (if_pos (by simp [hport, hen, hshst, hdev]))), ?_, ?_⟩
      · rw [hk]; cases p <;> rfl
      · rw [hk]; cases p <;> rfl
    · next h => rw [shutdownNotification_eq, if_neg (by simpa [and_assoc] using h)]
  case notDue =>
    intro s p h
    have hno : s.shutdownDue p = false := by
      rw [Bool.eq_false_iff, Ne, State.shutdownDue_iff]
      rintro ⟨h1, h2, h3, h4, h5⟩
      rcases h with h | h | h | h | ⟨v, hv, h⟩
      · exact h h1
      · simp [h2] at h
      · exact h h3
      · simp [h4] at h
      · exact h (h5 v hv)
    rw [shutdownComplete_eq, if_pos (by rw [hno]; rfl)]
  case complete =>
    intro s p h1 h2 h3 h4 h5
    have hdue : s.shutdownDue p = true := (s.shutdownDue_iff p).2 ⟨h1, h2, h3, h4, h5⟩
    have he := shutdownComplete_eq s p
    rw [if_neg (by rw [hdue]; decide)] at he
    by_cases hd : s.chest.dirty = []
    · obtain ⟨c, hc, hseal, hseq⟩ := s.sealWith_eq true 0
      rw [if_neg (by simp [hd])] at he
      let t := (s.sealWith true 0).setCtrl p { s.ctrl p with shst := 2 }
      have ht : t.chest = c ∧ t.cmds = s.cmds ∧ t.ftl = s.ftl := by
        simp only [t, hc]
        cases p <;> exact ⟨rfl, rfl, rfl⟩
      obtain ⟨htc, hcmds, hftl⟩ := ht
      by_cases hen : (s.ctrl p).en = true
      · rw [if_pos hen] at he
        refine ⟨t, he, fun _ => ⟨?_, ?_, fun _ => ⟨?_, hcmds, hftl⟩, fun h => ?_⟩, fun h => absurd hd h⟩
        · rw [htc, hseal]
        · rw [htc, hseq]
        · simp only [t, State.ctrl_setCtrl]
        · simp [hen] at h
      · rw [if_neg hen] at he
        have hr := t.ctrlReset_spec p
        refine ⟨t.ctrlReset p, he, fun _ => ⟨?_, ?_, fun h => absurd h hen, fun _ => ?_⟩, fun h => absurd hd h⟩
        · rw [hr.chest, htc, hseal]
        · rw [hr.chest, htc, hseq]
        · rw [hr.ctrl]
    · obtain ⟨c, w, hk, hseal⟩ := s.ckptStart_eq
      rw [if_pos (by simpa using hd)] at he
      refine ⟨_, he, fun h => absurd h hd, fun _ => ?_⟩
      rw [hk]
      exact ⟨h1, hseal, rfl⟩

end Sys2Proof.Machine
end

section
/-!
PROOF. Registers (R5 to R12, R41, R44, R57, R61): what a write stores field by field, who may write, what a read returns.
-/

open Sys2Proof Sys2Proof.Machine

namespace Sys2Proof.Machine

/-! ### Fields of a word -/

/-- A word cut at bit `lo` and again `k` bits above it. -/
theorem nat_split (n lo k : Nat) : n = 2 ^ lo * (2 ^ k * (n / 2 ^ lo / 2 ^ k) + n / 2 ^ lo % 2 ^ k) + n % 2 ^ lo := by
  rw [Nat.div_add_mod, Nat.div_add_mod]

theorem setBits_eq (n hi lo v : Nat) : setBits n hi lo v =
    2 ^ lo * (2 ^ (hi + 1 - lo) * (n / 2 ^ lo / 2 ^ (hi + 1 - lo)) + v % 2 ^ (hi + 1 - lo)) + n % 2 ^ lo := by
  have hn := nat_split n lo (hi + 1 - lo)
  rw [Nat.mul_add] at hn ⊢
  rw [setBits, bits, Nat.mul_comm (n / 2 ^ lo % _), Nat.mul_comm (v % _)]
  omega

/-- Bits inside the field are the value's, bits outside stay. -/
theorem testBit_setBits (n hi lo v b : Nat) :
    (setBits n hi lo v).testBit b = if lo ≤ b ∧ b ≤ hi then v.testBit (b - lo) else n.testBit b := by
  rw [setBits_eq, Nat.testBit_two_pow_mul_add _ (Nat.mod_lt _ (Nat.two_pow_pos lo))]
  by_cases hlo : b < lo
  · rw [if_pos hlo, if_neg (by omega), Nat.testBit_mod_two_pow, decide_eq_true hlo, Bool.true_and]
  · rw [if_neg hlo, Nat.testBit_two_pow_mul_add _ (Nat.mod_lt _ (Nat.two_pow_pos _))]
    by_cases hhi : b - lo < hi + 1 - lo
    · rw [if_pos hhi, if_pos (by omega), Nat.testBit_mod_two_pow, decide_eq_true hhi, Bool.true_and]
    · rw [if_neg hhi, if_neg (by omega), Nat.testBit_div_two_pow, Nat.testBit_div_two_pow]
      congr 1
      omega

/-! ### Rows of the register map -/

/-- The bit lies in the field. -/
def Field.covers (f : Field) (b : Nat) : Prop := f.lo ≤ b ∧ b ≤ f.hi

/-- Fields of a row lie within 32 bits, do not overlap, and their ranges fit into them. -/
structure RegRow.Wf (r : RegRow) : Prop where
  apart : r.fields.Pairwise (fun f g => f.hi < g.lo ∨ g.hi < f.lo)
  fits : ∀ f ∈ r.fields, f.lo ≤ f.hi ∧ f.hi < 32 ∧ f.max < 2 ^ (f.hi + 1 - f.lo)

theorem regRow_wf {off : Nat} {r : RegRow} (h : regRow off = some r) : r.Wf := by
  have hall : regRows.all (fun r => decide (r.fields.Pairwise (fun f g => f.hi < g.lo ∨ g.hi < f.lo)) &&
      r.fields.all (fun f => decide (f.lo ≤ f.hi ∧ f.hi < 32 ∧ f.max < 2 ^ (f.hi + 1 - f.lo)))) = true := by decide +kernel
  have hr := List.all_eq_true.1 hall r (regRow_some h).1
  simp only [Bool.and_eq_true, decide_eq_true_eq, List.all_eq_true] at hr
  exact ⟨hr.1, hr.2⟩

/-- The word after the fields of a list are set, one behind another. -/
def setFields (w : Field → Nat) (l : List Field) (n : Nat) : Nat := l.foldl (fun n f => setBits n f.hi f.lo (w f)) n

theorem testBit_setFields_outside (w : Field → Nat) {b : Nat} : ∀ (l : List Field) (n : Nat), (∀ f ∈ l, b < f.lo ∨ f.hi < b) →
    (setFields w l n).testBit b = n.testBit b
  | [], _, _ => rfl
  | f :: l, n, h => by
    have hf := h f (List.mem_cons_self ..)
    show (setFields w l (setBits n f.hi f.lo (w f))).testBit b = _
    rw [testBit_setFields_outside w l _ (fun g hg => h g (List.mem_cons_of_mem _ hg)), testBit_setBits, if_neg (by omega)]

theorem testBit_setFields_inside (w : Field → Nat) {b : Nat} {f : Field} (hb : f.covers b) : ∀ (l : List Field) (n : Nat),
    l.Pairwise (fun f g => f.hi < g.lo ∨ g.hi < f.lo) → f ∈ l → (setFields w l n).testBit b = (w f).testBit (b - f.lo)
  | g :: l, n, hp, hf => by
    obtain ⟨hg, hp⟩ := List.pairwise_cons.1 hp
    obtain ⟨hlo, hhi⟩ := hb
    show (setFields w l (setBits n g.hi g.lo (w g))).testBit b = _
    rcases List.mem_cons.1 hf with rfl | hf
    · rw [testBit_setFields_outside w l _ (fun x hx => by have := hg x hx; omega), testBit_setBits, if_pos ⟨hlo, hhi⟩]
    · exact testBit_setFields_inside w ⟨hlo, hhi⟩ l _ hp hf

/-- A field that is set reads as its value, where the fields do not overlap. -/
theorem bits_setFields_inside (w : Field → Nat) {f : Field} {l : List Field} (n : Nat)
    (hp : l.Pairwise (fun f g => f.hi < g.lo ∨ g.hi < f.lo)) (hf : f ∈ l) (hw : w f < 2 ^ (f.hi + 1 - f.lo)) :
    bits (setFields w l n) f.hi f.lo = w f := by
  refine Nat.eq_of_testBit_eq fun i => ?_
  rw [testBit_bits]
  by_cases hi : i < f.hi + 1 - f.lo
  · rw [decide_eq_true hi, Bool.true_and, testBit_setFields_inside w ⟨Nat.le_add_right _ _, by omega⟩ l n hp hf,
      Nat.add_sub_cancel_left]
  · rw [decide_eq_false hi, Bool.false_and]
    exact (Nat.testBit_lt_two_pow (Nat.lt_of_lt_of_le hw (Nat.pow_le_pow_right (by decide) (Nat.le_of_not_lt hi)))).symm

/-- A field that no field of the list meets reads as before. -/
theorem bits_setFields_outside (w : Field → Nat) {f : Field} {l : List Field} (n : Nat)
    (h : ∀ g ∈ l, f.hi < g.lo ∨ g.hi < f.lo) : bits (setFields w l n) f.hi f.lo = bits n f.hi f.lo := by
  refine Nat.eq_of_testBit_eq fun i => ?_
  rw [testBit_bits, testBit_bits]
  by_cases hi : i < f.hi + 1 - f.lo
  · rw [testBit_setFields_outside w l n (fun g hg => by have := h g hg; omega)]
  · rw [decide_eq_false hi, Bool.false_and, Bool.false_and]

theorem setFields_lt (w : Field → Nat) {l : List Field} {n : Nat} (hn : n < 2 ^ 32) (h : ∀ f ∈ l, f.hi < 32) :
    setFields w l n < 2 ^ 32 := by
  refine Nat.lt_pow_two_of_testBit _ fun i hi => ?_
  rw [testBit_setFields_outside w l n (fun f hf => .inr (Nat.lt_of_lt_of_le (h f hf) hi))]
  exact Nat.testBit_lt_two_pow (Nat.lt_of_lt_of_le hn (Nat.pow_le_pow_right (by decide) hi))

/-! ### A write by access code (R5, R9, R11) -/

theorem bits_lt (n hi lo : Nat) : bits n hi lo < 2 ^ (hi + 1 - lo) := Nat.mod_lt _ (Nat.two_pow_pos _)

theorem Field.write_rw {f : Field} (old v : Nat) (h : f.acc = .rw ∨ f.acc = .rwl) :
    f.write old v = if bits v f.hi f.lo ∈ f.reserved then bits old f.hi f.lo else Nat.min (Nat.max (bits v f.hi f.lo) f.min) f.max := by
  rcases h with h | h <;> simp only [Field.write, h, List.contains_iff_mem]

theorem Field.write_w1c {f : Field} (old v : Nat) (h : f.acc = .w1c) :
    f.write old v = bits old f.hi f.lo - (bits old f.hi f.lo &&& bits v f.hi f.lo) := by
  simp only [Field.write, h]

theorem Field.write_kept {f : Field} (old v : Nat) (h : f.acc = .wo ∨ f.acc = .rc) : f.write old v = bits old f.hi f.lo := by
  rcases h with h | h <;> simp only [Field.write, h]

/-- What a write leaves in a field fits into it. -/
theorem Field.write_lt {f : Field} (old v : Nat) (h : f.max < 2 ^ (f.hi + 1 - f.lo)) : f.write old v < 2 ^ (f.hi + 1 - f.lo) := by
  have hold := bits_lt old f.hi f.lo
  cases ha : f.acc with
  | rw | rwl =>
    rw [Field.write_rw old v (by simp [ha])]
    split
    · exact hold
    · exact Nat.lt_of_le_of_lt (Nat.min_le_right _ _) h
  | w1c =>
    rw [Field.write_w1c old v ha]
    omega
  | wo | rc => rwa [Field.write_kept old v (by simp [ha])]

/-- A write leaves 32 bits, each field by its access code, and the bits outside the fields as they were. -/
theorem RegRow.write_spec {r : RegRow} (h : r.Wf) (old : DWord) (v : Nat) :
    (BitVec.ofNat 32 (r.write old.toNat v)).toNat = r.write old.toNat v ∧
    (∀ f ∈ r.fields, bits (r.write old.toNat v) f.hi f.lo = f.write old.toNat v) ∧
    ∀ b, (∀ f ∈ r.fields, b < f.lo ∨ f.hi < b) → (r.write old.toNat v).testBit b = old.toNat.testBit b := by
  refine ⟨?_, fun f hf => ?_, fun b hb => testBit_setFields_outside _ r.fields _ hb⟩
  · rw [BitVec.toNat_ofNat]
    exact Nat.mod_eq_of_lt (setFields_lt _ old.isLt (fun f hf => (h.fits f hf).2.1))
  · exact bits_setFields_inside (fun f => f.write old.toNat v) old.toNat h.apart hf (f.write_lt _ _ (h.fits f hf).2.2)

/-! ### Configuration registers, captures, refusals (R12, R29, R158, R252, R377) -/

theorem State.configure_eq (s : State) (off : Nat) (b : Bool) (v : DWord) : ∃ c,
    s.configure off b v = { s.setReg off v with
      held := if b && !s.held.any (fun e => decide (e.1 = off)) then s.held ++ [(off, s.reg off)] else s.held
      ftl := { s.ftl with recompute := c } } := by
  unfold State.configure
  simp only []
  split
  · exact ⟨true, rfl⟩
  · exact ⟨s.ftl.recompute, rfl⟩

/-- What is in force of register `o`, from the values held and the registers. -/
theorem State.inForce_eq (s : State) (o : Nat) :
    s.inForce o = ((s.held.find? (fun e => decide (e.1 = o))).map (·.2)).getD (s.reg o) := by
  unfold State.inForce
  split
  · next h => rw [h]; rfl
  · next h => rw [h]; rfl

/-- A register whose write waits for the boundary stays in force as it was (R12). -/
theorem inForce_held {s t : State} {off : Nat}
    (h : t.held = if !s.held.any (fun e => decide (e.1 = off)) then s.held ++ [(off, s.reg off)] else s.held) :
    t.inForce off = s.inForce off := by
  rw [State.inForce_eq, State.inForce_eq, h]
  by_cases hin : s.held.any (fun e => decide (e.1 = off)) = true
  · obtain ⟨e, he, heo⟩ := List.any_eq_true.1 hin
    have hsome : (s.held.find? (fun e => decide (e.1 = off))).isSome = true := List.find?_isSome.2 ⟨e, he, by simpa using heo⟩
    obtain ⟨x, hx⟩ := Option.isSome_iff_exists.1 hsome
    simp [hin, hx]
  · have hnone : s.held.find? (fun e => decide (e.1 = off)) = none := by
      rw [List.find?_eq_none]
      intro e he heo
      exact hin (List.any_eq_true.2 ⟨e, he, heo⟩)
    simp [hin, hnone, List.find?_append]

/-- Another register stays in force as it was. -/
theorem inForce_other {s t : State} {off o : Nat} {b : Bool} (ho : o ≠ off) (hreg : t.reg o = s.reg o)
    (h : t.held = if b then s.held ++ [(off, s.reg off)] else s.held) : t.inForce o = s.inForce o := by
  rw [State.inForce_eq, State.inForce_eq, h, hreg]
  cases b
  · rfl
  · simp [List.find?_append, Ne.symm ho]

theorem inForce_unheld {t : State} {off : Nat} (h : ∀ e ∈ t.held, e.1 ≠ off) : t.inForce off = t.reg off := by
  have hnone : t.held.find? (fun e => decide (e.1 = off)) = none := by
    rw [List.find?_eq_none]
    exact fun e he heo => h e he (of_decide_eq_true heo)
  rw [State.inForce_eq, hnone]
  rfl

theorem arrayAt_some {base stride n off i : Nat} (h : arrayAt base stride n off = some i) : off = base + stride * i := by
  unfold arrayAt at h
  split at h
  · next hc =>
    obtain ⟨hle, hmod, -⟩ := hc
    obtain rfl := Option.some.inj h
    have := Nat.div_add_mod (off - base) stride
    omega
  · cases h

/-- One sticky register's part in the end of captures. -/
def State.endCapture (off : Nat) (t : State) (e : Nat × Nat × Nat × Nat) : State :=
  match arrayAt e.1 e.2.2.1 e.2.2.2 off with
  | some i => t.setReg (e.2.1 + e.2.2.1 * i) 0
  | none => t

theorem State.setReg_leaves (t : State) {o off : Nat} (v : DWord) (h : o ≠ off) : OnlyRegs t (t.setReg o v) ∧ (t.setReg o v).reg off = t.reg off :=
  ⟨OnlyRegs.setReg t o v, t.reg_setReg_other v (Ne.symm h)⟩

/-- A capture lies one dword above its sticky register. -/
theorem State.foldl_endCapture (off : Nat) : ∀ (l : List (Nat × Nat × Nat × Nat)) (s : State), (∀ e ∈ l, e.2.1 = e.1 + 4) →
    OnlyRegs s (l.foldl (State.endCapture off) s) ∧ (l.foldl (State.endCapture off) s).reg off = s.reg off
  | [], s, _ => ⟨OnlyRegs.refl s, rfl⟩
  | e :: l, s, hl => by
    have hstep : OnlyRegs s (s.endCapture off e) ∧ (s.endCapture off e).reg off = s.reg off := by
      unfold State.endCapture
      split
      · next i hi =>
        have he := hl e (List.mem_cons_self ..)
        have hoff := arrayAt_some hi
        exact s.setReg_leaves 0 (by omega)
      · exact ⟨OnlyRegs.refl s, rfl⟩
    obtain ⟨h1, h2⟩ := hstep
    obtain ⟨k1, k2⟩ := State.foldl_endCapture off l (s.endCapture off e) (fun x hx => hl x (List.mem_cons_of_mem _ hx))
    exact ⟨h1.trans k1, k2.trans h2⟩

/-- The end of captures clears other registers only. -/
theorem State.clearSticky_spec (s : State) (off : Nat) : OnlyRegs s (s.clearSticky off) ∧ (s.clearSticky off).reg off = s.reg off := by
  unfold State.clearSticky
  split
  · next hks =>
    split
    · exact s.setReg_leaves 0 (by rcases hks with h | h | h <;> rw [h] <;> decide)
    · exact ⟨OnlyRegs.refl s, rfl⟩
  · split
    · exact ⟨OnlyRegs.refl s, rfl⟩
    · exact State.foldl_endCapture off capturePairs s (by decide)

/-- A refusal raises an event of another register, and nothing else. -/
theorem State.sizeRefused_spec {s t : State} {off v : Nat} (h : s.sizeRefused off v = some t) :
    OnlyRegs s t ∧ t.reg off = s.reg off := by
  have hraise : ∀ e b loc w, off ≠ e → off ≠ loc → OnlyRegs s (s.raiseAt e b loc w) ∧ (s.raiseAt e b loc w).reg off = s.reg off :=
    fun e b loc w he hl => ⟨OnlyRegs.raiseAt s e b loc w, s.raiseAt_reg_other he hl⟩
  unfold State.sizeRefused at h
  simp only [] at h
  by_cases h1 : off = Reg.FTL_GRAIN_CFG ∨ off = Reg.FTL_WB_CFG
  · rw [if_pos h1] at h
    obtain rfl := Option.some.inj (Option.ite_none_left_eq_some.1 h).2
    exact hraise _ _ _ _ (by rcases h1 with rfl | rfl <;> decide) (by rcases h1 with rfl | rfl <;> decide)
  · rw [if_neg h1] at h
    by_cases h2 : off = Reg.IDX_CFG
    · rw [if_pos h2] at h
      obtain rfl := Option.some.inj (Option.ite_none_left_eq_some.1 h).2
      exact hraise _ _ _ _ (by rw [h2]; decide) (by rw [h2]; decide)
    · rw [if_neg h2] at h
      obtain ⟨h3, h⟩ := Option.ite_none_right_eq_some.1 h
      obtain rfl := Option.some.inj (Option.ite_none_left_eq_some.1 h).2
      exact hraise _ _ _ _ (by rw [h3]; decide) (by rw [h3]; decide)

/-! ### Registers without a command of their own (R5, R41) -/

theorem firmwareOnly_ksuUpper {off : Nat} (h1 : 0x1B1000 ≤ off) (h2 : off < 0x1B2000) : firmwareOnly off = true := by
  have hm : ((0x180000, 0x10000, 4, 0x1000, 0x2000) : Nat × Nat × Nat × Nat × Nat) ∈ firmwareRanges := by decide
  refine List.any_eq_true.2 ⟨_, hm, ?_⟩
  simp only [Bool.and_eq_true, decide_eq_true_eq]
  omega

/-- A source that may write a register has its write carried out. -/
theorem State.permitted_of_mayWrite {s : State} {src : Src} {off : Nat} (h : MayWrite s src off) (hf : firmwareOnly off = false)
    (hw : off ≠ Reg.TMR_WDT_PERIOD) (f : State → State) : s.permitted src off f = f s := by
  rcases h with ⟨k, rfl⟩ | ⟨p, rfl, hport, hitem, hown⟩
  · rfl
  · have h1 : (!s.hasPort p || s.otherItem (.host p) off) = false := by rw [hport, hitem]; rfl
    have h2 : (firmwareOnly off || decide (off = Reg.TMR_WDT_PERIOD)) = false := by rw [hf, decide_eq_false hw]; rfl
    have h3 : (s.pins.dual && decide (p ≠ s.ownerPort) && !s.ownItem p off && decide (0x10000 ≤ off)) = false := by
      rcases hown with h | h | h | h
      · simp [h]
      · simp [h]
      · simp [h]
      · simp [Nat.not_le.2 h]
    simp only [State.permitted, h1, h2, h3, Bool.false_eq_true, if_false]

/-- A port that may not write a register leaves NOT_OWNER (R41, R414). -/
theorem State.permitted_notOwner {s : State} {p : Bool} {off : Nat} (hport : s.hasPort p = true) (hitem : s.otherItem (.host p) off = false)
    (h : firmwareOnly off = true ∨ (s.pins.dual = true ∧ p ≠ s.ownerPort ∧ s.ownItem p off = false ∧ 0x10000 ≤ off)) (f : State → State) :
    s.permitted (.host p) off f = s.hifErr p 7 := by
  have h1 : (!s.hasPort p || s.otherItem (.host p) off) = false := by rw [hport, hitem]; rfl
  simp only [State.permitted, h1, Bool.false_eq_true, if_false]
  split
  · rfl
  · next h2 =>
    rcases h with h | ⟨ha, hb, hc, hd⟩
    · exact absurd (by rw [h]; rfl) h2
    · rw [if_pos (by simp [ha, hb, hc, hd])]

/-- A write of one dword below the instance pages, by a port that exists or by a control core, is a write of BAR0. -/
theorem State.regWrite_bar0 {s : State} {src : Src} {off : Nat} (hsrc : (∃ k, src = .cc k) ∨ ∃ p, src = .host p ∧ s.hasPort p = true)
    (hoff : off < 0x1000000) (v : DWord) : s.regWrite src off v = s.writeBar0 src off v := by
  rcases hsrc with ⟨k, rfl⟩ | ⟨p, rfl, hport⟩
  · show (if 0x2000000 ≤ off then _ else if 0x1000000 ≤ off then _ else _) = _
    rw [if_neg (by omega), if_neg (by omega)]
  · show (if (!s.hasPort p) = true then _ else if 0x4000000 ≤ off then _ else if 0x2000000 ≤ off then _
      else if 0x1000000 ≤ off then _ else _) = _
    rw [hport, if_neg (by decide), if_neg (by omega), if_neg (by omega), if_neg (by omega)]

theorem registerWrite_one {off : Nat} (h : off % 4 = 0) (src : Src) (v : DWord) (s : State) :
    exec (.registerWrite src off true [v]) s = .next (s.regWrite src off v) := by
  show Host.Outcome.next (if off % 4 = 0 then _ else _) = _
  rw [if_pos h]

/-- A register that starts nothing stores what is written, by a source that may write it. -/
theorem registerWrite_plain {s : State} {src : Src} {off : Nat} (hplain : PlainReg off) (hmay : MayWrite s src off)
    (hb : s.noPortB off = false) (v : DWord) : exec (.registerWrite src off true [v]) s = .next (s.plainWrite off v) := by
  obtain ⟨h4, hoff, hksu, hinst, hfirm, hch, hlo, hhi, hlist⟩ := hplain
  simp only [List.mem_cons, List.not_mem_nil, or_false, not_or] at hlist
  obtain ⟨hkick, hrst, hqcmd, himt, hperiod, hl0, hl1, hckpt, hband, hcfg⟩ := hlist
  have hsrc : (∃ k, src = .cc k) ∨ ∃ p, src = .host p ∧ s.hasPort p = true := by
    rcases hmay with h | ⟨p, h, hport, -⟩
    · exact .inl h
    · exact .inr ⟨p, h, hport⟩
  have hupper : ¬ (0x1B1000 ≤ off ∧ off < 0x1B2000) := fun h => by
    rw [firmwareOnly_ksuUpper h.1 h.2] at hfirm
    cases hfirm
  rw [registerWrite_one h4, State.regWrite_bar0 hsrc hoff]
  unfold State.writeBar0
  simp only []
  rw [if_neg hksu, if_neg hkick, if_neg hrst, if_neg (by rw [hb]; decide), State.permitted_of_mayWrite hmay hfirm hperiod,
    if_neg hqcmd, if_neg himt, if_neg hupper, if_neg hperiod, if_neg (fun h => hcfg h.1), if_neg hinst,
    if_neg (not_or.2 ⟨hl0, hl1⟩), if_neg hckpt, hch, hlo, hhi]

/-- The value that a plain write of a row stores, where it is not refused: the register, the values in force, and the capture that
ends. -/
theorem State.plainWrite_stored {s : State} {off : Nat} {v : DWord} {r : RegRow} (hr : regRow off = some r) (hb : off ≠ Reg.TMP_MED_BAND)
    (hn : s.sizeRefused off (r.write (s.reg off).toNat v.toNat) = none) :
    s.plainWrite off v = if r.fields.any (fun f => decide (f.acc = .w1c))
      then (s.configure off r.atBoundary (BitVec.ofNat 32 (r.write (s.reg off).toNat v.toNat))).clearSticky off
      else s.configure off r.atBoundary (BitVec.ofNat 32 (r.write (s.reg off).toNat v.toNat)) := by
  unfold State.plainWrite
  rw [hr]
  simp only [hb, if_false, hn]

theorem State.plainWrite_refused {s t : State} {off : Nat} {v : DWord} {r : RegRow} (hr : regRow off = some r) (hb : off ≠ Reg.TMP_MED_BAND)
    (hn : s.sizeRefused off (r.write (s.reg off).toNat v.toNat) = some t) : s.plainWrite off v = t := by
  unfold State.plainWrite
  rw [hr]
  simp only [hb, if_false, hn]

/-- What a stored plain write leaves: the register by its row, the values in force, and only captures beside. -/
structure Stored (s t : State) (off : Nat) (r : RegRow) (v : DWord) : Prop where
  reg : t.reg off = BitVec.ofNat 32 (r.write (s.reg off).toNat v.toNat)
  held : t.held = if r.atBoundary && !s.held.any (fun e => decide (e.1 = off)) then s.held ++ [(off, s.reg off)] else s.held
  others : (∀ f ∈ r.fields, f.acc ≠ .w1c) → ∀ o, o ≠ off → t.reg o = s.reg o
  rest : t = { s with regs := t.regs, held := t.held, ftl := { s.ftl with recompute := t.ftl.recompute } }

theorem State.plainWrite_spec {s : State} {off : Nat} {v : DWord} {r : RegRow} (hr : regRow off = some r) (hb : off ≠ Reg.TMP_MED_BAND)
    (hs : Sparse.sorted s.regs = true) (hn : s.sizeRefused off (r.write (s.reg off).toNat v.toNat) = none) :
    Stored s (s.plainWrite off v) off r v := by
  let n := r.write (s.reg off).toNat v.toNat
  let u := s.configure off r.atBoundary (BitVec.ofNat 32 n)
  obtain ⟨c, hu⟩ := s.configure_eq off r.atBoundary (BitVec.ofNat 32 n)
  have hreg : u.reg off = BitVec.ofNat 32 n := by
    show (s.configure off r.atBoundary (BitVec.ofNat 32 n)).reg off = _
    rw [hu]
    exact s.reg_setReg_same hs off _
  have hothers : ∀ o, o ≠ off → u.reg o = s.reg o := fun o ho => by
    show (s.configure off r.atBoundary (BitVec.ofNat 32 n)).reg o = _
    rw [hu]
    exact s.reg_setReg_other _ ho
  have hclear : OnlyRegs u (s.plainWrite off v) ∧ (s.plainWrite off v).reg off = u.reg off ∧
      ((∀ f ∈ r.fields, f.acc ≠ .w1c) → s.plainWrite off v = u) := by
    rw [State.plainWrite_stored hr hb hn]
    split
    · next hw =>
      obtain ⟨f, hf, hacc⟩ := List.any_eq_true.1 hw
      obtain ⟨h1, h2⟩ := u.clearSticky_spec off
      exact ⟨h1, h2, fun h => absurd (of_decide_eq_true hacc) (h f hf)⟩
    · exact ⟨OnlyRegs.refl u, rfl, fun _ => rfl⟩
  obtain ⟨⟨x, hx⟩, h2, h3⟩ := hclear
  refine ⟨h2.trans hreg, ?_, fun hw o ho => by rw [h3 hw, hothers o ho], ?_⟩
  · rw [hx]
    show (s.configure off r.atBoundary (BitVec.ofNat 32 n)).held = _
    rw [hu]
  · have hu' : u = _ := hu
    rw [hx, hu']
    rfl

/-! ### Writes that are dropped (R41, R44) -/

/-- A write that is not of one dword, or of two at an 8-byte boundary, with all byte enables is dropped. -/
theorem registerWrite_partial {off : Nat} {full : Bool} {vs : List DWord}
    (h : full = false ∨ off % 4 ≠ 0 ∨ (vs.length ≠ 1 ∧ vs.length ≠ 2) ∨ (vs.length = 2 ∧ off % 8 ≠ 0)) (src : Src) (s : State) :
    exec (.registerWrite src off full vs) s = .next (s.partialWrite src off) := by
  show execRegisterWrite src off full vs s = _
  unfold execRegisterWrite
  split
  · next v =>
    rw [if_neg (by simpa using h)]
  · next v w =>
    rw [if_neg (by simp at h; omega)]
  · rfl

theorem OnlyRegs.hifErr (s : State) (p : Bool) (b : Nat) : OnlyRegs s (s.hifErr p b) := OnlyRegs.raise s _ b

/-- INST_ERR with a bit set reads it back. -/
theorem State.instErr_bit (s : State) (i : Nat) {b : Nat} (hb : b < 32) : bitOf ((s.instErr i b).inst i).err.toNat b = true := by
  have hbit : ((s.inst i).err ||| BitVec.ofNat 32 (2 ^ b)).getLsbD b = true := by
    simp only [BitVec.getLsbD_or, BitVec.getLsbD_ofNat, Nat.testBit_two_pow_self, hb, decide_true, Bool.and_true, Bool.or_true]
  rw [State.instErr, State.inst_setInst_put]
  · exact hbit
  · intro h
    rw [show (s.inst i).err ||| BitVec.ofNat 32 (2 ^ b) = 0 from congrArg Inst.err h] at hbit
    simp at hbit

/-- A port's dropped write sets BAD_ACCESS of its HIF_ERR, and in a page of its own INST_ERR bit 5. -/
theorem State.partialWrite_host (s : State) (p : Bool) (off : Nat) :
    let t := s.partialWrite (.host p) off
    let i := (off - 0x1000000) / 0x4000
    t = { s with regs := t.regs, insts := t.insts } ∧ t.regs = (s.hifErr p 0).regs ∧
    (off < 0x1000000 ∨ 0x2000000 ≤ off → t.insts = s.insts) ∧
    (0x1000000 ≤ off → off < 0x2000000 → s.inPort p i = true → bitOf (t.inst i).err.toNat 5 = true) := by
  intro t i
  by_cases h : 0x1000000 ≤ off ∧ off < 0x2000000 ∧ s.inPort p i = true
  · have ht : t = (s.hifErr p 0).instErr i 5 := if_pos h
    rw [ht]
    exact ⟨rfl, rfl, fun ho => by omega, fun _ _ _ => (s.hifErr p 0).instErr_bit i (by decide)⟩
  · have ht : t = s.hifErr p 0 := if_neg h
    rw [ht]
    exact ⟨rfl, rfl, fun _ => rfl, fun h1 h2 h3 => absurd ⟨h1, h2, h3⟩ h⟩

/-- Settles O30: a plain write through `State.plainWrite_spec` and `RegRow.write_spec`, the drops by where they are made. -/
theorem regWrites : Obligations.RegWrites := by
  unfold Obligations.RegWrites
  refine ⟨?plain, ?two, ?notOwner, ?dropped⟩
  case plain =>
    intro s src off v r hplain hmay hb hr hs refused
    have hband : off ≠ Reg.TMP_MED_BAND := by
      obtain ⟨-, -, -, -, -, -, -, -, hlist⟩ := hplain
      rintro rfl
      exact hlist (by decide)
    have hexec := registerWrite_plain hplain hmay hb v
    refine ⟨fun hn => ?_, fun hn => ?_⟩
    · obtain ⟨hreg, hheld, hothers, hrest⟩ := State.plainWrite_spec hr hband hs hn
      obtain ⟨hnat, hfields, hbits⟩ := RegRow.write_spec (regRow_wf hr) (s.reg off) v.toNat
      refine ⟨s.plainWrite off v, hexec, ?_, fun b hb' hout => ?_, fun hat => ?_, fun hat hno => ?_,
        fun hw o ho => ?_, hrest⟩
      · intro f hf old x new
        have hnew : new = f.write (s.reg off).toNat v.toNat := by
          show bits ((s.plainWrite off v).reg off).toNat f.hi f.lo = _
          rw [hreg, hnat, hfields f hf]
        rw [hnew]
        exact ⟨f.write_rw _ _, f.write_w1c _ _, f.write_kept _ _⟩
      · rw [hreg, hnat]
        exact hbits b hout
      · refine inForce_held ?_
        rw [hheld, hat, Bool.true_and]
      · refine inForce_unheld ?_
        rw [hheld, hat, Bool.false_and]
        exact hno
      · exact ⟨hothers hw o ho, inForce_other ho (hothers hw o ho) hheld⟩
    · obtain ⟨t, ht⟩ := Option.ne_none_iff_exists'.1 hn
      obtain ⟨hregs, hreg⟩ := State.sizeRefused_spec ht
      refine ⟨t, ?_, hregs.eq, hreg, ?_⟩
      · rw [hexec, State.plainWrite_refused hr hband ht]
      · rw [State.inForce_eq, State.inForce_eq, hreg, hregs.eq]
  case two =>
    intro s src off v w h8
    refine ⟨s.regWrite src off v, registerWrite_one (by omega) src v s, ?_⟩
    rw [registerWrite_one (by omega) src w]
    show Host.Outcome.next (if off % 8 = 0 then _ else _) = _
    rw [if_pos h8]
  case notOwner =>
    intro s p off v hport hitem hoff h4 hksu hkick hrst hb hno
    refine ⟨s.hifErr p 7, ?_, (OnlyRegs.hifErr s p 7).eq, State.reg_raise_bit s _ 7 (by decide) (regReset_HIF_ERR p),
      fun o ho => s.reg_raise_other ho⟩
    rw [registerWrite_one h4, State.regWrite_bar0 (.inr ⟨p, rfl, hport⟩) hoff]
    unfold State.writeBar0
    simp only []
    rw [if_neg hksu, if_neg hkick, if_neg hrst, if_neg (by rw [hb]; decide), State.permitted_notOwner hport hitem hno]
  case dropped =>
    intro s off full vs h
    refine ⟨fun k => registerWrite_partial h (.cc k) s, fun p => ?_⟩
    obtain ⟨heq, hregs, hout, hpage⟩ := s.partialWrite_host p off
    have hreg : ∀ o, (s.partialWrite (.host p) off).reg o = (s.hifErr p 0).reg o := fun o => by
      rw [State.reg, hregs, ← State.reg]
    refine ⟨_, registerWrite_partial h (.host p) s, heq, ?_, fun o ho => ?_, hout, hpage⟩
    · rw [hreg]
      exact State.reg_raise_bit s _ 0 (by decide) (regReset_HIF_ERR p)
    · rw [hreg]
      exact s.reg_raise_other ho

end Sys2Proof.Machine
end

section
/-!
PROOF. Reads of registers (R5, R44), and the rows and messages reached through QMG (R41, R57, R61).
-/

open Sys2Proof Sys2Proof.Machine

namespace Sys2Proof.Machine

/-! ### What a read leaves (R5, R44) -/

/-- A field's part in a read: RC fields read 0 from then on. -/
def State.clearField (off : Nat) (t : State) (f : Field) : State := if f.acc = .rc then t.setField off f.hi f.lo 0 else t

theorem State.clearRc_eq {s : State} {off : Nat} {r : RegRow} (h : regRow off = some r) :
    s.clearRc off = r.fields.foldl (State.clearField off) s := by
  unfold State.clearRc
  rw [h]
  rfl

/-- Clearing the RC fields of a list touches one register, in those fields. -/
theorem State.foldl_clearField (off : Nat) : ∀ (l : List Field) (s : State), Sparse.sorted s.regs = true → (∀ f ∈ l, f.hi < 32) →
    let t := l.foldl (State.clearField off) s
    OnlyRegs s t ∧ (∀ o, o ≠ off → t.reg o = s.reg o) ∧
      (t.reg off).toNat = setFields (fun _ => 0) (l.filter (fun f => decide (f.acc = .rc))) (s.reg off).toNat
  | [], s, _, _ => ⟨OnlyRegs.refl s, fun _ _ => rfl, rfl⟩
  | f :: l, s, hs, hl => by
    have hl' : ∀ g ∈ l, g.hi < 32 := fun g hg => hl g (List.mem_cons_of_mem _ hg)
    by_cases hf : f.acc = .rc
    · let n := setBits (s.reg off).toNat f.hi f.lo 0
      have hn : n < 2 ^ 32 := setFields_lt (fun _ => 0) (l := [f]) (s.reg off).isLt
        (fun g hg => by rw [List.mem_singleton.1 hg]; exact hl f (List.mem_cons_self ..))
      have hc : s.clearField off f = s.setReg off (BitVec.ofNat 32 n) := if_pos hf
      obtain ⟨h1, h2, h3⟩ := State.foldl_clearField off l (s.clearField off f)
        (by rw [hc]; exact Sparse.sorted_set _ hs _ _) hl'
      have hreg : ((s.clearField off f).reg off).toNat = n := by
        rw [hc, s.reg_setReg_same hs, BitVec.toNat_ofNat, Nat.mod_eq_of_lt hn]
      rw [hreg] at h3
      refine ⟨OnlyRegs.trans ?_ h1, fun o ho => (h2 o ho).trans ?_, ?_⟩
      · rw [hc]
        exact OnlyRegs.setReg s off _
      · rw [hc, s.reg_setReg_other _ ho]
      · rw [List.filter_cons_of_pos (by simpa using hf)]
        exact h3
    · have hc : s.clearField off f = s := if_neg hf
      have h := State.foldl_clearField off l s hs hl'
      rw [List.filter_cons_of_neg (by simpa using hf), List.foldl_cons, hc]
      exact h

/-- What a read of a register of a row leaves: its RC fields read 0, the others and all other registers stay. -/
theorem State.clearRc_spec {s : State} {off : Nat} {r : RegRow} (h : regRow off = some r) (hs : Sparse.sorted s.regs = true) :
    OnlyRegs s (s.clearRc off) ∧ (∀ o, o ≠ off → (s.clearRc off).reg o = s.reg o) ∧
    ∀ f ∈ r.fields, bits ((s.clearRc off).reg off).toNat f.hi f.lo = if f.acc = .rc then 0 else bits (s.reg off).toNat f.hi f.lo := by
  have hwf := regRow_wf h
  obtain ⟨h1, h2, h3⟩ := s.foldl_clearField off r.fields hs (fun f hf => (hwf.fits f hf).2.1)
  rw [← State.clearRc_eq h] at h1 h2 h3
  refine ⟨h1, h2, fun f hf => ?_⟩
  rw [h3]
  split
  · next ha =>
    exact bits_setFields_inside _ _ (hwf.apart.filter _) (List.mem_filter.2 ⟨hf, by simpa using ha⟩) (Nat.two_pow_pos _)
  · next ha =>
    refine bits_setFields_outside _ _ fun g hg => ?_
    obtain ⟨hg, hga⟩ := List.mem_filter.1 hg
    have hne : f ≠ g := fun e => ha (by rw [e]; simpa using hga)
    have : Std.Symm (fun f g : Field => f.hi < g.lo ∨ g.hi < f.lo) := ⟨fun _ _ h => h.symm⟩
    exact hwf.apart.forall hf hg hne

/-- A read below the instance pages, by a port that exists or by a control core, is a read of BAR0. -/
theorem State.regRead_bar0 {s : State} {src : Src} {off : Nat} (hsrc : (∃ k, src = .cc k) ∨ ∃ p, src = .host p ∧ s.hasPort p = true)
    (hoff : off < 0x1000000) : s.regRead src off = ((s.readBar0 src off).1, some (s.readBar0 src off).2) := by
  have h1 : ¬ 0x4000000 ≤ off := by omega
  have h2 : ¬ 0x2000000 ≤ off := by omega
  have h3 : ¬ 0x1000000 ≤ off := by omega
  rcases hsrc with ⟨k, rfl⟩ | ⟨p, rfl, hport⟩
  · simp only [State.regRead, h2, h3, if_false]
  · simp only [State.regRead, hport, h1, h2, h3, Bool.not_true, Bool.false_eq_true, if_false]

theorem State.readBar0_plain {s : State} {src : Src} {off : Nat} (hplain : PlainReg off) (hitem : s.otherItem src off = false)
    (hb : s.noPortB off = false) : s.readBar0 src off = (s.clearRc off, s.view src off) := by
  obtain ⟨-, -, hksu, -, hfirm, -, -, -, -⟩ := hplain
  have hlock : off ≠ Reg.KS_LOCK := by
    rintro rfl
    exact hksu (by decide)
  unfold State.readBar0
  rw [if_neg hlock, if_neg (by rw [hitem, hb]; decide), if_neg (by rw [hfirm]; decide)]
  simp only [hksu, if_false]

theorem length_leBytes : ∀ (k n : Nat), (leBytes k n).length = k
  | 0, _ => rfl
  | k + 1, n => by simp [leBytes, length_leBytes k]

/-- A read of 1, 2 or 4 bytes reads the dword that they lie in. -/
theorem rcRegisterRead_dword {off len : Nat} (hlen : len ≠ 8) (src : Src) (s : State) :
    exec (.rcRegisterRead src (off, len)) s = .next ((s.regRead src (off / 4 * 4)).1.emit
      (.readData off (((leBytes 4 ((s.regRead src (off / 4 * 4)).2.getD 0).toNat).drop (off % 4)).take len))) := by
  show execRcRegisterRead src (off, len) s = _
  simp only [execRcRegisterRead, readDwords, hlen, if_false, State.regReads, slice, List.append_nil]

/-- A read of 8 bytes reads two dwords, the lower first. -/
theorem rcRegisterRead_two (off : Nat) (src : Src) (s : State) (h : off % 8 = 0) :
    let r := s.regRead src off
    let q := r.1.regRead src (off + 4)
    exec (.rcRegisterRead src (off, 8)) s = .next (q.1.emit
      (.readData off (leBytes 4 (r.2.getD 0).toNat ++ leBytes 4 (q.2.getD 0).toNat))) := by
  intro r q
  have h4 : off / 4 * 4 = off := by omega
  have h0 : off % 4 = 0 := by omega
  show execRcRegisterRead src (off, 8) s = _
  simp only [execRcRegisterRead, readDwords, if_true, State.regReads, slice, List.append_nil, h4, h0, List.drop_zero]
  rw [List.take_of_length_le (by rw [List.length_append, length_leBytes, length_leBytes])]

theorem readDword_plain {s : State} {src : Src} {off len : Nat} (hlen : len ≠ 8)
    (hsrc : (∃ k, src = .cc k) ∨ ∃ p, src = .host p ∧ s.hasPort p = true) (hplain : PlainReg (off / 4 * 4))
    (hitem : s.otherItem src (off / 4 * 4) = false) (hb : s.noPortB (off / 4 * 4) = false) :
    exec (.rcRegisterRead src (off, len)) s = .next ((s.clearRc (off / 4 * 4)).emit
      (.readData off (((leBytes 4 (s.view src (off / 4 * 4)).toNat).drop (off % 4)).take len))) := by
  rw [rcRegisterRead_dword hlen, State.regRead_bar0 hsrc hplain.2.1, State.readBar0_plain hplain hitem hb]
  rfl

/-! ### The rows of QMG (R37, R41, R61) -/

theorem setWidth32_eq (b : BitVec 64) : b.setWidth 32 = BitVec.ofNat 32 b.toNat := by
  apply BitVec.eq_of_toNat_eq
  simp

theorem qmgQcmdRead_hidden {s : State} {src : Src} (h : s.visible src (bits (s.reg Reg.QMG_QSEL).toNat 13 0) = false) :
    exec (.qmgQcmdRead src) s = .next { s with qdata := [0, 0, 0, 0, 0, 0] } := by
  show execQmgQcmdRead src s = _
  simp only [execQmgQcmdRead, h, Bool.not_false, if_true]
  rfl

theorem qmgQcmdRead_visible {s : State} {src : Src} (h : s.visible src (bits (s.reg Reg.QMG_QSEL).toNat 13 0) = true) :
    let q := bits (s.reg Reg.QMG_QSEL).toNat 13 0
    exec (.qmgQcmdRead src) s = .next { s with qdata := if bitOf (s.reg Reg.QMG_QSEL).toNat 31 then s.cqData q else s.sqData q } := by
  show execQmgQcmdRead src s = _
  simp only [execQmgQcmdRead, h, Bool.not_true, Bool.false_eq_true, if_false]

/-- A flag at a bit of a dword, as the statements write it. -/
theorem b2n_mul (b : Bool) (n : Nat) : b2n b * n = if b then n else 0 := by
  cases b
  · exact Nat.zero_mul n
  · exact Nat.one_mul n

theorem State.sqData_invalid {s : State} {q : Nat} (h : (s.sqRow q).valid = false) : s.sqData q = [0, 0, 0, 0, 0, 0] := by
  simp only [State.sqData, h, Bool.not_false, if_true]
  rfl

theorem State.cqData_invalid {s : State} {q : Nat} (h : (s.cqRow q).valid = false) : s.cqData q = [0, 0, 0, 0, 0, 0] := by
  simp only [State.cqData, h, Bool.not_false, if_true]
  rfl

theorem State.sqData_valid {s : State} {q : Nat} (h : (s.sqRow q).valid = true) :
    let r := s.sqRow q
    let w (n : Nat) : DWord := BitVec.ofNat 32 n
    s.sqData q = [w r.base.toNat, w (r.base.toNat / 2 ^ 32), w (r.qsize * 65536 + r.cqid), w (r.tail * 65536 + r.head),
      w (2 ^ 31 + (if r.error then 2 ^ 30 else 0) + r.inst * 65536 + r.loc),
      w (s.cmds.filter (fun c => decide (c.sq = q) && !c.dead)).length] := by
  simp only [State.sqData, h, Bool.not_true, Bool.false_eq_true, if_false, setWidth32_eq, b2n_mul,
    BitVec.toNat_ushiftRight, Nat.shiftRight_eq_div_pow]

theorem State.cqData_valid {s : State} {q : Nat} (h : (s.cqRow q).valid = true) :
    let r := s.cqRow q
    let w (n : Nat) : DWord := BitVec.ofNat 32 n
    s.cqData q = [w r.base.toNat, w (r.base.toNat / 2 ^ 32),
      w (r.qsize * 65536 + (if r.ien then 2 ^ 15 else 0) + (if r.imt then 2 ^ 14 else 0) + r.vector % 2 ^ 14),
      w (r.tail * 65536 + r.head),
      w (2 ^ 31 + (if r.error then 2 ^ 30 else 0) + (if r.phase then 2 ^ 29 else 0) + r.inst * 65536 + r.loc),
      w (s.cmds.filter (fun c => decide (c.cq = q) && !c.dead)).length] := by
  simp only [State.cqData, State.reserved, h, Bool.not_true, Bool.false_eq_true, if_false, setWidth32_eq, b2n_mul,
    BitVec.toNat_ushiftRight, Nat.shiftRight_eq_div_pow]
  rfl

/-! ### The interrupt message table (R57) -/

/-- QMG_IMTDATA3 as an entry's load writes it. -/
def ImtEntry.flags (e : ImtEntry) : DWord :=
  BitVec.ofNat 32 (b2n e.mask * 2 ^ 31 + b2n e.pend * 2 ^ 30 + b2n e.nocoal * 2 ^ 29 + e.owner * 65536)

theorem ImtEntry.flags_spec {e : ImtEntry} (h : e.owner < 1024) :
    bitOf e.flags.toNat 31 = e.mask ∧ bitOf e.flags.toNat 30 = e.pend ∧ bitOf e.flags.toNat 29 = e.nocoal ∧
      bits e.flags.toNat 25 16 = e.owner := by
  obtain ⟨addr, data, mask, pend, nocoal, owner⟩ := e
  simp only [ImtEntry.flags, bitOf, bits, Nat.testBit_eq_decide_div_mod_eq, BitVec.toNat_ofNat]
  cases mask <;> cases pend <;> cases nocoal <;> simp [b2n] at h ⊢ <;> omega

theorem and_not_three (a : BitVec 64) : a &&& ~~~ (3 : BitVec 64) = a >>> 2 <<< 2 := by
  refine BitVec.eq_of_getLsbD_eq fun i hi => ?_
  have h3 : (3 : BitVec 64).getLsbD i = decide (i < 2) :=
    (BitVec.getLsbD_ofNat 64 3 i).trans (by rw [Nat.testBit_two_pow_sub_one (n := 2)]; simp [hi])
  simp only [BitVec.getLsbD_and, BitVec.getLsbD_not, h3, hi, BitVec.getLsbD_shiftLeft, BitVec.getLsbD_ushiftRight, decide_true,
    Bool.true_and]
  by_cases h : i < 2
  · simp [h]
  · simp [h, Nat.add_sub_cancel' (Nat.le_of_not_lt h)]

theorem toNat_dwords (hi lo : DWord) : (hi ++ lo).toNat = hi.toNat * 2 ^ 32 + lo.toNat := by
  rw [BitVec.toNat_append, ← Nat.shiftLeft_add_eq_or_of_lt lo.isLt, Nat.shiftLeft_eq]

/-- The address of an entry is its two dwords with the lowest two bits cleared. -/
theorem imtAddr_eq (hi lo : DWord) : BitVec.ofNat 64 (hi.toNat * 2 ^ 32 + lo.toNat / 4 * 4) = (hi ++ lo) &&& ~~~ (3 : BitVec 64) := by
  rw [and_not_three]
  apply BitVec.eq_of_toNat_eq
  rw [BitVec.toNat_shiftLeft, BitVec.toNat_ushiftRight, toNat_dwords, Nat.shiftLeft_eq, Nat.shiftRight_eq_div_pow, BitVec.toNat_ofNat]
  omega

theorem append_halves (a : BitVec 64) : (a >>> 32).setWidth 32 ++ a.setWidth 32 = a := by
  apply BitVec.eq_of_toNat_eq
  rw [toNat_dwords, BitVec.toNat_setWidth, BitVec.toNat_setWidth, BitVec.toNat_ushiftRight, Nat.shiftRight_eq_div_pow]
  omega

/-- The four dwords that a load leaves in QMG_IMTDATA. -/
def State.imtData (s : State) (src : Src) (n : Nat) : List DWord :=
  let e := Sparse.get (fun _ => {}) s.imt n
  if !s.visible src n then [0, 0, 0, 0] else [e.addr.setWidth 32, (e.addr >>> 32).setWidth 32, e.data, e.flags]

/-- A load writes the four data registers and nothing else. -/
theorem qmgImtLoad_spec (src : Src) {s : State} (hs : Sparse.sorted s.regs = true) :
    ∃ t, exec (.qmgImtLoad src) s = .next t ∧ OnlyRegs s t ∧ (∀ o, (∀ i, i < 4 → o ≠ Reg.QMG_IMTDATA i) → t.reg o = s.reg o) ∧
      ∀ i, i < 4 → t.reg (Reg.QMG_IMTDATA i) = nth 0 (s.imtData src (s.field Reg.QMG_IMTSEL 13 0)) i := by
  let w := s.imtData src (s.field Reg.QMG_IMTSEL 13 0)
  let t0 := s.setReg (Reg.QMG_IMTDATA 0) (nth 0 w 0)
  let t1 := t0.setReg (Reg.QMG_IMTDATA 1) (nth 0 w 1)
  let t2 := t1.setReg (Reg.QMG_IMTDATA 2) (nth 0 w 2)
  let t3 := t2.setReg (Reg.QMG_IMTDATA 3) (nth 0 w 3)
  have h0 : Sparse.sorted t0.regs = true := Sparse.sorted_set _ hs _ _
  have h1 : Sparse.sorted t1.regs = true := Sparse.sorted_set _ h0 _ _
  have h2 : Sparse.sorted t2.regs = true := Sparse.sorted_set _ h1 _ _
  have hregs : OnlyRegs s t3 :=
    (((OnlyRegs.setReg s _ _).trans (OnlyRegs.setReg t0 _ _)).trans (OnlyRegs.setReg t1 _ _)).trans (OnlyRegs.setReg t2 _ _)
  refine ⟨t3, rfl, hregs, fun o ho => ?_, fun i hi => ?_⟩
  · rw [State.reg_setReg_other _ _ (ho 3 (by decide)), State.reg_setReg_other _ _ (ho 2 (by decide)),
      State.reg_setReg_other _ _ (ho 1 (by decide)), State.reg_setReg_other _ _ (ho 0 (by decide))]
  · match i, hi with
    | 0, _ =>
      rw [State.reg_setReg_other _ _ (by decide), State.reg_setReg_other _ _ (by decide), State.reg_setReg_other _ _ (by decide)]
      exact s.reg_setReg_same hs _ _
    | 1, _ =>
      rw [State.reg_setReg_other _ _ (by decide), State.reg_setReg_other _ _ (by decide)]
      exact t0.reg_setReg_same h0 _ _
    | 2, _ =>
      rw [State.reg_setReg_other _ _ (by decide)]
      exact t1.reg_setReg_same h1 _ _
    | 3, _ => exact t2.reg_setReg_same h2 _ _

/-- The entry that a store forms from the data registers, the old pending bit kept. -/
def State.imtEntry (s : State) (n : Nat) : ImtEntry :=
  let r := fun i => s.reg (Reg.QMG_IMTDATA i)
  let d3 := (r 3).toNat
  { addr := BitVec.ofNat 64 ((r 1).toNat * 2 ^ 32 + (r 0).toNat / 4 * 4), data := r 2
    mask := bitOf d3 31, nocoal := bitOf d3 29, owner := bits d3 25 16, pend := (Sparse.get (fun _ => {}) s.imt n).pend }

/-- The message table with one entry set. -/
def State.setImt (s : State) (n : Nat) (e : ImtEntry) : State := { s with imt := Sparse.set (fun _ => {}) s.imt n e }

/-- What the store of entry `e` in place `n` makes of the state. -/
def State.imtStored (s : State) (n : Nat) (e : ImtEntry) : State :=
  if e.pend && !e.mask then
    if e.owner = (Sparse.get (fun _ => {}) s.imt n).owner then
      (s.setImt n { e with pend := false }).send (s.portOf e.owner) (.message (s.portOf e.owner) e.addr e.data)
    else (s.setImt n { e with pend := false }).raise Reg.QMG_ERR 4
  else s.setImt n e

theorem qmgImtStore_eq (src : Src) (s : State) : exec (.qmgImtStore src) s = .next (
    if !s.visible src (s.field Reg.QMG_IMTSEL 13 0) then s
    else s.imtStored (s.field Reg.QMG_IMTSEL 13 0) (s.imtEntry (s.field Reg.QMG_IMTSEL 13 0))) := rfl

@[simp] theorem State.port_setImt (s : State) (n : Nat) (e : ImtEntry) (p : Bool) : (s.setImt n e).port p = s.port p := by cases p <;> rfl

/-- A store that does not unmask a pending entry moves that entry alone. -/
theorem State.imtStored_kept {s : State} {e : ImtEntry} (n : Nat) (h : ¬ (e.pend = true ∧ e.mask = false)) :
    s.imtStored n e = s.setImt n e := by
  have hgo : (e.pend && !e.mask) = false := by simpa using h
  rw [State.imtStored, if_neg (by rw [hgo]; decide)]

/-- A store that unmasks a pending entry clears its bit and sends its message, unless the owner changes with it (log 169). -/
theorem State.imtStored_unmasked {s : State} {e : ImtEntry} (n : Nat) (hp : e.pend = true) (hm : e.mask = false) :
    let old := Sparse.get (fun _ => {}) s.imt n
    let p := s.portOf e.owner
    let t := s.imtStored n e
    t.imt = (s.setImt n { e with pend := false }).imt ∧
    (e.owner = old.owner → (s.port p).training = false → t = { s with imt := t.imt, out := s.out ++ [.message p e.addr e.data] }) ∧
    (e.owner = old.owner → (s.port p).training = true → t.out = s.out ∧
      (t.port p).stalled = (s.port p).stalled ++ [.message p e.addr e.data]) ∧
    (e.owner ≠ old.owner → t = { s with imt := t.imt, regs := t.regs } ∧ bitOf (t.reg Reg.QMG_ERR).toNat 4 = true) := by
  intro old p t
  let u := s.setImt n { e with pend := false }
  have hgo : (e.pend && !e.mask) = true := by rw [hp, hm]; rfl
  by_cases ho : e.owner = old.owner
  · have ht : t = if (s.port p).training then u.setPort p { s.port p with stalled := (s.port p).stalled ++ [.message p e.addr e.data] }
        else u.emit (.message p e.addr e.data) := by
      rw [← s.port_setImt n { e with pend := false } p, ← State.send_eq]
      exact (if_pos hgo).trans (if_pos ho)
    refine ⟨?_, fun _ htr => ?_, fun _ htr => ?_, fun h => absurd ho h⟩
    · rw [ht]
      split
      · cases p <;> rfl
      · rfl
    · rw [ht, htr]
      rfl
    · rw [ht, htr, if_pos rfl]
      exact ⟨u.setPort_out p _, by cases p <;> rfl⟩
  · have ht : t = u.raise Reg.QMG_ERR 4 := (if_pos hgo).trans (if_neg ho)
    refine ⟨by rw [ht]; rfl, fun h => absurd h ho, fun h => absurd h ho, fun _ => ⟨by rw [ht]; rfl, ?_⟩⟩
    rw [ht]
    exact State.reg_raise_bit _ _ _ (by decide) (by decide)

/-- Settles O31: the read and its RC fields by `State.clearRc_spec`, the rows and messages of QMG by what they load and store. -/
theorem regReads : Obligations.RegReads := by
  unfold Obligations.RegReads
  refine ⟨?one, ?two, ?rows, ?messages⟩
  case one =>
    intro s src off len r hsrc base hlen _ hplain hitem hb hr hs
    obtain ⟨hregs, hothers, hfields⟩ := State.clearRc_spec hr hs
    refine ⟨_, readDword_plain (by omega) hsrc hplain hitem hb, ?_, hfields, hothers⟩
    obtain ⟨x, hx⟩ := hregs
    rw [hx]
    rfl
  case two =>
    intro s src off h
    have h4 : off / 4 * 4 = off := by omega
    have h4' : (off + 4) / 4 * 4 = off + 4 := by omega
    let u := s.regRead src off
    let v := u.1.regRead src (off + 4)
    refine ⟨u.1, v.1, leBytes 4 (u.2.getD 0).toNat, leBytes 4 (v.2.getD 0).toNat, ?_, ?_, rcRegisterRead_two off src s h⟩
    · rw [rcRegisterRead_dword (by decide), h4, show off % 4 = 0 by omega]
      rfl
    · rw [rcRegisterRead_dword (by decide), h4', show (off + 4) % 4 = 0 by omega]
      rfl
  case rows =>
    intro s src sel q sets w
    refine ⟨fun h => ?_, fun hv hc hr => ?_, fun hv hc hr => ?_⟩
    · by_cases hv : s.visible src q = true
      · show exec (.qmgQcmdRead src) s = _
        rw [qmgQcmdRead_visible hv]
        rcases h with h | ⟨hc, hr⟩ | ⟨hc, hr⟩
        · exact absurd hv (by rw [h]; decide)
        · rw [if_neg (by rw [hc]; decide), State.sqData_invalid hr]
        · rw [if_pos hc, State.cqData_invalid hr]
      · exact qmgQcmdRead_hidden (by simpa using hv)
    · intro r
      show exec (.qmgQcmdRead src) s = _
      rw [qmgQcmdRead_visible hv, if_neg (by rw [hc]; decide), State.sqData_valid hr]
    · intro r
      show exec (.qmgQcmdRead src) s = _
      rw [qmgQcmdRead_visible hv, if_pos hc, State.cqData_valid hr]
  case messages =>
    intro s src n e d
    refine ⟨fun hs => ?_, fun hv => ?_, fun hv hs => ?_⟩
    · obtain ⟨t, ht, hregs, hothers, hdata⟩ := qmgImtLoad_spec src hs
      refine ⟨t, ht, hregs.eq, hothers, fun hv i hi => ?_, fun hv ho => ?_⟩
      · have hw : s.imtData src n = [0, 0, 0, 0] := if_pos (by rw [hv]; rfl)
        show t.reg _ = 0
        rw [hdata i hi, hw]
        match i, hi with
        | 0, _ | 1, _ | 2, _ | 3, _ => rfl
      · have hw : s.imtData src n = [e.addr.setWidth 32, (e.addr >>> 32).setWidth 32, e.data, e.flags] := if_neg (by rw [hv]; decide)
        have hd : ∀ i, i < 4 → d t i = nth 0 [e.addr.setWidth 32, (e.addr >>> 32).setWidth 32, e.data, e.flags] i :=
          fun i hi => by rw [← hw]; exact hdata i hi
        rw [hd 0 (by decide), hd 1 (by decide), hd 2 (by decide), hd 3 (by decide)]
        exact ⟨append_halves e.addr, rfl, ImtEntry.flags_spec ho⟩
    · show exec (.qmgImtStore src) s = _
      rw [qmgImtStore_eq, if_pos (by rw [hv]; rfl)]
    · let x := s.imtEntry n
      let t := s.imtStored n x
      have hexec : exec (.qmgImtStore src) s = .next t := by rw [qmgImtStore_eq, if_neg (by rw [hv]; decide)]
      let unmasks := x.pend = true ∧ x.mask = false
      have himt : t.imt = (s.setImt n { x with pend := if unmasks then false else x.pend }).imt := by
        by_cases hu : unmasks
        · rw [if_pos hu]
          exact (State.imtStored_unmasked n hu.1 hu.2).1
        · rw [if_neg hu]
          exact congrArg State.imt (State.imtStored_kept n hu)
      have hf : Sparse.get (fun _ => {}) t.imt n = { x with pend := if unmasks then false else x.pend } := by
        rw [himt]
        exact Sparse.get_set_same _ hs n _
      refine ⟨t, hexec, fun m hm => ?_, ?_⟩
      · rw [himt]
        exact Sparse.get_set_other _ _ _ hm
      · intro f p _
        have haddr : f.addr = x.addr := (congrArg ImtEntry.addr hf :)
        have hdata : f.data = x.data := (congrArg ImtEntry.data hf :)
        have howner : f.owner = x.owner := (congrArg ImtEntry.owner hf :)
        have hpend : f.pend = if unmasks then false else x.pend := congrArg ImtEntry.pend hf
        have hp : p = s.portOf x.owner := congrArg s.portOf howner
        refine ⟨haddr.trans (imtAddr_eq _ _), hdata, congrArg ImtEntry.mask hf, congrArg ImtEntry.nocoal hf, howner, fun hu => ?_,
          fun hu => ?_⟩
        · obtain ⟨-, hsends, hstalls, hmoves⟩ := State.imtStored_unmasked (s := s) (e := x) n hu.1 hu.2
          rw [hp, haddr, hdata, howner]
          exact ⟨hpend.trans (if_pos hu), hsends, hstalls, hmoves⟩
        · have ht : t = s.setImt n x := State.imtStored_kept n hu
          exact ⟨hpend.trans (if_neg hu), by rw [ht]; rfl⟩

end Sys2Proof.Machine
end

section
/-!
PROOF. Identify, Get Log Page and Get Features (R1, R180, R407, R438 to R440).
-/

open Sys2Proof Sys2Proof.Machine

namespace Sys2Proof.Machine

/-! ### Admin commands and their answers -/

/-- The handler of an admin command sees that command. -/
theorem State.onCmd_admin {s : State} {tag : Nat} {c : Cmd} {op : Nat} (h : AdminCmd s tag c) (ho : c.opcode = op) (f : Cmd → State) :
    s.onCmd tag true [op] f = f c := by
  obtain ⟨⟨hc, -, he, -⟩, ha, -⟩ := h
  simp [State.onCmd, hc, ha, he, ho]

/-- A row that hands the command to `f` answers as `f` does. -/
theorem AdminCmd.answers {i : Instr} {s s' : State} {tag : Nat} {c : Cmd} {op : Nat} {st : Status} {dw0 dw1 : Nat} {w : List Out}
    (h : AdminCmd s tag c) (ho : c.opcode = op) {f : Cmd → State} (hi : exec i s = .next (s.onCmd tag true [op] f))
    (hf : Answered s s' c st dw0 dw1 w (f c)) : Answers i s s' c st dw0 dw1 w :=
  ⟨f c, by rw [hi, State.onCmd_admin h ho], hf⟩

theorem Answerable.posts {s : State} {tag : Nat} {c : Cmd} (h : Answerable s tag c) {st : Status} (dw0 dw1 : Nat)
    (hst : st ≠ .unrecoveredRead) : Answered s s c st dw0 dw1 [] (s.post c st dw0 dw1 none) := by
  have hp := State.post_answered (w := []) st dw0 dw1 h rfl rfl rfl rfl h.2.2.2.2.2.2 (List.append_nil _).symm h.2.2.2.1
  rwa [if_neg hst] at hp

theorem Answerable.errs {s : State} {tag : Nat} {c : Cmd} (h : Answerable s tag c) {st : Status} (hst : st ≠ .unrecoveredRead) :
    Answered s s c st 0 0 [] (s.err c st) := h.posts 0 0 hst

/-- Data that takes a free value, moved, and the success after it. -/
theorem Answerable.sends {s : State} {tag : Nat} {c : Cmd} (h : Answerable s tag c) (segs : List (Nat × Nat)) (l : List Byte) (dw0 : Nat) :
    Answered s s.tick c .success dw0 0 (c.moved s segs l) ((s.tick.scatter c segs l).post c .success dw0 0 none) :=
  State.scatter_answered segs l .success dw0 0 h ⟨s.free + 1, rfl⟩ (by decide)

/-! ### Fields put into a buffer -/

theorem length_freeBytes (seed n : Nat) : (freeBytes seed n).length = n := by
  rw [freeBytes, List.length_map, List.length_range]

theorem length_putField {l v : List Byte} {a : Nat} (h : a + v.length ≤ l.length) : (putField l a v).length = l.length := by
  simp only [putField, List.length_append, List.length_take, List.length_drop]
  omega

theorem length_putFields : ∀ (fs : List (Nat × List Byte)) (l : List Byte), (∀ f ∈ fs, f.1 + f.2.length ≤ l.length) →
    (putFields l fs).length = l.length
  | [], _, _ => rfl
  | f :: fs, l, h => by
    have h1 := length_putField (h f (List.mem_cons_self ..))
    exact (length_putFields fs (putField l f.1 f.2) (fun g hg => by rw [h1]; exact h g (List.mem_cons_of_mem _ hg))).trans h1

theorem le_length_putField {k a : Nat} {l : List Byte} (v : List Byte) (h : k ≤ l.length) (ha : k ≤ a) : k ≤ (putField l a v).length := by
  simp only [putField, List.length_append, List.length_take]
  omega

theorem take_putField {k a : Nat} {l : List Byte} (v : List Byte) (h : k ≤ l.length) (ha : k ≤ a) : (putField l a v).take k = l.take k := by
  rw [putField, List.append_assoc, List.take_append_of_le_length (by rw [List.length_take]; omega), List.take_take, Nat.min_eq_left ha]

/-- Fields put from byte `k` on leave the bytes below. -/
theorem take_putFields {k : Nat} : ∀ (fs : List (Nat × List Byte)) (l : List Byte), k ≤ l.length → (∀ f ∈ fs, k ≤ f.1) →
    (putFields l fs).take k = l.take k
  | [], _, _, _ => rfl
  | f :: fs, l, hl, h => by
    have hf := h f (List.mem_cons_self ..)
    exact (take_putFields fs _ (le_length_putField f.2 hl hf) (fun g hg => h g (List.mem_cons_of_mem _ hg))).trans (take_putField f.2 hl hf)

/-- A field put first at byte 0 stays where all others lie above it. -/
theorem take_putFields_first {v l : List Byte} {fs : List (Nat × List Byte)} (h : ∀ f ∈ fs, v.length ≤ f.1) :
    (putFields l ((0, v) :: fs)).take v.length = v := by
  have hp : putField l 0 v = v ++ l.drop v.length := by rw [putField, List.take_zero, List.nil_append, Nat.zero_add]
  have hl : v.length ≤ (putField l 0 v).length := by rw [hp, List.length_append]; omega
  calc (putFields l ((0, v) :: fs)).take v.length = (putField l 0 v).take v.length := take_putFields fs _ hl h
    _ = v := by rw [hp, List.take_left' rfl]

/-- Identify Controller begins with the vendor identifier (R438). -/
theorem State.identController_vendor (s : State) (p : Bool) (seed : Nat) : (s.identController p seed).take 2 = [0xA7, 0x1E] := by
  have hv : leBytes 2 0x1EA7 = [0xA7, 0x1E] := by decide
  simp only [State.identController, List.cons_append, hv]
  refine take_putFields_first (v := [0xA7, 0x1E]) ?_
  have hports : ∀ f ∈ (if s.pins.dual then
      [(76, leBytes 1 (setBits (nth 0 (freeBytes seed 4096) 76).toNat 1 0 3)), (78, leBytes 2 (1 + b2n p))] else []), 2 ≤ f.1 := by
    split <;> simp
  have hstates : ∀ (g : Nat → List Byte), ∀ f ∈ (List.range 5).map (fun k => (2048 + 32 * k, g k)), 2 ≤ f.1 := fun g =>
    List.forall_mem_map.2 fun k _ => by show 2 ≤ 2048 + 32 * k; omega
  simp only [List.forall_mem_cons, List.forall_mem_append, List.nil_append, List.length_cons, List.length_nil, Nat.reduceAdd,
    Nat.reduceLeDiff, true_and]
  exact ⟨hports, hstates _⟩

theorem State.length_identList (s : State) (n : Nat) : (s.identList n).length = 4096 := by
  rw [State.identList, List.length_take, List.length_append, List.length_replicate]
  omega

theorem length_leBytes_flatMap (l : List Nat) : (l.flatMap (leBytes 4)).length = 4 * l.length := by
  induction l with
  | nil => rfl
  | cons n l ih =>
    rw [List.flatMap_cons, List.length_append, ih, List.length_cons]
    show 4 + _ = _
    omega

/-- The list of the namespaces above an NSID begins with them (R438). -/
theorem State.identList_begins (s : State) (n : Nat) :
    let l := (s.spaces.map (·.1)).filter (fun m => decide (n < m))
    (s.identList n).take (4 * l.length) = (l.flatMap (leBytes 4)).take 4096 := by
  intro l
  have hl : 4 * l.length = (l.flatMap (leBytes 4)).length := (length_leBytes_flatMap l).symm
  have hlist : s.identList n = (l.flatMap (leBytes 4) ++ List.replicate 4096 0).take 4096 := rfl
  rw [hlist, List.take_take, Nat.min_comm, ← List.take_take, hl, List.take_left' rfl]

/-! ### Features -/

theorem feature_known (fid : Nat) : (stored fid || [2, 7, 0xD].contains fid) = true ↔ fid ∈ [1, 2, 4, 5, 6, 7, 8, 9, 0xA, 0xB, 0xD] := by
  simp only [stored, Bool.or_eq_true, List.contains_iff_mem, List.mem_cons, List.not_mem_nil, or_false]
  omega

/-- The attributes of the Drawer that Get Features returns as data (R151). -/
def State.hmbAttributes (s : State) (p : Bool) : List Byte :=
  let k := s.ctrl p
  putFields (freeBytes s.free 4096) [(0, leBytes 4 (k.feature (0xD + 256) 0)), (4, leBytes 8 (k.feature (0xD + 512) 0)),
    (12, leBytes 4 (k.feature (0xD + 768) 0))]

theorem State.length_hmbAttributes (s : State) (p : Bool) : (s.hmbAttributes p).length = 4096 := by
  rw [State.hmbAttributes, length_putFields, length_freeBytes]
  simp [leBytes, length_freeBytes]

/-! ### Identify, Get Log Page, Get Features -/

section
variable {s : State} {tag : Nat} {c : Cmd} (segs : List (Nat × Nat)) (h : AdminCmd s tag c)
include h

theorem identify_admin (ho : c.opcode = 0x06) : exec (.identify tag segs) s = .next (
    let cns := c.f 10 7 0
    let send (l : List Byte) : State := (s.tick.scatter c segs l).ok c
    if decide (s.dev = .recovery) && decide (cns ≠ 1) then s.err c .invalidField
    else if cns = 1 then send (s.identController c.port s.free)
    else if cns = 0 ∨ cns = 0x11 then
      if decide (c.nsid = 0) || (decide (256 < c.nsid) && decide (c.nsid ≠ full)) then s.err c .invalidNamespace
      else send (s.identNamespace c.nsid s.free)
    else if cns = 2 ∨ cns = 0x10 then send (s.identList c.nsid)
    else if [3, 5, 6, 7, 8, 0x12, 0x13, 0x1C].contains cns then send (freeBytes s.free 4096)
    else s.err c .invalidField) := congrArg _ (State.onCmd_admin h ho _)

theorem getLogPage_unknown (ho : c.opcode = 0x02) (hp : s.logPage c.port c.data (c.f 10 7 0) = none) :
    exec (.getLogPage tag segs) s = .next (s.err c .invalidLogPage) := by
  show Host.Outcome.next (s.onCmd tag true [0x02] _) = _
  simp only [State.onCmd_admin h ho, hp]

theorem getLogPage_known (ho : c.opcode = 0x02) {l : List Byte} (hp : s.logPage c.port c.data (c.f 10 7 0) = some l) :
    exec (.getLogPage tag segs) s = .next (
      if l.length < c.q 12 then s.err c .invalidField
      else
        let t := (s.tick.scatter c segs (slice l (c.q 12) (4 * (c.f 10 31 16 + 65536 * c.f 11 15 0 + 1)))).ok c
        if bitOf (c.d 10).toNat 15 then t else t.aenRead c.port (c.f 10 7 0)) := by
  show Host.Outcome.next (s.onCmd tag true [0x02] _) = _
  simp only [State.onCmd_admin h ho, hp]

theorem getFeatures_admin (ho : c.opcode = 0x0A) : exec (.getFeatures tag segs) s = .next (
    let fid := c.f 10 7 0
    let v := c.f 11 31 0
    let sel := c.f 10 10 8
    let k := s.ctrl c.port
    if !(stored fid || [2, 7, 0xD].contains fid) || decide (3 < sel) then s.err c .invalidField
    else if sel = 3 then s.post c .success (4 * b2n (decide (fid ≠ 7))) 0 none
    else if sel ≠ 0 then s.post c .success (s.featDefault fid v) 0 none
    else if fid = 2 then s.post c .success (s.reg (Reg.PWR_PS_LIMIT (b2n c.port))).toNat 0 none
    else if fid = 7 then s.post c .success (s.featDefault 7 0) 0 none
    else if fid = 0xD then (s.tick.scatter c segs (s.hmbAttributes c.port)).post c .success (k.feature 0xD 0) 0 none
    else s.post c .success (k.feature (featKey fid v) (s.featDefault fid v)) 0 none) := congrArg _ (State.onCmd_admin h ho _)

end

/-- Settles O32: each branch of the three rows answers by `Answerable.errs`, `.posts` or `.sends`. -/
theorem admReports : Obligations.AdmReports := by
  unfold Obligations.AdmReports
  refine ⟨?identify, ?logPage, ?features⟩
  case identify =>
    intro s tag c segs h ho cns sends
    have refuses {st : Status} (hst : st ≠ .unrecoveredRead) (he : exec (.identify tag segs) s = .next (s.err c st)) :
        Answers (.identify tag segs) s s c st 0 0 [] := ⟨_, he, h.1.errs hst⟩
    have gives {l : List Byte} (he : exec (.identify tag segs) s = .next ((s.tick.scatter c segs l).ok c)) : sends l :=
      ⟨_, he, h.1.sends segs l 0⟩
    have hexec := identify_admin segs h ho
    simp only [show c.f 10 7 0 = cns from rfl] at hexec
    have hbad : (decide (c.nsid = 0) || (decide (256 < c.nsid) && decide (c.nsid ≠ full))) = true ↔
        c.nsid = 0 ∨ (256 < c.nsid ∧ c.nsid ≠ full) := by
      simp only [Bool.or_eq_true, Bool.and_eq_true, decide_eq_true_eq]
    refine ⟨fun hd hc => refuses (by decide) (by simp [hexec, hd, hc]),
      fun hc => ⟨gives (by simp [hexec, hc]), State.identController_vendor ..⟩, fun hd =>
      ⟨fun hc hn => gives ?_, fun hc hn => refuses (by decide) ?_, fun hc => ?_, fun hc => ?_, fun hc => refuses (by decide) ?_⟩⟩
    · have h1 : cns ≠ 1 := by omega
      have hgood : ¬ (c.nsid = 0 ∨ (256 < c.nsid ∧ c.nsid ≠ full)) := by
        have hfull : full ≠ 0 := by decide
        omega
      rw [← hbad] at hgood
      rw [hexec, if_neg (by simp [hd]), if_neg h1, if_pos hc, if_neg hgood]
    · have h1 : cns ≠ 1 := by omega
      rw [hexec, if_neg (by simp [hd]), if_neg h1, if_pos hc, if_pos (hbad.2 hn)]
    · have h1 : cns ≠ 1 := by omega
      have h2 : ¬ (cns = 0 ∨ cns = 0x11) := by omega
      refine ⟨s.identList c.nsid, s.length_identList _, gives ?_, s.identList_begins c.nsid⟩
      rw [hexec, if_neg (by simp [hd]), if_neg h1, if_neg h2, if_pos hc]
    · refine ⟨freeBytes s.free 4096, length_freeBytes .., gives ?_⟩
      have hc' : [3, 5, 6, 7, 8, 0x12, 0x13, 0x1C].contains cns = true := List.contains_iff_mem.2 hc
      simp only [List.mem_cons, List.not_mem_nil, or_false] at hc
      rw [hexec, if_neg (by simp [hd]), if_neg (by omega), if_neg (by omega), if_neg (by omega), if_pos hc']
    · have hc' : ¬ [3, 5, 6, 7, 8, 0x12, 0x13, 0x1C].contains cns = true := fun hm => hc (by
        have hm := List.contains_iff_mem.1 hm
        simp only [List.mem_cons, List.not_mem_nil, or_false] at hm ⊢
        omega)
      simp only [List.mem_cons, List.not_mem_nil, or_false] at hc
      rw [hexec, if_neg (by simp [hd]), if_neg (by omega), if_neg (by omega), if_neg (by omega), if_neg hc']
  case logPage =>
    intro s tag c segs h ho n lid page
    refine ⟨fun hp => ⟨_, getLogPage_unknown segs h ho hp, h.1.errs (by decide)⟩, fun l hp => ⟨fun hl => ?_, fun hl => ?_⟩⟩
    · exact ⟨_, (getLogPage_known segs h ho hp).trans (congrArg _ (if_pos hl)), h.1.errs (by decide)⟩
    · exact ⟨_, h.1.sends segs _ 0, (getLogPage_known segs h ho hp).trans (congrArg _ (if_neg (Nat.not_lt.2 hl)))⟩
  case features =>
    intro s tag c segs h ho fid v sel gives known
    have posts {n : Nat} (he : exec (.getFeatures tag segs) s = .next (s.post c .success n 0 none)) : gives n :=
      ⟨_, he, h.1.posts n 0 (by decide)⟩
    have hexec := getFeatures_admin segs h ho
    have hknown := feature_known fid
    simp only [show c.f 10 7 0 = fid from rfl, show c.f 10 10 8 = sel from rfl] at hexec
    have hgo (hk : known) (hs : sel ≤ 3) : ¬ (!(stored fid || [2, 7, 0xD].contains fid) || decide (3 < sel)) = true := by
      rw [hknown.2 hk]
      simpa using hs
    refine ⟨fun hk => ⟨_, ?_, h.1.errs (by decide)⟩, fun hk hs => posts ?_, fun hk hs => posts ?_, fun hs hk hf => posts ?_,
      fun hs hf => posts ?_, fun hs hf => posts ?_, fun hs hf => ?_⟩
    · have hno : (!(stored fid || [2, 7, 0xD].contains fid) || decide (3 < sel)) = true := by
        rw [Bool.or_eq_true, decide_eq_true_eq, Bool.not_eq_true', ← Bool.not_eq_true, hknown]
        exact hk
      rw [hexec, if_pos hno]
    · rw [hexec, if_neg (hgo hk (by omega)), if_pos hs]
      by_cases hf : fid = 7 <;> simp [hf, b2n]
    · rw [hexec, if_neg (hgo hk (by omega)), if_neg (by omega), if_pos (by omega)]
    · simp only [List.mem_cons, List.not_mem_nil, or_false, not_or] at hf
      rw [hexec, if_neg (hgo hk (by omega)), if_neg (by omega), if_neg (by omega), if_neg hf.1, if_neg hf.2.1, if_neg hf.2.2]
    · have hk : known := by simp [known, hf]
      rw [hexec, if_neg (hgo hk (by omega)), if_neg (by omega), if_neg (by omega), if_pos hf]
      rfl
    · have hk : known := by simp [known, hf]
      rw [hexec, if_neg (hgo hk (by omega)), if_neg (by omega), if_neg (by omega), if_neg (by omega), if_pos hf]
      rfl
    · have hk : known := by simp [known, hf]
      refine ⟨s.hmbAttributes c.port, s.length_hmbAttributes _, _, ?_, h.1.sends segs _ _⟩
      rw [hexec, if_neg (hgo hk (by omega)), if_neg (by omega), if_neg (by omega), if_neg (by omega), if_neg (by omega), if_pos hf]

end Sys2Proof.Machine
end

section
/-!
PROOF. What a completion, an event and a report of a queue move, whether or not a link trains (R50, R55, R59, R79, R438).
-/

open Sys2Proof Sys2Proof.Machine

namespace Sys2Proof.Machine

/-! ### Rows and instances read back -/

theorem State.sqRow_setSq_other (s : State) {q k : Nat} (r : SqRow) (h : k ≠ q) : (s.setSq q r).sqRow k = s.sqRow k :=
  Sparse.get_set_other _ _ _ h

theorem State.cqRow_setCq_other (s : State) {q k : Nat} (r : CqRow) (h : k ≠ q) : (s.setCq q r).cqRow k = s.cqRow k :=
  Sparse.get_set_other _ _ _ h

theorem SqRow.ne_default {r : SqRow} (h : r.valid = true ∨ r.error = true ∨ r.deleting ≠ none) : r ≠ {} := by
  rintro rfl
  simp at h

theorem CqRow.ne_default {r : CqRow} (h : r.valid = true ∨ r.error = true) : r ≠ {} := by
  rintro rfl
  simp at h

theorem Inst.ne_default_of_err {v : Inst} {b : Nat} (h : bitOf v.err.toNat b = true) : v ≠ {} := by
  rintro rfl
  simp [bitOf] at h

/-- An OR with further bits keeps each bit of INST_ERR. -/
theorem bitOf_or_left {a : DWord} (c : DWord) {b : Nat} (h : bitOf a.toNat b = true) : bitOf (a ||| c).toNat b = true := by
  rw [bitOf, BitVec.toNat_or, Nat.testBit_or, Bool.or_eq_true]
  exact .inl h

/-! ### What goes out, and the dirty-page logs (R37, R79) -/

/-- What a message or a DMA write may leave, whether or not a link trains: something goes out or stalls, instances move, and bits of
INST_ERR only rise. -/
structure Sends (s t : State) : Prop where
  rest : ∃ o a b n, t = { s with out := o, portA := a, portB := b, insts := n }
  err : ∀ j b, bitOf (s.inst j).err.toNat b = true → bitOf (t.inst j).err.toNat b = true

namespace Sends

theorem refl (s : State) : Sends s s := ⟨⟨s.out, s.portA, s.portB, s.insts, rfl⟩, fun _ _ h => h⟩

theorem trans {s t u : State} (h : Sends s t) (k : Sends t u) : Sends s u := by
  refine ⟨?_, fun j b hb => k.err j b (h.err j b hb)⟩
  obtain ⟨o, a, b, n, rfl⟩ := h.rest
  obtain ⟨o', a', b', n', rfl⟩ := k.rest
  exact ⟨o', a', b', n', rfl⟩

theorem foldl {α : Type} {f : State → α → State} (hf : ∀ s a, Sends s (f s a)) : ∀ (l : List α) (s : State), Sends s (l.foldl f s)
  | [], s => refl s
  | a :: l, s => (hf s a).trans (foldl hf l _)

theorem ite {s t u : State} {p : Prop} [Decidable p] (ht : Sends s t) (hu : Sends s u) : Sends s (if p then t else u) := by
  split
  · exact ht
  · exact hu

theorem setPort (s : State) (p : Bool) (v : Port) : Sends s (s.setPort p v) := by
  cases p
  · exact ⟨⟨s.out, v, s.portB, s.insts, rfl⟩, fun _ _ h => h⟩
  · exact ⟨⟨s.out, s.portA, v, s.insts, rfl⟩, fun _ _ h => h⟩

theorem setCtrl (s : State) (p : Bool) (c : Ctrl) : Sends s (s.setCtrl p c) := setPort s p _

theorem send (s : State) (p : Bool) (o : Out) : Sends s (s.send p o) := by
  rw [State.send_eq]
  exact .ite (setPort s p _) ⟨⟨s.out ++ [o], s.portA, s.portB, s.insts, rfl⟩, fun _ _ h => h⟩

theorem setInst (s : State) (i : Nat) (v : Inst)
    (h : ∀ b, bitOf (s.inst i).err.toNat b = true → bitOf v.err.toNat b = true := by exact fun _ hb => hb) : Sends s (s.setInst i v) := by
  refine ⟨⟨s.out, s.portA, s.portB, _, rfl⟩, fun j b hb => ?_⟩
  by_cases hj : j = i
  · subst hj
    have hv := h b hb
    rw [State.inst_setInst_put s j (Inst.ne_default_of_err hv)]
    exact hv
  · rw [State.inst_setInst_other s v hj]
    exact hb

theorem instErr (s : State) (i b : Nat) : Sends s (s.instErr i b) := setInst s i _ fun _ hb => bitOf_or_left _ hb

theorem flushDirty (s : State) (i : Nat) : Sends s (s.flushDirty i) :=
  .ite ((setInst s i _).trans (.foldl (fun u _ => send u _ _) _ _)) (setInst s i _)

theorem flushLogs (s : State) : Sends s s.flushLogs :=
  .foldl (fun t (e : Nat × Inst) => .ite (refl t) (flushDirty t e.1)) s.insts s

theorem dirtyPage (s : State) (i p : Nat) : Sends s (s.dirtyPage i p) :=
  .ite (refl s) ((Sends.ite (flushLogs s) (refl s)).trans (setInst _ i _))

theorem dirty (s : State) (i a n : Nat) : Sends s (s.dirty i a n) := by
  have hpages := foldl (fun u p => dirtyPage u i p)
    ((pagesOf a n).filter (fun p => decide ((s.inst i).dlog.first ≤ p) && decide (p ≤ (s.inst i).dlog.first + (s.inst i).dlog.npages))) s
  exact .ite (.ite hpages (hpages.trans (instErr _ i 12))) (refl s)

theorem fenced (s : State) (i : Nat) : Sends s (s.fenced i) := .ite (refl s) ((setInst s i _).trans (instErr _ i 11))

end Sends

/-! ### Completions (R55) -/

/-- A completion beyond its entry: the command leaves flight, and its instance counts it. -/
def State.counted (s : State) (c : Cmd) : State :=
  let u := s.dropCmd c.tag
  u.setInst c.inst { u.inst c.inst with
    completed := (u.inst c.inst).completed + b2n !c.admin
    carryCnt := (u.inst c.inst).carryCnt - b2n (!c.admin && decide (c.tag < (u.inst c.inst).carryTag)) }

/-- The completion entry of a command goes out, and where it has an Error Information entry that is kept. -/
def State.entryOut (s : State) (c : Cmd) (st : Status) (dw0 dw1 : Nat) (log : Option (Nat × Nat)) : State :=
  let q := s.cqRow c.cq
  let addr := q.base.toNat + 16 * q.tail
  let logged := match log with
    | none => s
    | some (lba, spec) => s.setCtrl c.port { s.ctrl c.port with errLog := (st.code, c.sq, lba, spec) :: (s.ctrl c.port).errLog }
  (logged.dirty c.inst addr 16).send c.port (.cqe c.port c.cq addr
    (cqeDwords dw0 dw1 (s.sqRow c.sq).head (if s.isManager c.inst then c.sq else (s.sqRow c.sq).loc) c.cid q.phase log.isSome st))

/-- A CQ row with one entry more. -/
def CqRow.pushed (q : CqRow) : CqRow :=
  let last := decide (q.tail = q.qsize)
  { q with tail := if last then 0 else q.tail + 1, phase := if last then !q.phase else q.phase, unsig := q.unsig + 1 }

theorem State.complete_eq (s : State) (c : Cmd) (st : Status) (dw0 dw1 : Nat) (log : Option (Nat × Nat)) :
    s.complete c st dw0 dw1 log =
      if c.dead then (if c.owed then (s.dropCmd c.tag).fenced c.inst else s.dropCmd c.tag)
      else if !s.alive c.inst c.gen then (s.dropCmd c.tag).fenced c.inst
      else if !(s.cqRow c.cq).valid || (s.cqRow c.cq).error then s.counted c
      else ((s.counted c).entryOut c st dw0 dw1 log).setCq c.cq (s.cqRow c.cq).pushed := rfl

theorem Sends.entryOut (s : State) (c : Cmd) (st : Status) (dw0 dw1 : Nat) (log : Option (Nat × Nat)) :
    Sends s (s.entryOut c st dw0 dw1 log) := by
  have hlog : ∀ l, Sends s (match l with
      | none => s
      | some (lba, spec) => s.setCtrl c.port { s.ctrl c.port with errLog := (st.code, c.sq, lba, spec) :: (s.ctrl c.port).errLog })
    | none => refl s
    | some _ => setCtrl s _ _
  exact ((hlog log).trans (dirty _ _ _ _)).trans (send _ _ _)

/-- What a completion leaves: the command out of flight, and an entry more in its CQ, unless that is in ERROR. -/
def Completes (s : State) (c : Cmd) (t : State) : Prop :=
  ∃ u, Sends (s.dropCmd c.tag) u ∧ (t = u ∨ ((s.cqRow c.cq).error = false ∧ t = u.setCq c.cq (s.cqRow c.cq).pushed))

theorem State.complete_completes (s : State) (c : Cmd) (st : Status) (dw0 dw1 : Nat) (log : Option (Nat × Nat)) :
    Completes s c (s.complete c st dw0 dw1 log) := by
  have hcounted : Sends (s.dropCmd c.tag) (s.counted c) := Sends.setInst _ c.inst _
  rw [State.complete_eq]
  split
  · exact ⟨_, .ite (Sends.fenced _ _) (Sends.refl _), .inl rfl⟩
  · split
    · exact ⟨_, Sends.fenced _ _, .inl rfl⟩
    · split
      · exact ⟨_, hcounted, .inl rfl⟩
      · next hgo =>
        rw [Bool.or_eq_true, not_or, Bool.not_eq_true (s.cqRow c.cq).error] at hgo
        exact ⟨_, hcounted.trans (Sends.entryOut _ c st dw0 dw1 log), .inr ⟨hgo.2, rfl⟩⟩

theorem State.post_completes (s : State) (c : Cmd) {st : Status} (dw0 dw1 : Nat) (log : Option (Nat × Nat)) (hst : st ≠ .unrecoveredRead) :
    Completes s c (s.post c st dw0 dw1 log) := by
  unfold State.post
  rw [if_neg (fun hd => hst hd.1 : ¬ (st = .unrecoveredRead ∧ (!c.dead) = true))]
  split
  · exact s.complete_completes c _ _ _ _
  · exact s.complete_completes c _ _ _ _

namespace Completes

variable {s t : State} {c : Cmd} (h : Completes s c t)
include h

theorem rest : ∃ o a b n q, t = { s.dropCmd c.tag with out := o, portA := a, portB := b, insts := n, cq := q } := by
  obtain ⟨u, hu, ht⟩ := h
  obtain ⟨o, a, b, n, rfl⟩ := hu.rest
  rcases ht with rfl | ⟨-, rfl⟩
  · exact ⟨o, a, b, n, s.cq, rfl⟩
  · exact ⟨o, a, b, n, _, rfl⟩

theorem cmds : t.cmds = s.cmds.filter (fun x => decide (x.tag ≠ c.tag)) := by
  obtain ⟨_, _, _, _, _, rfl⟩ := h.rest
  rfl

theorem sq : t.sq = s.sq := by
  obtain ⟨_, _, _, _, _, rfl⟩ := h.rest
  rfl

theorem err (j b : Nat) (hb : bitOf (s.inst j).err.toNat b = true) : bitOf (t.inst j).err.toNat b = true := by
  obtain ⟨u, hu, rfl | ⟨-, rfl⟩⟩ := h
  · exact hu.err j b hb
  · exact hu.err j b hb

/-- Only the row of its CQ moves, and not in ERROR. -/
theorem cqRow {q : Nat} (hq : q ≠ c.cq ∨ (s.cqRow q).error = true) : t.cqRow q = s.cqRow q := by
  obtain ⟨u, hu, ht⟩ := h
  have hcq : u.cqRow q = s.cqRow q := by
    obtain ⟨_, _, _, _, rfl⟩ := hu.rest
    rfl
  rcases ht with rfl | ⟨he, rfl⟩
  · exact hcq
  · have hne : q ≠ c.cq := by
      rcases hq with hq | hq
      · exact hq
      · rintro rfl
        rw [he] at hq
        cases hq
    rw [State.cqRow_setCq_other u _ hne, hcq]

end Completes

/-! ### Events (R438) -/

/-- What an event of a port may leave: `Sends`, and a command completed; a CQ in ERROR keeps its row. -/
structure Reports (s t : State) : Prop where
  rest : ∃ o a b c n q, t = { s with out := o, portA := a, portB := b, cmds := c, insts := n, cq := q }
  err : ∀ j b, bitOf (s.inst j).err.toNat b = true → bitOf (t.inst j).err.toNat b = true
  cq : ∀ q, (s.cqRow q).error = true → t.cqRow q = s.cqRow q

theorem Sends.reports {s t : State} (h : Sends s t) : Reports s t := by
  refine ⟨?_, h.err, fun q _ => ?_⟩
  · obtain ⟨o, a, b, n, rfl⟩ := h.rest
    exact ⟨o, a, b, s.cmds, n, s.cq, rfl⟩
  · obtain ⟨o, a, b, n, rfl⟩ := h.rest
    rfl

theorem Completes.reports {s t : State} {c : Cmd} (h : Completes s c t) : Reports s t := by
  refine ⟨?_, h.err, fun q hq => h.cqRow (.inr hq)⟩
  obtain ⟨o, a, b, n, q, rfl⟩ := h.rest
  exact ⟨o, a, b, _, n, q, rfl⟩

namespace Reports

theorem refl (s : State) : Reports s s := (Sends.refl s).reports

theorem trans {s t u : State} (h : Reports s t) (k : Reports t u) : Reports s u := by
  refine ⟨?_, fun j b hb => k.err j b (h.err j b hb), fun q hq => ?_⟩
  · obtain ⟨o, a, b, c, n, q, rfl⟩ := h.rest
    obtain ⟨o', a', b', c', n', q', rfl⟩ := k.rest
    exact ⟨o', a', b', c', n', q', rfl⟩
  · have ht := h.cq q hq
    exact (k.cq q (by rw [ht]; exact hq)).trans ht

theorem ite {s t u : State} {p : Prop} [Decidable p] (ht : Reports s t) (hu : Reports s u) : Reports s (if p then t else u) := by
  split
  · exact ht
  · exact hu

theorem sq {s t : State} (h : Reports s t) : t.sq = s.sq := by
  obtain ⟨_, _, _, _, _, _, rfl⟩ := h.rest
  rfl

theorem reg {s t : State} (h : Reports s t) (o : Nat) : t.reg o = s.reg o := by
  obtain ⟨_, _, _, _, _, _, rfl⟩ := h.rest
  rfl

theorem setCtrl (s : State) (p : Bool) (c : Ctrl) : Reports s (s.setCtrl p c) := (Sends.setCtrl s p c).reports

theorem aenHold (s : State) (p : Bool) (e : Aen) : Reports s (s.aenHold p e) := .ite (refl s) (setCtrl s _ _)

theorem aenComplete (s : State) (p : Bool) (e : Aen) (tag : Nat) (rest : List Nat) : Reports s (s.aenComplete p e tag rest) := by
  have h1 : Reports s (s.setCtrl p { s.ctrl p with aerWaiting := rest, aerMasked := e.kind :: (s.ctrl p).aerMasked }) := setCtrl s _ _
  unfold State.aenComplete
  simp only []
  split
  · exact h1.trans (State.post_completes _ _ _ _ _ (by decide)).reports
  · exact h1

theorem aen (s : State) (p : Bool) (kind : AenType) (info page : Nat) : Reports s (s.aen p kind info page) := by
  unfold State.aen
  simp only []
  refine .ite (aenHold s _ _) ?_
  split
  · exact aenHold s _ _
  · exact aenComplete s _ _ _ _

theorem doorbellAen (s : State) (i info q : Nat) : Reports s (s.doorbellAen i info q) :=
  .ite ((setCtrl s (s.portOf i) { s.ctrl (s.portOf i) with errLog := (0, q, 0, 0) :: (s.ctrl (s.portOf i)).errLog }).trans
    (aen _ _ _ _ _)) (refl s)

end Reports

/-! ### Doorbells (R50) -/

@[simp] theorem regReset_QMG_ERR : regReset Reg.QMG_ERR = 0 := by decide +kernel

/-- QMG_ERR reads a raised bit. -/
theorem State.qmgErr_bit (s : State) {b : Nat} (hb : b < 32) (cq : Bool) (q : Nat) :
    bitOf ((s.qmgErr b cq q).reg Reg.QMG_ERR).toNat b = true :=
  s.reg_raiseAt_bit _ b _ _ hb regReset_QMG_ERR (by decide)

theorem OnlyRegs.qmgErr (s : State) (b : Nat) (cq : Bool) (q : Nat) : OnlyRegs s (s.qmgErr b cq q) := OnlyRegs.raiseAt s _ b _ _

/-- A doorbell that is ignored with a report: bit `b` of its instance's INST_ERR and bit `k` of QMG_ERR are set, the SQ rows stay,
and of an instance that is no manager the CQ rows too. -/
theorem State.doorbellReport (s : State) (i b k info : Nat) (cq : Bool) (q x : Nat) (hb : b < 32) (hk : k < 32) :
    let t := ((s.instErr i b).qmgErr k cq q).doorbellAen i info x
    t.sq = s.sq ∧ (s.isManager i = false → t.cq = s.cq) ∧ bitOf (t.inst i).err.toNat b = true ∧
      bitOf (t.reg Reg.QMG_ERR).toNat k = true := by
  intro t
  let u := (s.instErr i b).qmgErr k cq q
  obtain ⟨r, hu⟩ : OnlyRegs (s.instErr i b) u := OnlyRegs.qmgErr _ _ _ _
  have hreg : bitOf (u.reg Reg.QMG_ERR).toNat k = true := State.qmgErr_bit _ hk _ _
  have herr : bitOf (u.inst i).err.toNat b = true := by
    rw [hu]
    exact s.instErr_bit i hb
  have ht : Reports u t := Reports.doorbellAen u i info x
  refine ⟨?_, fun hm => ?_, ht.err i b herr, ?_⟩
  · rw [ht.sq, hu]
    rfl
  · have hstay : t = u := if_neg (by
      show ¬ u.isManager i = true
      rw [hu]
      show ¬ s.isManager i = true
      rw [hm]
      decide)
    rw [hstay, hu]
    rfl
  · rw [ht.reg]
    exact hreg

end Sys2Proof.Machine
end

section
/-!
PROOF. Doorbells, interrupt messages and unmasking (R37, R50, R56, R57).
-/

open Sys2Proof Sys2Proof.Machine

namespace Sys2Proof.Machine

/-! ### Doorbells on a row (R50) -/

theorem State.sqTail_taken {s : State} {q v : Nat} (i : Nat) (h : v ≤ (s.sqRow q).qsize ∨ (s.sqRow q).error = true) :
    s.sqTail i q v = if (s.sqRow q).error then s else s.setSq q { s.sqRow q with tail := v } := by
  unfold State.sqTail
  by_cases he : (s.sqRow q).error = true
  · simp only [he, if_true]
  · have hv : ¬ (s.sqRow q).qsize < v := Nat.not_lt.2 (h.resolve_right he)
    rw [if_neg he, if_neg hv, if_neg he]

theorem State.sqTail_refused {s : State} {q v : Nat} (i : Nat) (hv : (s.sqRow q).qsize < v) (he : (s.sqRow q).error = false) :
    s.sqTail i q v = s.dbValue i false q := by
  simp only [State.sqTail, he, hv, Bool.false_eq_true, if_false, if_true]

/-- Entries that a head at `v` would take from a CQ. -/
def CqRow.taken (r : CqRow) (v : Nat) : Nat := (v + (r.qsize + 1) - r.head) % (r.qsize + 1)

/-- The row with its head moved: entries signalled and left there are due again (R56). -/
def CqRow.headTo (r : CqRow) (v : Nat) : CqRow :=
  { { r with head := v } with left := r.left || decide (r.unsig < ({ r with head := v } : CqRow).posted) }

theorem State.cqHead_taken {s : State} {q v : Nat} (i : Nat)
    (h : v ≤ (s.cqRow q).qsize ∧ (s.cqRow q).taken v ≤ (s.cqRow q).posted ∨ (s.cqRow q).error = true) :
    s.cqHead i q v = if (s.cqRow q).error then s else s.setCq q ((s.cqRow q).headTo v) := by
  unfold State.cqHead
  by_cases he : (s.cqRow q).error = true
  · simp only [he, if_true]
  · obtain ⟨hv, hu⟩ := h.resolve_right he
    have hv : ¬ (s.cqRow q).qsize < v := Nat.not_lt.2 hv
    have hu : ¬ (s.cqRow q).posted < (v + ((s.cqRow q).qsize + 1) - (s.cqRow q).head) % ((s.cqRow q).qsize + 1) := Nat.not_lt.2 hu
    rw [if_neg he, if_neg hv, if_neg hu, if_neg he]
    rfl

theorem State.cqHead_refused {s : State} {q v : Nat} (i : Nat)
    (h : (s.cqRow q).qsize < v ∨ (s.cqRow q).posted < (s.cqRow q).taken v) (he : (s.cqRow q).error = false) :
    s.cqHead i q v = s.dbValue i true q := by
  unfold State.cqHead
  simp only [he, Bool.false_eq_true, if_false]
  by_cases hv : (s.cqRow q).qsize < v
  · rw [if_pos hv]
  · rw [if_neg hv]
    exact if_pos (h.resolve_left hv)

section
variable {s : State} {p : Bool} {i l : Nat} (v : DWord)

theorem doorbell_foreign (h : s.inPort p i = false) :
    exec (.sqTailDoorbell (.page p i l) v) s = .next s ∧ exec (.cqHeadDoorbell (.page p i l) v) s = .next s := by
  constructor
  · show Host.Outcome.next (if (!s.inPort p i) = true then _ else _) = _
    rw [h]
    rfl
  · show Host.Outcome.next (if (!s.inPort p i) = true then _ else _) = _
    rw [h]
    rfl

theorem sqTailDoorbell_page (h : s.inPort p i = true) : exec (.sqTailDoorbell (.page p i l) v) s = .next (match s.sqOf i l with
    | some q => (s.wakeBy 1).sqTail i q (bits v.toNat 15 0)
    | none => (s.wakeBy 1).dbNoQueue i) := by
  obtain ⟨w, hw⟩ := s.wakeBy_eq 1
  show Host.Outcome.next (if (!s.inPort p i) = true then _ else _) = _
  rw [h, hw]
  rfl

theorem cqHeadDoorbell_page (h : s.inPort p i = true) : exec (.cqHeadDoorbell (.page p i l) v) s = .next (match s.cqOf i l with
    | some q => (s.wakeBy 1).cqHead i q (bits v.toNat 15 0)
    | none => (s.wakeBy 1).dbNoQueue i) := by
  obtain ⟨w, hw⟩ := s.wakeBy_eq 1
  show Host.Outcome.next (if (!s.inPort p i) = true then _ else _) = _
  rw [h, hw]
  rfl

theorem sqTailDoorbell_admin (s : State) (p : Bool) : exec (.sqTailDoorbell (.admin p) v) s = .next (if (s.sqRow (adminRow p)).valid
    then (s.wakeBy 1).sqTail (s.manager p) (adminRow p) (bits v.toNat 15 0) else s.wakeBy 1) := by
  obtain ⟨w, hw⟩ := s.wakeBy_eq 1
  show Host.Outcome.next (if ((s.wakeBy 1).sqRow (adminRow p)).valid = true then _ else _) = _
  rw [hw]
  rfl

theorem cqHeadDoorbell_admin (s : State) (p : Bool) : exec (.cqHeadDoorbell (.admin p) v) s = .next (if (s.cqRow (adminRow p)).valid
    then (s.wakeBy 1).cqHead (s.manager p) (adminRow p) (bits v.toNat 15 0) else s.wakeBy 1) := by
  obtain ⟨w, hw⟩ := s.wakeBy_eq 1
  show Host.Outcome.next (if ((s.wakeBy 1).cqRow (adminRow p)).valid = true then _ else _) = _
  rw [hw]
  rfl

end

/-! ### Messages (R37, R56, R57) -/

/-- The message of a queue's row goes out, stalls, pends or is dropped, from `u`, a state with the ports and the table of `s`. -/
def State.signal (s : State) (r : CqRow) (u : State) : State :=
  let p := s.portOf r.inst
  let e : MsixEntry := Sparse.get (fun _ => {}) (s.port p).msix r.vector
  let m : ImtEntry := Sparse.get (fun _ => {}) s.imt r.vector
  if r.imt then (if m.mask then { u with imt := Sparse.set (fun _ => {}) s.imt r.vector { m with pend := true } }
    else u.send p (.message p m.addr m.data))
  else if (s.port p).msixEn = false then u
  else if e.mask || (s.port p).msixMask then
    u.setPort p { s.port p with msix := Sparse.set (fun _ => {}) (s.port p).msix r.vector { e with pend := true } }
  else u.send p (.message p e.addr e.data)

theorem State.port_setCq (s : State) (q : Nat) (r : CqRow) (p : Bool) : (s.setCq q r).port p = s.port p := by cases p <;> rfl

/-- A queue signals through its message table entry, where that is of its instance, or its MSI-X vector. -/
theorem State.cqMessage_signal {s : State} {row : Nat} {r : CqRow} (k : CqRow)
    (h : r.imt = true → (Sparse.get (fun _ => {}) s.imt r.vector : ImtEntry).owner = r.inst) :
    (s.setCq row k).cqMessage row r = s.signal r (s.setCq row k) := by
  unfold State.cqMessage State.signal
  by_cases hi : r.imt = true
  · have ho : ¬ (Sparse.get (fun _ => {}) (s.setCq row k).imt r.vector : ImtEntry).owner ≠ r.inst := not_not.2 (h hi)
    rw [if_pos hi, if_neg ho, State.imtMessage]
    simp only []
    rw [if_neg ho, if_pos hi]
    rfl
  · rw [if_neg hi, State.msix]
    simp only []
    rw [if_neg hi, show (s.setCq row k).portOf r.inst = s.portOf r.inst from rfl, State.port_setCq]
    cases (s.port (s.portOf r.inst)).msixEn <;> rfl

/-- An entry of another owner sends nothing, and QMG_ERR says so. -/
theorem State.cqMessage_withheld {s : State} {row : Nat} {r : CqRow} (k : CqRow) (hi : r.imt = true)
    (h : (Sparse.get (fun _ => {}) s.imt r.vector : ImtEntry).owner ≠ r.inst) :
    (s.setCq row k).cqMessage row r = (s.setCq row k).qmgErr 4 true row := by
  unfold State.cqMessage
  rw [if_pos hi, if_pos (show (Sparse.get (fun _ => {}) (s.setCq row k).imt r.vector : ImtEntry).owner ≠ r.inst from h)]

/-- Every entry of the row's queue has a message of its own: an admin queue, or one without coalescing (R56). -/
def State.signalsEach (s : State) (row : Nat) : Bool := s.isAdminRow row || s.coalOff (s.cqRow row)

theorem interruptMessage_off {s : State} {row : Nat} (h : (s.cqRow row).valid = false ∨ (s.cqRow row).ien = false) :
    exec (.interruptMessage row) s = .next s := by
  show Host.Outcome.next (if (!(s.cqRow row).valid || !(s.cqRow row).ien) = true then _ else _) = _
  rw [if_pos (by rcases h with h | h <;> simp [h])]

section
variable {s : State} {row : Nat} (hv : (s.cqRow row).valid = true) (hi : (s.cqRow row).ien = true)
include hv hi

theorem interruptMessage_on : exec (.interruptMessage row) s = .next (
    let r := s.cqRow row
    if s.signalsEach row && decide (r.unsig ≠ 0) then (s.setCq row { r with unsig := r.unsig - 1 }).cqMessage row r
    else if s.signalsEach row && !r.resignal then s
    else if r.resignal || decide (s.coalThr r + 1 ≤ r.unsig) then (s.setCq row { r with unsig := 0, resignal := false }).cqMessage row r
    else s) := by
  show Host.Outcome.next (if (!(s.cqRow row).valid || !(s.cqRow row).ien) = true then _ else _) = _
  rw [if_neg (by simp [hv, hi])]
  rfl

/-- One entry is signalled alone. -/
theorem interruptMessage_single (h : s.signalsEach row = true ∧ (s.cqRow row).unsig ≠ 0) : exec (.interruptMessage row) s =
    .next ((s.setCq row { s.cqRow row with unsig := (s.cqRow row).unsig - 1 }).cqMessage row (s.cqRow row)) := by
  rw [interruptMessage_on hv hi]
  exact congrArg _ (if_pos (by simp [h.1, h.2]))

/-- All entries are signalled at once. -/
theorem interruptMessage_all (h : (s.signalsEach row = true ∧ (s.cqRow row).unsig = 0 ∧ (s.cqRow row).resignal = true) ∨
      (s.signalsEach row = false ∧ ((s.cqRow row).resignal = true ∨ s.coalThr (s.cqRow row) < (s.cqRow row).unsig))) :
    exec (.interruptMessage row) s =
      .next ((s.setCq row { s.cqRow row with unsig := 0, resignal := false }).cqMessage row (s.cqRow row)) := by
  rw [interruptMessage_on hv hi]
  rcases h with ⟨he, hu, hr⟩ | ⟨he, h⟩
  · simp only [he, hu, hr, ne_eq, not_true, decide_false, Bool.and_false, Bool.not_true, Bool.true_or, Bool.false_eq_true, if_false, if_true]
  · have hdue : ((s.cqRow row).resignal || decide (s.coalThr (s.cqRow row) + 1 ≤ (s.cqRow row).unsig)) = true := by
      rcases h with h | h
      · simp [h]
      · simp [Nat.succ_le_of_lt h]
    simp only [he, hdue, Bool.false_and, Bool.false_eq_true, if_false, if_true]

/-- A queue that is not due sends nothing. -/
theorem interruptMessage_notDue (hr : (s.cqRow row).resignal = false)
    (h : (s.cqRow row).unsig = 0 ∨ s.signalsEach row = false ∧ (s.cqRow row).unsig ≤ s.coalThr (s.cqRow row)) :
    exec (.interruptMessage row) s = .next s := by
  have hno : ¬ (s.signalsEach row && decide ((s.cqRow row).unsig ≠ 0)) = true := by
    rcases h with h | h <;> simp [h]
  have hthr : ¬ ((s.cqRow row).resignal || decide (s.coalThr (s.cqRow row) + 1 ≤ (s.cqRow row).unsig)) = true := by
    have : ¬ s.coalThr (s.cqRow row) + 1 ≤ (s.cqRow row).unsig := by omega
    simp [hr, this]
  rw [interruptMessage_on hv hi]
  simp only []
  rw [if_neg hno, if_neg hthr, ite_self]

end

/-- Unmasking a pending entry sends its message once. -/
theorem msixUnmask_eq (s : State) (p : Bool) (v : Nat) :
    let e : MsixEntry := Sparse.get (fun _ => {}) (s.port p).msix v
    let put (x : MsixEntry) := s.setPort p { s.port p with msix := Sparse.set (fun _ => {}) (s.port p).msix v x }
    exec (.msixUnmask p v) s = .next (if e.pend = true ∧ (s.port p).msixEn = true ∧ (s.port p).msixMask = false
      then (put { e with mask := false, pend := false }).send p (.message p e.addr e.data) else put { e with mask := false }) := by
  intro e put
  show Host.Outcome.next (if (e.pend && (s.port p).msixEn && !(s.port p).msixMask) = true then _ else _) = _
  simp only [Bool.and_eq_true, Bool.not_eq_true', and_assoc]
  rfl

/-! ### The obligation -/

/-- Settles O25: a doorbell by where its page and its row stand, a report of one through `State.doorbellReport`, a message
through `State.cqMessage_signal`. -/
theorem queDoorbells : Obligations.QueDoorbells := by
  unfold Obligations.QueDoorbells
  intro goes
  have hgoes : ∀ (p : Bool) (a : BitVec 64) (d : DWord) (u : State), goes p a d u = u.send p (.message p a d) := fun p a d u =>
    (State.send_eq u p _).symm
  refine ⟨?page, fun s p i l v h => doorbell_foreign v h, ?admin, ?message, fun s row => interruptMessage_off, ?unmask⟩
  case page =>
    intro s p i l v hp u n
    obtain ⟨w, hw⟩ : ∃ w, u = { s with pwr := w } := s.wakeBy_eq 1
    refine ⟨fun q hq => ?_, fun q hq => ?_, fun d hd => ?_⟩
    · intro r moved
      have hexec : exec (.sqTailDoorbell (.page p i l) v) s = .next (u.sqTail i q n) := by rw [sqTailDoorbell_page v hp, hq]
      have hr : u.sqRow q = r := by rw [hw]; rfl
      refine ⟨fun h => ?_, fun h1 h2 => ?_⟩
      · rw [hexec, State.sqTail_taken i (by rw [hr]; exact h), hr]
        simp only [moved, hw]
        rfl
      · rw [hexec, State.sqTail_refused i (by rw [hr]; exact h1) (by rw [hr]; exact h2), hw]
        exact ⟨_, rfl, State.doorbellReport _ i 2 2 1 false q q (by decide) (by decide)⟩
    · intro r used k moved
      have hexec : exec (.cqHeadDoorbell (.page p i l) v) s = .next (u.cqHead i q n) := by rw [cqHeadDoorbell_page v hp, hq]
      have hr : u.cqRow q = r := by rw [hw]; rfl
      refine ⟨fun h => ?_, fun h1 h2 => ?_⟩
      · rw [hexec, State.cqHead_taken i (by rw [hr]; exact h), hr]
        simp only [moved, hw]
        rfl
      · rw [hexec, State.cqHead_refused i (by rw [hr]; exact h1) (by rw [hr]; exact h2), hw]
        exact ⟨_, rfl, State.doorbellReport _ i 2 2 1 true q q (by decide) (by decide)⟩
    · have hexec : exec d s = .next (u.dbNoQueue i) := by
        rcases hd with ⟨rfl, hq⟩ | ⟨rfl, hq⟩
        · rw [sqTailDoorbell_page v hp, hq]
        · rw [cqHeadDoorbell_page v hp, hq]
      rw [hexec, hw]
      exact ⟨_, rfl, State.doorbellReport _ i 1 3 0 false i 0 (by decide) (by decide)⟩
  case admin =>
    intro s p v u n q r k used h reported
    obtain ⟨w, hw⟩ : ∃ w, u = { s with pwr := w } := s.wakeBy_eq 1
    have hsq : exec (.sqTailDoorbell (.admin p) v) s = .next (if r.valid then u.sqTail (s.manager p) q n else u) := sqTailDoorbell_admin v s p
    have hcq : exec (.cqHeadDoorbell (.admin p) v) s = .next (if k.valid then u.cqHead (s.manager p) q n else u) := cqHeadDoorbell_admin v s p
    have hr : u.sqRow q = r := by rw [hw]; rfl
    have hk : u.cqRow q = k := by rw [hw]; rfl
    refine ⟨fun h => ?_, fun h1 h2 h3 => ?_, fun h1 h2 h3 => ?_, fun h => ?_, fun h1 h2 h3 h4 => ?_, fun h1 h2 h3 => ?_⟩
    · rw [hsq]
      rcases h with h | h
      · rw [h]
        rfl
      · rw [State.sqTail_taken _ (by rw [hr]; exact .inr h), hr, if_pos h, ite_self]
    · rw [hsq, if_pos h1, State.sqTail_taken _ (by rw [hr]; exact .inl h3), hr, if_neg (by rw [h2]; decide), hw]
      rfl
    · show ∃ t, _
      rw [hsq, if_pos h1, State.sqTail_refused _ (by rw [hr]; exact h3) (by rw [hr]; exact h2), hw]
      obtain ⟨g1, -, g2, g3⟩ := State.doorbellReport { s with pwr := w } (s.manager p) 2 2 1 false q q (by decide) (by decide)
      exact ⟨_, rfl, g1, g2, g3⟩
    · rw [hcq]
      rcases h with h | h
      · rw [h]
        rfl
      · rw [State.cqHead_taken _ (by rw [hk]; exact .inr h), hk, if_pos h, ite_self]
    · rw [hcq, if_pos h1, State.cqHead_taken _ (by rw [hk]; exact .inl ⟨h3, h4⟩), hk, if_neg (by rw [h2]; decide), hw]
      rfl
    · show ∃ t, _
      rw [hcq, if_pos h1, State.cqHead_refused _ (by rw [hk]; exact h3) (by rw [hk]; exact h2), hw]
      obtain ⟨g1, -, g2, g3⟩ := State.doorbellReport { s with pwr := w } (s.manager p) 2 2 1 true q q (by decide) (by decide)
      exact ⟨_, rfl, g1, g2, g3⟩
  case message =>
    intro s row hv hi r p e m fires each single all sends
    have hfires : ∀ u, fires u = s.signal r u := fun u => by simp only [fires, hgoes]; rfl
    refine ⟨fun ho => ⟨fun h => ?_, fun h => ?_⟩, fun himt ho h => ?_, interruptMessage_notDue hv hi⟩
    · show exec _ s = _
      rw [interruptMessage_single hv hi h, State.cqMessage_signal _ ho, hfires]
      rfl
    · show exec _ s = _
      rw [interruptMessage_all hv hi h, State.cqMessage_signal _ ho, hfires]
      rfl
    · obtain ⟨k, hk⟩ : ∃ k, exec (.interruptMessage row) s = .next ((s.setCq row k).cqMessage row r) := by
        rcases h with h | h
        · exact ⟨_, interruptMessage_single hv hi h⟩
        · exact ⟨_, interruptMessage_all hv hi h⟩
      obtain ⟨g, hg⟩ := OnlyRegs.qmgErr (s.setCq row k) 4 true row
      rw [hk, State.cqMessage_withheld k himt ho]
      exact ⟨_, rfl, by rw [hg]; rfl, State.qmgErr_bit _ (by decide) _ _⟩
  case unmask =>
    intro s p v e put
    rw [hgoes]
    exact msixUnmask_eq s p v

end Sys2Proof.Machine
end

section
/-!
PROOF. Queue creation and deletion, and Asynchronous Event Requests (R48, R49, R55, R66, R438).
-/

open Sys2Proof Sys2Proof.Machine

namespace Sys2Proof.Machine

/-! ### Completions from a state that has gone on -/

/-- The command can still be answered where its flight, its generation, its CQ and the links are as they were. -/
theorem Answerable.moved {s t : State} {tag : Nat} {c : Cmd} (h : Answerable s tag c) (hc : t.cmds = s.cmds)
    (hg : (t.inst c.inst).gen = (s.inst c.inst).gen) (hq : t.cqRow c.cq = s.cqRow c.cq) (hl : Linked t) : Answerable t tag c := by
  obtain ⟨h1, h2, h3, h4, h5, h6, -⟩ := h
  refine ⟨?_, h2, h3, ?_, ?_, ?_, hl⟩
  · rw [State.cmd?, hc]
    exact h1
  · rw [State.alive, hg]
    exact h4
  · rw [hq]
    exact h5
  · rw [hq]
    exact h6

/-- A command that ends in a state with the same flight and the same rows ends from the state before too. -/
theorem Ended.moved {s s' t : State} {c : Cmd} {st : Status} {dw0 dw1 : Nat} {w : List Out} (h : Ended s' c st dw0 dw1 w t)
    (ho : told s'.out = told s.out) (hc : s'.cmds = s.cmds) (hq : s'.cqRow c.cq = s.cqRow c.cq) (hr : s'.sqRow c.sq = s.sqRow c.sq)
    (hp : s'.pins = s.pins) : Ended s c st dw0 dw1 w t := by
  have he : c.entry s' st dw0 dw1 false = c.entry s st dw0 dw1 false := by
    have hm : s'.isManager c.inst = s.isManager c.inst := by simp only [State.isManager, hp]
    simp only [Cmd.entry, hq, hr, hm]
  obtain ⟨h1, h2⟩ := h
  exact ⟨by rw [h1, ho, he], by rw [h2, hc]⟩

/-- An admin row of a port that exists is an admin row. -/
theorem State.isAdminRow_adminRow {s : State} {p : Bool} (h : s.hasPort p = true) : s.isAdminRow (adminRow p) = true := by
  cases p
  · rfl
  · have hd : s.pins.dual = true := h
    simp [State.isAdminRow, adminRow, hd]

theorem AdminCmd.ne_cq {s : State} {tag : Nat} {c : Cmd} (h : AdminCmd s tag c) {q : Nat} (hq : s.isAdminRow q = false) : q ≠ c.cq := by
  obtain ⟨-, -, hp, -, hcq, -⟩ := h
  rintro rfl
  rw [hcq, State.isAdminRow_adminRow hp] at hq
  cases hq

theorem AdminCmd.ne_sq {s : State} {tag : Nat} {c : Cmd} (h : AdminCmd s tag c) {q : Nat} (hq : s.isAdminRow q = false) : q ≠ c.sq := by
  obtain ⟨-, -, hp, hsq, -, -⟩ := h
  rintro rfl
  rw [hsq, State.isAdminRow_adminRow hp] at hq
  cases hq

/-! ### Creation (R48, R66) -/

/-- The checks of a creation: what Table 2-10's orders 1 to 4 ask, one behind another. -/
theorem State.createCheck_eq (s : State) (c : Cmd) (used bad : Prop) [Decidable used] [Decidable bad] (u b : Bool) (hu : u = decide used)
    (hb : b = decide bad) : s.createCheck c u b =
    if bits (s.ctrl c.port).cc.toNat 19 16 ≠ 6 ∨ bits (s.ctrl c.port).cc.toNat 23 20 ≠ 4 ∨ bad ∨ s.inPort c.port (c.f 13 25 16) = false ∨
        (s.inst (c.f 13 25 16)).state = .free ∨ (s.isManager (c.f 13 25 16) = false ∧ (s.port c.port).cfg.pasid = false) then
      some .invalidField
    else if s.rowInPort c.port (c.f 10 15 0) = false ∨ c.f 10 15 0 = 0 ∨ 16384 ≤ c.f 10 15 0 ∨ s.isAdminRow (c.f 10 15 0) = true ∨ used then
      some .invalidQid
    else if c.f 10 31 16 = 0 then some .invalidQSize
    else if c.prp1 % (4096 * 2 ^ (s.ctrl c.port).mps) ≠ 0 then some .invalidPrpOffset
    else none := by
  subst hu hb
  simp only [State.createCheck, Bool.or_eq_true, Bool.and_eq_true, decide_eq_true_eq, Bool.not_eq_true', or_assoc]

theorem State.createCheck_status {s : State} {c : Cmd} {u b : Bool} {st : Status} (h : s.createCheck c u b = some st) :
    st ≠ .unrecoveredRead := by
  rintro rfl
  simp only [State.createCheck] at h
  split at h
  · cases h
  · split at h
    · cases h
    · split at h
      · cases h
      · split at h
        · cases h
        · cases h

/-- A creation that passes names an instance that is not free and a row that is no admin row. -/
theorem State.createCheck_none {s : State} {c : Cmd} {u b : Bool} (h : s.createCheck c u b = none) :
    (s.inst (c.f 13 25 16)).state ≠ .free ∧ s.isAdminRow (c.f 10 15 0) = false := by
  simp only [State.createCheck] at h
  split at h
  · cases h
  · next h1 =>
    split at h
    · cases h
    · next h2 =>
      simp only [Bool.or_eq_true, decide_eq_true_eq, not_or, Bool.not_eq_true] at h1 h2
      obtain ⟨⟨-, hfree⟩, -⟩ := h1
      obtain ⟨⟨-, hrow⟩, -⟩ := h2
      exact ⟨hfree, hrow⟩

/-- The row that a Create I/O CQ makes. -/
def Cmd.newCq (c : Cmd) (s : State) : CqRow :=
  let held := (s.inst (c.f 13 25 16)).heldCq.find? (fun h => decide (h.loc = c.f 13 5 0) && decide (h.qsize = c.f 10 31 16))
  { valid := true, base := BitVec.ofNat 64 c.prp1, qsize := c.f 10 31 16, ien := bitOf (c.d 11).toNat 1
    imt := !s.isManager (c.f 13 25 16), vector := c.f 11 31 16 % 16384, inst := c.f 13 25 16, loc := c.f 13 5 0
    head := (held.map (·.head)).getD 0, tail := (held.map (·.tail)).getD 0
    phase := (held.map (·.phase)).getD true
    left := (held.map (fun h => decide (h.head ≠ h.tail))).getD false }

/-- The row that a Create I/O SQ makes. -/
def Cmd.newSq (c : Cmd) (s : State) : SqRow :=
  let held := (s.inst (c.f 13 25 16)).heldSq.find? (fun h => decide (h.loc = c.f 13 5 0) && decide (h.qsize = c.f 10 31 16))
  { valid := true, base := BitVec.ofNat 64 c.prp1, qsize := c.f 10 31 16, cqid := c.f 11 31 16, inst := c.f 13 25 16, loc := c.f 13 5 0
    head := (held.map (·.head)).getD 0, tail := (held.map (·.tail)).getD 0 }

/-- The state in which the position of the index created is held no longer. -/
def State.cqTaken (s : State) (c : Cmd) : State :=
  let i := c.f 13 25 16
  s.setInst i { s.inst i with heldCq := (s.inst i).heldCq.filter (fun h => decide (h.loc ≠ c.f 13 5 0)) }

def State.sqTaken (s : State) (c : Cmd) : State :=
  let i := c.f 13 25 16
  s.setInst i { s.inst i with heldSq := (s.inst i).heldSq.filter (fun h => decide (h.loc ≠ c.f 13 5 0)) }

/-- A write of an instance that is not free keeps its generation where the value does. -/
theorem State.gen_setInst (s : State) {i : Nat} {v : Inst} (hv : v.state ≠ .free) (hg : v.gen = (s.inst i).gen) (j : Nat) :
    ((s.setInst i v).inst j).gen = (s.inst j).gen := by
  by_cases hj : j = i
  · subst hj
    rw [State.inst_setInst_put s j (by rintro rfl; exact hv rfl), hg]
  · rw [State.inst_setInst_other s v hj]

theorem State.gen_cqTaken (s : State) {c : Cmd} (h : (s.inst (c.f 13 25 16)).state ≠ .free) (j : Nat) :
    ((s.cqTaken c).inst j).gen = (s.inst j).gen := by
  refine s.gen_setInst ?_ ?_ j
  · exact h
  · rfl

theorem State.gen_sqTaken (s : State) {c : Cmd} (h : (s.inst (c.f 13 25 16)).state ≠ .free) (j : Nat) :
    ((s.sqTaken c).inst j).gen = (s.inst j).gen := by
  refine s.gen_setInst ?_ ?_ j
  · exact h
  · rfl

section
variable {s : State} {tag : Nat} {c : Cmd} (h : AdminCmd s tag c)
include h

theorem createIoCq_admin (ho : c.opcode = 0x05) : exec (.createIoCq tag) s = .next (
    match s.createCheck c ((s.cqRow (c.f 10 15 0)).valid || (s.cqOf (c.f 13 25 16) (c.f 13 5 0)).isSome) (!bitOf (c.d 11).toNat 0) with
    | some st => s.err c st
    | none =>
      if bitOf (c.d 11).toNat 1 && (if s.isManager (c.f 13 25 16) then decide (2048 ≤ c.f 11 31 16)
          else !s.rowInPort c.port (c.f 11 31 16) ||
            decide ((Sparse.get (fun _ => {}) s.imt (c.f 11 31 16) : ImtEntry).owner ≠ c.f 13 25 16)) then s.err c .invalidVector
      else ((s.cqTaken c).setCq (c.f 10 15 0) (c.newCq s)).ok c) := by
  show Host.Outcome.next (s.onCmd tag true [0x05] _) = _
  rw [State.onCmd_admin h ho]
  rfl

theorem createIoSq_admin (ho : c.opcode = 0x01) : exec (.createIoSq tag) s = .next (
    match s.createCheck c ((s.sqRow (c.f 10 15 0)).valid || (s.sqOf (c.f 13 25 16) (c.f 13 5 0)).isSome)
        (!bitOf (c.d 11).toNat 0 || decide (c.f 12 15 0 ≠ 0)) with
    | some st => s.err c st
    | none =>
      if !s.rowInPort c.port (c.f 11 31 16) || !(s.cqRow (c.f 11 31 16)).valid || s.isAdminRow (c.f 11 31 16) ||
          decide ((s.cqRow (c.f 11 31 16)).inst ≠ c.f 13 25 16) then s.err c .cqInvalid
      else ((s.sqTaken c).setSq (c.f 10 15 0) (c.newSq s)).ok c) := by
  show Host.Outcome.next (s.onCmd tag true [0x01] _) = _
  rw [State.onCmd_admin h ho]
  rfl

/-- A refusal leaves every row but that of the admin CQ. -/
theorem AdminCmd.refuses {st : Status} (hst : st ≠ .unrecoveredRead) :
    let t := s.err c st
    Answered s s c st 0 0 [] t ∧ t.sq = s.sq ∧ ∀ q, q ≠ c.cq → t.cqRow q = s.cqRow q := by
  intro t
  have hc : Completes s c t := s.post_completes c 0 0 none hst
  exact ⟨h.1.errs hst, hc.sq, fun q hq => hc.cqRow (.inl hq)⟩

/-- A success after which only instances, SQ rows and CQ rows other than the command's own have moved. -/
theorem AdminCmd.succeeds {u : State} (hu : ∃ n x y, u = { s with insts := n, sq := x, cq := y })
    (hg : (u.inst c.inst).gen = (s.inst c.inst).gen) (hcq : u.cqRow c.cq = s.cqRow c.cq) (hsq : u.sqRow c.sq = s.sqRow c.sq) :
    let t := u.ok c
    Ended s c .success 0 0 [] t ∧ t = { s with out := t.out, cmds := t.cmds, insts := t.insts, cq := t.cq, sq := t.sq } ∧
      t.sq = u.sq ∧ ∀ q, q ≠ c.cq → t.cqRow q = u.cqRow q := by
  intro t
  have hc : Completes u c t := u.post_completes c 0 0 none (by decide)
  have hlink : Linked s := h.1.2.2.2.2.2.2
  obtain ⟨n, x, y, rfl⟩ := hu
  have ha := h.1.moved (t := { s with insts := n, sq := x, cq := y }) rfl hg hcq hlink
  obtain ⟨hend, heq⟩ := ha.posts 0 0 (st := .success) (by decide)
  have hsqt : t.sq = x := hc.sq
  refine ⟨hend.moved rfl rfl hcq hsq rfl, ?_, hc.sq, fun q hq => hc.cqRow (.inl hq)⟩
  rw [hsqt]
  exact heq

end

/-! ### Deletion (R49) -/

theorem State.errAll_spec {st : Status} (hst : st ≠ .unrecoveredRead) : ∀ (l : List Cmd) (s : State),
    (s.errAll st l).sq = s.sq ∧ ∀ x, x ∈ (s.errAll st l).cmds ↔ x ∈ s.cmds ∧ ∀ c ∈ l, x.tag ≠ c.tag
  | [], s => ⟨rfl, fun x => by simp [State.errAll]⟩
  | c :: l, s => by
    have hc : Completes s c (s.err c st) := s.post_completes c 0 0 none hst
    obtain ⟨h1, h2⟩ := State.errAll_spec hst l (s.err c st)
    refine ⟨h1.trans hc.sq, fun x => ?_⟩
    rw [State.errAll, h2, hc.cmds, List.mem_filter, List.forall_mem_cons, decide_eq_true_eq, and_assoc]

/-- Deleting a row ends the commands of it that have not started; of the rest none leaves flight, if tags are distinct (R49). -/
theorem State.abortSq_spec (s : State) (q : Nat) :
    (s.abortSq q).sq = s.sq ∧ (∀ x ∈ (s.abortSq q).cmds, x ∈ s.cmds ∧ (x.sq = q → x.admin = false → x.dead = false → x.idle = false)) ∧
    ∀ c ∈ s.cmds, c.admin = true → (s.cmds.map (·.tag)).Nodup → c ∈ (s.abortSq q).cmds := by
  obtain ⟨h1, h2⟩ := State.errAll_spec (st := .abortedSqDel) (by decide)
    (s.cmds.filter (fun c => decide (c.sq = q) && !c.admin && !c.dead && c.idle)) s
  refine ⟨h1, fun x hx => ?_, fun c hc ha hn => ?_⟩
  · obtain ⟨hx, hno⟩ := (h2 x).1 hx
    refine ⟨hx, fun hq had hd => ?_⟩
    by_contra hi
    exact hno x (List.mem_filter.2 ⟨hx, by simp [hq, had, hd, hi]⟩) rfl
  · refine (h2 c).2 ⟨hc, fun y hy htag => ?_⟩
    obtain ⟨hy, hyf⟩ := List.mem_filter.1 hy
    obtain rfl := List.inj_on_of_nodup_map hn hc hy htag
    simp [ha] at hyf

section
variable {s : State} {tag : Nat} {c : Cmd} (h : AdminCmd s tag c)
include h

theorem deleteIoSq_admin (ho : c.opcode = 0x00) : exec (.deleteIoSq tag) s = .next (
    let q := c.f 10 15 0
    if !s.rowInPort c.port q || s.isAdminRow q || !(s.sqRow q).valid || (s.sqRow q).deleting.isSome then s.err c .invalidQid
    else (s.setSq q { s.sqRow q with deleting := some tag }).abortSq q) := congrArg _ (State.onCmd_admin h ho _)

theorem deleteIoCq_admin (ho : c.opcode = 0x04) : exec (.deleteIoCq tag) s = .next (
    let q := c.f 10 15 0
    if !s.rowInPort c.port q || s.isAdminRow q || !(s.cqRow q).valid then s.err c .invalidQid
    else if s.sq.any (fun e => e.2.valid && decide (e.2.cqid = q) && !s.isAdminRow e.1) then s.err c .invalidQDeletion
    else (s.setCq q {}).ok c) := congrArg _ (State.onCmd_admin h ho _)

theorem asyncEventRequest_admin (ho : c.opcode = 0x0C) : exec (.asyncEventRequest tag) s = .next (
    let k := s.ctrl c.port
    if 8 ≤ k.aerWaiting.length then s.err c .aerLimit
    else if k.aerWaiting.contains tag then s
    else (s.setCtrl c.port { k with aerWaiting := k.aerWaiting ++ [tag] }).aenRelease c.port) := congrArg _ (State.onCmd_admin h ho _)

end

theorem deleteIoSqDrained_idle {s : State} {row : Nat} (h : (s.sqRow row).deleting = none) :
    exec (.deleteIoSqDrained row) s = .next s := by
  show execDeleteIoSqDrained row s = _
  simp only [execDeleteIoSqDrained, h]

theorem deleteIoSqDrained_waiting {s : State} {row tag : Nat} {c : Cmd} (h : (s.sqRow row).deleting = some tag) (hc : s.cmd? tag = some c) :
    exec (.deleteIoSqDrained row) s = .next (if s.cmds.any (fun x => decide (x.sq = row) && !x.admin && !x.dead) then s
      else (s.setSq row {}).ok c) := by
  show execDeleteIoSqDrained row s = _
  simp only [execDeleteIoSqDrained, h, hc]

/-! ### Events (R438) -/

theorem State.setCtrl_setCtrl (s : State) (p : Bool) (a b : Ctrl) : (s.setCtrl p a).setCtrl p b = s.setCtrl p b := by cases p <;> rfl

theorem State.aenRelease_none {s : State} {p : Bool} (h : (s.ctrl p).aerHeld.find? (fun e => !(s.ctrl p).aerMasked.contains e.kind) = none) :
    s.aenRelease p = s := by
  simp only [State.aenRelease, h]

/-- The first held event that may be reported completes the first outstanding request. -/
theorem State.aenRelease_some {s : State} {p : Bool} {tag : Nat} {rest : List Nat} {e : Aen} {c : Cmd}
    (hw : (s.ctrl p).aerWaiting = tag :: rest) (hm : (s.ctrl p).aerHeld.find? (fun e => !(s.ctrl p).aerMasked.contains e.kind) = some e)
    (hc : s.cmd? tag = some c) :
    s.aenRelease p = (s.setCtrl p { s.ctrl p with
        aerHeld := (s.ctrl p).aerHeld.filter (fun x => decide (x ≠ e)), aerWaiting := rest
        aerMasked := e.kind :: (s.ctrl p).aerMasked }).post c .success (e.kind.code + e.info * 2 ^ 8 + e.page * 2 ^ 16) 0 none := by
  have hcmd : ∀ k, (s.setCtrl p k).cmd? tag = some c := fun k => by rw [State.cmd?, State.setCtrl, State.setPort_cmds]; exact hc
  simp only [State.aenRelease, hm, hw, State.aenComplete, State.ctrl_setCtrl, State.setCtrl_setCtrl, hcmd]

/-- A controller moves nothing that a completion of its commands depends on. -/
theorem Answerable.setCtrl {s : State} {tag : Nat} {c : Cmd} (h : Answerable s tag c) (p : Bool) (k : Ctrl) :
    Answerable (s.setCtrl p k) tag c := by
  refine h.moved (s.setPort_cmds p _) ?_ (s.cqRow_setCtrl p k c.cq) ?_
  · rw [State.inst_setCtrl]
  · obtain ⟨ha, hb⟩ := h.2.2.2.2.2.2
    cases p <;> exact ⟨ha, hb⟩

/-! ### The obligation -/

/-- Settles O26: creations by the checks and what the row made is, deletions and requests by the branches of their rows, each
completion through `AdminCmd.refuses` and `AdminCmd.succeeds`. -/
theorem queAdmin : Obligations.QueAdmin := by
  unfold Obligations.QueAdmin
  intro check
  have hcheck : ∀ (s : State) (c : Cmd) (used bad : Prop) [Decidable used] [Decidable bad] (u b : Bool), u = decide used → b = decide bad →
      check s c used bad = s.createCheck c u b := fun s c used bad _ _ u b hu hb => (s.createCheck_eq c used bad u b hu hb).symm
  refine ⟨?createCq, ?createSq, ?others, fun s row => deleteIoSqDrained_idle⟩
  case createCq =>
    intro s tag c h ho i l q iv ien outcome mayUse held refused
    have hout : outcome = s.createCheck c ((s.cqRow q).valid || (s.cqOf i l).isSome) (!bitOf (c.d 11).toNat 0) :=
      hcheck s c _ _ _ _ (by simp [q, i, l]) (by simp)
    have hexec := createIoCq_admin h ho
    simp only [show c.f 13 25 16 = i from rfl, show c.f 13 5 0 = l from rfl, show c.f 10 15 0 = q from rfl,
      show c.f 11 31 16 = iv from rfl, show bitOf (c.d 11).toNat 1 = ien from rfl, ← hout] at hexec
    have hrefused {st : Status} (hst : st ≠ .unrecoveredRead) (he : exec (.createIoCq tag) s = .next (s.err c st)) : refused st := by
      obtain ⟨⟨hend, heq⟩, -, hrow⟩ := h.refuses hst
      exact ⟨_, he, hend, heq, hrow q⟩
    have hbad : (if s.isManager i then decide (2048 ≤ iv)
        else !s.rowInPort c.port iv || decide ((Sparse.get (fun _ => {}) s.imt iv : ImtEntry).owner ≠ i)) = true ↔ ¬ mayUse := by
      simp only [mayUse]
      split
      · rw [decide_eq_true_eq, Nat.not_lt]
      · rw [Bool.or_eq_true, Bool.not_eq_true', decide_eq_true_eq, not_and_or, Bool.not_eq_true]
    refine ⟨fun st hst => ?_, fun hn hi hm => ?_, fun hn hm => ?_⟩
    · rw [hst] at hexec
      exact hrefused (State.createCheck_status (hout.symm.trans hst)) hexec
    · rw [hn] at hexec
      refine hrefused (by decide) (hexec.trans (congrArg _ (if_pos ?_)))
      rw [hi, hbad.2 hm]
      rfl
    · rw [hn] at hexec
      obtain ⟨hfree, hrow⟩ := State.createCheck_none (hout.symm.trans hn)
      have hne : c.newCq s ≠ {} := CqRow.ne_default (.inl rfl)
      let u := (s.cqTaken c).setCq q (c.newCq s)
      have hgen : (u.inst c.inst).gen = (s.inst c.inst).gen := s.gen_cqTaken hfree c.inst
      obtain ⟨hend, heq, hsq, hrows⟩ := h.succeeds (u := u) ⟨_, s.sq, _, rfl⟩ hgen
        (State.cqRow_setCq_other _ _ (h.ne_cq hrow).symm) rfl
      refine ⟨u.ok c, hexec.trans (congrArg _ (if_neg ?_)), hend, ?_, ?_⟩
      · rw [Bool.and_eq_true, not_and, hbad, not_not]
        intro hien
        exact hm.resolve_left (by simp [hien])
      · rw [hsq] at heq
        exact heq
      · rw [hrows q (h.ne_cq hrow), State.cqRow_setCq _ _ hne]
        show c.newCq s = _
        simp only [Cmd.newCq, held]
        cases (s.inst i).heldCq.find? _ <;> rfl
  case createSq =>
    intro s tag c h ho i l q k outcome held
    have hout : outcome = s.createCheck c ((s.sqRow q).valid || (s.sqOf i l).isSome)
        (!bitOf (c.d 11).toNat 0 || decide (c.f 12 15 0 ≠ 0)) := hcheck s c _ _ _ _ (by simp [q, i, l]) (by simp)
    have hexec := createIoSq_admin h ho
    simp only [show c.f 13 25 16 = i from rfl, show c.f 13 5 0 = l from rfl, show c.f 10 15 0 = q from rfl,
      show c.f 11 31 16 = k from rfl, ← hout] at hexec
    have hno : (!s.rowInPort c.port k || !(s.cqRow k).valid || s.isAdminRow k || decide ((s.cqRow k).inst ≠ i)) = true ↔
        ¬ (s.rowInPort c.port k = true ∧ (s.cqRow k).valid = true ∧ s.isAdminRow k = false ∧ (s.cqRow k).inst = i) := by
      simp only [Bool.or_eq_true, Bool.not_eq_true', decide_eq_true_eq, not_and_or, Bool.not_eq_true, Bool.not_eq_false, or_assoc, ne_eq]
    refine ⟨fun st hst => ?_, fun hn => ?_⟩
    · rw [hst] at hexec
      obtain ⟨⟨hend, -⟩, hsq, -⟩ := h.refuses (State.createCheck_status (hout.symm.trans hst))
      exact ⟨_, hexec, hend, hsq⟩
    · rw [hn] at hexec
      split
      · next hgood =>
        obtain ⟨hfree, hrow⟩ := State.createCheck_none (hout.symm.trans hn)
        have hne : c.newSq s ≠ {} := SqRow.ne_default (.inl rfl)
        let u := (s.sqTaken c).setSq q (c.newSq s)
        have hgen : (u.inst c.inst).gen = (s.inst c.inst).gen := s.gen_sqTaken hfree c.inst
        obtain ⟨hend, heq, hsq, -⟩ := h.succeeds (u := u) ⟨_, _, s.cq, rfl⟩ hgen rfl
          (State.sqRow_setSq_other _ _ (h.ne_sq hrow).symm)
        refine ⟨u.ok c, hexec.trans (congrArg _ (if_neg (by rw [hno, not_not]; exact hgood))), hend, heq, ?_⟩
        have hrowt : (u.ok c).sqRow q = c.newSq s := by
          rw [State.sqRow, hsq]
          exact (s.sqTaken c).sqRow_setSq q hne
        rw [hrowt]
        simp only [Cmd.newSq, held]
        cases (s.inst i).heldSq.find? _ <;> rfl
      · next hbad =>
        obtain ⟨⟨hend, -⟩, hsq, -⟩ := h.refuses (st := .cqInvalid) (by decide)
        exact ⟨_, hexec.trans (congrArg _ (if_pos (hno.2 hbad))), hend, hsq⟩
  case others =>
    intro s tag c h q
    refine ⟨fun ho => ?_, fun ho => ?_, fun row hrow hdel => ?_, fun ho => ?_⟩
    · have hno : (!s.rowInPort c.port q || s.isAdminRow q || !(s.sqRow q).valid || (s.sqRow q).deleting.isSome) = true ↔
          ¬ (s.rowInPort c.port q = true ∧ s.isAdminRow q = false ∧ (s.sqRow q).valid = true ∧ (s.sqRow q).deleting = none) := by
        simp only [Bool.or_eq_true, Bool.not_eq_true', not_and_or, Bool.not_eq_true, Bool.not_eq_false, or_assoc,
          Option.isSome_iff_ne_none, ne_eq]
      have hexec := deleteIoSq_admin h ho
      split
      · next hgood =>
        let u := s.setSq q { s.sqRow q with deleting := some tag }
        obtain ⟨hsq, hcmds, hstay⟩ := u.abortSq_spec q
        obtain ⟨⟨hcmd, -⟩, hadmin, -⟩ := h
        refine ⟨u.abortSq q, hexec.trans (congrArg _ (if_neg (by rw [hno, not_not]; exact hgood))), ?_, hcmds, ?_⟩
        · rw [State.sqRow, hsq]
          exact s.sqRow_setSq q (SqRow.ne_default (.inr (.inr (by simp))))
        · exact hstay c (List.mem_of_find?_eq_some hcmd) hadmin
      · next hbad =>
        obtain ⟨⟨hend, -⟩, hsq, -⟩ := h.refuses (st := .invalidQid) (by decide)
        exact ⟨_, hexec.trans (congrArg _ (if_pos (hno.2 hbad))), hend, hsq⟩
    · intro used st
      have hexec := deleteIoCq_admin h ho
      have hno : (!s.rowInPort c.port q || s.isAdminRow q || !(s.cqRow q).valid) = true ↔
          s.rowInPort c.port q = false ∨ s.isAdminRow q = true ∨ (s.cqRow q).valid = false := by
        simp only [Bool.or_eq_true, Bool.not_eq_true', or_assoc]
      have hrefused (he : exec (.deleteIoCq tag) s = .next (s.err c st)) (hst : st ≠ .unrecoveredRead) (hs : st ≠ .success) :
          ∃ t, exec (.deleteIoCq tag) s = .next t ∧ Ended s c st 0 0 [] t ∧
            (st = .success → Sparse.sorted s.cq = true → (t.cqRow q).valid = false) ∧
            (st ≠ .success → q ≠ c.cq → t.cqRow q = s.cqRow q) := by
        obtain ⟨⟨hend, -⟩, -, hrows⟩ := h.refuses hst
        exact ⟨_, he, hend, fun he => absurd he hs, fun _ => hrows q⟩
      by_cases hbad : s.rowInPort c.port q = false ∨ s.isAdminRow q = true ∨ (s.cqRow q).valid = false
      · have hst : st = .invalidQid := if_pos hbad
        refine hrefused (hexec.trans (congrArg _ (if_pos (hno.2 hbad)) |>.trans (by rw [hst]))) ?_ ?_ <;> rw [hst] <;> decide
      · have hexec := hexec.trans (congrArg _ (if_neg (mt hno.1 hbad)))
        by_cases hused : used = true
        · have hst : st = .invalidQDeletion := (if_neg hbad).trans (if_pos hused)
          refine hrefused (hexec.trans (congrArg _ (if_pos hused) |>.trans (by rw [hst]))) ?_ ?_ <;> rw [hst] <;> decide
        · have hst : st = .success := (if_neg hbad).trans (if_neg hused)
          rw [not_or, not_or, Bool.not_eq_true (s.isAdminRow q)] at hbad
          obtain ⟨-, hrow, -⟩ := hbad
          obtain ⟨hend, -, -, hrows⟩ := h.succeeds (u := s.setCq q {}) ⟨s.insts, s.sq, _, rfl⟩ rfl
            (s.cqRow_setCq_other _ (h.ne_cq hrow).symm) rfl
          refine ⟨_, hexec.trans (congrArg _ (if_neg hused)), by rw [hst]; exact hend, fun _ hs => ?_, fun hns => absurd hst hns⟩
          rw [hrows q (h.ne_cq hrow)]
          exact congrArg CqRow.valid (Sparse.get_set_same _ hs q {})
    · have hexec := deleteIoSqDrained_waiting hdel h.1.1
      split
      · next hany => exact ⟨s, hexec.trans (congrArg _ (if_pos hany)), rfl⟩
      · next hany =>
        obtain ⟨hend, -, hsq, -⟩ := h.succeeds (u := s.setSq row {}) ⟨s.insts, _, s.cq, rfl⟩ rfl rfl (s.sqRow_setSq_other _ hrow.symm)
        refine ⟨_, hexec.trans (congrArg _ (if_neg hany)), hend, fun hs => ?_⟩
        rw [State.sqRow, hsq]
        exact congrArg SqRow.valid (Sparse.get_set_same _ hs row {})
    · intro w may
      have hexec := asyncEventRequest_admin h ho
      have hcontains {l : List Nat} : l.contains tag = true ↔ tag ∈ l := List.contains_iff_mem
      refine ⟨fun h8 => ?_, fun h8 hm hmay => ?_, fun hw e hmay => ?_⟩
      · obtain ⟨⟨hend, -⟩, -⟩ := h.refuses (st := .aerLimit) (by decide)
        exact ⟨_, hexec.trans (congrArg _ (if_pos h8)), hend⟩
      · rw [hexec]
        refine congrArg _ ((if_neg (Nat.not_le.2 h8)).trans ((if_neg (mt hcontains.1 hm)).trans (State.aenRelease_none ?_)))
        rw [State.ctrl_setCtrl]
        exact hmay
      · let k := { s.ctrl c.port with aerWaiting := w ++ [tag] }
        let u := s.setCtrl c.port k
        let k' := { k with aerHeld := k.aerHeld.filter (fun x => decide (x ≠ e)), aerWaiting := [], aerMasked := e.kind :: k.aerMasked }
        let n := e.kind.code + e.info * 2 ^ 8 + e.page * 2 ^ 16
        have hu : u.ctrl c.port = k := s.ctrl_setCtrl c.port k
        have hrel : u.aenRelease c.port = (s.setCtrl c.port k').post c .success n 0 none := by
          rw [State.aenRelease_some (rest := []) (by rw [hu]; simp only [k, hw]; rfl) (by rw [hu]; exact hmay) (h.1.setCtrl c.port k).1,
            State.setCtrl_setCtrl, hu]
        obtain ⟨hend, heq⟩ := (h.1.setCtrl c.port k').posts n 0 (st := .success) (by decide)
        have hctrl : ((s.setCtrl c.port k').post c .success n 0 none).ctrl c.port = k' := by
          rw [heq]
          exact s.ctrl_setCtrl c.port k'
        refine ⟨_, hexec.trans (congrArg _ ((if_neg (by rw [show (s.ctrl c.port).aerWaiting = [] from hw]; decide)).trans
          ((if_neg (by rw [show (s.ctrl c.port).aerWaiting = [] from hw]; exact Bool.false_ne_true)).trans hrel))), ?_, by rw [hctrl], by rw [hctrl]⟩
        refine hend.moved ?_ (s.setPort_cmds _ _) (s.cqRow_setCtrl _ _ _) (s.sqRow_setCtrl _ _ _) (s.setPort_pins _ _)
        rw [State.setCtrl, State.setPort_out]

end Sys2Proof.Machine
end

section
/-!
PROOF. A management command whose completion flushes the dirty-page logs of other instances (R66, R68, R79).
-/

open Sys2Proof Sys2Proof.Machine

namespace Sys2Proof.Machine

/-! ### A full tracker (R79) -/

/-- A page on a line that a full tracker does not hold has every log flushed. -/
theorem State.dirtyPage_full {s : State} {i p : Nat} (hp : (s.inst i).dlog.pend = []) (hfull : trackerLines ≤ s.dirtyLines) :
    s.dirtyPage i p = s.flushLogs.setInst i { s.flushLogs.inst i with
      dlog := { (s.flushLogs.inst i).dlog with pend := (s.flushLogs.inst i).dlog.pend ++ [p] } } := by
  have hlines : (s.inst i).dlog.lines = [] := by simp [DirtyLog.lines, hp]
  unfold State.dirtyPage
  simp only [hp, hlines, List.contains_nil, Bool.not_false, Bool.true_and, decide_eq_true hfull, Bool.false_eq_true, if_false, if_true]

/-- The pages that begin the first `n` lines of a log. -/
def lineHeads (n : Nat) : List Nat := (List.range' 0 n).map (512 * ·)

theorem lineHeads_lines (n : Nat) : ({ pend := lineHeads n } : DirtyLog).lines.length = n := by
  have hmap : (lineHeads n).map (fun p => (p - 0) / 512) = List.range' 0 n := by
    rw [lineHeads, List.map_map, List.map_congr_left (g := id) (fun k _ => by simp), List.map_id]
  show (((lineHeads n).map (fun p => (p - 0) / 512)).dedup).length = n
  rw [hmap, List.Nodup.dedup List.nodup_range', List.length_range']

/-! ### Set Share (R68) -/

/-- A command taken is in flight as taken. -/
theorem State.cmd?_setCmd {s : State} {tag : Nat} {c : Cmd} (h : s.cmd? tag = some c) {d : Cmd} (hd : d.tag = tag) :
    (s.setCmd d).cmd? tag = some d := by
  have hmem : ∀ l : List Cmd, l.find? (fun x => decide (x.tag = tag)) = some c →
      (l.map (fun x => if x.tag = d.tag then d else x)).find? (fun x => decide (x.tag = tag)) = some d := by
    intro l hl
    induction l with
    | nil => cases hl
    | cons x l ih =>
      by_cases hx : x.tag = tag
      · simp [hd, hx]
      · rw [List.find?_cons_of_neg (by simpa using hx)] at hl
        rw [List.map_cons, if_neg (by rw [hd]; exact hx), List.find?_cons_of_neg (by simpa using hx)]
        exact ih hl
  exact hmem s.cmds h

theorem instanceSetShare_sets {s : State} {tag : Nat} {c : Cmd} (h : AdminCmd s tag c) (ho : c.opcode = 0xC2) (hc : c.checked = false)
    (hrow : s.rowRefused c [(11, 0x1FFFF)] false = none) (hz : c.f 11 16 0 ≠ 0) (hv : c.f 11 16 0 ≤ 65536)
    (hsum : s.shareSum c.port (some c.row) + c.f 11 16 0 ≤ s.shareMax) :
    exec (.instanceSetShare tag) s =
      .next (((s.setInst c.row { s.inst c.row with share := c.f 11 16 0 }).taken c).mgmtOk { c with checked := true }) := by
  have htake : s.takeMgmt c = (s.setInst c.row { s.inst c.row with share := c.f 11 16 0 }).taken c := by
    unfold State.takeMgmt
    rw [if_neg (by rw [ho]; decide), if_neg (by rw [ho]; decide), if_pos ho, State.takeShare, hrow]
    show (if (decide (c.f 11 16 0 = 0) && s.isManager c.row) = true then _ else _ : State) = _
    rw [if_neg (by simp [hz]), if_neg (Nat.not_lt.2 hv), if_neg (Nat.not_lt.2 hsum)]
  have hcmd : ((s.setInst c.row { s.inst c.row with share := c.f 11 16 0 }).taken c).cmd? tag = some { c with checked := true } :=
    State.cmd?_setCmd (c := c) h.1.1 (show c.tag = tag from State.cmd?_tag h.1.1)
  show Host.Outcome.next (s.onCmd tag true [0xC2] _) = _
  rw [State.onCmd_admin h ho]
  simp only [hc, Bool.false_eq_true, if_false, htake, hcmd]

/-- While no link trains, a completion moves the instances as its entry's write to host memory is logged. -/
theorem Answerable.post_insts {s : State} {tag : Nat} {c : Cmd} (h : Answerable s tag c) {st : Status} (dw0 dw1 : Nat)
    (hst : st ≠ .unrecoveredRead) : (s.post c st dw0 dw1 none).insts =
      ((s.counted c).dirty c.inst ((s.cqRow c.cq).base.toNat + 16 * (s.cqRow c.cq).tail) 16).insts := by
  rw [State.post_complete h, if_neg hst, State.complete_eq]
  obtain ⟨-, hd, -, ha, hv, he, hl⟩ := h
  rw [hd, ha, hv, he]
  have hlog := Logs.dirty (s.counted c) hl c.inst ((s.cqRow c.cq).base.toNat + 16 * (s.cqRow c.cq).tail) 16
  show (((s.counted c).dirty c.inst ((s.cqRow c.cq).base.toNat + 16 * (s.cqRow c.cq).tail) 16).send c.port _).insts = _
  rw [State.send_linked (hlog.linked hl)]
  rfl

/-! ### The counterexample -/

/-- Set Share of instance 1 to 1, in flight as the command of tag 9. -/
def setShareOne : Cmd :=
  { tag := 9, port := false, admin := true, inst := 0, sq := 0, cq := 0, gen := 0, deadline := 500
    dw := [0xC2, 0, 0, 0, 0, 0, 0, 0, 0, 0, 1, 1, 0, 0, 0, 0] }

/-- That command in a device whose manager has a running log, with coalesced pages of instance 2: the first of its range and `l`. -/
def sharing (l : List Nat) : State :=
  { cmds := [setShareOne], cq := [(0, { valid := true })]
    insts := [(0, { state := .active, share := 1, dlog := { running := true } }), (1, { state := .active }),
      (2, { dlog := { pend := 0 :: l } })] }

/-- The instances with the share set. -/
def sharedInsts (l : List Nat) : Sparse Inst :=
  [(0, { state := .active, share := 1, dlog := { running := true } }), (1, { state := .active, share := 1 }),
    (2, { dlog := { pend := 0 :: l } })]

theorem sharing_admin (l : List Nat) : AdminCmd (sharing l) 9 setShareOne :=
  ⟨⟨rfl, rfl, rfl, rfl, rfl, rfl, rfl, rfl⟩, rfl, rfl, rfl, rfl, rfl⟩

theorem sharing_exec (l : List Nat) : exec (.instanceSetShare 9) (sharing l) =
    .next ((({ sharing l with insts := sharedInsts l } : State).taken setShareOne).mgmtOk { setShareOne with checked := true }) := by
  refine (instanceSetShare_sets (sharing_admin l) (by decide) rfl rfl (by decide) (by decide) ?_).trans ?_
  · exact of_decide_eq_true rfl
  · rfl

/-- The state from which its completion entry goes out. -/
def sharingTaken (l : List Nat) : State := ({ sharing l with insts := sharedInsts l } : State).taken setShareOne

theorem sharingTaken_answerable (l : List Nat) : Answerable (sharingTaken l) 9 { setShareOne with checked := true } :=
  ⟨rfl, rfl, rfl, rfl, rfl, rfl, rfl, rfl⟩

/-- Beside the entry: the command gone, the share set. -/
def sharingCounted (l : List Nat) : State := { sharing l with cmds := [], insts := sharedInsts l }

theorem sharingTaken_counted (l : List Nat) : (sharingTaken l).counted { setShareOne with checked := true } = sharingCounted l := rfl

theorem sharingCounted_dirty (l : List Nat) : (sharingCounted l).dirty 0 0 16 = (sharingCounted l).dirtyPage 0 0 := by
  have hpages : (pagesOf 0 16).filter (fun p => decide (0 ≤ p) && decide (p ≤ 0)) = [0] := by decide
  have hlen : (pagesOf 0 16).length = 1 := by decide
  have hlog : ((sharingCounted l).inst 0).dlog = { running := true } := rfl
  unfold State.dirty
  rw [hlog]
  simp only [hpages, hlen, List.length_singleton, if_true, Bool.not_false, Bool.and_self, List.foldl_cons, List.foldl_nil]

/-- The pages of instance 2 leave the chip where they fill the tracker. -/
theorem sharing_flushed {l : List Nat} (h : trackerLines ≤ (sharingCounted l).dirtyLines) :
    ∃ t, exec (.instanceSetShare 9) (sharing l) = .next t ∧ (t.inst 2).dlog.pend = [] := by
  refine ⟨_, sharing_exec l, ?_⟩
  have hinsts := (sharingTaken_answerable l).post_insts (st := .success) 0 0 (by decide)
  rw [sharingTaken_counted] at hinsts
  have hpage : ((sharingTaken l).post { setShareOne with checked := true } .success 0 0 none).insts =
      ((sharingCounted l).dirtyPage 0 0).insts := hinsts.trans (congrArg State.insts (sharingCounted_dirty l))
  show (((sharingTaken l).post { setShareOne with checked := true } .success 0 0 none).inst 2).dlog.pend = []
  rw [State.inst_congr hpage, State.dirtyPage_full rfl h, State.inst_setInst_other _ _ (by decide)]
  rfl

theorem sharingCounted_dirtyLines (l : List Nat) : (sharingCounted l).dirtyLines = ({ pend := 0 :: l } : DirtyLog).lines.length := by
  show 0 + (0 + (({ pend := 0 :: l } : DirtyLog).lines.length + 0)) = _
  omega

/-- Pages on as many lines as the tracker holds, the first of the range among them, fill it. -/
theorem sharing_full {n : Nat} (h : trackerLines = n + 1) : ∃ l, trackerLines ≤ (sharingCounted l).dirtyLines := by
  have hcons : lineHeads (n + 1) = 0 :: (List.range' 1 n).map (512 * ·) := by
    rw [lineHeads, List.range'_succ, List.map_cons, Nat.mul_zero, Nat.zero_add]
  refine ⟨(List.range' 1 n).map (512 * ·), ?_⟩
  rw [sharingCounted_dirtyLines, ← hcons, lineHeads_lines, h]

/-! ### The obligation -/

/-- Refutes O40: the completion entry of a Set Share, a write of the manager instance, is logged in the manager's own dirty-page log
where one runs; on a full tracker that flushes the log of instance 2, which the command does not name. -/
theorem not_insManage : ¬ Obligations.InsManage := by
  unfold Obligations.InsManage
  rintro ⟨-, -, hshare, -⟩
  obtain ⟨l, hl⟩ := sharing_full (n := 8191) rfl
  obtain ⟨-, hset⟩ := hshare (sharing l) 9 setShareOne (sharing_admin _) (by decide)
  obtain ⟨-, -, hset⟩ := hset rfl
  obtain ⟨-, hset⟩ := hset (by decide) rfl
  obtain ⟨-, hset⟩ := hset (.inl (by decide))
  obtain ⟨t, ht, -, ⟨hothers, -⟩, -⟩ := hset (by decide) (of_decide_eq_true rfl) rfl
  obtain ⟨t', ht', hpend⟩ := sharing_flushed hl
  obtain rfl : t = t' := by
    rw [ht] at ht'
    injection ht'
  have hsame : t.inst 2 = (sharing l).inst 2 := hothers 2 (by decide) (by decide)
  rw [hsame] at hpend
  cases hpend

end Sys2Proof.Machine
end

section
/-!
PROOF. The link of a port, its errors, translation invalidations and configuration requests (R35 to R38, R41, R58 to R60, R425).
-/

open Sys2Proof Sys2Proof.Machine

namespace Sys2Proof.Machine

/-! ### Registers that are raised twice, and counters in a half word -/

/-- A raise keeps the bits that are set, where the register resets to 0. -/
theorem State.reg_raise_kept (s : State) {e b i : Nat} (h : bitOf (s.reg e).toNat i = true) (hr : regReset e = 0) :
    bitOf ((s.raise e b).reg e).toNat i = true := by
  have hbit : bitOf (s.reg e ||| BitVec.ofNat 32 (2 ^ b)).toNat i = true := bitOf_or_left _ h
  have hne : s.reg e ||| BitVec.ofNat 32 (2 ^ b) ≠ regReset e := by
    rw [hr]
    intro h0
    rw [h0] at hbit
    simp [bitOf] at hbit
  rw [State.raise, State.reg_setReg_put s e hne]
  exact hbit

theorem State.reg_raiseAt_kept (s : State) {e b loc w i : Nat} (h : bitOf (s.reg e).toNat i = true) (hr : regReset e = 0)
    (hl : e ≠ loc) : bitOf ((s.raiseAt e b loc w).reg e).toNat i = true := by
  rw [State.raiseAt]
  rcases (s.raise e b).capture_cases loc w with hc | hc <;> rw [hc]
  · exact s.reg_raise_kept h hr
  · rw [State.reg_setReg_other _ _ hl]
    exact s.reg_raise_kept h hr

theorem State.hifErr_bit (s : State) (p : Bool) {b : Nat} (hb : b < 32) :
    bitOf ((s.hifErr p b).reg (Reg.HIF_ERR (if p then 1 else 0))).toNat b = true :=
  s.reg_raise_bit _ b hb (regReset_HIF_ERR p)

theorem State.hifErr_kept (s : State) (p : Bool) {b i : Nat} (h : bitOf (s.reg (Reg.HIF_ERR (if p then 1 else 0))).toNat i = true) :
    bitOf ((s.hifErr p b).reg (Reg.HIF_ERR (if p then 1 else 0))).toNat i = true :=
  s.reg_raise_kept h (regReset_HIF_ERR p)

/-- A field of a register that resets to 0 counts by one up to its largest value, and the bits beside it stay. -/
theorem State.reg_count_one (s : State) {o hi lo : Nat} (hr : regReset o = 0) (hlo : lo ≤ hi) (hhi : hi < 32) :
    ((s.count o hi lo 1).reg o).toNat =
      setBits (s.reg o).toNat hi lo (min (s.field o hi lo + 1) (2 ^ (hi + 1 - lo) - 1)) := by
  have hsize : 2 ≤ 2 ^ (hi + 1 - lo) := by
    calc 2 = 2 ^ 1 := rfl
      _ ≤ 2 ^ (hi + 1 - lo) := Nat.pow_le_pow_right (by decide) (by omega)
  let v := min (s.field o hi lo + 1) (2 ^ (hi + 1 - lo) - 1)
  have hv : 0 < v ∧ v < 2 ^ (hi + 1 - lo) := by
    simp only [v]
    omega
  have hn : setBits (s.reg o).toNat hi lo v < 2 ^ 32 := by
    refine Nat.lt_pow_two_of_testBit _ fun i hi' => ?_
    rw [testBit_setBits, if_neg (by omega)]
    exact Nat.testBit_lt_two_pow (Nat.lt_of_lt_of_le (s.reg o).isLt (Nat.pow_le_pow_right (by decide) hi'))
  have hne : BitVec.ofNat 32 (setBits (s.reg o).toNat hi lo v) ≠ regReset o := by
    rw [hr]
    intro h0
    have hz : setBits (s.reg o).toNat hi lo v = 0 := by
      have := congrArg BitVec.toNat h0
      rwa [BitVec.toNat_ofNat, Nat.mod_eq_of_lt hn] at this
    obtain ⟨i, hi'⟩ := Nat.exists_testBit_of_ne_zero (Nat.pos_iff_ne_zero.1 hv.1)
    have hlt : i < hi + 1 - lo := by
      by_contra hge
      rw [Nat.testBit_lt_two_pow (Nat.lt_of_lt_of_le hv.2 (Nat.pow_le_pow_right (by decide) (Nat.le_of_not_lt hge)))] at hi'
      cases hi'
    have hbit := testBit_setBits (s.reg o).toNat hi lo v (lo + i)
    rw [if_pos (by omega), Nat.add_sub_cancel_left, hz, Nat.zero_testBit, hi'] at hbit
    cases hbit
  show ((s.setReg o (BitVec.ofNat 32 (setBits (s.reg o).toNat hi lo v))).reg o).toNat = _
  rw [State.reg_setReg_put s o hne, BitVec.toNat_ofNat, Nat.mod_eq_of_lt hn]

@[simp] theorem regReset_HIF_ERR_CNT (p : Bool) : regReset (Reg.HIF_ERR_CNT (b2n p)) = 0 := by
  cases p <;> rfl

/-- The halves of HIF_ERR_CNT count receiver errors and replays apart (R60). -/
theorem State.errCnt_halves (s : State) {o : Nat} (hr : regReset o = 0) :
    (s.count o 31 16 1).field o 31 16 = min (s.field o 31 16 + 1) 65535 ∧ (s.count o 31 16 1).field o 15 0 = s.field o 15 0 ∧
    (s.count o 15 0 1).field o 15 0 = min (s.field o 15 0 + 1) 65535 ∧ (s.count o 15 0 1).field o 31 16 = s.field o 31 16 := by
  have hlt := (s.reg o).isLt
  refine ⟨?_, ?_, ?_, ?_⟩
  all_goals
    rw [State.field, State.reg_count_one s hr (by decide) (by decide)]
    simp only [State.field, bits, setBits]
    omega

theorem OnlyRegs.ite {s t u : State} {p : Prop} [Decidable p] (ht : OnlyRegs s t) (hu : OnlyRegs s u) :
    OnlyRegs s (if p then t else u) := by
  split
  · exact ht
  · exact hu

/-! ### The link (R37, R60) -/

/-- What stalled while the link trained goes out with its end. -/
theorem State.unstall_out (s : State) (p : Bool) : (s.unstall p).out = s.out ++ (s.port p).stalled := rfl

theorem State.unstall_port (s : State) (p : Bool) : (s.unstall p).port p = { s.port p with stalled := [] } := by
  cases p <;> rfl

/-- A link that trained: the port is up as given, what stalled has gone out, and a speed or a width below the target is reported. -/
theorem State.linkUp_spec (s : State) (p : Bool) (v : Port) (slow narrow : Prop) [Decidable slow] [Decidable narrow] :
    let s1 := s.setPort p v
    let s2 := if slow then s1.hifErr p 10 else s1
    let s3 := if narrow then s2.hifErr p 11 else s2
    let t := (s3.setPins { s3.pins with peTx := .running }).unstall p
    t.port p = { v with stalled := [] } ∧ t.out = s.out ++ v.stalled ∧
      (slow → bitOf (t.reg (Reg.HIF_ERR (if p then 1 else 0))).toNat 10 = true) ∧
      (narrow → bitOf (t.reg (Reg.HIF_ERR (if p then 1 else 0))).toNat 11 = true) := by
  intro s1 s2 s3 t
  have h13 : OnlyRegs s1 s3 := (OnlyRegs.ite (OnlyRegs.hifErr s1 p 10) (.refl s1)).trans (.ite (OnlyRegs.hifErr s2 p 11) (.refl s2))
  have hport : s3.port p = v := (h13.port p).trans (s.setPort_port p v)
  have hout : s3.out = s.out := by
    rw [h13.eq]
    exact s.setPort_out p v
  have hreg (o : Nat) : t.reg o = s3.reg o := by
    show Sparse.get regReset ((s3.setPins _).setPort p _).regs o = _
    rw [State.setPort_regs]
    rfl
  refine ⟨?_, ?_, fun hs => ?_, fun hn => ?_⟩
  · exact (State.unstall_port _ p).trans (congrArg (fun q : Port => { q with stalled := [] }) hport)
  · show s3.out ++ (s3.port p).stalled = _
    rw [hout, hport]
  · have h10 : bitOf (s2.reg (Reg.HIF_ERR (if p then 1 else 0))).toNat 10 = true := by
      rw [show s2 = _ from if_pos hs]
      exact s1.hifErr_bit p (by decide)
    rw [hreg]
    by_cases hn : narrow
    · rw [show s3 = _ from if_pos hn]
      exact s2.hifErr_kept p h10
    · rw [show s3 = _ from if_neg hn]
      exact h10
  · rw [hreg, show s3 = _ from if_pos hn]
    exact s2.hifErr_bit p (by decide)

section
variable {s : State} {p : Bool} (h : s.hasPort p = true)
include h

theorem State.hasPort_not : ¬ (!s.hasPort p) = true := by
  rw [h]
  decide

theorem linkTrained_spec (flit : Bool) (speed width : Nat) : ∃ t, exec (.linkTrained p flit speed width) s = .next t ∧
    t.port p = { s.port p with up := true, training := false, flit := flit, speed := speed, width := width, stalled := [] } ∧
    t.out = s.out ++ (s.port p).stalled ∧
    (speed < s.fieldNow (Reg.HIF_LINK_CTL (if p then 1 else 0)) 3 0 → bitOf (t.reg (Reg.HIF_ERR (if p then 1 else 0))).toNat 10 = true) ∧
    (width < (if s.pins.dual then 8 else 16) → bitOf (t.reg (Reg.HIF_ERR (if p then 1 else 0))).toNat 11 = true) := by
  let v : Port := { s.port p with up := true, training := false, flit := flit, speed := speed, width := width }
  let s1 := s.setPort p v
  let s2 := if speed < s1.fieldNow (Reg.HIF_LINK_CTL (b2n p)) 3 0 then s1.hifErr p 10 else s1
  obtain ⟨hport, hout, hslow, hnarrow⟩ := s.linkUp_spec p v (speed < s1.fieldNow (Reg.HIF_LINK_CTL (b2n p)) 3 0) (width < s2.maxWidth)
  have htarget : s1.fieldNow (Reg.HIF_LINK_CTL (b2n p)) 3 0 = s.fieldNow (Reg.HIF_LINK_CTL (if p then 1 else 0)) 3 0 := by
    simp only [s1, State.fieldNow, State.inForce, State.reg, State.setPort_regs, State.setPort_held, b2n]
    rfl
  have hpins : s2.pins = s.pins := by
    have h1 : s1.pins = s.pins := s.setPort_pins p v
    simp only [s2]
    split
    · exact h1
    · exact h1
  have hwidth : s2.maxWidth = if s.pins.dual then 8 else 16 := by
    rw [State.maxWidth, hpins]
  exact ⟨_, congrArg Host.Outcome.next (if_neg (State.hasPort_not h)), hport, hout,
    fun hs => hslow (Nat.lt_of_lt_of_eq hs htarget.symm), fun hn => hnarrow (Nat.lt_of_lt_of_eq hn hwidth.symm)⟩

theorem linkPartnerRetrain_spec : exec (.linkPartnerRetrain p) s = .next (s.setPort p { s.port p with training := true }) :=
  congrArg _ (if_pos h)

theorem linkRetrain_allowed {src : Src} (hs : src = .host p ∨ src = .host s.ownerPort ∨ ∃ c, src = .cc c) :
    exec (.linkRetrain src p) s = .next (s.setPort p { s.port p with training := true }) := by
  refine congrArg _ ((if_neg (State.hasPort_not h)).trans ?_)
  rcases hs with rfl | rfl | ⟨c, rfl⟩
  · exact if_pos (by simp)
  · exact if_pos (by simp)
  · rfl

theorem linkRetrain_refused {q : Bool} (hq : q ≠ p) (ho : q ≠ s.ownerPort) :
    exec (.linkRetrain (.host q) p) s = .next (s.hifErr q 7) := by
  refine congrArg _ ((if_neg (State.hasPort_not h)).trans (if_neg ?_))
  simp [hq, ho]

theorem linkDown_spec : exec (.linkDown p) s =
    .next ((s.setPort p { s.port p with up := false, flit := false, speed := 0, width := 0 }).hifErr p 9) :=
  congrArg _ (if_neg (State.hasPort_not h))

theorem ecrcError_spec : exec (.ecrcError p) s = .next (s.hifErr p 8) := congrArg _ (if_pos h)

theorem receiverError_spec (replay : Bool) : exec (.receiverError p replay) s =
    .next (if replay then s.count (Reg.HIF_ERR_CNT (b2n p)) 31 16 1 else s.count (Reg.HIF_ERR_CNT (b2n p)) 15 0 1) :=
  congrArg _ (if_neg (State.hasPort_not h))

/-- Exactly the pages named leave the translation cache (R35). -/
theorem atsInvalidateRequest_spec (pasid first n : Nat) : ∃ t, exec (.atsInvalidateRequest p pasid first n) s = .next t ∧
    t.out = s.out ++ [.invalidated p] ∧
    ∀ e, e ∈ (t.port p).atc ↔ e ∈ (s.port p).atc ∧ ¬ (e.1 = pasid ∧ first ≤ e.2 ∧ e.2 < first + n) := by
  refine ⟨_, congrArg Host.Outcome.next (if_neg (State.hasPort_not h)), congrArg (· ++ [Out.invalidated p]) (s.setPort_out p _), fun e => ?_⟩
  show e ∈ ((s.setPort p _).port p).atc ↔ _
  rw [State.setPort_port, List.mem_filter]
  simp only [Bool.not_eq_true', Bool.and_eq_false_iff, decide_eq_false_iff_not, not_and_or, or_assoc]

/-! ### Configuration requests (R36, R38, R425) -/

theorem configurationRequest_retried (hids : s.idsLoaded = false) (r : CfgReg) (w : Option DWord) :
    exec (.configurationRequest p (r, w)) s = .next (s.emit (.config p none)) := by
  refine congrArg _ ((if_neg (State.hasPort_not h)).trans (if_pos ?_))
  rw [hids]
  rfl

theorem configurationRequest_read (hids : s.idsLoaded = true) (r : CfgReg) :
    exec (.configurationRequest p (r, none)) s = .next (s.emit (.config p (some (BitVec.ofNat 32 (s.cfgRead p r))))) := by
  refine congrArg _ ((if_neg (State.hasPort_not h)).trans (if_neg ?_))
  rw [hids]
  decide

theorem configurationRequest_write (hids : s.idsLoaded = true) (r : CfgReg) (v : DWord) :
    exec (.configurationRequest p (r, some v)) s =
      .next ((s.cfgWrite p r v).emit (.config p (some (BitVec.ofNat 32 ((s.cfgWrite p r v).cfgRead p r))))) := by
  refine congrArg _ ((if_neg (State.hasPort_not h)).trans (if_neg ?_))
  rw [hids]
  decide

end

/-- The Command register reads Memory Space Enable and Bus Master Enable at their places. -/
theorem command_bits (mem bme parity serr intx : Bool) :
    let v : DWord := BitVec.ofNat 32 (flags [(1, mem), (2, bme), (6, parity), (8, serr), (10, intx), (20, true)])
    bitOf v.toNat 2 = bme ∧ bitOf v.toNat 1 = mem := by
  revert mem bme parity serr intx
  decide

theorem msixCtl_bits (mask en : Bool) :
    let v : DWord := BitVec.ofNat 32 (2047 + b2n mask * 2 ^ 14 + b2n en * 2 ^ 15)
    bitOf v.toNat 15 = en ∧ bitOf v.toNat 14 = mask := by
  revert mask en
  decide

/-- What goes out or stalls leaves the MSI-X enables of the port. -/
theorem State.send_msixCtl (s : State) (p : Bool) (o : Out) :
    ((s.send p o).port p).msixEn = (s.port p).msixEn ∧ ((s.send p o).port p).msixMask = (s.port p).msixMask := by
  rw [State.send_eq]
  split
  · rw [State.setPort_port]
    exact ⟨rfl, rfl⟩
  · exact ⟨rfl, rfl⟩

/-- Sending the pending messages leaves the MSI-X enables of the port (R57). -/
theorem State.msixFlush_msixCtl (s : State) (p : Bool) :
    ((s.msixFlush p).port p).msixEn = (s.port p).msixEn ∧ ((s.msixFlush p).port p).msixMask = (s.port p).msixMask := by
  refine List.foldlRecOn (motive := fun u : State => (u.port p).msixEn = (s.port p).msixEn ∧ (u.port p).msixMask = (s.port p).msixMask)
    _ _ ⟨rfl, rfl⟩ fun u hu e _ => ?_
  split
  · obtain ⟨hen, hmask⟩ := State.send_msixCtl
      (u.setPort p { u.port p with msix := Sparse.set (fun _ => {}) (u.port p).msix e.1 { e.2 with pend := false } }) p
      (.message p e.2.addr e.2.data)
    rw [State.setPort_port] at hen hmask
    exact ⟨hen.trans hu.1, hmask.trans hu.2⟩
  · exact hu

/-- What the writes of the registers of Tables 2-2 and 2-3 that the hardware acts on leave in the port. -/
theorem State.cfgWrite_spec (s : State) (p : Bool) (r : CfgReg) (v : DWord) : let t := s.cfgWrite p r v
    (r = .command → (t.port p).bme = bitOf v.toNat 2 ∧ (t.port p).cfg.mem = bitOf v.toNat 1) ∧
    (r = .devCtl → (t.port p).relaxed = bitOf v.toNat 4 ∧
      (bits v.toNat 7 5 ≤ 2 → (t.port p).cfg.mps = bits v.toNat 7 5) ∧ (2 < bits v.toNat 7 5 → (t.port p).cfg.mps = (s.port p).cfg.mps)) ∧
    (r = .msixCtl → (t.port p).msixEn = bitOf v.toNat 15 ∧ (t.port p).msixMask = bitOf v.toNat 14) ∧
    (r = .pasidCtl → (t.port p).cfg.pasid = bitOf v.toNat 0) ∧
    (r = .l1ssCtl → (t.port p).l12 = (bitOf v.toNat 0 || bitOf v.toNat 2)) := by
  refine ⟨?_, ?_, ?_, ?_, ?_⟩ <;> rintro rfl
  case refine_1 => simp only [State.cfgWrite, State.setPort_port, and_self]
  case refine_2 =>
    simp only [State.cfgWrite, State.setPort_port, true_and]
    exact ⟨fun hle => if_pos hle, fun hgt => if_neg (Nat.not_le.2 hgt)⟩
  case refine_3 =>
    let t := s.setPort p { s.port p with msixEn := bitOf v.toNat 15, msixMask := bitOf v.toNat 14 }
    have ht : (t.port p).msixEn = bitOf v.toNat 15 ∧ (t.port p).msixMask = bitOf v.toNat 14 := by
      simp only [t, State.setPort_port, and_self]
    show ((if bitOf v.toNat 15 && !bitOf v.toNat 14 then t.msixFlush p else t).port p).msixEn = _ ∧
      ((if bitOf v.toNat 15 && !bitOf v.toNat 14 then t.msixFlush p else t).port p).msixMask = _
    split
    · obtain ⟨hen, hmask⟩ := t.msixFlush_msixCtl p
      exact ⟨hen.trans ht.1, hmask.trans ht.2⟩
    · exact ht
  case refine_4 => simp only [State.cfgWrite, State.setPort_port]
  case refine_5 => simp only [State.cfgWrite, State.setPort_port]

/-- What the identification and control registers read. -/
theorem State.cfgRead_spec (s : State) (p : Bool) (r : CfgReg) : let v : DWord := BitVec.ofNat 32 (s.cfgRead p r)
    (r = .ids → v = 0x64321EA7) ∧ (r = .classRev → v = 0x01800011) ∧ (r = .subsystem → v.toNat = s.subsys.toNat % 2 ^ 32) ∧
    (r = .command → bitOf v.toNat 2 = (s.port p).bme ∧ bitOf v.toNat 1 = (s.port p).cfg.mem) ∧
    (r = .msixCtl → bitOf v.toNat 15 = (s.port p).msixEn ∧ bitOf v.toNat 14 = (s.port p).msixMask) := by
  refine ⟨?_, ?_, ?_, ?_, ?_⟩ <;> rintro rfl
  · rfl
  · rfl
  · exact BitVec.toNat_ofNat ..
  · exact command_bits _ _ _ _ _
  · exact msixCtl_bits _ _

/-- A port that does not exist has no link, no errors and no configuration space (R60). -/
theorem noPort_next {s : State} {p : Bool} (h : s.hasPort p = false) (a : Bool) (n m : Nat) (src : Src) (r : CfgReg) (w : Option DWord) :
    ∀ c ∈ [Instr.linkTrained p a n m, .linkPartnerRetrain p, .linkRetrain src p, .linkDown p, .ecrcError p, .receiverError p a,
      .atsInvalidateRequest p n m n, .configurationRequest p (r, w)], exec c s = .next s := by
  have hno : (!s.hasPort p) = true := by
    rw [h]
    rfl
  have hyes : ¬ s.hasPort p = true := by
    rw [h]
    decide
  simp only [List.forall_mem_cons, List.not_mem_nil, false_imp_iff, implies_true, and_true]
  exact ⟨congrArg _ (if_pos hno), congrArg _ (if_neg hyes), congrArg _ (if_pos hno), congrArg _ (if_pos hno), congrArg _ (if_neg hyes),
    congrArg _ (if_pos hno), congrArg _ (if_pos hno), congrArg _ (if_pos hno)⟩

end Sys2Proof.Machine
end

section
/-!
PROOF. DMA faults and completion timeouts by the request that faults (R36, R58, R59, R82), and the obligation on the link.
-/

open Sys2Proof Sys2Proof.Machine

namespace Sys2Proof.Machine

/-! ### Events of a queue -/

theorem Reports.queueAen (s : State) (i : Nat) (cause : DmaCause) (sqid spec : Nat) : Reports s (s.queueAen i cause sqid spec) := by
  have haer (p : Bool) (b : Nat) : Reports s (s.aerReport p b) :=
    Sends.reports (.ite (Sends.setPort s p _) (.ite ((Sends.setPort s p _).trans (Sends.send _ _ _)) (Sends.setPort s p _)))
  exact .ite (((haer _ _).trans (.setCtrl _ _ _)).trans (.aen _ _ _ _ _)) (.refl s)

theorem State.queueAen_of_not_manager {s : State} {i : Nat} (h : s.isManager i = false) (cause : DmaCause) (sqid spec : Nat) :
    s.queueAen i cause sqid spec = s := if_neg (by rw [h]; decide)

theorem HIF_ERR_ne (p : Bool) : Reg.HIF_ERR (if p then 1 else 0) ≠ Reg.QMG_ERR ∧ Reg.HIF_ERR (if p then 1 else 0) ≠ Reg.QMG_ERR_QID := by
  cases p <;> decide

/-- A fault on a queue, reported: bit `b` of its instance's INST_ERR and bit `k` of QMG_ERR are set, HIF_ERR stays, the SQ rows and
the CQ rows in ERROR too, and of an instance that is no manager all commands. -/
theorem State.queueFault_spec (s : State) (i b k : Nat) (cq : Bool) (q : Nat) (cause : DmaCause) (sqid spec : Nat) (hb : b < 32)
    (hk : k < 32) :
    let t := ((s.instErr i b).qmgErr k cq q).queueAen i cause sqid spec
    t.sq = s.sq ∧ (∀ r, (s.cqRow r).error = true → t.cqRow r = s.cqRow r) ∧ bitOf (t.inst i).err.toNat b = true ∧
      bitOf (t.reg Reg.QMG_ERR).toNat k = true ∧ (s.isManager i = false → t.cmds = s.cmds) ∧
      ∀ p : Bool, t.reg (Reg.HIF_ERR (if p then 1 else 0)) = s.reg (Reg.HIF_ERR (if p then 1 else 0)) := by
  intro t
  let u := (s.instErr i b).qmgErr k cq q
  obtain ⟨r, hu⟩ : OnlyRegs (s.instErr i b) u := OnlyRegs.qmgErr _ _ _ _
  have ht : Reports u t := Reports.queueAen u i cause sqid spec
  have hreg : bitOf (u.reg Reg.QMG_ERR).toNat k = true := State.qmgErr_bit _ hk _ _
  have herr : bitOf (u.inst i).err.toNat b = true := by
    rw [hu]
    exact s.instErr_bit i hb
  have hcq (q : Nat) : u.cqRow q = s.cqRow q := by
    rw [hu]
    rfl
  refine ⟨?_, fun q hq => ?_, ht.err i b herr, ?_, fun hm => ?_, fun p => ?_⟩
  · rw [ht.sq, hu]
    rfl
  · rw [ht.cq q (by rw [hcq]; exact hq), hcq]
  · rw [ht.reg]
    exact hreg
  · have hmu : u.isManager i = false := by
      rw [hu]
      exact hm
    rw [show t = u from State.queueAen_of_not_manager hmu _ _ _, hu]
    rfl
  · rw [ht.reg]
    exact State.raiseAt_reg_other _ (HIF_ERR_ne p).1 (HIF_ERR_ne p).2

theorem causeBit_lt (cause : DmaCause) : causeBit cause < 32 := by
  cases cause <;> decide

/-- The HIF_ERR bit of a fault or of a timeout. -/
def faultBit (timeout : Bool) (cause : DmaCause) : Nat := if timeout then 4 else causeBit cause

theorem faultBit_lt (timeout : Bool) (cause : DmaCause) : faultBit timeout cause < 32 := by
  unfold faultBit
  split
  · decide
  · exact causeBit_lt cause

/-- A timeout is a fault with its own cause (R36). -/
theorem dmaFault_or_timeout (s : State) (timeout : Bool) (cause : DmaCause) (k : DmaKind) :
    exec (if timeout then .completionTimeout k else .dmaFault k cause) s =
      .next ((s.hifErr (s.faultPort k) (faultBit timeout cause)).dmaFault k (if timeout then .timeout else cause)) := by
  cases timeout <;> rfl

/-! ### The Drawer (R154) -/

theorem State.mapRaise_ftl (s : State) (b k : Nat) : (s.mapRaise b k).ftl = s.ftl := by
  have h : OnlyRegs s (s.mapRaise b k) := OnlyRegs.raiseAt s _ _ _ _
  rw [h.eq]

theorem State.badSlot_spec (s : State) (k : Nat) {n : Nat} (h : (s.seg k).slot = some n) :
    n ∈ (s.badSlot k).ftl.drawer.bad ∧ (s.badSlot k).ftl.span = s.ftl.span ∧
      (bitOf (s.reg Reg.FTL_MAP_ERR).toNat 5 = true → bitOf ((s.badSlot k).reg Reg.FTL_MAP_ERR).toNat 5 = true) := by
  have hbad : n ∈ (s.ftl.drawer.bad ++ [n]).dedup := by simp
  unfold State.badSlot
  simp only [h]
  split
  · exact ⟨hbad, rfl, id⟩
  · rw [State.mapRaise_ftl]
    exact ⟨hbad, rfl, fun h5 => State.reg_raiseAt_kept _ h5 (by decide +kernel) (by decide)⟩

theorem State.drawerFault_spec (s : State) (k : Nat) {n : Nat} (h : (s.seg k).slot = some n) :
    n ∈ (s.drawerFault k).ftl.drawer.bad ∧ (s.drawerFault k).ftl.span = s.ftl.span ∧
      bitOf ((s.drawerFault k).reg Reg.FTL_MAP_ERR).toNat 5 = true := by
  let u := (if (s.seg k).out.isSome then s else s.bump Reg.FTL_DRW_READS).bump Reg.FTL_DRW_SEALFAIL
  have hu : OnlyRegs s (u.mapRaise 5 k) :=
    ((OnlyRegs.ite (.refl s) (.bump s _)).trans (.bump _ _)).trans (.raiseAt _ _ _ _ _)
  have hseg : ((u.mapRaise 5 k).seg k).slot = some n := by
    rw [hu.eq]
    exact h
  obtain ⟨hbad, hspan, hbit⟩ := (u.mapRaise 5 k).badSlot_spec k hseg
  refine ⟨hbad, hspan.trans ?_, hbit (u.reg_raiseAt_bit _ _ _ _ (by decide) (by decide +kernel) (by decide))⟩
  rw [hu.eq]

/-! ### Commands whose data faults -/

/-- A pipeline that has written nothing to a peer ends with the status, and it is gone. -/
theorem State.failRun_ended {s u : State} {tag : Nat} {c : Cmd} (h : Answerable s tag c) (hu : OnlyRegs s u)
    (hr : ∀ r, s.run? tag = some r → r.rbytes = 0 ∨ r.pipe.target ≠ 2) {st : Status} (hst : st ≠ .unrecoveredRead) (dw0 dw1 : Nat) :
    Ended s c st dw0 dw1 [] (u.failRun c st dw0 dw1) ∧ (u.failRun c st dw0 dw1).run? tag = none := by
  obtain rfl : c.tag = tag := State.cmd?_tag h.1
  obtain ⟨g, rfl⟩ := hu
  let u : State := { s with regs := g }
  have hconfirm : u.confirmRun c = u := by
    have hrun : u.run? c.tag = s.run? c.tag := rfl
    unfold State.confirmRun
    rw [hrun]
    cases hc : s.run? c.tag with
    | none => rfl
    | some r =>
      rcases hr r hc with h0 | h2
      · exact if_pos h0
      · exact (ite_eq_left_iff.2 fun _ => if_neg h2)
  have hfail : u.failRun c st dw0 dw1 = (u.dropRun c.tag).post c st dw0 dw1 none := by rw [State.failRun, hconfirm]
  obtain ⟨hend, heq⟩ := State.post_answered (s' := u.dropRun c.tag) (w := []) st dw0 dw1 h rfl rfl rfl rfl h.2.2.2.2.2.2
    (List.append_nil _).symm h.2.2.2.1
  rw [if_neg hst] at heq
  have hgone : (u.dropRun c.tag).run? c.tag = none := by simp [State.run?, State.dropRun]
  rw [hfail]
  refine ⟨hend, ?_⟩
  rw [heq]
  exact hgone

/-- A command without a pipeline and without a shard job is suppressed by nothing that goes out. -/
theorem State.suppress_idle {s : State} {c : Cmd} (hr : s.run? c.tag = none) (hj : ∀ j ∈ s.shd, j.tag ≠ c.tag) :
    ∃ r x y, s.suppress c = { s with runs := r, strands := x, shd := y } := by
  have hjobs : s.shd.filter (fun j => decide (j.tag = c.tag) && decide (0 < j.issued)) = [] :=
    List.filter_eq_nil_iff.2 fun j hj' => by simp [hj j hj']
  unfold State.suppress State.confirmRun
  rw [hr, hjobs]
  exact ⟨_, _, _, rfl⟩

/-- An admin command under way whose data faults ends with Data Transfer Error. -/
theorem State.dataFault_ended {s u : State} {tag : Nat} {c : Cmd} (h : Answerable s tag c) (hu : OnlyRegs s u) (ha : c.admin = true)
    (hp : c.phase = .active) (ho : c.opcode ∉ [0x01, 0x81, 0x8D]) (hr : s.run? tag = none) (hj : ∀ j ∈ s.shd, j.tag ≠ tag) :
    Ended s c .dataTransfer 0 0 [] (u.dataFault tag) ∧ ∀ o, (u.dataFault tag).reg o = u.reg o := by
  obtain rfl : c.tag = tag := State.cmd?_tag h.1
  obtain ⟨g, rfl⟩ := hu
  let u : State := { s with regs := g }
  have hgot (v : State) : v.gotAll c = false := by
    simp only [State.gotAll, hp, reduceCtorEq, decide_false, Bool.false_or, Bool.and_eq_false_iff]
    exact .inl (.inr (by simpa using ho))
  obtain ⟨r, x, y, hsup⟩ := State.suppress_idle (s := u) hr hj
  have hblock : (u.suppress c).unblock c = u.suppress c := if_neg (by rw [hp]; decide)
  have hfault : u.dataFault c.tag = ((u.suppress c).untake c.tag).err c .dataTransfer := by
    have hc : u.cmd? c.tag = some c := h.1
    simp only [State.dataFault, hc, hgot, State.endEarly, ha, hblock, Bool.not_true, Bool.false_and, Bool.false_eq_true, if_false]
  rw [hsup] at hfault
  obtain ⟨hend, heq⟩ := State.post_answered (s' := State.untake { u with runs := r, strands := x, shd := y } c.tag) (w := [])
    .dataTransfer 0 0 h rfl rfl rfl rfl h.2.2.2.2.2.2 (List.append_nil _).symm h.2.2.2.1
  rw [if_neg (by decide)] at heq
  show Ended s c .dataTransfer 0 0 [] (u.dataFault c.tag) ∧ ∀ o, (u.dataFault c.tag).reg o = u.reg o
  rw [hfault]
  refine ⟨hend, fun o => ?_⟩
  rw [State.err, heq]
  rfl

/-! ### The obligation -/

/-- Settles O29: the link by one lemma per row, the faults by the request that faults, each after its bit of HIF_ERR. -/
theorem queLink : Obligations.QueLink := by
  unfold Obligations.QueLink
  refine ⟨?link, fun s p a n m src r w h => noPort_next h a n m src r w, ?faults⟩
  case link =>
    intro s p h k sets
    refine ⟨linkTrained_spec h, linkPartnerRetrain_spec h, fun src => linkRetrain_allowed h, fun q hq ho => ?_, ?_, ?_, fun replay => ?_,
      atsInvalidateRequest_spec h, fun r w hids => configurationRequest_retried h hids r w, fun hids => ⟨fun r => ?_, fun r v => ?_⟩⟩
    · exact ⟨_, linkRetrain_refused h hq ho, (OnlyRegs.hifErr s q 7).eq, s.hifErr_bit q (by decide)⟩
    · exact ⟨_, linkDown_spec h, ((OnlyRegs.hifErr _ p 9).port p).trans (s.setPort_port p _), State.hifErr_bit _ p (by decide)⟩
    · exact ⟨_, ecrcError_spec h, (OnlyRegs.hifErr s p 8).eq, s.hifErr_bit p (by decide)⟩
    · refine ⟨_, receiverError_spec h replay, (OnlyRegs.ite (.count s _ _ _ _) (.count s _ _ _ _)).eq, ?_⟩
      obtain ⟨h1, h2, h3, h4⟩ := s.errCnt_halves (regReset_HIF_ERR_CNT p)
      have hi := bits_lt (s.reg (Reg.HIF_ERR_CNT (b2n p))).toNat 31 16
      have lo := bits_lt (s.reg (Reg.HIF_ERR_CNT (b2n p))).toNat 15 0
      cases replay
      · exact ⟨h4.trans (Nat.min_eq_left (Nat.le_of_lt_succ hi)).symm, h3⟩
      · exact ⟨h1, h2.trans (Nat.min_eq_left (Nat.le_of_lt_succ lo)).symm⟩
    · exact ⟨_, configurationRequest_read h hids r, s.cfgRead_spec p r⟩
    · exact ⟨_, configurationRequest_write h hids r v, s.cfgWrite_spec p r v⟩
  case faults =>
    intro s row cause timeout run bit
    let cause' : DmaCause := if timeout then .timeout else cause
    have hrun (k : DmaKind) : run k = .next ((s.hifErr (s.faultPort k) bit).dmaFault k cause') := dmaFault_or_timeout s timeout cause k
    have hbit : bit < 32 := faultBit_lt timeout cause
    have hregs (p : Bool) : OnlyRegs s (s.hifErr p bit) := OnlyRegs.hifErr s p bit
    have hhif (p : Bool) : bitOf ((s.hifErr p bit).reg (Reg.HIF_ERR (if p then 1 else 0))).toNat bit = true := s.hifErr_bit p hbit
    refine ⟨?_, ?_, fun p => ?_, fun i => ?_, fun k n hslot => ?_, fun tag c n h hr => ?_, fun tag c h ha hp ho hr hj => ?_⟩
    · intro i
      let r : SqRow := { s.sqRow row with error := true }
      let u := (s.hifErr (s.portOf i) bit).setSq row r
      obtain ⟨hsq, -, herr, hqmg, hcmds, hreg⟩ := u.queueFault_spec i 3 0 false row cause' row 0 (by decide) (by decide)
      have hrow : u.sqRow row = r := State.sqRow_setSq _ row (SqRow.ne_default (.inr (.inl rfl)))
      refine ⟨_, hrun (.fetch row), ?_, herr, hqmg, hcmds, (congrArg (fun v : DWord => bitOf v.toNat bit) (hreg (s.portOf i))).trans
        (hhif (s.portOf i))⟩
      exact (congrArg (fun l => Sparse.get (fun _ => ({} : SqRow)) l row) hsq).trans hrow
    · intro i
      let r : CqRow := { s.cqRow row with error := true }
      let u := (s.hifErr (s.portOf i) bit).setCq row r
      obtain ⟨-, hcq, herr, hqmg, hcmds, hreg⟩ := u.queueFault_spec i 4 1 true row cause' 0xFFFF row (by decide) (by decide)
      have hrow : u.cqRow row = r := State.cqRow_setCq _ row (CqRow.ne_default (.inr rfl))
      refine ⟨_, hrun (.entry row), ?_, herr, hqmg, hcmds, (congrArg (fun v : DWord => bitOf v.toNat bit) (hreg (s.portOf i))).trans
        (hhif (s.portOf i))⟩
      exact (hcq row (congrArg CqRow.error hrow)).trans hrow
    · exact ⟨_, hrun (.message p), (hregs p).eq, hhif p⟩
    · refine ⟨_, hrun (.bitmap i), ?_⟩
      let u := s.hifErr (s.portOf i) bit
      have hfault : u.dmaFault (.bitmap i) cause' = if (s.inst i).dlog.running then
        u.setInst i { s.inst i with dlog := { (s.inst i).dlog with fault := true, pend := [] } } else u := rfl
      show bitOf ((u.dmaFault (.bitmap i) cause').reg _).toNat bit = true ∧
        (_ → (u.dmaFault (.bitmap i) cause').inst i = _) ∧ (_ → (u.dmaFault (.bitmap i) cause').insts = _)
      rw [hfault]
      cases hd : (s.inst i).dlog.running
      · exact ⟨hhif (s.portOf i), fun h => absurd h (by decide), fun _ => rfl⟩
      · refine ⟨hhif (s.portOf i), fun _ => State.inst_setInst_put u i ?_, fun h => absurd h (by decide)⟩
        intro h0
        have hr : (s.inst i).dlog.running = false := congrArg (fun v : Inst => v.dlog.running) h0
        rw [hd] at hr
        cases hr
    · obtain ⟨hbad, hspan, h5⟩ := (s.hifErr s.ownerPort bit).drawerFault_spec k hslot
      exact ⟨_, hrun (.drawer k), hbad, hspan, h5⟩
    · have hc : (s.hifErr (s.faultPort (.sink tag n)) bit).cmd? tag = some c := h.1
      obtain ⟨hend, hgone⟩ := State.failRun_ended h (hregs (s.faultPort (.sink tag n))) hr (st := .peerFailed) (by decide) 0 n
      refine ⟨_, (hrun (.sink tag n)).trans (congrArg _ ?_), hend, hgone⟩
      simp only [State.dmaFault, hc]
    · have hport : s.faultPort (.data tag) = c.port := by
        simp only [State.faultPort, h.1]
      obtain ⟨hend, hreg⟩ := State.dataFault_ended h (hregs c.port) ha hp ho hr hj
      refine ⟨_, (hrun (.data tag)).trans ?_, hend, ?_⟩
      · rw [hport]
        rfl
      · rw [hreg]
        exact hhif c.port

end Sys2Proof.Machine
end

section
/-!
PROOF. The shard engine (R67, R82, R99, R263 to R269, R373): commands that queue a job, a job's writes, and how a job leaves.
-/

open Sys2Proof Sys2Proof.Machine

namespace Sys2Proof.Machine

/-! ### How a job leaves -/

/-- Zero-length reads of a port whose link is up go out in their order. -/
theorem State.foldl_zeroRead (p : Bool) : ∀ (l : List Nat) (s : State), Linked s →
    l.foldl (fun t a => t.send p (.zeroRead p none a)) s = { s with out := s.out ++ l.map (.zeroRead p none) }
  | [], s, _ => by simp
  | a :: l, s, h => by
    rw [List.foldl_cons, State.send_linked h, State.foldl_zeroRead p l (s.emit (.zeroRead p none a)) h]
    simp [State.emit]

theorem State.shardConfirm_linked {s : State} (h : Linked s) (j : ShardJob) :
    s.shardConfirm j = { s with out := s.out ++ j.peerReads s } := by
  unfold State.shardConfirm ShardJob.peerReads
  split
  · exact State.foldl_zeroRead _ _ s h
  · simp only [List.append_nil]

theorem ShardJob.told_peerReads (j : ShardJob) (s : State) : told (j.peerReads s) = j.peerReads s := by
  unfold ShardJob.peerReads
  split
  · simp [told, List.filter_map, Function.comp_def]
  · rfl

/-- What the end of a job does for its command: one of its own completes, a PIPE_WRITE keeps the failure for its own end (R268). -/
def State.shardEnd (s : State) (j : ShardJob) (st : Status) (dw0 dw1 : Nat) (fail : Option (Status × Nat × Nat)) : State :=
  match s.cmd? j.tag with
  | none => s
  | some c =>
    if j.fromPipe then s.setCmd { c with shards := 0, fail := c.fail.orElse (fun _ => fail) }
    else s.post c st dw0 dw1 none

theorem State.shardDone_eq (s : State) (j : ShardJob) :
    s.shardDone j = (((s.shardConfirm j).dropShard j.tag).bump Reg.SHD_JOB_CNT).shardEnd j .success
      (if j.rebuild then 0 else padOf j.data.length j.k j.unit) j.targets.length none := by
  have hfail : ∀ o : Option (Status × Nat × Nat), o.orElse (fun _ => none) = o := fun o => by cases o <;> rfl
  simp only [State.shardDone, State.shardEnd, hfail] <;> rfl

/-- The engine after a job has failed, before its command hears of it. -/
def State.shardFailed (s : State) (j : ShardJob) (i : Nat) (f : ShardFault) : State :=
  (((((s.shardConfirm j).dropShard j.tag).raiseAt Reg.SHD_ERR f.bit Reg.SHD_ERR_LOC
    (f.bit * 2 ^ 28 + i * 2 ^ 22 + (if (j.dest i).kind = 3 then (j.dest i).peer else 0) * 2 ^ 10 + j.inst)).bump Reg.SHD_JOB_CNT).bump
      Reg.SHD_FAIL_CNT).tick

theorem State.shardFail_eq (s : State) (j : ShardJob) (i : Nat) (f : ShardFault) :
    s.shardFail j i f = (s.shardFailed j i f).shardEnd j .peerFailed i (s.shardDw1 (j.dest i))
      (some (.peerFailed, i, s.shardDw1 (j.dest i))) := by
  unfold State.shardFail State.shardEnd
  rfl

/-- What a job's command hears leaves the engine and the registers. -/
theorem State.shardEnd_rest (s : State) (j : ShardJob) {st : Status} (hst : st ≠ .unrecoveredRead) (dw0 dw1 : Nat)
    (fail : Option (Status × Nat × Nat)) :
    (s.shardEnd j st dw0 dw1 fail).shd = s.shd ∧ (s.shardEnd j st dw0 dw1 fail).regs = s.regs := by
  unfold State.shardEnd
  split
  · exact ⟨rfl, rfl⟩
  · next c _ =>
    split
    · exact ⟨rfl, rfl⟩
    · obtain ⟨_, _, _, _, _, h⟩ := (s.post_completes c dw0 dw1 none hst).rest
      rw [h]
      exact ⟨rfl, rfl⟩

/-- From a state in which the peers' reads are out and the job has left, its command hears of the end. -/
theorem State.shardEnd_leaves {s v : State} {j : ShardJob} {st : Status} (hst : st ≠ .unrecoveredRead) (dw0 dw1 : Nat)
    (fail : Option (Status × Nat × Nat)) (hout : v.out = s.out ++ j.peerReads s)
    (hv : ∃ o g f n d, v = { s with out := o, regs := g, free := f, insts := n, shd := d })
    (hgen : ∀ i, (v.inst i).gen = (s.inst i).gen) (hshd : ∀ x ∈ v.shd, x.tag ≠ j.tag) :
    ShardLeaves s j st dw0 dw1 fail (v.shardEnd j st dw0 dw1 fail) := by
  obtain ⟨o, g, f, n, d, rfl⟩ := hv
  let v : State := { s with out := o, regs := g, free := f, insts := n, shd := d }
  have hcmd : v.cmd? j.tag = s.cmd? j.tag := rfl
  refine ⟨?_, fun hnone => ?_, fun c h => ?_⟩
  · rw [(State.shardEnd_rest v j hst dw0 dw1 fail).1]
    exact hshd
  · have hend : v.shardEnd j st dw0 dw1 fail = v := by
      simp only [State.shardEnd, hcmd, hnone]
    rw [hend]
    exact ⟨hout, rfl⟩
  · obtain htag : c.tag = j.tag := State.cmd?_tag h.1
    cases hp : j.fromPipe
    · have hend : v.shardEnd j st dw0 dw1 fail = v.post c st dw0 dw1 none := by
        simp only [State.shardEnd, hcmd, h.1, hp, Bool.false_eq_true, if_false]
      have halive : v.alive c.inst c.gen = true := by
        rw [State.alive, hgen]
        exact h.2.2.2.1
      rw [hend]
      refine (State.post_answered (s' := v) st dw0 dw1 h rfl rfl rfl rfl h.2.2.2.2.2.2 ?_ halive).1
      show told o = _
      rw [show o = s.out ++ j.peerReads s from hout, told_append, ShardJob.told_peerReads]
    · have hend : v.shardEnd j st dw0 dw1 fail = v.setCmd { c with shards := 0, fail := c.fail.orElse (fun _ => fail) } := by
        simp only [State.shardEnd, hcmd, h.1, hp, if_true]
      rw [hend, ← htag]
      exact ⟨hout, rfl⟩

theorem State.dropShard_tags (s : State) (tag : Nat) : ∀ x ∈ (s.dropShard tag).shd, x.tag ≠ tag := fun x hx => by
  simpa using (List.mem_filter.1 hx).2

theorem State.shardDone_leaves {s : State} (h : Linked s) (j : ShardJob) :
    ShardLeaves s j .success (if j.rebuild then 0 else padOf j.data.length j.k j.unit) j.targets.length none (s.shardDone j) := by
  rw [State.shardDone_eq]
  have hregs : OnlyRegs ((s.shardConfirm j).dropShard j.tag) (((s.shardConfirm j).dropShard j.tag).bump Reg.SHD_JOB_CNT) := .bump _ _
  have htags := (s.shardConfirm j).dropShard_tags j.tag
  rw [State.shardConfirm_linked h] at hregs htags ⊢
  obtain ⟨g, hg⟩ := hregs
  refine State.shardEnd_leaves (by decide) _ _ none ?_ ?_ ?_ ?_
  · rw [hg]
    rfl
  · rw [hg]
    exact ⟨_, g, s.free, s.insts, _, rfl⟩
  · rw [hg]
    exact fun _ => rfl
  · rw [hg]
    exact htags

/-- A job that fails from a state in which of `s` only a bit of INST_ERR has moved. -/
theorem State.shardFail_leaves {s u : State} (h : Linked s) (hu : ∃ n, u = { s with insts := n })
    (hgen : ∀ i, (u.inst i).gen = (s.inst i).gen) (j : ShardJob) (i : Nat) (f : ShardFault) :
    ShardLeaves s j .peerFailed i (s.shardDw1 (j.dest i)) (some (.peerFailed, i, s.shardDw1 (j.dest i))) (u.shardFail j i f) := by
  obtain ⟨n, rfl⟩ := hu
  let u : State := { s with insts := n }
  have hdw : u.shardDw1 (j.dest i) = s.shardDw1 (j.dest i) := rfl
  have hreads : j.peerReads u = j.peerReads s := by
    have halive : u.jobAlive j = s.jobAlive j := by
      simp only [State.jobAlive, State.alive]
      rw [hgen]
    unfold ShardJob.peerReads
    rw [halive]
    rfl
  have htags := (u.shardConfirm j).dropShard_tags j.tag
  let w := (u.shardConfirm j).dropShard j.tag
  obtain ⟨g, hg⟩ : OnlyRegs w (((w.raiseAt Reg.SHD_ERR f.bit Reg.SHD_ERR_LOC
      (f.bit * 2 ^ 28 + i * 2 ^ 22 + (if (j.dest i).kind = 3 then (j.dest i).peer else 0) * 2 ^ 10 + j.inst)).bump Reg.SHD_JOB_CNT).bump
      Reg.SHD_FAIL_CNT) := ((OnlyRegs.raiseAt w _ _ _ _).trans (.bump _ _)).trans (.bump _ _)
  have hfailed : u.shardFailed j i f = State.tick { w with regs := g } := congrArg State.tick hg
  have hw : w = State.dropShard { u with out := s.out ++ j.peerReads s } j.tag := by
    rw [← hreads]
    exact congrArg (State.dropShard · j.tag) (State.shardConfirm_linked (s := u) h j)
  rw [State.shardFail_eq, hfailed, ← hdw, hw]
  exact State.shardEnd_leaves (by decide) _ _ _ rfl ⟨_, g, s.free + 1, n, _, rfl⟩ hgen (hw ▸ htags)

end Sys2Proof.Machine
end

section
/-!
PROOF. The shard engine's jobs: one write, the writes one behind another, the start and the timeout (R263 to R269).
-/

open Sys2Proof Sys2Proof.Machine

namespace Sys2Proof.Machine

/-! ### One write of a job -/

theorem State.fenced_linked {s : State} (h : Linked s) (i : Nat) : Linked (s.fenced i) := by
  obtain ⟨hA, hB⟩ := h
  obtain ⟨hf, -⟩ := s.fenced_at i
  exact ⟨hf.portA ▸ hA, hf.portB ▸ hB⟩

theorem State.dmaWrite_linked {s : State} (h : Linked s) (i g a : Nat) (d : List Byte) (ro : Bool) : Linked (s.dmaWrite i g a d ro) := by
  unfold State.dmaWrite
  split
  · exact h
  · split
    · have hd : Linked (s.dirty i a d.length) := (Logs.dirty s h i a d.length).linked h
      rw [State.send_linked hd]
      exact hd
    · exact State.fenced_linked h i

theorem State.peerWrite_linked {s u : State} (h : Linked s) {p : Bool} {i g n off : Nat} {d : List Byte}
    (hw : s.peerWrite p i g n off d = some u) : Linked u := by
  simp only [State.peerWrite] at hw
  split at hw
  · cases hw
  · split at hw
    · cases hw
      exact h
    · split at hw
      · cases hw
        rw [State.send_linked h]
        exact h
      · cases hw
        exact State.fenced_linked h i

/-- The links stay up through a write of a job. -/
theorem State.shardWrite_linked {s u : State} (h : Linked s) {j : ShardJob} {w : Nat × Nat × List Byte}
    (hw : s.shardWrite j w = some u) : Linked u := by
  have hdead : ∀ v, some (if s.alive j.inst j.gen then s else s.fenced j.inst) = some v → Linked v := by
    intro v hv
    obtain rfl := Option.some.inj hv
    split
    · exact h
    · exact State.fenced_linked h _
  simp only [State.shardWrite] at hw
  split at hw
  · split at hw
    · exact State.peerWrite_linked h hw
    · exact hdead u hw
  · split at hw
    · exact hdead u hw
    · split at hw
      · split at hw
        · obtain ⟨d, hd⟩ := s.slmWrite_eq (j.dest w.1).nsid ((j.dest w.1).addr + w.2.1) w.2.2
          obtain rfl := Option.some.inj hw
          rw [hd]
          exact h
        · cases hw
      · obtain rfl := Option.some.inj hw
        exact State.dmaWrite_linked h _ _ _ _ _

section
variable {s : State} {j : ShardJob} {w : Nat × Nat × List Byte}

/-- A job that may write nothing more writes nothing (R74, R104). -/
theorem State.shardWrite_suppressed (ha : s.alive j.inst j.gen = true) (hj : s.jobAlive j = false) : s.shardWrite j w = some s := by
  unfold State.shardWrite
  simp [hj, ha]

theorem State.alive_of_jobAlive (hj : s.jobAlive j = true) : s.alive j.inst j.gen = true := by
  rw [State.jobAlive, Bool.and_eq_true] at hj
  exact hj.2

theorem State.shardWrite_host (h : Linked s) (hw : w.2.2 ≠ []) (hj : s.jobAlive j = true) (hk : (j.dest w.1).kind = 1) :
    ∃ u, s.shardWrite j w = some u ∧ told u.out = told s.out ++
      [.write (s.portOf j.inst) (if s.isManager j.inst then none else (s.inst j.inst).pasid) ((j.dest w.1).addr + w.2.1) w.2.2
        (s.port j.port).relaxed (s.port (s.portOf j.inst)).cfg.ido] := by
  have hwrite : s.shardWrite j w = some (s.dmaWrite j.inst j.gen ((j.dest w.1).addr + w.2.1) w.2.2 (s.port j.port).relaxed) := by
    unfold State.shardWrite
    simp [hk, hj]
  refine ⟨_, hwrite, ?_⟩
  rw [s.dmaWrite_alive _ _ _ _ _ h (State.alive_of_jobAlive hj) (by simpa using hw)]
  show told ((s.dirty _ _ _).out ++ [_]) = _
  rw [told_append, (Logs.dirty s h j.inst _ _).2.1]
  rfl

theorem State.shardWrite_slm (hj : s.jobAlive j = true) (hk : (j.dest w.1).kind = 2) : s.shardWrite j w =
    if s.slmPlaced then some (s.slmWrite (j.dest w.1).nsid ((j.dest w.1).addr + w.2.1) w.2.2) else none := by
  unfold State.shardWrite
  simp [hk, hj]

theorem State.shardWrite_peer (h : Linked s) (hw : w.2.2 ≠ []) (hj : s.jobAlive j = true) (hk : (j.dest w.1).kind = 3) :
    let e := s.peerEntry j.port (j.dest w.1).peer
    s.shardWrite j w = if s.peerOk j.port j.inst (j.dest w.1).peer (e.base + ((j.dest w.1).addr + w.2.1)) w.2.2.length then
      some (s.emit (.peer j.port (e.base + ((j.dest w.1).addr + w.2.1)) w.2.2 e.relaxed e.atTranslated)) else none := by
  intro e
  have hempty : ¬ w.2.2.isEmpty = true := by simpa using hw
  have hwrite : s.shardWrite j w = s.peerWrite j.port j.inst j.gen (j.dest w.1).peer ((j.dest w.1).addr + w.2.1) w.2.2 := by
    unfold State.shardWrite
    simp [hk, hj]
  rw [hwrite, State.peerWrite, if_neg hempty, if_pos (State.alive_of_jobAlive hj), State.send_linked h]
  cases s.peerOk j.port j.inst (j.dest w.1).peer (e.base + ((j.dest w.1).addr + w.2.1)) w.2.2.length <;> rfl

end

/-! ### Writes one behind another -/

/-- One write of a job, counted where it is not refused. -/
def State.shardSend (j : ShardJob) (s : State) (w : Nat × Nat × List Byte) : Option State :=
  (s.shardWrite j w).map (fun v => v.bump64 Reg.SHD_OUT_LO w.2.2.length)

theorem State.bump64_linked {s : State} (h : Linked s) (lo n : Nat) : Linked (s.bump64 lo n) := by
  obtain ⟨r, hr⟩ := OnlyRegs.bump64 s lo n
  rw [hr]
  exact h

theorem State.shardSend_some {s v : State} {j : ShardJob} {w : Nat × Nat × List Byte} (h : s.shardSend j w = some v) :
    ∃ u, s.shardWrite j w = some u ∧ u.bump64 Reg.SHD_OUT_LO w.2.2.length = v := Option.map_eq_some_iff.1 h

theorem State.shardSends_linked (j : ShardJob) : ∀ (l : List (Nat × Nat × List Byte)) {s u : State}, Linked s →
    l.foldlM (State.shardSend j) s = some u → Linked u
  | [], s, u, h, hu => by
    obtain rfl := Option.some.inj hu
    exact h
  | w :: l, s, u, h, hu => by
    rw [List.foldlM_cons, Option.bind_eq_bind, Option.bind_eq_some_iff] at hu
    obtain ⟨v, hv, hu⟩ := hu
    obtain ⟨x, hx, rfl⟩ := State.shardSend_some hv
    exact State.shardSends_linked j l (State.bump64_linked (State.shardWrite_linked h hx) _ _) hu

/-- The engine issues the first `n` writes while none is refused. -/
theorem State.shardIssue_sends (j : ShardJob) : ∀ (l : List (Nat × Nat × List Byte)) (n : Nat) {s u : State},
    (l.take n).foldlM (State.shardSend j) s = some u → s.shardIssue j n l = (u, true)
  | [], n, s, u, hu => by
    rw [List.take_nil] at hu
    obtain rfl := Option.some.inj hu
    cases n <;> rfl
  | w :: l, 0, s, u, hu => by
    obtain rfl := Option.some.inj hu
    rfl
  | w :: l, n + 1, s, u, hu => by
    rw [List.take_succ_cons, List.foldlM_cons, Option.bind_eq_bind, Option.bind_eq_some_iff] at hu
    obtain ⟨v, hv, hu⟩ := hu
    obtain ⟨x, hx, rfl⟩ := State.shardSend_some hv
    rw [State.shardIssue, hx]
    exact State.shardIssue_sends j l n hu

/-- The first write that is refused ends the job (R82, R267). -/
theorem State.shardIssue_refused (j : ShardJob) {w : Nat × Nat × List Byte} (post : List (Nat × Nat × List Byte)) :
    ∀ (pre : List (Nat × Nat × List Byte)) (n : Nat) {s u : State}, pre.length < n → pre.foldlM (State.shardSend j) s = some u →
      u.shardWrite j w = none → s.shardIssue j n (pre ++ w :: post) =
        (if (j.dest w.1).kind = 3 then (u.instErr j.inst 13).shardFail j w.1 .peer else u.shardFail j w.1 .memory, false)
  | [], 0, _, _, hn, _, _ => absurd hn (Nat.not_lt_zero _)
  | [], n + 1, s, u, _, hu, hw => by
    obtain rfl := Option.some.inj hu
    rw [List.nil_append, State.shardIssue, hw]
    simp only []
    split <;> rfl
  | x :: pre, 0, _, _, hn, _, _ => absurd hn (Nat.not_lt_zero _)
  | x :: pre, n + 1, s, u, hn, hu, hw => by
    rw [List.foldlM_cons, Option.bind_eq_bind, Option.bind_eq_some_iff] at hu
    obtain ⟨v, hv, hu⟩ := hu
    obtain ⟨y, hy, rfl⟩ := State.shardSend_some hv
    rw [List.cons_append, State.shardIssue, hy]
    exact State.shardIssue_refused j post pre n (Nat.lt_of_succ_lt_succ hn) hu hw

/-! ### The start and the timeout of a job -/

/-- Bytes that a job takes in. -/
def ShardJob.bytesIn (j : ShardJob) : Nat := if j.rebuild then j.k * j.shlen else j.data.length

theorem shardJobStart_idle {s : State} (h : s.shd = [] ∨ ∃ j ∈ s.shd, j.started = true) (stall : Option Nat) :
    exec (.shardJobStart stall) s = .next s := by
  show execShardJobStart stall s = _
  unfold execShardJobStart
  rcases h with h | ⟨j, hj, hs⟩
  · simp [h]
  · cases hf : s.shd.find? (fun j => j.started) with
    | none => exact absurd hs (List.find?_eq_none.1 hf j hj)
    | some x => rfl

section
variable {s : State} {j : ShardJob} {rest : List ShardJob} (hs : s.shd = j :: rest) (hn : ∀ x ∈ s.shd, x.started = false)
include hs hn

theorem shardJobStart_first (stall : Option Nat) : exec (.shardJobStart stall) s = .next (
    let a := (s.bump64 Reg.SHD_IN_LO j.bytesIn).shardIssue j (stall.getD j.writes.length) j.writes
    if !a.2 then a.1
    else match stall with
      | none => a.1.shardDone j
      | some m => { a.1 with
          shd := a.1.shd.map (fun x => if x.tag = j.tag then { x with started := true, issued := min m j.writes.length } else x) }) := by
  have hf : s.shd.find? (fun j => j.started) = none := List.find?_eq_none.2 fun x hx => by simp [hn x hx]
  show execShardJobStart stall s = _
  unfold execShardJobStart
  rw [hf, hs]
  rfl

theorem shardJobStart_done (hl : Linked s) {u : State} (hu : j.writes.foldlM (State.shardSend j) (s.bump64 Reg.SHD_IN_LO j.bytesIn) = some u) :
    ∃ t, exec (.shardJobStart none) s = .next t ∧
      ShardLeaves u j .success (if j.rebuild then 0 else padOf j.data.length j.k j.unit) j.targets.length none t := by
  have hissue := State.shardIssue_sends j j.writes j.writes.length (s := s.bump64 Reg.SHD_IN_LO j.bytesIn) (u := u)
    (by rw [List.take_length]; exact hu)
  refine ⟨u.shardDone j, (shardJobStart_first hs hn none).trans ?_,
    State.shardDone_leaves (State.shardSends_linked j _ (State.bump64_linked hl _ _) hu) j⟩
  rw [Option.getD_none, hissue]
  rfl

theorem shardJobStart_held {m : Nat} {u : State}
    (hu : (j.writes.take m).foldlM (State.shardSend j) (s.bump64 Reg.SHD_IN_LO j.bytesIn) = some u) :
    exec (.shardJobStart (some m)) s = .next { u with
      shd := u.shd.map (fun x => if x.tag = j.tag then { x with started := true, issued := min m j.writes.length } else x) } := by
  refine (shardJobStart_first hs hn (some m)).trans ?_
  rw [Option.getD_some, State.shardIssue_sends j j.writes m hu]
  rfl

theorem shardJobStart_refused (hl : Linked s) {stall : Option Nat} {pre post : List (Nat × Nat × List Byte)} {w : Nat × Nat × List Byte}
    {u : State} (hw : j.writes = pre ++ w :: post) (hlen : pre.length < stall.getD j.writes.length)
    (hu : pre.foldlM (State.shardSend j) (s.bump64 Reg.SHD_IN_LO j.bytesIn) = some u) (hnone : u.shardWrite j w = none) :
    ∃ t, exec (.shardJobStart stall) s = .next t ∧
      ShardLeaves u j .peerFailed w.1 (u.shardDw1 (j.dest w.1)) (some (.peerFailed, w.1, u.shardDw1 (j.dest w.1))) t := by
  have hissue := State.shardIssue_refused j post pre _ hlen hu hnone
  rw [← hw] at hissue
  have hul : Linked u := State.shardSends_linked j _ (State.bump64_linked hl _ _) hu
  refine ⟨if (j.dest w.1).kind = 3 then (u.instErr j.inst 13).shardFail j w.1 .peer else u.shardFail j w.1 .memory,
    (shardJobStart_first hs hn stall).trans ?_, ?_⟩
  · rw [hissue]
    rfl
  · split
    · have hgen : ∀ i, ((u.instErr j.inst 13).inst i).gen = (u.inst i).gen := fun i => by
        obtain ⟨d, e, he⟩ := (Logs.instErr u j.inst 13 (by decide)).2.2 i
        rw [he]
      exact State.shardFail_leaves hul ⟨_, rfl⟩ hgen j w.1 .peer
    · exact State.shardFail_leaves hul ⟨u.insts, rfl⟩ (fun _ => rfl) j w.1 .memory

end

theorem shardJobTimeout_idle {s : State} (h : ∀ j ∈ s.shd, j.started = false) : exec .shardJobTimeout s = .next s := by
  have hf : s.shd.find? (fun j => j.started) = none := List.find?_eq_none.2 fun x hx => by simp [h x hx]
  show execShardJobTimeout s = _
  unfold execShardJobTimeout
  rw [hf]

theorem State.bump_reg_other (s : State) {o r : Nat} (h : o ≠ r) : (s.bump r).reg o = s.reg o := State.reg_setReg_other s _ h

theorem State.tick_reg (s : State) (o : Nat) : s.tick.reg o = s.reg o := rfl

/-- SHD_ERR reads the bit of the fault that ended a job. -/
theorem State.shardFail_bit (s : State) (j : ShardJob) (i : Nat) (f : ShardFault) :
    bitOf ((s.shardFail j i f).reg Reg.SHD_ERR).toNat f.bit = true := by
  have hb : f.bit < 32 := by cases f <;> decide
  have hreg : ∀ v : State, v.regs = (s.shardFailed j i f).regs → v.reg Reg.SHD_ERR = (s.shardFailed j i f).reg Reg.SHD_ERR :=
    fun v hv => by rw [State.reg, hv, ← State.reg]
  rw [State.shardFail_eq, hreg _ (State.shardEnd_rest _ j (by decide) _ _ _).2]
  unfold State.shardFailed
  rw [State.tick_reg, State.bump_reg_other _ (by decide), State.bump_reg_other _ (by decide)]
  exact State.reg_raiseAt_bit _ _ _ _ _ hb (by decide +kernel) (by decide)

theorem shardJobTimeout_running {s : State} {j : ShardJob} (hl : Linked s) (hj : s.shd.find? (fun x => x.started) = some j) :
    ∃ t n, exec .shardJobTimeout s = .next t ∧ (∀ x, j.nextShard = some x → n = x) ∧ bitOf (t.reg Reg.SHD_ERR).toNat 3 = true ∧
      ShardLeaves s j .peerFailed n (s.shardDw1 (j.dest n)) (some (.peerFailed, n, s.shardDw1 (j.dest n))) t := by
  let n := j.nextShard.getD (s.freeVal % max 1 (j.k + j.m))
  refine ⟨s.shardFail j n .timeout, n, ?_, fun x hx => ?_, s.shardFail_bit j n .timeout,
    State.shardFail_leaves hl ⟨s.insts, rfl⟩ (fun _ => rfl) j n .timeout⟩
  · show execShardJobTimeout s = _
    unfold execShardJobTimeout
    rw [hj]
  · simp only [n, hx, Option.getD_some]

end Sys2Proof.Machine
end

section
/-!
PROOF. Shard Encode and Rebuild (R99, R264 to R268, R373), and the obligation on the shard engine.
-/

open Sys2Proof Sys2Proof.Machine

namespace Sys2Proof.Machine

/-! ### I/O commands and their answers -/

/-- The handler of an I/O command sees that command. -/
theorem Answerable.onCmd_io {s : State} {tag : Nat} {c : Cmd} {op : Nat} (h : Answerable s tag c) (ha : c.admin = false)
    (ho : c.opcode = op) (f : Cmd → State) : s.onCmd tag false [op] f = f c := by
  obtain ⟨hc, -, he, -⟩ := h
  simp [State.onCmd, hc, ha, he, ho]

/-- An unrecovered read ends the command and counts. -/
theorem Answerable.unread {s : State} {tag : Nat} {c : Cmd} (h : Answerable s tag c) :
    Ended s c .unrecoveredRead 0 0 [] (s.err c .unrecoveredRead) ∧ (s.err c .unrecoveredRead).ftl.dataErrors = s.ftl.dataErrors + 1 := by
  obtain ⟨hend, heq⟩ := State.post_answered (w := []) .unrecoveredRead 0 0 h rfl rfl rfl rfl h.2.2.2.2.2.2 (List.append_nil _).symm h.2.2.2.1
  rw [if_pos rfl] at heq
  refine ⟨hend, ?_⟩
  rw [State.err, heq]
  rfl

/-- A row that ends the command with a status answers it. -/
theorem Answerable.answers_err {s : State} {tag : Nat} {c : Cmd} (h : Answerable s tag c) {i : Instr} {st : Status}
    (hst : st ≠ .unrecoveredRead) (hi : exec i s = .next (s.err c st)) : Answers i s s c st 0 0 [] := ⟨_, hi, h.errs hst⟩

theorem State.encodeCheck_status {s : State} {c : Cmd} {d : List Byte} {len : Nat} {st : Status} (h : s.encodeCheck c d len = some st) :
    st ≠ .unrecoveredRead := by
  rintro rfl
  simp only [State.encodeCheck] at h
  split at h
  · cases h
  · split at h
    · cases h
    · cases h

/-- The command of a job that joined the queue is under way, and nothing else of its state has moved. -/
theorem Answerable.queues {s : State} {tag : Nat} {c : Cmd} (h : Answerable s tag c) (j : ShardJob) :
    let t : State := { s.setCmd { c with phase := .active } with shd := s.shd ++ [j] }
    Becomes s t tag { c with phase := .active } ∧ t = { s with cmds := t.cmds, shd := s.shd ++ [j] } := by
  obtain rfl := State.cmd?_tag h.1
  exact ⟨rfl, rfl⟩

/-! ### Shard Encode -/

/-- The layout of a Shard Encode (Table 4-11). -/
def Cmd.encodeOk (c : Cmd) : Prop :=
  c.vendorOk = true ∧ c.zero [2, 3] = true ∧ c.q 10 % 64 = 0 ∧ (c.d 12).toNat ≤ 8388608 ∧ (c.d 13).toNat < 2 ∧
    (if bitOf (c.d 13).toNat 0 then c.zero [6, 7, 8, 9] = true else c.nsid = 0 ∧ c.zero [14, 15] = true)


theorem Cmd.encodeOk_iff (c : Cmd) : (!c.vendorOk || !c.zero [2, 3] || decide (c.q 10 % 64 ≠ 0) || decide (8388608 < (c.d 12).toNat) ||
    decide (2 ≤ (c.d 13).toNat) || (if bitOf (c.d 13).toNat 0 then !c.zero [6, 7, 8, 9] else decide (c.nsid ≠ 0) || !c.zero [14, 15])) = true ↔
    ¬ c.encodeOk := by
  unfold Cmd.encodeOk
  cases bitOf (c.d 13).toNat 0 <;>
    simp only [Bool.or_eq_true, Bool.not_eq_true', decide_eq_true_eq, if_true, if_false, Bool.false_eq_true, not_and_or, Bool.not_eq_true,
      Nat.not_le, Nat.not_lt, or_assoc, ne_eq]

section
variable {s : State} {tag : Nat} {c : Cmd} (h : Answerable s tag c) (ha : c.admin = false)
include h ha

/-- Past the checks of layout, range and data a Shard Encode queues its job, or waits for room. -/
theorem shardEncode_io (ho : c.opcode = 0x85) (d data : List Byte) : exec (.shardEncode tag d data) s = .next (
    let len := (c.d 12).toNat
    let slm := bitOf (c.d 13).toNat 0
    if c.phase ≠ .fetched then s
    else if (!c.vendorOk || !c.zero [2, 3] || decide (c.q 10 % 64 ≠ 0) || decide (8388608 < (c.d 12).toNat) ||
      decide (2 ≤ (c.d 13).toNat) || (if bitOf (c.d 13).toNat 0 then !c.zero [6, 7, 8, 9] else decide (c.nsid ≠ 0) || !c.zero [14, 15])) = true
      then s.err c .invalidField
    else if len = 0 then s.ok c
    else if slm && !s.slmHolds c.nsid (c.q 14) len then s.err c .invalidField
    else if !slm && c.sgl && decide (data.length < len) then s.err c .sglLength
    else if !slm && decide (data.length < len) then s
    else match s.encodeCheck c d len with
      | some st => s.err c st
      | none =>
        if slm && !s.slmPlaced then s.err c .nsNotReady
        else if slm && s.slmBad c.nsid (c.q 14) len then s.err c .unrecoveredRead
        else if !s.shardRoom then s
        else { s.setCmd { c with phase := .active } with
          shd := s.shd ++ [shardJob c d (if slm then s.slmRead c.nsid (c.q 14) len else data.take len) false] }) :=
  congrArg Host.Outcome.next (h.onCmd_io ha ho _)

end

/-! ### Shard Rebuild -/

/-- The checks of a Shard Rebuild on its layout, its descriptor and the targets (R266). -/
def Cmd.rebuildOk (s : State) (c : Cmd) (d : List Byte) : Prop :=
  c.vendorOk = true ∧ c.nsid = 0 ∧ c.zero [2, 3, 6, 7, 8, 9, 12, 13, 14, 15] = true ∧ c.q 10 % 64 = 0 ∧
    shardLayout d true = true ∧ s.shardTargets c (leField d 4 4) (shardDests d) = true

theorem Cmd.rebuildOk_iff (s : State) (c : Cmd) (d : List Byte) : (!c.vendorOk || decide (c.nsid ≠ 0) ||
    !c.zero [2, 3, 6, 7, 8, 9, 12, 13, 14, 15] || decide (c.q 10 % 64 ≠ 0) || !shardLayout d true ||
    !s.shardTargets c (leField d 4 4) (shardDests d)) = true ↔ ¬ c.rebuildOk s d := by
  simp only [Cmd.rebuildOk, Bool.or_eq_true, Bool.not_eq_true', decide_eq_true_eq, not_and_or, Bool.not_eq_true, or_assoc, ne_eq]

/-- The sources of a rebuild: the first K that are present. -/
def rebuildUse (d : List Byte) : List Nat := (presentOf d).take (leField d 1 1)

/-- A source shard, from SLM or among those read from host memory. -/
def State.rebuildSource (s : State) (d : List Byte) (srcs : List (List Byte)) (j : Nat) : List Byte :=
  if (shardDest d j).kind = 2 then s.slmRead (shardDest d j).nsid (shardDest d j).addr (leField d 4 4)
  else fit (leField d 4 4) (nth [] srcs (((rebuildUse d).filter (fun j => decide ((shardDest d j).kind = 1))).idxOf j))

/-- The job of a Shard Rebuild. -/
def State.rebuildJob (s : State) (c : Cmd) (d : List Byte) (srcs : List (List Byte)) : ShardJob :=
  { shardJob c d [] false with
    rebuild := true, shlen := leField d 4 4, srcs := (rebuildUse d).map (fun j => (j, s.rebuildSource d srcs j)) }

theorem Answerable.shardRebuild_io {s : State} {tag : Nat} {c : Cmd} (h : Answerable s tag c) (ha : c.admin = false)
    (ho : c.opcode = 0x89) (d : List Byte) (srcs : List (List Byte)) : exec (.shardRebuild tag d srcs) s = .next (
    if c.phase ≠ .fetched then s
    else if (!c.vendorOk || decide (c.nsid ≠ 0) || !c.zero [2, 3, 6, 7, 8, 9, 12, 13, 14, 15] || decide (c.q 10 % 64 ≠ 0) ||
      !shardLayout d true || !s.shardTargets c (leField d 4 4) (shardDests d)) = true then s.err c .invalidField
    else if s.shardNotReady (shardDests d) then s.err c .nsNotReady
    else if (rebuildUse d).length < leField d 1 1 then s.err c .unrecoveredRead
    else if (shardDests d).all (fun d => !d.rebuild) then s.ok c
    else if (rebuildUse d).any (fun j => decide ((shardDest d j).kind = 2) &&
      s.slmBad (shardDest d j).nsid (shardDest d j).addr (leField d 4 4)) then s.err c .unrecoveredRead
    else if !s.shardRoom then s
    else { s.setCmd { c with phase := .active } with shd := s.shd ++ [s.rebuildJob c d srcs] }) :=
  congrArg Host.Outcome.next (h.onCmd_io ha ho _)

theorem nth_eq_getElem {α : Type} (x : α) : ∀ {l : List α} {n : Nat} (h : n < l.length), nth x l n = l[n]
  | [], _, h => absurd h (Nat.not_lt_zero _)
  | _ :: _, 0, _ => rfl
  | _ :: l, _ + 1, h => nth_eq_getElem x (l := l) (Nat.lt_of_succ_lt_succ h)

/-- Among the elements that a filter keeps, an element of a list without repetitions stands behind those kept before it. -/
theorem idxOf_filter_getElem {p : Nat → Bool} {l : List Nat} (hl : l.Nodup) {n : Nat} (hn : n < l.length) (hp : p l[n] = true) :
    (l.filter p).idxOf l[n] = ((l.take n).filter p).length := by
  have hsplit : l.filter p = (l.take n).filter p ++ l[n] :: (l.drop (n + 1)).filter p := by
    have h1 : l.filter p = (l.take n).filter p ++ (l.drop n).filter p := by
      rw [← List.filter_append, List.take_append_drop]
    rw [h1, List.drop_eq_getElem_cons hn, List.filter_cons_of_pos hp]
  have hnot : l[n] ∉ (l.take n).filter p := by
    intro hm
    obtain ⟨i, hi, he⟩ := List.mem_take_iff_getElem.1 (List.mem_of_mem_filter hm)
    have hin : i < n := by omega
    exact absurd ((List.Nodup.getElem_inj_iff hl).1 he) (Nat.ne_of_lt hin)
  rw [hsplit, List.idxOf_append_of_notMem hnot, List.idxOf_cons_self, Nat.add_zero]

/-- A present entry of a descriptor that passes names a source in host memory or in SLM. -/
theorem shardLayout_present {d : List Byte} (h : shardLayout d true = true) {j : Nat} (hj : j ∈ presentOf d) :
    (shardDest d j).kind = 1 ∨ (shardDest d j).kind = 2 := by
  obtain ⟨hr, hp⟩ := List.mem_filter.1 hj
  simp only [shardLayout, Bool.and_eq_true, List.all_eq_true] at h
  have hx := (h.2 j hr).2
  simp only [if_true, Bool.and_eq_true, Bool.or_eq_true, Bool.not_eq_true', decide_eq_true_eq] at hx
  rcases hx.2 with (h0 | h1) | h2
  · rw [hp] at h0
    cases h0
  · exact .inl h1
  · exact .inr h2

theorem State.rebuildJob_srcs (s : State) (c : Cmd) {d : List Byte} (srcs : List (List Byte)) (hlay : shardLayout d true = true)
    (hlen : (rebuildUse d).length = leField d 1 1) :
    let j := s.rebuildJob c d srcs
    let use := rebuildUse d
    let isHost (j : Nat) : Bool := decide ((shardDest d j).kind = 1)
    j.srcs.map (·.1) = use ∧ ∀ n, n < leField d 1 1 → nth [] (j.srcs.map (·.2)) n =
      if isHost (nth 0 use n) then fit (leField d 4 4) (nth [] srcs ((use.take n).filter isHost).length)
      else s.slmRead (shardDest d (nth 0 use n)).nsid (shardDest d (nth 0 use n)).addr (leField d 4 4) := by
  intro j use isHost
  have hfst : j.srcs.map (·.1) = use := by
    show (use.map _).map _ = use
    rw [List.map_map]
    exact List.map_id use
  have hsnd : j.srcs.map (·.2) = use.map (s.rebuildSource d srcs) := by
    show (use.map _).map _ = _
    rw [List.map_map]
    rfl
  have hnodup : use.Nodup := (List.Nodup.filter _ List.nodup_range).sublist (List.take_sublist _ _)
  refine ⟨hfst, fun n hn => ?_⟩
  have hn' : n < use.length := by
    rw [hlen]
    exact hn
  rw [hsnd, nth_eq_getElem _ (by rw [List.length_map]; exact hn'), List.getElem_map, nth_eq_getElem 0 hn']
  unfold State.rebuildSource
  rcases shardLayout_present hlay (List.mem_of_mem_take (List.getElem_mem hn')) with h1 | h2
  · have hhost : isHost use[n] = true := decide_eq_true h1
    rw [if_neg (by rw [h1]; decide), if_pos hhost]
    exact congrArg (fun k => fit (leField d 4 4) (nth [] srcs k)) (idxOf_filter_getElem hnodup hn' hhost)
  · have hhost : ¬ isHost use[n] = true := by
      simp only [isHost, h2]
      decide
    rw [if_pos h2, if_neg hhost]

/-! ### The obligation -/

/-- Settles O47: the commands by the branches of their rows, the jobs by `shardIssue` along their writes and `ShardLeaves` at their
end. -/
theorem shdJobs : Obligations.ShdJobs := by
  unfold Obligations.ShdJobs
  refine ⟨?encode, ?rebuild, fun s stall h => shardJobStart_idle h stall, ?start, ?write, ?unit, fun s =>
    ⟨shardJobTimeout_idle, fun j hl hj => shardJobTimeout_running hl hj⟩⟩
  case encode =>
    intro s tag c d data h ha ho i len slm good bytes
    have hexec := shardEncode_io h ha ho d data
    have hgood : _ ↔ ¬ good := c.encodeOk_iff
    refine ⟨fun hp => hexec.trans (congrArg _ (if_pos hp)), fun hp hg => ?_, fun hp hg h0 => ?_, fun hp hg h0 => ?_⟩
    all_goals
      replace hexec := hexec.trans (congrArg Host.Outcome.next (if_neg (not_not.2 hp)))
    · exact h.answers_err (by decide) (hexec.trans (congrArg _ (if_pos (hgood.2 hg))))
    all_goals
      replace hexec := hexec.trans (congrArg Host.Outcome.next (if_neg (fun hb => hgood.1 hb hg)))
    · exact ⟨_, hexec.trans (congrArg _ (if_pos h0)), h.posts 0 0 (by decide)⟩
    · replace hexec := hexec.trans (congrArg Host.Outcome.next (if_neg (Nat.ne_of_gt h0)))
      have hshort (hs : slm = false) : ¬ (slm && !s.slmHolds c.nsid (c.q 14) len) = true := by simp [hs]
      refine ⟨fun hs hh => ?_, fun hs hd hg => ?_, fun hs hd hg => ?_, fun hh hd => ?_⟩
      · exact h.answers_err (by decide) (hexec.trans (congrArg _ (if_pos (show (slm && !s.slmHolds c.nsid (c.q 14) len) = true by simp [hs, hh]))))
      · have hsgl : (!slm && c.sgl && decide (data.length < len)) = true := by simp [hs, hd, hg]
        exact h.answers_err (by decide) (hexec.trans (congrArg _ ((if_neg (hshort hs)).trans (if_pos hsgl))))
      · have hwait : (!slm && decide (data.length < len)) = true := by simp [hs, hd]
        exact hexec.trans (congrArg _ ((if_neg (hshort hs)).trans ((if_neg (by simp [hg])).trans (if_pos hwait))))
      · have h1 : ¬ (slm && !s.slmHolds c.nsid (c.q 14) len) = true := by
          rw [Bool.and_eq_true, not_and]
          intro hs
          simp [hh hs]
        have hlong : ¬ (!slm && decide (data.length < len)) = true := by
          rw [Bool.and_eq_true, not_and, decide_eq_true_eq, Nat.not_lt, Bool.not_eq_true']
          exact hd
        have h2 : ¬ (!slm && c.sgl && decide (data.length < len)) = true := by
          rw [Bool.and_right_comm, Bool.and_eq_true, not_and]
          exact fun hb => absurd hb hlong
        replace hexec := hexec.trans (congrArg Host.Outcome.next ((if_neg h1).trans ((if_neg h2).trans (if_neg hlong))))
        refine ⟨fun st hst => ?_, fun hn hs hp => ?_, fun hn hs hp hb => ?_, fun hn hs => ?_⟩
        · rw [hst] at hexec
          exact h.answers_err (State.encodeCheck_status hst) hexec
        all_goals rw [hn] at hexec
        · exact h.answers_err (by decide) (hexec.trans (congrArg _ (if_pos (show (slm && !s.slmPlaced) = true by simp [hs, hp]))))
        · have hbad : (slm && s.slmBad c.nsid (c.q 14) len) = true := by simp [hs, hb]
          exact ⟨_, hexec.trans (congrArg _ ((if_neg (by simp [hp])).trans (if_pos hbad))), h.unread⟩
        · have hplaced : ¬ (slm && !s.slmPlaced) = true := by
            rw [Bool.and_eq_true, not_and]
            intro hb
            simp [(hs hb).1]
          have hsound : ¬ (slm && s.slmBad c.nsid (c.q 14) len) = true := by
            rw [Bool.and_eq_true, not_and]
            intro hb
            simp [(hs hb).2]
          replace hexec := hexec.trans (congrArg Host.Outcome.next ((if_neg hplaced).trans (if_neg hsound)))
          refine ⟨fun hr => hexec.trans (congrArg _ (if_pos (by rw [hr]; rfl))), fun hr => ?_⟩
          obtain ⟨hcmds, ht⟩ := h.queues (shardJob c d bytes false)
          exact ⟨_, shardJob c d bytes false, hexec.trans (congrArg _ (if_neg (by rw [hr]; decide))), hcmds, ht, State.cmd?_tag h.1, rfl, rfl,
            rfl, rfl, rfl, rfl, rfl, rfl, rfl, rfl, rfl⟩
  case rebuild =>
    intro s tag c d srcs h ha ho i k len use isHost good lost unread
    have hexec := h.shardRebuild_io ha ho d srcs
    have hgood : _ ↔ ¬ good := c.rebuildOk_iff s d
    have hunread (he : exec i s = .next (s.err c .unrecoveredRead)) : unread := ⟨_, he, h.unread⟩
    have hlost : use.any (fun j => decide ((shardDest d j).kind = 2) && s.slmBad (shardDest d j).nsid (shardDest d j).addr len) = true ↔
        lost := by
      simp only [lost, List.any_eq_true, Bool.and_eq_true, decide_eq_true_eq]
    refine ⟨fun hp => hexec.trans (congrArg _ (if_pos hp)), fun hp hg => ?_, fun hp hg hn => ?_, fun hp hg hn => ?_⟩
    all_goals
      replace hexec := hexec.trans (congrArg Host.Outcome.next (if_neg (not_not.2 hp)))
    · exact h.answers_err (by decide) (hexec.trans (congrArg _ (if_pos (hgood.2 hg))))
    all_goals
      replace hexec := hexec.trans (congrArg Host.Outcome.next (if_neg (fun hb => hgood.1 hb hg)))
    · exact h.answers_err (by decide) (hexec.trans (congrArg _ (if_pos hn)))
    · replace hexec := hexec.trans (congrArg Host.Outcome.next (if_neg (by rw [hn]; decide)))
      refine ⟨fun hfew => hunread (hexec.trans (congrArg _ (if_pos hfew))), fun hk hnone => ?_, fun hk hsome => ?_⟩
      all_goals
        replace hexec := hexec.trans (congrArg Host.Outcome.next (if_neg (Nat.not_lt.2 (Nat.le_of_eq hk.symm))))
      · refine ⟨_, hexec.trans (congrArg _ (if_pos ?_)), h.posts 0 0 (by decide)⟩
        exact List.all_eq_true.2 fun x hx => by rw [hnone x hx]; rfl
      · obtain ⟨x, hx, hxr⟩ := hsome
        have hany : ¬ (shardDests d).all (fun d => !d.rebuild) = true := by
          rw [List.all_eq_true]
          intro hall
          have := hall x hx
          rw [hxr] at this
          cases this
        replace hexec := hexec.trans (congrArg Host.Outcome.next (if_neg hany))
        refine ⟨fun hl => hunread (hexec.trans (congrArg _ (if_pos (hlost.2 hl)))), fun hl hr => ?_, fun hl hr => ?_⟩
        all_goals
          replace hexec := hexec.trans (congrArg Host.Outcome.next (if_neg (fun hb => hl (hlost.1 hb))))
        · exact hexec.trans (congrArg _ (if_pos (by rw [hr]; rfl)))
        · obtain ⟨hcmds, ht⟩ := h.queues (s.rebuildJob c d srcs)
          obtain ⟨-, -, -, -, hlay, -⟩ := hg
          exact ⟨_, s.rebuildJob c d srcs, hexec.trans (congrArg _ (if_neg (by rw [hr]; decide))), hcmds, ht, State.cmd?_tag h.1, rfl, rfl,
            rfl, rfl, rfl, s.rebuildJob_srcs c srcs hlay hk⟩
  case start =>
    intro s j rest stall hs hn hl i s1 sends
    refine ⟨fun u hst hu => ?_, fun m u hst hu => ?_, fun pre w post u hw hlen hu hnone => ?_⟩
    · subst hst
      exact shardJobStart_done hs hn hl hu
    · subst hst
      exact ⟨_, shardJobStart_held hs hn hu, rfl, rfl⟩
    · exact shardJobStart_refused hs hn hl hw hlen hu hnone
  case write =>
    intro s j w hl hw d at_
    exact ⟨State.shardWrite_suppressed, fun hj hk => State.shardWrite_host hl hw hj hk, fun hj hk => State.shardWrite_slm hj hk,
      fun hj hk => State.shardWrite_peer hl hw hj hk⟩
  case unit =>
    intro k u data st n hn
    exact if_pos hn

end Sys2Proof.Machine
end

section
/-!
PROOF. Checkpoints (R41, R185): starts, the image of a segment in its place, and the end.
-/

open Sys2Proof Sys2Proof.Machine

namespace Sys2Proof.Machine

/-! ### What placing an image leaves as it was (R129, R134, R164) -/

/-- Rows, stripes and queues may move and records may be issued: the span map and the checkpoint that runs are as they were. -/
structure Lays (s t : State) : Prop where
  span : t.ftl.span = s.ftl.span
  left : t.chest.ckptLeft = s.chest.ckptLeft
  active : t.chest.ckptActive = s.chest.ckptActive

namespace Lays

theorem refl (s : State) : Lays s s := ⟨rfl, rfl, rfl⟩

theorem trans {s t u : State} (h : Lays s t) (k : Lays t u) : Lays s u :=
  ⟨k.span.trans h.span, k.left.trans h.left, k.active.trans h.active⟩

theorem foldl {α : Type} {f : State → α → State} (hf : ∀ s a, Lays s (f s a)) : ∀ (l : List α) (s : State), Lays s (l.foldl f s)
  | [], s => refl s
  | a :: l, s => (hf s a).trans (foldl hf l _)

theorem ite {s t u : State} {p : Prop} [Decidable p] (ht : Lays s t) (hu : Lays s u) : Lays s (if p then t else u) := by
  split
  · exact ht
  · exact hu

theorem issue (s : State) (c : Change) : Lays s (s.issue c) := ⟨rfl, rfl, rfl⟩

theorem setRow (s : State) (ch l b : Nat) (r : Row) : Lays s (s.setRow ch l b r) := ⟨rfl, rfl, rfl⟩

theorem setStripe (s : State) (v : Stripe) : Lays s (s.setStripe v) := ite ⟨rfl, rfl, rfl⟩ ⟨rfl, rfl, rfl⟩

theorem enqueue (s : State) (ch l : Nat) (o : LunOp) : Lays s (s.enqueue ch l o) := ⟨rfl, rfl, rfl⟩

theorem programPage (s : State) (a : PageAt) (h : PageHdr) (d : List Byte) : Lays s (s.programPage a h d) := ⟨rfl, rfl, rfl⟩

theorem writeSummary (s : State) (ch l b stream : Nat) : Lays s (s.writeSummary ch l b stream) := by
  unfold State.writeSummary
  split
  · exact foldl (fun t _ => programPage t _ _ _) _ _
  · exact refl s

theorem closeRow (s : State) (ch l b : Nat) : Lays s (s.closeRow ch l b) := by
  have hfill : Lays s (s.fillRow ch l b true) := (writeSummary s ch l b _).trans (setRow _ _ _ _ _)
  exact ite (hfill.trans (issue _ _)) (refl s)

theorem joinStripes (stream : Nat) : ∀ (l : List (PageAt × Nat)) {s u : State}, s.joinStripes stream l = some u → Lays s u
  | [], s, u, h => by
    obtain rfl := Option.some.inj h
    exact refl s
  | (a, id) :: l, s, u, h => by
    simp only [State.joinStripes] at h
    split at h
    · cases h
    · split at h
      · exact joinStripes stream l h
      · exact (setStripe s _).trans (joinStripes stream l h)

theorem takePage {s t : State} {k : Nat} {a : PageAt} (h : s.takePage k = some (t, a)) : Lays s t := by
  unfold State.takePage at h
  split at h
  · obtain ⟨rfl, -⟩ := Prod.mk.inj (Option.some.inj h)
    exact setRow s _ _ _ _
  · cases h

theorem parityPage {s t : State} {v : Stripe} {sb : Nat} {a : PageAt} (h : s.parityPage v sb = some (t, a)) : Lays s t := by
  simp only [State.parityPage] at h
  split at h
  · next c _ =>
    split at h
    · exact Lays.trans (t := (s.setFtl { s.ftl with parityAt := (c + 1) % 32 }).tick) ⟨rfl, rfl, rfl⟩ (takePage h)
    · cases h
  · cases h

theorem placeParity (s : State) (id : Nat) : Lays s (s.placeParity id) := by
  unfold State.placeParity
  split
  · next v _ =>
    split
    · split
      · next t a h =>
        have ht : Lays s t := by
          rcases Option.or_eq_some_iff.1 h with h | ⟨-, h⟩
          · exact parityPage h
          · exact parityPage h
        exact (ht.trans (setStripe t _)).trans (enqueue _ _ _ _)
      · exact refl s
    · exact refl s
  · exact refl s

theorem padPages (s : State) (l : List PageAt) : Lays s (s.padPages l) := by
  refine foldl (fun t a => ?_) l s
  simp only []
  split
  · exact ite (setRow t _ _ _ _) (refl t)
  · exact refl t

theorem closeStripe (s : State) (id : Nat) : Lays s (s.closeStripe id) := by
  unfold State.closeStripe
  split
  · next v _ => exact ite (refl s) ((((padPages s v.pages).trans (setStripe _ _)).trans (issue _ _)).trans (placeParity _ id))
  · exact refl s

theorem leaveSuper (s : State) (sb : Nat) : Lays s (s.leaveSuper sb) :=
  (foldl closeStripe _ s).trans (foldl (fun u _ => closeRow u _ _ _) _ _)

theorem joinSuper (s : State) (stream n ch l : Nat) (slc : Bool) : Lays s (s.joinSuper stream n ch l slc) := by
  unfold State.joinSuper
  split
  · exact setRow s _ _ _ _
  · exact refl s

theorem openSuper (s : State) (stream : Nat) (slc : Bool) : Lays s (s.openSuper stream slc) := by
  have hleave : Lays s (if s.superOf stream = 0 then s else s.leaveSuper (s.superOf stream)) := ite (refl s) (leaveSuper s _)
  have hnumber : ∀ t : State, Lays t (t.setFtl { t.ftl with
      supers := Sparse.set (fun _ => 0) t.ftl.supers stream t.ftl.nextSuper, nextSuper := t.ftl.nextSuper + 1 }) := fun t => ⟨rfl, rfl, rfl⟩
  exact (hleave.trans (hnumber _)).trans (foldl (fun x ch => foldl (fun y l => joinSuper y stream _ ch l slc) _ x) _ _)

theorem advance (s : State) (stream : Nat) (slc : Bool) (ch n : Nat) : Lays s (s.advance stream slc ch n) := by
  have hfull : ∀ l : List (Nat × Row), Lays s (l.foldl (fun u e => u.closeRow ch (keyLun e.1) (keyBlock e.1)) s) :=
    fun l => foldl (fun u _ => closeRow u _ _ _) l s
  exact ite ((hfull _).trans (openSuper _ stream slc)) (hfull _)

theorem placeImage {s u : State} {stream n a : Nat} {p : Place} (h : s.placeImage stream p n = some (u, a)) : Lays s u := by
  simp only [State.placeImage] at h
  split at h
  · cases h
  · next q _ =>
    obtain ⟨-, h⟩ := Option.ite_none_right_eq_some.1 h
    split at h
    · next v hv =>
      obtain ⟨rfl, -⟩ := Prod.mk.inj (Option.some.inj h)
      have hrow : Lays s ((s.advance stream p.slc p.ch n).setRow p.ch p.lun p.block
          (((s.advance stream p.slc p.ch n).row p.ch p.lun p.block).take n)) := (advance s stream p.slc p.ch n).trans (setRow _ _ _ _ _)
      exact ((hrow.trans (joinStripes stream _ hv)).trans (foldl placeParity _ v)).trans (issue _ _)
    · cases h

end Lays

/-! ### Work that waits in a LUN's queue (R120, R165) -/

theorem topReady_mem {l : List LunOp} {o : LunOp} (h : topReady l = some o) : o ∈ l := by
  induction l generalizing o with
  | nil => cases h
  | cons a l ih =>
    rw [topReady] at h
    split at h
    · rw [← Option.some.inj h]
      exact List.mem_cons_self ..
    · next x hx =>
      split at h
      · rw [← Option.some.inj h]
        exact List.mem_cons_of_mem _ (ih hx)
      · rw [← Option.some.inj h]
        exact List.mem_cons_self ..

/-- Work that takes a free place stays with the LUN but for its arrival. -/
theorem Lun.fill_keeps {P : LunOp → Prop} (now : Nat) (hP : ∀ o, P o → P { o with arrival := now }) : ∀ (k : Nat) (u : Lun),
    (∃ o ∈ u.queue ++ u.ready, P o) → ∃ o ∈ (Lun.fill now k u).queue ++ (Lun.fill now k u).ready, P o
  | 0, _, h => h
  | k + 1, u, h => by
    rw [Lun.fill]
    split
    · exact h
    · split
      · exact h
      · next x hx =>
        refine Lun.fill_keeps now hP k _ ?_
        obtain ⟨o, ho, hp⟩ := h
        rcases List.mem_append.1 ho with hq | hr
        · exact ⟨o, List.mem_append_left _ (List.mem_append_left _ hq), hp⟩
        · by_cases hox : o = x
          · subst hox
            exact ⟨_, List.mem_append_left _ (List.mem_append_right _ (List.mem_singleton_self _)), hP o hp⟩
          · exact ⟨o, List.mem_append_right _ ((List.mem_erase_of_ne hox).2 hr), hp⟩

/-- What is put with a LUN waits there, in its queue or for a place. -/
theorem State.enqueue_holds (s : State) (ch l : Nat) {P : LunOp → Prop} (hP : ∀ (o : LunOp) n, P o → P { o with arrival := n })
    (hid : ∀ (o : LunOp) n, P o → P { o with id := n }) {o : LunOp} (ho : P o) :
    ∃ x ∈ ((s.enqueue ch l o).lun ch l).queue ++ ((s.enqueue ch l o).lun ch l).ready, P x := by
  let o1 : LunOp := { o with id := s.ftl.nextOp, arrival := s.beat }
  have ho1 : P o1 := hP _ _ (hid _ _ ho)
  let v := if o.internal then Lun.fill s.beat 4 { s.lun ch l with ready := (s.lun ch l).ready ++ [o1] }
    else { s.lun ch l with queue := (s.lun ch l).queue ++ [o1] }
  have hv : ∃ x ∈ v.queue ++ v.ready, P x := by
    simp only [v]
    split
    · refine Lun.fill_keeps s.beat (fun o => hP o _) 4 _ ⟨o1, ?_, ho1⟩
      exact List.mem_append_right _ (List.mem_append_right _ (List.mem_singleton_self _))
    · exact ⟨o1, List.mem_append_left _ (List.mem_append_right _ (List.mem_singleton_self _)), ho1⟩
  have hne : v ≠ {} := by
    intro h
    obtain ⟨x, hx, -⟩ := hv
    rw [h] at hx
    cases hx
  have hlun : (s.enqueue ch l o).lun ch l = v := sparse_get_set_put _ _ hne
  rw [hlun]
  exact hv

/-! ### Starts (R41, R185) -/

/-- What the start of a checkpoint leaves in the Chest: the segments changed since the last one are to be written, or another follows. -/
def Chest.started (c : Chest) : Chest :=
  if c.ckptActive then { c with ckptAgain := true }
  else { c with ckptActive := true, ckptLeft := c.dirty, dirty := [], ckptTimer := 0, ckptFrom := c.seq }

theorem State.ckptStart_chest (s : State) : ∃ w, s.ckptStart = { s with chest := s.chest.started, pwr := w } := by
  unfold State.ckptStart Chest.started
  simp only []
  split
  · exact ⟨s.pwr, rfl⟩
  · split
    · exact ⟨s.pwr, rfl⟩
    · unfold State.wakeBy
      split
      · exact ⟨s.pwr, rfl⟩
      · exact ⟨_, rfl⟩

theorem checkpointStarts {s : State} {i : Instr} (h : (∃ k, i = .chsCkptStart (.cc k)) ∨
      (∃ p, i = .chsCkptStart (.host p) ∧ (s.pins.dual = false ∨ p = s.ownerPort)) ∨
      (i = .checkpointPeriodExpiry ∧ s.fieldNow Reg.CHS_CKPT_PERIOD 26 0 < s.chest.ckptTimer)) : exec i s = .next s.ckptStart := by
  rcases h with ⟨k, rfl⟩ | ⟨p, rfl, hp⟩ | ⟨rfl, ht⟩
  · rfl
  · refine congrArg Host.Outcome.next (if_neg ?_)
    rw [Bool.and_eq_true, decide_eq_true_eq, not_and, not_not]
    intro hd
    exact hp.resolve_left (by rw [hd]; decide)
  · exact congrArg Host.Outcome.next (if_neg (Nat.not_le.2 ht))

/-! ### An image of a segment (R185) -/

theorem checkpointComplete_active {s : State} (h : s.chest.ckptActive = true) (l : List (Nat × Nat × Place)) :
    exec (.checkpointComplete l) s = .next (
      let t := l.foldl State.ckptImage s
      let u := t.setChest { t.chest with journal := freeJournal t.chest.ckptSeq t.chest.journal }
      if u.chest.ckptLeft.isEmpty then u.ckptEnd else u) := by
  refine congrArg Host.Outcome.next (if_neg ?_)
  rw [h]
  decide

/-- The image of a segment left, from the state `u` in which it has its place. -/
def State.ckptPlaced (s u : State) (k n : Nat) (p : Place) (a : Nat) : State :=
  let v := u.putImg { ch := p.ch, maddr := a, len := n, shelf := false, raw := true, nsid := 0, span := k, bytes := s.ckptBytes k n
                      keyGen := 0, stripes := p.stripes }
  let w := (v.setRot 0 (p.ch + 1)).enqueue p.ch p.lun { v.progOp p a n 4 .host with ckpt := some k }
  w.setChest { w.chest with ckptBusy := w.chest.ckptBusy ++ [(k, s.imageSeq)] }

theorem State.ckptPlaced_program (s u : State) (k n : Nat) (p : Place) (a : Nat) :
    ∃ o ∈ ((s.ckptPlaced u k n p a).lun p.ch p.lun).queue ++ ((s.ckptPlaced u k n p a).lun p.ch p.lun).ready,
      o.kind = .program ∧ o.cls = 4 ∧ o.maddr = a ∧ o.ckpt = some k := by
  let v := u.putImg { ch := p.ch, maddr := a, len := n, shelf := false, raw := true, nsid := 0, span := k, bytes := s.ckptBytes k n
                      keyGen := 0, stripes := p.stripes }
  let op : LunOp := { v.progOp p a n 4 .host with ckpt := some k }
  let w := (v.setRot 0 (p.ch + 1)).enqueue p.ch p.lun op
  have hw : ∃ o ∈ (w.lun p.ch p.lun).queue ++ (w.lun p.ch p.lun).ready, o.kind = .program ∧ o.cls = 4 ∧ o.maddr = a ∧ o.ckpt = some k :=
    (v.setRot 0 (p.ch + 1)).enqueue_holds p.ch p.lun (fun _ _ h => h) (fun _ _ h => h) (o := op) ⟨rfl, rfl, rfl, rfl⟩
  have hlun : (s.ckptPlaced u k n p a).lun p.ch p.lun = w.lun p.ch p.lun := rfl
  rw [hlun]
  exact hw

theorem State.ckptImage_placed {s u : State} {k n a : Nat} {p : Place} (hk : k ∈ s.chest.ckptLeft)
    (hbusy : ∀ e ∈ s.chest.ckptBusy, e.1 ≠ k) (hpend : ∀ r ∈ s.chest.pending, ∀ q, r.change ≠ .ckpt k q) (hslc : p.slc = false)
    (hchan : s.nextChan 0 = some p.ch) (hu : s.placeImage 8 p n = some (u, a)) : s.ckptImage (k, n, p) = s.ckptPlaced u k n p a := by
  have h1 : s.chest.ckptLeft.contains k = true := List.contains_iff_mem.2 hk
  have h2 : s.chest.ckptBusy.any (fun e => decide (e.1 = k)) = false := List.any_eq_false.2 fun e he => by simp [hbusy e he]
  have h3 : s.chest.pending.any (fun r => match r.change with
      | .ckpt x _ => decide (x = k)
      | _ => false) = false := by
    refine List.any_eq_false.2 fun r hr => ?_
    split
    · next x q hc =>
      intro hx
      exact hpend r hr q (hc.trans (by rw [of_decide_eq_true hx]))
    · exact Bool.false_ne_true
  unfold State.ckptImage
  simp only [h1, h2, hslc, hchan, hu, ne_eq, not_true_eq_false, decide_false, Bool.not_true, Bool.or_false]
  refine (if_neg fun h => ?_).trans rfl
  rw [Bool.false_or] at h
  exact Bool.false_ne_true (h3.symm.trans h)

theorem checkpointComplete_image {s u : State} {k n a : Nat} {p : Place} (hact : s.chest.ckptActive = true) (hk : k ∈ s.chest.ckptLeft)
    (hbusy : ∀ e ∈ s.chest.ckptBusy, e.1 ≠ k) (hpend : ∀ r ∈ s.chest.pending, ∀ q, r.change ≠ .ckpt k q) (hslc : p.slc = false)
    (hchan : s.nextChan 0 = some p.ch) (hu : s.placeImage 8 p n = some (u, a)) :
    ∃ t, exec (.checkpointComplete [(k, n, p)]) s = .next t ∧ t.chest.ckptLeft = s.chest.ckptLeft ∧ t.chest.ckptActive = true ∧
      (k, s.imageSeq) ∈ t.chest.ckptBusy ∧ t.ftl.span = s.ftl.span ∧
      (∃ m ∈ t.ftl.imgs, m.ch = p.ch ∧ m.maddr = a ∧ m.len = n ∧ m.nsid = 0 ∧ m.span = k) ∧
      ∃ o ∈ (t.lun p.ch p.lun).queue ++ (t.lun p.ch p.lun).ready, o.kind = .program ∧ o.cls = 4 ∧ o.maddr = a ∧ o.ckpt = some k := by
  have hlay : Lays s u := Lays.placeImage hu
  let t := s.ckptPlaced u k n p a
  have hleft : t.chest.ckptLeft = s.chest.ckptLeft := hlay.left
  have hmore : ¬ t.chest.ckptLeft.isEmpty = true := by
    rw [hleft, List.isEmpty_iff]
    rintro h
    rw [h] at hk
    cases hk
  refine ⟨t.setChest { t.chest with journal := freeJournal t.chest.ckptSeq t.chest.journal }, ?_, hleft, hlay.active.trans hact,
    List.mem_append_right _ (List.mem_singleton_self _), hlay.span, ⟨_, List.mem_append_right _ (List.mem_singleton_self _), rfl, rfl, rfl,
    rfl, rfl⟩, ?_⟩
  · refine (checkpointComplete_active hact _).trans ?_
    rw [List.foldl_cons, List.foldl_nil, State.ckptImage_placed hk hbusy hpend hslc hchan hu]
    exact congrArg _ (if_neg hmore)
  · exact State.ckptPlaced_program s u k n p a

end Sys2Proof.Machine
end

section
/-!
PROOF. The end of a checkpoint (R183, R185), and the rebuild by partitions (R197, R199, R258).
-/

open Sys2Proof Sys2Proof.Machine

namespace Sys2Proof

/-- Replacing the values of a sorted map by a function that keeps the default replaces every value read. -/
theorem Sparse.get_mapVal {V : Type} [DecidableEq V] (d : Nat → V) (f : Nat → V → V) {k : Nat} (hd : f k (d k) = d k) :
    ∀ {m : Sparse V}, Sparse.sorted m = true → Sparse.get d (Sparse.mapVal d f m) k = f k (Sparse.get d m k)
  | [], _ => hd.symm
  | (j, w) :: t, h => by
    have ih := Sparse.get_mapVal d f hd (Sparse.sorted_tail h)
    have habove : Sparse.above j (Sparse.mapVal d f t) = true := Sparse.above_filter _ (by rw [Sparse.above_map]; exact h)
    rw [Sparse.mapVal, List.map_cons, List.filter_cons]
    by_cases hj : j = k
    · subst hj
      split
      · simp only [Sparse.get, if_true]
      · next hf =>
        have hw : f j w = d j := by simpa using hf
        exact (Sparse.get_of_above d habove (Nat.le_refl _)).trans (by simp only [Sparse.get, if_true, hw])
    · split
      · simp only [Sparse.get, hj, if_false]
        exact ih
      · simp only [Sparse.get, hj, if_false]
        exact ih

end Sys2Proof

namespace Sys2Proof.Machine

/-! ### The journal and the root (R183, R185) -/

/-- What is freed is the front of the journal, up to the first record that a segment still needs. -/
theorem freeJournal_spec (seqs : List (Nat × Nat)) : ∀ l : List (Nat × Nat × List Nat), ∃ freed, l = freed ++ freeJournal seqs l ∧
    (∀ x ∈ freed, ∀ k ∈ x.2.2, ∃ e ∈ seqs, e.1 = k ∧ x.1 < e.2) ∧
    ∀ x, (freeJournal seqs l).head? = some x → ∃ k ∈ x.2.2, ∀ e ∈ seqs, e.1 = k → e.2 ≤ x.1
  | [] => ⟨[], rfl, fun _ h => absurd h List.not_mem_nil, fun _ h => by cases h⟩
  | (q, n, ks) :: l => by
    have hneed : ks.all (fun k => seqs.any (fun e => decide (e.1 = k) && decide (q < e.2))) = true ↔
        ∀ k ∈ ks, ∃ e ∈ seqs, e.1 = k ∧ q < e.2 := by
      simp only [List.all_eq_true, List.any_eq_true, Bool.and_eq_true, decide_eq_true_eq]
    rw [freeJournal]
    split
    · next hall =>
      obtain ⟨freed, hl, hfreed, hhead⟩ := freeJournal_spec seqs l
      refine ⟨(q, n, ks) :: freed, by rw [List.cons_append, ← hl], fun x hx => ?_, hhead⟩
      rcases List.mem_cons.1 hx with rfl | hx
      · exact hneed.1 hall
      · exact hfreed x hx
    · next hsome =>
      refine ⟨[], rfl, fun _ h => absurd h List.not_mem_nil, fun x hx => ?_⟩
      obtain rfl := Option.some.inj hx
      rw [hneed] at hsome
      push Not at hsome
      exact hsome

theorem Chest.root_seq (c : Chest) : c.root.seq = max c.rootA.seq c.rootB.seq := by
  unfold Chest.root
  split <;> omega

/-- The copy that is written is the newest, of that kind, and notes the newest complete checkpoint. -/
theorem State.writeRoot_spec (s : State) (kind : BootKind) (us : Nat) : ∃ a b,
    let c : Chest := { s.chest with rootA := a, rootB := b }
    s.writeRoot kind us = { s with chest := c } ∧ c.root.kind = kind ∧ c.root.ckpt = s.chest.ckptDone ∧ s.chest.root.seq < c.root.seq := by
  rw [Chest.root_seq]
  unfold State.writeRoot
  simp only []
  split
  · refine ⟨_, s.chest.rootB, rfl, ?_⟩
    rw [Chest.root, if_neg (by show ¬ _ < s.chest.rootB.seq; simp only []; omega)]
    exact ⟨rfl, rfl, Nat.lt_succ_self _⟩
  · refine ⟨s.chest.rootA, _, rfl, ?_⟩
    rw [Chest.root, if_pos (by show s.chest.rootA.seq < _; simp only []; omega)]
    exact ⟨rfl, rfl, Nat.lt_succ_self _⟩

/-- The start of a checkpoint leaves the root, the newest complete checkpoint and the journal. -/
theorem Chest.started_spec (c : Chest) :
    c.started.ckptActive = true ∧ c.started.root = c.root ∧ c.started.ckptDone = c.ckptDone ∧ c.started.journal = c.journal := by
  unfold Chest.started
  split
  · next h => exact ⟨h, rfl, rfl, rfl⟩
  · exact ⟨rfl, rfl, rfl, rfl⟩

/-! ### The end of a checkpoint -/

/-- The rows with their read counters saved. -/
def State.savedRows (s : State) : Sparse Row := Sparse.mapVal (fun _ => {}) (fun _ r => { r with saved := r.reads }) s.ftl.rows

theorem State.ckptEnd_spec (s : State) : ∃ a b g w,
    let c : Chest := { s.chest with ckptActive := false, ckptAgain := false, ckptDone := s.chest.ckptFrom, rootA := a, rootB := b }
    s.ckptEnd = { s with regs := g, ftl := { s.ftl with rows := s.savedRows }, chest := if s.chest.ckptAgain then c.started else c, pwr := w } ∧
      c.root.ckpt = s.chest.ckptFrom ∧ s.chest.root.seq < c.root.seq := by
  let t := s.setFtl { s.ftl with rows := s.savedRows }
  let v := (t.setReg Reg.CHS_CKPT_BEAT_LO (BitVec.ofNat 32 s.beat)).setReg Reg.CHS_CKPT_BEAT_HI (BitVec.ofNat 32 (s.beat / 2 ^ 32))
  let w := v.setChest { v.chest with ckptActive := false, ckptAgain := false, ckptDone := v.chest.ckptFrom }
  obtain ⟨a, b, hx, -, hckpt, hseq⟩ := w.writeRoot_spec w.chest.root.kind w.chest.root.flushUs
  have hend : s.ckptEnd = if s.chest.ckptAgain then (w.writeRoot w.chest.root.kind w.chest.root.flushUs).ckptStart
    else w.writeRoot w.chest.root.kind w.chest.root.flushUs := rfl
  rw [hx] at hend
  cases hag : s.chest.ckptAgain
  · rw [hag, if_neg Bool.false_ne_true] at hend
    exact ⟨a, b, v.regs, s.pwr, hend, hckpt, hseq⟩
  · rw [hag, if_pos rfl] at hend
    obtain ⟨p, hp⟩ := State.ckptStart_chest { w with chest := { w.chest with rootA := a, rootB := b } }
    exact ⟨a, b, v.regs, p, hend.trans hp, hckpt, hseq⟩

theorem checkpointComplete_end {s : State} (hact : s.chest.ckptActive = true) (hleft : s.chest.ckptLeft = []) :
    ∃ t freed, exec (.checkpointComplete []) s = .next t ∧ s.chest.journal = freed ++ t.chest.journal ∧
    (∀ x ∈ freed, ∀ k ∈ x.2.2, ∃ e ∈ s.chest.ckptSeq, e.1 = k ∧ x.1 < e.2) ∧
    (∀ x, t.chest.journal.head? = some x → ∃ k ∈ x.2.2, ∀ e ∈ s.chest.ckptSeq, e.1 = k → e.2 ≤ x.1) ∧
    (Sparse.sorted s.ftl.rows = true → ∀ c l k, t.row c l k = { s.row c l k with saved := (s.row c l k).reads }) ∧
    t.chest.ckptDone = s.chest.ckptFrom ∧ t.chest.root.ckpt = s.chest.ckptFrom ∧ s.chest.root.seq < t.chest.root.seq ∧
    t.chest.ckptActive = s.chest.ckptAgain ∧ t.chest.ckptAgain = false := by
  obtain ⟨freed, hjournal, hfreed, hhead⟩ := freeJournal_spec s.chest.ckptSeq s.chest.journal
  let u := s.setChest { s.chest with journal := freeJournal s.chest.ckptSeq s.chest.journal }
  obtain ⟨a, b, g, w, hend, hckpt, hseq⟩ := u.ckptEnd_spec
  let c : Chest := { u.chest with ckptActive := false, ckptAgain := false, ckptDone := u.chest.ckptFrom, rootA := a, rootB := b }
  have hexec : exec (.checkpointComplete []) s = .next u.ckptEnd := by
    refine (checkpointComplete_active hact []).trans (congrArg _ (if_pos ?_))
    show s.chest.ckptLeft.isEmpty = true
    rw [hleft]
    rfl
  have hrows : Sparse.sorted s.ftl.rows = true → ∀ c l k, Sparse.get (fun _ => {}) u.savedRows (rowKey c l k) =
      { s.row c l k with saved := (s.row c l k).reads } := fun hs c l k => Sparse.get_mapVal _ _ rfl hs
  have hchest : (if u.chest.ckptAgain then c.started else c).journal = freeJournal s.chest.ckptSeq s.chest.journal ∧
      (if u.chest.ckptAgain then c.started else c).ckptDone = s.chest.ckptFrom ∧
      (if u.chest.ckptAgain then c.started else c).root = c.root ∧
      (if u.chest.ckptAgain then c.started else c).ckptActive = s.chest.ckptAgain ∧
      (if u.chest.ckptAgain then c.started else c).ckptAgain = false := by
    show (if s.chest.ckptAgain then c.started else c).journal = _ ∧ (if s.chest.ckptAgain then c.started else c).ckptDone = _ ∧
      (if s.chest.ckptAgain then c.started else c).root = _ ∧ (if s.chest.ckptAgain then c.started else c).ckptActive = _ ∧
      (if s.chest.ckptAgain then c.started else c).ckptAgain = _
    cases s.chest.ckptAgain
    · exact ⟨rfl, rfl, rfl, rfl, rfl⟩
    · exact ⟨rfl, rfl, rfl, rfl, rfl⟩
  obtain ⟨hj, hdone, hroot, hactive, hagain⟩ := hchest
  rw [hend] at hexec
  refine ⟨_, freed, hexec, ?_, hfreed, ?_, hrows, hdone, ?_, ?_, hactive, hagain⟩
  · exact hjournal.trans (congrArg (freed ++ ·) hj.symm)
  · exact fun x hx => hhead x ((congrArg List.head? hj).symm.trans hx)
  · exact (congrArg Root.ckpt hroot).trans hckpt
  · exact Nat.lt_of_lt_of_eq hseq (congrArg Root.seq hroot).symm

/-! ### The rebuild by partitions (R197, R199) -/

/-- Partitions of the map (0) or of the index that are left. -/
def Rebuild.left (r : Rebuild) (j : Nat) : List Nat := if j = 0 then r.mapLeft else r.idxLeft

/-- A partition leaves the lists of the rebuild. -/
def Rebuild.without (r : Rebuild) (x : Nat × Nat) : Rebuild := { r with
  mapLeft := if x.1 = 0 then (r.left x.1).filter (fun j => decide (j ≠ x.2)) else r.mapLeft
  idxLeft := if x.1 = 0 then r.idxLeft else (r.left x.1).filter (fun j => decide (j ≠ x.2))
  promo := r.promo.filter (fun p => decide (p ≠ x)) }

theorem Rebuild.left_without (r : Rebuild) {x : Nat × Nat} (hx : x.1 ≤ 1) :
    (r.without x).left x.1 = (r.left x.1).filter (fun j => decide (j ≠ x.2)) ∧ (r.without x).left (1 - x.1) = r.left (1 - x.1) := by
  obtain ⟨j, k⟩ := x
  obtain rfl | rfl : j = 0 ∨ j = 1 := by
    have hj : j ≤ 1 := hx
    omega
  · exact ⟨rfl, rfl⟩
  · exact ⟨rfl, rfl⟩

/-- A partition may be rebuilt where it is left and the promotion queue has none before it. -/
def Rebuild.may (r : Rebuild) (x : Nat × Nat) : Prop :=
  let first := r.promo.find? (fun y => (r.left y.1).contains y.2)
  r.phase = 2 ∧ x.2 ∈ r.left x.1 ∧ (first = none ∨ first = some x)

/-- What blocks a partition is that it may not be rebuilt. -/
theorem Rebuild.blocked_iff (r : Rebuild) {x : Nat × Nat} (hx : x.1 ≤ 1) :
    let live := r.promo.filter (fun p => (r.left p.1).contains p.2)
    (decide (r.phase ≠ 2) || decide (1 < x.1) || !(r.left x.1).contains x.2 ||
      !(live.isEmpty || decide (live.head? = some (x.1, x.2)))) = true ↔ ¬ r.may x := by
  intro live
  have hlive : live.head? = r.promo.find? (fun y => (r.left y.1).contains y.2) := List.head?_filter ..
  have hkind : ¬ 1 < x.1 := Nat.not_lt.2 hx
  rw [Rebuild.may, ← hlive, not_and_or, not_and_or]
  simp only [Bool.or_eq_true, decide_eq_true_eq, Bool.not_eq_true', hkind, or_false,
    not_or, List.head?_eq_none_iff, ← Bool.not_eq_true, List.isEmpty_iff, List.contains_iff_mem, or_assoc, ne_eq]

theorem rebuildPartitionComplete_eq (s : State) (x : Nat × Nat) :
    exec (.rebuildPartitionComplete x.1 x.2) s = .next (
      let r := s.rebuild
      let live := r.promo.filter (fun p => (r.left p.1).contains p.2)
      if (decide (r.phase ≠ 2) || decide (1 < x.1) || !(r.left x.1).contains x.2 ||
        !(live.isEmpty || decide (live.head? = some (x.1, x.2)))) = true then s
      else (State.wakeWaiting { s with rebuild := r.without x } x).rebuildEnd) := rfl

/-- With a partition left the rebuild goes on. -/
theorem State.rebuildEnd_more {s : State} (h : s.rebuild.mapLeft ≠ [] ∨ s.rebuild.idxLeft ≠ []) : s.rebuildEnd = s := by
  refine if_neg ?_
  rw [Bool.and_eq_true, List.isEmpty_iff, List.isEmpty_iff, not_and_or]
  exact h

/-- With the last one it is over: the root says so, and a checkpoint runs. -/
theorem State.rebuildEnd_last {s : State} (hm : s.rebuild.mapLeft = []) (hi : s.rebuild.idxLeft = []) :
    s.rebuildEnd.cmds = s.cmds ∧ s.rebuildEnd.rebuilding = false ∧ s.rebuildEnd.rebuild = {} ∧
      s.rebuildEnd.chest.ckptActive = true ∧ s.rebuildEnd.chest.root.kind = .rebuilt := by
  obtain ⟨d, hend⟩ : ∃ d, s.rebuildEnd = (State.writeRoot { s with rebuild := {}, rebuilding := false, chest := { s.chest with dirty := d } }
      .rebuilt s.chest.root.flushUs).ckptStart := ⟨_, if_pos (by rw [hm, hi]; rfl)⟩
  obtain ⟨a, b, hroot, hkind, -, -⟩ := State.writeRoot_spec
    { s with rebuild := {}, rebuilding := false, chest := { s.chest with dirty := d } } .rebuilt s.chest.root.flushUs
  rw [hroot] at hend
  obtain ⟨w, hw⟩ := State.ckptStart_chest
    { s with rebuild := {}, rebuilding := false, chest := { s.chest with dirty := d, rootA := a, rootB := b } }
  obtain ⟨hactive, hstarted, -, -⟩ := Chest.started_spec { s.chest with dirty := d, rootA := a, rootB := b }
  rw [hend.trans hw]
  exact ⟨rfl, rfl, rfl, hactive, (congrArg Root.kind hstarted).trans hkind⟩

theorem rebuildPartitionComplete_spec (s : State) {x : Nat × Nat} (hx : x.1 ≤ 1) :
    let rest := (s.rebuild.left x.1).filter (fun j => decide (j ≠ x.2))
    let other := s.rebuild.left (1 - x.1)
    (¬ s.rebuild.may x → exec (.rebuildPartitionComplete x.1 x.2) s = .next s) ∧
    (s.rebuild.may x → ∃ t, exec (.rebuildPartitionComplete x.1 x.2) s = .next t ∧
      t.cmds = s.cmds.map (fun c => if c.phase = .waitRebuild ∧ c.partition = x then { c with phase := .fetched } else c) ∧
      (rest ≠ [] ∨ other ≠ [] → t.rebuilding = s.rebuilding ∧ t.rebuild.phase = 2 ∧ t.rebuild.left x.1 = rest ∧
        t.rebuild.left (1 - x.1) = other) ∧
      (rest = [] → other = [] → t.rebuilding = false ∧ t.rebuild = {} ∧ t.chest.ckptActive = true ∧ t.chest.root.kind = .rebuilt)) := by
  intro rest other
  have hblocked := s.rebuild.blocked_iff hx
  refine ⟨fun hno => (rebuildPartitionComplete_eq s x).trans (congrArg _ (if_pos (hblocked.2 hno))), fun hmay => ?_⟩
  let u := State.wakeWaiting { s with rebuild := s.rebuild.without x } x
  have hexec : exec (.rebuildPartitionComplete x.1 x.2) s = .next u.rebuildEnd :=
    (rebuildPartitionComplete_eq s x).trans (congrArg _ (if_neg fun hb => hblocked.1 hb hmay))
  obtain ⟨hrest, hother⟩ := s.rebuild.left_without hx
  have hboth : (u.rebuild.mapLeft = [] ∧ u.rebuild.idxLeft = []) ↔ rest = [] ∧ other = [] := by
    rw [show rest = u.rebuild.left x.1 from hrest.symm, show other = u.rebuild.left (1 - x.1) from hother.symm]
    obtain h0 | h1 : x.1 = 0 ∨ x.1 = 1 := by omega
    · rw [h0]
      exact Iff.rfl
    · rw [h1]
      exact and_comm
  by_cases hlast : rest = [] ∧ other = []
  · obtain ⟨hm, hi⟩ := hboth.2 hlast
    obtain ⟨hcmds, hover⟩ := State.rebuildEnd_last hm hi
    exact ⟨_, hexec, hcmds, fun hsome => absurd hlast (not_and_or.2 hsome), fun _ _ => hover⟩
  · have hend : u.rebuildEnd = u := State.rebuildEnd_more (not_and_or.1 fun h => hlast (hboth.1 h))
    rw [hend] at hexec
    exact ⟨u, hexec, rfl, fun _ => ⟨rfl, hmay.1, hrest, hother⟩, fun h0 h1 => absurd ⟨h0, h1⟩ hlast⟩

theorem indexPartitionRebuild_spec (s : State) (k : Nat) :
    (k ∉ s.idx.damaged → exec (.indexPartitionRebuild k) s = .next s) ∧
    (k ∈ s.idx.damaged → ∃ t, exec (.indexPartitionRebuild k) s = .next t ∧ k ∉ t.idx.damaged ∧ t.idx.table = s.idx.table ∧
      t.cmds = s.cmds.map (fun c => if c.phase = .waitRebuild ∧ c.partition = (1, k) then { c with phase := .fetched } else c)) := by
  refine ⟨fun h => congrArg Host.Outcome.next (if_neg ?_),
    fun h => ⟨_, congrArg Host.Outcome.next (if_pos (List.contains_iff_mem.2 h)), fun hm => ?_, rfl, rfl⟩⟩
  · rw [List.contains_iff_mem]
    exact h
  · exact absurd (of_decide_eq_true (List.mem_filter.1 hm).2) (not_not.2 rfl)

end Sys2Proof.Machine
end

section
/-!
PROOF. The Drawer's segments (R150, R153, R154, R386), and the obligation on checkpoints, rebuild and Drawer.
-/

open Sys2Proof Sys2Proof.Machine

namespace Sys2Proof.Machine

/-! ### Segments read back -/

theorem State.seg_setSeg (s : State) (k : Nat) {v : Segment} (h : v ≠ {}) : (s.setSeg k v).seg k = v := sparse_get_set_put _ _ h

theorem State.seg_setSeg_other (s : State) {k j : Nat} (v : Segment) (h : j ≠ k) : (s.setSeg k v).seg j = s.seg j :=
  Sparse.get_set_other _ _ _ h

theorem State.sorted_setSeg (s : State) (h : Sparse.sorted s.ftl.segs = true) (k : Nat) (v : Segment) :
    Sparse.sorted (s.setSeg k v).ftl.segs = true :=
  Sparse.sorted_set (fun _ => ({} : Segment)) h k v

theorem Segment.ne_default {v : Segment} (h : v.resident = false ∨ v.homed = true ∨ v.out ≠ none) : v ≠ {} := by
  rintro rfl
  simp at h

/-! ### A segment goes out (R153) -/

/-- Another segment has the slot, or its write-out runs there. -/
def State.slotHeld (s : State) (k n : Nat) : Prop :=
  ∃ e ∈ s.ftl.segs, e.1 ≠ k ∧ (e.2.slot = some n ∧ e.2.homed = true ∨ e.2.out = some n)

theorem State.slotTaken_iff (s : State) (k n : Nat) : s.slotTaken k n = true ↔ s.slotHeld k n := by
  simp only [State.slotTaken, State.slotHeld, List.any_eq_true, Bool.and_eq_true, Bool.or_eq_true, decide_eq_true_eq]

/-- The Drawer serves and the segment is resident. -/
def State.mayLeave (s : State) (k : Nat) : Prop :=
  s.ftl.drawer.state = .active ∧ s.ftl.drawer.room ≠ none ∧ (s.seg k).resident = true

theorem State.mayLeave_iff (s : State) (k : Nat) :
    (decide (s.ftl.drawer.state ≠ .active) || s.ftl.drawer.room.isNone || !(s.seg k).resident) = true ↔ ¬ s.mayLeave k := by
  simp only [State.mayLeave, Bool.or_eq_true, decide_eq_true_eq, Option.isNone_iff_eq_none, Bool.not_eq_true', not_and_or, not_not,
    Bool.not_eq_true, or_assoc, ne_eq]

/-- The record of a segment whose bytes go to a slot. -/
def State.sealedSeg (s : State) (k n : Nat) : Segment :=
  let v := s.seg k
  { v with
    seq := v.seq + 1, tag := aesCmac (Config.sealKey s.ftl.sealGen) (sealMessage k (v.seq + 1) (s.segBytes k))
    homed := false, bad := false, dirty := false, slot := some n, out := some n }

theorem drawerWriteOut_none {s : State} {k n : Nat} (h : slotAddr (s.port s.ownerPort).hmb n = none) :
    exec (.drawerWriteOut k n) s = .next s := by
  show execDrawerWriteOut k n s = _
  unfold execDrawerWriteOut
  simp only [h]

theorem drawerWriteOut_some {s : State} {k n a : Nat} (h : slotAddr (s.port s.ownerPort).hmb n = some a) :
    exec (.drawerWriteOut k n) s = .next (
      let p := s.ownerPort
      if (decide (s.ftl.drawer.state ≠ .active) || s.ftl.drawer.room.isNone || !(s.seg k).resident) = true then s
      else if (s.seg k).out = some n then s.setSeg k { s.seg k with out := none, homed := true }
      else if ((s.seg k).out.isSome || s.ftl.drawer.bad.contains n || s.slotTaken k n) = true then s
      else ((s.send p (.write p none a (s.segBytes k) false (s.port p).cfg.ido)).send p (.zeroRead p none a)).setSeg k (s.sealedSeg k n)) := by
  show execDrawerWriteOut k n s = _
  unfold execDrawerWriteOut
  simp only [h]
  rfl

/-- Two messages of a port go out in their order, or stall while its link trains (R37). -/
theorem State.send_send (s : State) (p : Bool) (x y : Out) : ∃ a b, (s.send p x).send p y =
    { s with out := if (s.port p).training then s.out else s.out ++ [x, y], portA := a, portB := b } := by
  cases ht : (s.port p).training
  · have hx : s.send p x = s.emit x := by rw [State.send_eq, ht, if_neg Bool.false_ne_true]
    have hy : (s.emit x).send p y = (s.emit x).emit y := by
      rw [State.send_eq, if_neg]
      show ¬ (s.port p).training = true
      rw [ht]
      exact Bool.false_ne_true
    refine ⟨s.portA, s.portB, ?_⟩
    rw [hx, hy]
    simp [State.emit]
  · have hx : s.send p x = s.setPort p { s.port p with stalled := (s.port p).stalled ++ [x] } := by rw [State.send_eq, ht, if_pos rfl]
    rw [hx, State.send_eq, State.setPort_port, ht, if_pos rfl]
    cases p
    · exact ⟨_, s.portB, rfl⟩
    · exact ⟨s.portA, _, rfl⟩

theorem drawerWriteOut_spec (s : State) (k n : Nat) :
    let d := s.ftl.drawer
    let v := s.seg k
    let p := s.ownerPort
    (slotAddr (s.port p).hmb n = none ∨ ¬ s.mayLeave k ∨ (∃ m, v.out = some m ∧ m ≠ n) ∨ (v.out = none ∧ (n ∈ d.bad ∨ s.slotHeld k n)) →
      exec (.drawerWriteOut k n) s = .next s) ∧
    (∀ a, slotAddr (s.port p).hmb n = some a → s.mayLeave k → v.out = none → n ∉ d.bad → ¬ s.slotHeld k n →
      ∃ t, exec (.drawerWriteOut k n) s = .next t ∧
      t.out = (if (s.port p).training then s.out else
        s.out ++ [.write p none a (s.segBytes k) false (s.port p).cfg.ido, .zeroRead p none a]) ∧
      t.seg k = s.sealedSeg k n ∧ (∀ j, j ≠ k → t.seg j = s.seg j) ∧
      t = { s with out := t.out, portA := t.portA, portB := t.portB, ftl := { s.ftl with segs := t.ftl.segs } }) ∧
    (∀ a, slotAddr (s.port p).hmb n = some a → s.mayLeave k → v.out = some n → ∃ t, exec (.drawerWriteOut k n) s = .next t ∧
      t.seg k = { v with out := none, homed := true } ∧ (∀ j, j ≠ k → t.seg j = s.seg j) ∧
      t = { s with ftl := { s.ftl with segs := t.ftl.segs } }) := by
  intro d v p
  have hmay := s.mayLeave_iff k
  refine ⟨fun h => ?_, fun a ha hm hout hbad htaken => ?_, fun a ha hm hout => ?_⟩
  · cases ha : slotAddr (s.port p).hmb n with
    | none => exact drawerWriteOut_none ha
    | some a =>
      refine (drawerWriteOut_some ha).trans (congrArg _ ?_)
      by_cases hm : s.mayLeave k
      · refine (if_neg fun hb => hmay.1 hb hm).trans ?_
        rcases h with h | h | ⟨m, hout, hmn⟩ | ⟨hout, h⟩
        · rw [ha] at h
          cases h
        · exact absurd hm h
        · have hother : ¬ (s.seg k).out = some n := fun he => hmn (Option.some.inj (hout.symm.trans he))
          have hruns : (s.seg k).out.isSome = true := congrArg Option.isSome hout
          exact (if_neg hother).trans (if_pos (by rw [hruns]; rfl))
        · have hother : ¬ (s.seg k).out = some n := fun he => by cases hout.symm.trans he
          refine (if_neg hother).trans (if_pos ?_)
          rw [Bool.or_eq_true, Bool.or_eq_true, List.contains_iff_mem, s.slotTaken_iff k n, or_assoc]
          exact .inr h
      · exact if_pos (hmay.2 hm)
  · have hother : ¬ (s.seg k).out = some n := fun he => by cases hout.symm.trans he
    have hfree : ¬ ((s.seg k).out.isSome || s.ftl.drawer.bad.contains n || s.slotTaken k n) = true := by
      rw [Bool.or_eq_true, Bool.or_eq_true, List.contains_iff_mem, s.slotTaken_iff k n, Option.isSome_iff_ne_none, not_or, not_or]
      exact ⟨⟨not_not.2 hout, hbad⟩, htaken⟩
    obtain ⟨A, B, hsend⟩ := s.send_send p (.write p none a (s.segBytes k) false (s.port p).cfg.ido) (.zeroRead p none a)
    have hexec := (drawerWriteOut_some ha).trans (congrArg Host.Outcome.next
      ((if_neg fun hb => hmay.1 hb hm).trans ((if_neg hother).trans (if_neg hfree))))
    rw [hsend] at hexec
    exact ⟨_, hexec, rfl, State.seg_setSeg _ k (Segment.ne_default (.inr (.inr (Option.some_ne_none n)))),
      fun j hj => State.seg_setSeg_other _ _ hj, rfl⟩
  · exact ⟨_, (drawerWriteOut_some ha).trans (congrArg _ ((if_neg fun hb => hmay.1 hb hm).trans (if_pos hout))),
      State.seg_setSeg _ k (Segment.ne_default (.inr (.inl rfl))), fun j hj => State.seg_setSeg_other _ _ hj, rfl⟩

/-! ### A segment comes in (R150, R154, R386) -/

/-- The map space has room, or a segment may leave it. -/
def State.roomFor (s : State) : Prop := ∀ r, s.ftl.drawer.room = some r → s.residentSegs.length < r ∨ s.lruSeg ≠ none

/-- The record of a segment that becomes resident. -/
def State.residentSeg (s : State) (k : Nat) (dirty : Bool) : Segment :=
  { s.seg k with resident := true, used := s.beat, dirty := (s.seg k).dirty || dirty }

/-- The segment enters the map space. -/
def State.enterSeg (s : State) (k : Nat) (dirty : Bool) : State := s.setSeg k (s.residentSeg k dirty)

theorem State.lruSeg_resident {s : State} {o : Nat} (h : s.lruSeg = some o) : (s.seg o).resident = true := by
  have hall : ∀ x, s.lruSeg = some x → (s.seg x).resident = true := by
    unfold State.lruSeg
    refine List.foldlRecOn (motive := fun b : Option Nat => ∀ x, b = some x → (s.seg x).resident = true) _ _ (fun x hx => by cases hx)
      fun b hb k hk x hx => ?_
    have hkr : (s.seg k).resident = true := (List.mem_filter.1 (List.mem_filter.1 hk).1).2
    split at hx
    · split at hx
      · rw [← Option.some.inj hx]
        exact hkr
      · exact hb x hx
    · rw [← Option.some.inj hx]
      exact hkr
  exact hall o h

/-- A segment becomes resident at once, or once another has left for it; without room nothing changes. -/
theorem State.makeResident_cases (s : State) (k : Nat) (dirty : Bool) :
    s.makeResident k dirty = s.enterSeg k dirty ∨
    (∃ o, s.lruSeg = some o ∧ s.makeResident k dirty = (s.setSeg o { s.seg o with resident := false }).enterSeg k dirty) ∨
    (¬ s.roomFor ∧ s.makeResident k dirty = s) := by
  unfold State.makeResident
  simp only []
  split
  · exact .inl rfl
  · next r hr =>
    split
    · exact .inl rfl
    · next hfull =>
      split
      · next o ho => exact .inr (.inl ⟨o, ho, rfl⟩)
      · next hnone => exact .inr (.inr ⟨fun h => (h r hr).elim hfull fun hl => hl hnone, rfl⟩)

theorem State.makeResident_span (s : State) (k : Nat) (dirty : Bool) : (s.makeResident k dirty).ftl.span = s.ftl.span := by
  rcases s.makeResident_cases k dirty with h | ⟨o, -, h⟩ | ⟨-, h⟩ <;> rw [h] <;> rfl

/-- The record of the segment reads back, where it is no default one or the directory is sorted. -/
theorem State.makeResident_resident {s : State} {k : Nat} {dirty : Bool} (hroom : s.roomFor) (hk : (s.seg k).resident = false)
    (hput : s.residentSeg k dirty ≠ {} ∨ Sparse.sorted s.ftl.segs = true) : ((s.makeResident k dirty).seg k).resident = true := by
  have henter : ∀ t : State, t.residentSeg k dirty ≠ {} ∨ Sparse.sorted t.ftl.segs = true → ((t.enterSeg k dirty).seg k).resident = true := by
    rintro t (hv | hs)
    · exact congrArg Segment.resident (State.seg_setSeg t k hv)
    · exact congrArg Segment.resident (Sparse.get_set_same _ hs k (t.residentSeg k dirty))
  rcases s.makeResident_cases k dirty with h | ⟨o, ho, h⟩ | ⟨hno, -⟩
  · rw [h]
    exact henter s hput
  · have hko : k ≠ o := by
      rintro rfl
      rw [State.lruSeg_resident ho] at hk
      cases hk
    rw [h]
    refine henter _ (hput.imp (fun hv => ?_) fun hs => s.sorted_setSeg hs o _)
    rw [State.residentSeg, State.seg_setSeg_other s _ hko]
    exact hv
  · exact absurd hroom hno

theorem drawerSegmentRead_spec (s : State) (k : Nat) (data : List Byte) :
    let v := s.seg k
    let may := v.resident = false ∧ v.homed = true ∧ s.ftl.drawer.state = .active
    let good := data.length = 65536 ∧ aesCmac (Config.sealKey s.ftl.sealGen) (sealMessage k v.seq data) = v.tag
    (¬ may → exec (.drawerSegmentRead k data) s = .next s) ∧
    (may → good → ∃ t, exec (.drawerSegmentRead k data) s = .next t ∧ t.ftl.span = s.ftl.span ∧ (s.roomFor → (t.seg k).resident = true)) ∧
    (may → ¬ good → ∃ t, exec (.drawerSegmentRead k data) s = .next t ∧ t.seg k = { v with homed := false } ∧
      bitOf (t.reg Reg.FTL_MAP_ERR).toNat 1 = true) := by
  intro v may good
  have hmay : (v.resident || !v.homed || decide (s.ftl.drawer.state ≠ .active)) = true ↔ ¬ may := by
    simp only [may, Bool.or_eq_true, Bool.not_eq_true', decide_eq_true_eq, not_and_or, Bool.not_eq_false, Bool.not_eq_true, or_assoc, ne_eq]
  obtain ⟨g, hread⟩ : OnlyRegs s (s.bump Reg.FTL_DRW_READS) := .bump s _
  have hstay (h : ¬ may) : exec (.drawerSegmentRead k data) s = .next s := congrArg _ (if_pos (hmay.2 h))
  have hgo (h : may) : exec (.drawerSegmentRead k data) s = .next (if good then (s.bump Reg.FTL_DRW_READS).makeResident k false
      else (((s.bump Reg.FTL_DRW_READS).bump Reg.FTL_DRW_SEALFAIL).mapRaise 1 k).setSeg k { v with homed := false }) :=
    congrArg _ (if_neg fun hb => hmay.1 hb h)
  refine ⟨hstay, fun h hg => ⟨_, (hgo h).trans (congrArg _ (if_pos hg)), ?_, fun hroom => ?_⟩, fun h hb =>
    ⟨_, (hgo h).trans (congrArg _ (if_neg hb)), State.seg_setSeg _ k (Segment.ne_default (.inl h.1)), ?_⟩⟩
  · rw [State.makeResident_span, hread]
  · rw [hread]
    exact State.makeResident_resident (s := { s with regs := g }) hroom h.1 (.inl (Segment.ne_default (.inr (.inl h.2.1))))
  · exact State.reg_raiseAt_bit _ _ _ _ _ (by decide) (by decide +kernel) (by decide)

theorem mapSegmentRebuild_spec (s : State) (k : Nat) :
    ((s.seg k).resident = true ∨ (s.seg k).homed = true → exec (.mapSegmentRebuild k) s = .next s) ∧
    ((s.seg k).resident = false → (s.seg k).homed = false → Sparse.sorted s.ftl.segs = true → s.roomFor →
      ∃ t, exec (.mapSegmentRebuild k) s = .next t ∧ (t.seg k).resident = true) := by
  refine ⟨fun h => congrArg Host.Outcome.next (if_pos (Bool.or_eq_true _ _ ▸ h)), fun hr hh hs hroom => ?_⟩
  refine ⟨_, congrArg Host.Outcome.next (if_neg ?_), State.makeResident_resident hroom hr (.inr hs)⟩
  rw [hr, hh]
  decide

/-! ### The obligation -/

/-- Settles O56: starts by what the Chest holds after one, the image along the placement of `Lays`, the end by what `freeJournal` and the
root leave, and the rebuild and the Drawer by the branches of their rows. -/
theorem chestSaves : Obligations.ChestSaves := by
  unfold Obligations.ChestSaves
  refine ⟨fun s i h => ?_, fun s h => congrArg Host.Outcome.next (if_pos h), fun s p n => ⟨rfl, fun hd hp => ?_⟩, fun s l h => ?_,
    fun s k n p u a hact hk hbusy hpend hslc hchan hu => checkpointComplete_image hact hk hbusy hpend hslc hchan hu,
    fun s hact hleft => checkpointComplete_end hact hleft, fun s => ⟨fun h => congrArg Host.Outcome.next (if_neg h),
    fun h => congrArg Host.Outcome.next (if_pos h)⟩, fun s x hx => rebuildPartitionComplete_spec s hx, indexPartitionRebuild_spec,
    drawerWriteOut_spec, drawerSegmentRead_spec, mapSegmentRebuild_spec⟩
  · obtain ⟨w, hw⟩ := s.ckptStart_chest
    refine ⟨s.ckptStart, checkpointStarts h, ?_, ?_⟩
    · rw [hw]
    · rw [hw]
      rfl
  · refine ⟨s.hifErr p 7, congrArg Host.Outcome.next (if_pos ?_), (OnlyRegs.hifErr s p 7).eq⟩
    rw [hd, Bool.true_and, decide_eq_true_eq]
    exact hp
  · refine congrArg Host.Outcome.next (if_pos ?_)
    rw [h]
    rfl

end Sys2Proof.Machine
end
